-- ==== Sys2Proof/Word.lean ====
section
/-! DEFINITION. The words of the GW8256: the widths the manual names, and sparse tables as sorted lists. -/
namespace Sys2Proof

/-- A 32-bit register or message word (spec/14_host_partitions.md R397). -/
abbrev Word := BitVec 32

/-- A 64-bit wire value of a field (Table 14-6), low word first on the wire. -/
abbrev Wire := BitVec 64

/-- A byte of a lane frame or a message. -/
abbrev Byte := BitVec 8

/-- A binary32 value by its bits (spec/05_loop_engine.md R142). -/
abbrev F32 := BitVec 32

/-- A binary64 value by its bits (spec/03_grid_forming_engine.md R79). -/
abbrev F64 := BitVec 64

/-- A sparse table: keys strictly rising, no entry equal to the table's default. -/
abbrev Tab (α : Type) := List (Nat × α)

end Sys2Proof
end

