-- ==== Sys2Proof/Frames.lean ====
section
/-! DEFINITION. What arrives from outside or leaves: frames, edges and measurements, the payloads of commands. -/
namespace Sys2Proof

/-- IEEE 1588 message types a PTP instance receives or sends (spec/02_almanac_time.md R52). -/
inductive PtpKind where
  | sync | followUp | delayReq | delayResp | pdelayReq | pdelayResp | pdelayRespFollowUp | announce | managementGet
deriving DecidableEq, Repr

/-- What an Announce says of a clock: the data set that the default BMCA of IEEE 1588-2019 compares (spec/02_almanac_time.md R52). -/
structure PtpDs where
  priority1 : Nat := 128
  clockClass : Nat := 248
  accuracy : Nat := 0xFE
  variance : Nat := 0xFFFF
  priority2 : Nat := 128
  identity : Nat := 0
  steps : Nat := 0
  sender : Nat := 0
  senderPort : Nat := 0
deriving DecidableEq, Repr

/-- The head of a PTP message that leaves a lane (spec/02_almanac_time.md R52, R55, R56). -/
structure PtpHead where
  identity : Nat
  portNumber : Nat
  domain : Nat
  udp : Bool
  /-- PTP_VLAN: 0 untagged. -/
  vlan : Nat
  /-- The UDP checksum is set to zero. -/
  noChecksum : Bool
  ds : Option PtpDs
deriving DecidableEq, Repr

/-- A PTP message as it reaches a lane: the fields that R52 to R55 make the instance act on. `time` is the
timestamp the message carries and `corr` its correctionField, both in 2^-16 ns. -/
structure PtpMsg where
  kind : PtpKind
  majorSdoId : Nat
  minorSdoId : Nat
  domain : Nat
  seq : Nat
  twoStep : Bool
  srcPort : Nat
  time : Int
  corr : Int
  ds : PtpDs := {}
deriving DecidableEq, Repr

/-- PlynLink frames the device sends (spec/07_plynlink.md Tables 7-3 to 7-11). Times are execute counts (R38). -/
inductive PlyFrame where
  /-- BEACON: SEQ, TX_TIME, DREQ_HOP if DREQ, DELAY[0..3] (none: VALID clear). -/
  | beacon (seq : Nat) (txTime : Nat) (dreq : Option Nat) (delay : List (Option Nat))
  /-- EDGE: SEQ and one to four records of Table 7-6. -/
  | edge (seq : Nat) (recs : List (BitVec 64))
  /-- STATE: SEQ, IMM, EFF and the four codes. -/
  | state (seq : Nat) (imm : Bool) (eff : Nat) (codes : List Nat)
  /-- CFG or DIAG request: SEQ, hop (7 all), OP, ADDR, DATA. -/
  | cfg (diag : Bool) (seq : Nat) (hop : Nat) (op : Nat) (addr : Nat) (data : Nat)
deriving DecidableEq, Repr

/-- A CAN FD frame (spec/18_can.md). -/
structure CanFrame where
  ide : Bool
  id : Nat
  fdf : Bool
  brs : Bool
  rtr : Bool
  dlc : Nat
  data : List Byte
deriving DecidableEq, Repr

/-- An edge of clock group SDCLK[g] at the ball: its TB[0] time in steps of 62.5 ps, the levels of the group's eight inputs at it, and
whether it rises (spec/09_bitstream_inputs.md R273, R274). -/
structure SdEdge where
  group : Nat
  t : Nat
  bits : BitVec 8
  rising : Bool := true
deriving DecidableEq, Repr

/-- What a received Ethernet frame carries, as far as the device looks at it (spec/16_serial_lanes.md R438 to R440). -/
inductive EthKind where
  /-- ARP request for an IPv4 address. -/
  | arp (target : Nat)
  /-- ICMP echo request to an IPv4 address. -/
  | echo (dst : Nat)
  /-- UDP datagram in one IPv4 packet: destination address and port, source address, payload. -/
  | udp (dst port src : Nat) (bytes : List Byte)
  | ptp (m : PtpMsg)
  /-- IPv4 fragment, IPv6, MAC Control and pause frames. -/
  | other
deriving DecidableEq, Repr

/-- A received Ethernet frame: its length, whether its FCS is good, its 802.1Q VID if tagged. -/
structure EthFrame where
  len : Nat
  fcsOk : Bool
  vid : Option Nat
  kind : EthKind
deriving DecidableEq, Repr

/-- How a CAN transmission attempt ends (spec/18_can.md R467 to R470): success, lost arbitration, bit error, ACK error with or
without a dominant bit seen in the error flag, a stuff error during arbitration that leaves TEC alone, any other error. -/
inductive CanEnd where
  | success | arbitration | bitError | ackError (dominant : Bool) | stuffArb | other
deriving DecidableEq, Repr

/-- What a safety cycle finds (spec/13_safety.md R361, R362, Table 13-2): the edges of SIN[0..7] since the last cycle with their age
in steps of 62.5 ps, oldest first; SGB_MON; SAFE_BLOCK_N and SOUT[7..0] read back; failed lockstep, supply and watchdog checks. -/
structure SafeIn where
  edges : List (Fin 8 × Nat × Bool)
  mon : Bool
  back : Bool
  souts : BitVec 8
  lockstep : Bool
  supply : Bool
  watchdog : Bool
deriving DecidableEq, Repr

end Sys2Proof
end

