-- ==== Sys2Proof/Machine/Float.lean ====
section
/-! DEFINITION. IEEE 754 binary32 and binary64 arithmetic on bit patterns, round to nearest, ties to even
(spec/03_grid_forming_engine.md R79, spec/05_loop_engine.md R142), every operation computed exactly and rounded once;
and the elementary functions the manual takes "exact, rounded once" (R82, R143), from fixed-point series. -/
namespace Sys2Proof.Machine

/-- A binary interchange format: exponent bits and fraction bits. -/
structure Fmt where
  eb : Nat
  mb : Nat
deriving DecidableEq, Repr

def fmt64 : Fmt := ⟨11, 52⟩
def fmt32 : Fmt := ⟨8, 23⟩

/-- The exponent of the smallest subnormal of a format. -/
def Fmt.qmin (f : Fmt) : Int := 2 - 2 ^ (f.eb - 1) - (f.mb : Int)

/-- The bits of plus infinity. -/
def Fmt.infBits (f : Fmt) : Nat := (2 ^ f.eb - 1) * 2 ^ f.mb

def Fmt.signBit (f : Fmt) : Nat := 2 ^ (f.eb + f.mb)

/-- The quiet NaN the model produces. Nothing of the manual depends on a NaN's payload: every rule that meets a NaN
tests for it (R88, R145). -/
def Fmt.nanBits (f : Fmt) : Nat := f.infBits + 2 ^ (f.mb - 1)

/-- A number unpacked: the value of `fin n m e` is (-1)^n m 2^e. -/
inductive Num where
  | nan
  | inf (neg : Bool)
  | fin (neg : Bool) (m : Nat) (e : Int)
deriving DecidableEq, Repr

def unpack (f : Fmt) (b : Nat) : Num :=
  let neg := b / f.signBit % 2 == 1
  let ex := b / 2 ^ f.mb % 2 ^ f.eb
  let fr := b % 2 ^ f.mb
  if ex == 2 ^ f.eb - 1 then (if fr == 0 then .inf neg else .nan)
  else if ex == 0 then .fin neg fr f.qmin
  else .fin neg (fr + 2 ^ f.mb) (f.qmin + ex - 1)

def withSign (f : Fmt) (neg : Bool) (b : Nat) : Nat := if neg then f.signBit + b else b

/-- floor(log2(num/den)) for positive num and den. -/
def floorLog2 (num den : Nat) : Int :=
  let g : Int := (Nat.log2 num : Int) - (Nat.log2 den : Int)
  if g ≥ 0 then (if den * 2 ^ g.toNat ≤ num then g else g - 1)
  else (if den ≤ num * 2 ^ (-g).toNat then g else g - 1)

/-- The integer nearest num/den, ties to even. -/
def divEven (num den : Nat) : Nat :=
  let m := num / den
  let r := num % den
  if 2 * r > den then m + 1 else if 2 * r == den then m + m % 2 else m

/-- The rational (-1)^neg num/den rounded to the format, nearest, ties to even. -/
def roundQ (f : Fmt) (neg : Bool) (num den : Nat) : Nat :=
  if num == 0 then withSign f neg 0
  else
    let q : Int := max (floorLog2 num den - f.mb) f.qmin
    let m := if q ≥ 0 then divEven num (den * 2 ^ q.toNat) else divEven (num * 2 ^ (-q).toNat) den
    let bits := (q - f.qmin).toNat * 2 ^ f.mb + m
    withSign f neg (if bits ≥ f.infBits then f.infBits else bits)

/-- (-1)^neg m 2^e rounded to the format. -/
def roundDy (f : Fmt) (neg : Bool) (m : Nat) (e : Int) : Nat :=
  if e ≥ 0 then roundQ f neg (m * 2 ^ e.toNat) 1 else roundQ f neg m (2 ^ (-e).toNat)

def Num.pack (f : Fmt) : Num → Nat
  | .nan => f.nanBits
  | .inf n => withSign f n f.infBits
  | .fin n m e => roundDy f n m e

def fNeg (f : Fmt) (a : Nat) : Nat := if a ≥ f.signBit then a - f.signBit else a + f.signBit
def fAbs (f : Fmt) (a : Nat) : Nat := a % f.signBit

/-- The exact sum of two dyadic numbers, rounded; an exact zero sum of unlike signs is +0. -/
def addDy (f : Fmt) (n₁ : Bool) (m₁ : Nat) (e₁ : Int) (n₂ : Bool) (m₂ : Nat) (e₂ : Int) : Nat :=
  let e := min e₁ e₂
  let a : Int := (m₁ * 2 ^ (e₁ - e).toNat : Nat)
  let b : Int := (m₂ * 2 ^ (e₂ - e).toNat : Nat)
  let s := (if n₁ then -a else a) + (if n₂ then -b else b)
  if s == 0 then withSign f (n₁ && n₂) 0 else roundDy f (s < 0) s.natAbs e

def fAdd (f : Fmt) (a b : Nat) : Nat :=
  match unpack f a, unpack f b with
  | .nan, _ => f.nanBits
  | _, .nan => f.nanBits
  | .inf x, .inf y => if x == y then withSign f x f.infBits else f.nanBits
  | .inf x, _ => withSign f x f.infBits
  | _, .inf y => withSign f y f.infBits
  | .fin n₁ m₁ e₁, .fin n₂ m₂ e₂ => addDy f n₁ m₁ e₁ n₂ m₂ e₂

def fSub (f : Fmt) (a b : Nat) : Nat := fAdd f a (fNeg f b)

def fMul (f : Fmt) (a b : Nat) : Nat :=
  match unpack f a, unpack f b with
  | .nan, _ => f.nanBits
  | _, .nan => f.nanBits
  | .inf x, .inf y => withSign f (x != y) f.infBits
  | .inf x, .fin n m _ => if m == 0 then f.nanBits else withSign f (x != n) f.infBits
  | .fin n m _, .inf y => if m == 0 then f.nanBits else withSign f (n != y) f.infBits
  | .fin n₁ m₁ e₁, .fin n₂ m₂ e₂ => roundDy f (n₁ != n₂) (m₁ * m₂) (e₁ + e₂)

def fDiv (f : Fmt) (a b : Nat) : Nat :=
  match unpack f a, unpack f b with
  | .nan, _ => f.nanBits
  | _, .nan => f.nanBits
  | .inf _, .inf _ => f.nanBits
  | .inf x, .fin n _ _ => withSign f (x != n) f.infBits
  | .fin n _ _, .inf y => withSign f (n != y) 0
  | .fin n₁ m₁ e₁, .fin n₂ m₂ e₂ =>
    if m₂ == 0 then (if m₁ == 0 then f.nanBits else withSign f (n₁ != n₂) f.infBits)
    else
      let e := e₁ - e₂
      if e ≥ 0 then roundQ f (n₁ != n₂) (m₁ * 2 ^ e.toNat) m₂ else roundQ f (n₁ != n₂) m₁ (m₂ * 2 ^ (-e).toNat)

/-- a × b + c with one rounding (the loop engine's fma, R142). -/
def fFma (f : Fmt) (a b c : Nat) : Nat :=
  match unpack f a, unpack f b, unpack f c with
  | .fin n₁ m₁ e₁, .fin n₂ m₂ e₂, .fin n₃ m₃ e₃ => addDy f (n₁ != n₂) (m₁ * m₂) (e₁ + e₂) n₃ m₃ e₃
  | .fin _ _ _, .fin _ _ _, _ => c
  | _, _, _ => fAdd f (fMul f a b) c

/-- The integer square root by binary digits, from bit `k` down. -/
def isqrtGo (n : Nat) : Nat → Nat → Nat
  | 0, r => r
  | k + 1, r => isqrtGo n k (if (r + 2 ^ k) * (r + 2 ^ k) ≤ n then r + 2 ^ k else r)

def isqrt (n : Nat) : Nat := isqrtGo n (Nat.log2 n / 2 + 1) 0

/-- The square root of num/den rounded to the format: 2^-160 of extra width and a sticky bit. -/
def sqrtQ (f : Fmt) (num den : Nat) : Nat :=
  if num == 0 then 0
  else
    let scaled := num * 2 ^ 400 / den
    let r := isqrt scaled
    let sticky := if r * r == scaled && num * 2 ^ 400 % den == 0 then 0 else 1
    roundQ f false (2 * r + sticky) (2 ^ 201)

def fSqrt (f : Fmt) (a : Nat) : Nat :=
  match unpack f a with
  | .nan => f.nanBits
  | .inf false => f.infBits
  | .inf true => f.nanBits
  | .fin n m e =>
    if m == 0 then a
    else if n then f.nanBits
    else
      let e' := if e % 2 == 0 then e else e - 1
      let m' := if e % 2 == 0 then m else 2 * m
      let r := isqrt (m' * 2 ^ 160)
      let sticky := if r * r == m' * 2 ^ 160 then 0 else 1
      roundDy f false (2 * r + sticky) (e' / 2 - 81)

def fIsNaN (f : Fmt) (a : Nat) : Bool := fAbs f a > f.infBits
def fIsFinite (f : Fmt) (a : Nat) : Bool := fAbs f a < f.infBits

/-- a < b; false when either is a NaN. -/
def fLt (f : Fmt) (a b : Nat) : Bool :=
  if fIsNaN f a || fIsNaN f b then false
  else
    let key (x : Nat) : Int := if x ≥ f.signBit then -((x - f.signBit : Nat) : Int) else x
    key a < key b

def fLe (f : Fmt) (a b : Nat) : Bool :=
  if fIsNaN f a || fIsNaN f b then false else !fLt f b a

def fEq (f : Fmt) (a b : Nat) : Bool := fLe f a b && fLe f b a

/-- The lesser of two; the first when they compare equal or unordered. -/
def fMin (f : Fmt) (a b : Nat) : Nat := if fLt f b a then b else a
def fMax (f : Fmt) (a b : Nat) : Nat := if fLt f a b then b else a

/-- An exact integer in the format. -/
def fOfInt (f : Fmt) (i : Int) : Nat := roundQ f (i < 0) i.natAbs 1

/-- An exact rational in the format. -/
def fOfQ (f : Fmt) (num : Int) (den : Nat) : Nat := roundQ f (num < 0) num.natAbs den

/-- The value of a finite number times 2^k, rounded to the nearest integer, ties to even; none for NaN or infinity. -/
def fToIntScaled (f : Fmt) (k : Int) (a : Nat) : Option Int :=
  match unpack f a with
  | .fin n m e =>
    let e' := e + k
    let v : Nat := if e' ≥ 0 then m * 2 ^ e'.toNat else divEven m (2 ^ (-e').toNat)
    some (if n then -(v : Int) else v)
  | _ => none

/-- The exact value of a finite number as (numerator, denominator). -/
def fToQ (f : Fmt) (a : Nat) : Option (Int × Nat) :=
  match unpack f a with
  | .fin n m e =>
    let v : Int := if n then -(m : Int) else m
    some (if e ≥ 0 then (v * 2 ^ e.toNat, 1) else (v, 2 ^ (-e).toNat))
  | _ => none

def fConvert (src dst : Fmt) (a : Nat) : Nat :=
  match unpack src a with
  | .fin n m e => if m == 0 then withSign dst n 0 else roundDy dst n m e
  | x => x.pack dst

/-! Elementary functions, in fixed point with 2^-fracBits units. -/

def fracBits : Nat := 200

/-- π in 2^-200. -/
def piFix : Nat := 5048344754617993871973410141242436836214643421488662971535368

/-- x² / 2^200, rounded toward zero. -/
def fixMul (a b : Int) : Int := a * b / 2 ^ fracBits

/-- Σ of the alternating Taylor terms of sine or cosine, from term t with index k on. -/
def trigSeries (x2 : Int) : Nat → Int → Nat → Int
  | 0, _, _ => 0
  | fuel + 1, t, k => t + trigSeries x2 fuel (-(fixMul t x2) / (((k + 1) * (k + 2) : Nat) : Int)) (k + 2)

/-- sin of an angle in 2^-200 rad, |x| ≤ π/2, in 2^-200. -/
def sinFix (x : Int) : Int := trigSeries (fixMul x x) 30 x 1

/-- cos of an angle in 2^-200 rad, |x| ≤ π/2, in 2^-200. -/
def cosFix (x : Int) : Int := trigSeries (fixMul x x) 30 (2 ^ fracBits) 0

/-- sin(2π n/d) in 2^-200, for any n: reduced to the first octants exactly before the series. -/
def sinTurnFix (n : Int) (d : Nat) : Int :=
  let r := (n % (d : Int)).toNat
  -- r/d in [0,1) of a turn: quadrant symmetries
  let neg := 2 * r ≥ d
  let h := if neg then r - (d - r) else 2 * r
  -- now the angle is π h/d with h < d
  let g := if 2 * h > d then d - h else h
  let v := if 4 * g > d then cosFix (((d - 2 * g : Nat) : Int) * piFix / (2 * d)) else sinFix ((g : Int) * piFix / d)
  let v := if r == 0 || 2 * r == d then 0 else v
  if neg then -v else v

def cosTurnFix (n : Int) (d : Nat) : Int := sinTurnFix (4 * n + d) (4 * d)

/-- sin(2π n/d) rounded once to the format. -/
def fSinTurn (f : Fmt) (n : Int) (d : Nat) : Nat :=
  let v := sinTurnFix n d
  roundQ f (v < 0) v.natAbs (2 ^ fracBits)

def fCosTurn (f : Fmt) (n : Int) (d : Nat) : Nat :=
  let v := cosTurnFix n d
  roundQ f (v < 0) v.natAbs (2 ^ fracBits)

/-- Σ of the exponential's Taylor terms. -/
def expSeries (x : Int) : Nat → Int → Nat → Int
  | 0, _, _ => 0
  | fuel + 1, t, k => t + expSeries x fuel (fixMul t x / ((k + 1 : Nat) : Int)) (k + 1)

/-- exp(x) for x = num/den ≤ 0 in 2^-200: the series at x/2^k squared k times. -/
def expFix (num : Int) (den : Nat) : Int :=
  let k := Nat.log2 (num.natAbs / den + 1) + 4
  let y := expSeries (num * 2 ^ fracBits / ((den * 2 ^ k : Nat) : Int)) 40 (2 ^ fracBits) 0
  Nat.rec y (fun _ acc => fixMul acc acc) k

end Sys2Proof.Machine
end

