-- ==== Sys2Proof/Machine/Fields.lean ====
section
/-! DEFINITION. The fields of the manual's parameter and status tables: ID, wire type (Table 14-6, R402), class, range and
default, row by row (Tables 2-8, 3-4, 3-5, 5-6, 5-8, 6-4, 6-5, 7-15, 7-16, 8-9, 8-10, 9-5, 9-6, 10-4, 10-5, 11-4, 11-5, 12-10,
12-11, 13-5, 13-7, 14-12, 14-13, 16-7, 16-8, 17-7, 17-8, 18-5, 18-6, 19-8, 19-14, 20-9, 21-16). -/
namespace Sys2Proof.Machine

/-- Wire types of Table 14-6. -/
inductive WireType where
  | u32 | s32 | b32 | b64 | u64 | t
deriving DecidableEq, Repr

/-- Access classes (glossary, Table 14-7). `cmd` is a LIVE field whose write is a command (FAULT_CLEAR and its like). -/
inductive Cls where
  | live | edge | halt | ro | cmd
deriving DecidableEq, Repr

/-- The range a table row states. Real limits are (numerator, denominator); times are in 2^-16 ns. -/
inductive Rng where
  | nat (lo hi : Nat)
  | orNone (lo hi : Nat)
  | oneOf (l : List Nat)
  | int (lo hi : Int)
  | time (lo hi : Int) (step : Nat)
  | orTime (z : Int) (lo hi : Int)
  | real (ln : Int) (ld : Nat) (hn : Int) (hd : Nat)
  | realStep (ln : Int) (ld : Nat) (hn : Int) (hd : Nat) (sn sd : Nat)
  | realOf (l : List (Int × Nat))
  | finite | nonzero | nonneg | positive
  | even (lo hi : Nat)
  | noRange
deriving DecidableEq, Repr

/-- The default a table row states. -/
inductive Dflt where
  | w (v : Nat)
  | i (v : Int)
  | q (num : Int) (den : Nat)
  | inst (base : Nat)
  | dep (rule : Nat)
deriving DecidableEq, Repr

/-- One row: the unit code, the instances i0..i1, the first field number, how many fields it stands for and their stride. -/
structure Row where
  unit : Nat
  i0 : Nat
  i1 : Nat
  f0 : Nat
  fn : Nat
  fs : Nat
  name : String
  ty : WireType
  cls : Cls
  rng : Rng
  dflt : Dflt
deriving DecidableEq, Repr

def nsQ (n : Int) : Int := n * 65536
def usQ (n : Int) : Int := n * 65536000
def msQ (n : Int) : Int := n * 65536000000
def secQ (n : Int) : Int := n * 65536000000000
/-- 62.5 ps, the TPLL step, in 2^-16 ns. -/
def stepQ : Nat := 4096
/-- 1.25 ns, the fabric cycle, in 2^-16 ns. -/
def cycQ : Nat := 81920
def noneV : Nat := 0xFFFFFFFF
def max32 : Nat := 0xFFFFFFFF

/-- A row of one field in instances i0..i1. -/
def r1 (u i0 i1 f : Nat) (n : String) (ty : WireType) (c : Cls) (g : Rng) (d : Dflt) : Row := ⟨u, i0, i1, f, 1, 1, n, ty, c, g, d⟩
/-- A row of fn fields with stride fs. -/
def rn (u i0 i1 f fn fs : Nat) (n : String) (ty : WireType) (c : Cls) (g : Rng) (d : Dflt) : Row := ⟨u, i0, i1, f, fn, fs, n, ty, c, g, d⟩
/-- A status row. -/
def ro (u i0 i1 f : Nat) (n : String) (ty : WireType) : Row := ⟨u, i0, i1, f, 1, 1, n, ty, .ro, .noRange, .w 0⟩
def ron (u i0 i1 f fn fs : Nat) (n : String) (ty : WireType) : Row := ⟨u, i0, i1, f, fn, fs, n, ty, .ro, .noRange, .w 0⟩

def bit01 : Rng := .nat 0 1

/-- Table 2-8 (Almanac). -/
def rowsAlm : List Row := [
  r1 6 0 0 0x001 "SRC" .u32 .live (.oneOf [0, 1, 2, 3, 5, 6, 7, 8, 9]) (.w 0),
  r1 6 1 3 0x001 "SRC" .u32 .live (.oneOf [0, 4, 5, 6, 7, 9]) (.w 0),
  r1 6 0 3 0x002 "SLEW_MAX" .b32 .live (.real 1 1 200 1) (.q 50 1),
  r1 6 0 3 0x003 "LOCK_THRESH" .t .live (.time (nsQ 10) (usQ 10) 0) (.i (nsQ 100)),
  r1 6 0 3 0x004 "SERVO_TC" .t .live (.time (secQ 1) (secQ 1000) 0) (.i (secQ 16)),
  r1 6 0 3 0x005 "HOLD_ENTRY" .u32 .live (.nat 1 16) (.w 3),
  r1 6 0 3 0x006 "HOLD_AVG" .t .live (.time (secQ 1) (secQ 1000) 0) (.i (secQ 60)),
  r1 6 0 3 0x007 "HOLD_MAX" .u32 .live (.nat 60 2592000) (.w 86400),
  r1 6 0 3 0x008 "OFFSET_ALARM" .t .live (.time (nsQ 100) (secQ 1) 0) (.i (usQ 1)),
  r1 6 0 3 0x009 "ACQ_COUNT" .u32 .live (.nat 4 64) (.w 8),
  r1 6 0 0 0x00A "ACQ_WAIT" .t .halt (.time 0 (secQ 60) 0) (.i 0),
  r1 6 0 0 0x010 "TICK_PERIOD" .t .halt (.time (nsQ 2500) (usQ 1000) cycQ) (.i (usQ 10)),
  r1 6 0 0 0x011 "TICK_ORIGIN_S" .u32 .halt (.nat 0 max32) (.w 0),
  r1 6 0 0 0x012 "TICK_ORIGIN_NS" .t .halt (.time 0 (secQ 1 - cycQ) cycQ) (.i 0),
  r1 6 0 0 0x013 "WRITE_PHASE" .t .halt (.time (nsQ 800) (usQ 1000 - nsQ 200) cycQ) (.i (usQ 2)),
  r1 6 1 3 0x020 "PTP_ENABLE" .u32 .live bit01 (.w 0),
  r1 6 1 3 0x021 "PTP_PROFILE" .u32 .halt (.nat 0 3) (.w 2),
  r1 6 1 3 0x022 "PTP_DOMAIN" .u32 .halt (.oneOf (List.range 128 ++ [254])) (.dep 2),
  r1 6 1 3 0x023 "PTP_TRANSPORT" .u32 .halt bit01 (.w 0),
  r1 6 1 3 0x024 "PTP_STEP" .u32 .halt (.nat 1 2) (.w 2),
  r1 6 1 3 0x025 "PTP_ROLE" .u32 .halt (.nat 0 2) (.w 0),
  r1 6 1 3 0x026 "PTP_PRIORITY1" .u32 .halt (.nat 0 255) (.w 128),
  r1 6 1 3 0x027 "PTP_PRIORITY2" .u32 .halt (.nat 0 255) (.w 128),
  r1 6 1 3 0x028 "PTP_LOG_SYNC" .s32 .halt (.int (-7) 4) (.i 0),
  r1 6 1 3 0x029 "PTP_VLAN" .u32 .halt (.nat 0 0x7FFE) (.w 0),
  r1 6 4 4 0x040 "PPS_OUT_TB" .u32 .live (.nat 0 3) (.w 0),
  r1 6 4 4 0x041 "PPS_OUT_WIDTH" .t .edge (.time (usQ 1) (msQ 500) 0) (.i (usQ 100)),
  r1 6 4 4 0x042 "PPS_OUT_OFFSET" .t .edge (.time (-(msQ 500)) (msQ 500) stepQ) (.i 0),
  r1 6 4 4 0x043 "PPS_FREE" .u32 .live bit01 (.w 0),
  r1 6 4 4 0x044 "PPS_IN_DELAY" .t .live (.time (-(usQ 10)) (usQ 10) stepQ) (.i 0),
  r1 6 4 4 0x045 "PPS_TOD" .u32 .live (.nat 0 max32) (.w 0),
  r1 6 4 4 0x046 "TRIG_IN_POL" .u32 .live (.nat 0 0xAA) (.w 0),
  r1 6 0x100 0x13F 0x030 "PTP_TB" .u32 .halt (.nat 0 3) (.w 0),
  r1 6 0x100 0x13F 0x031 "ASYM_TX" .t .live (.time (-(nsQ 100)) (nsQ 100) 1) (.i 0),
  r1 6 0x100 0x13F 0x032 "ASYM_RX" .t .live (.time (-(nsQ 100)) (nsQ 100) 1) (.i 0)]

/-- Tables 3-4 and 3-5 (GFE). -/
def rowsGfe : List Row := [
  r1 1 0 3 0x001 "ENABLE" .u32 .halt bit01 (.w 0),
  r1 1 0 3 0x002 "F_NOM" .b64 .halt (.realOf [(50, 1), (60, 1)]) (.q 50 1),
  r1 1 0 3 0x003 "RATED_S" .b64 .halt (.real 1 10 500 1) (.q 5 1),
  r1 1 0 3 0x004 "RATED_V" .b64 .halt (.real 4 10 400 1) (.q 33 10),
  r1 1 0 3 0x005 "V_SRC" .u32 .halt (.orNone 0 0xFFFF) (.w noneV),
  r1 1 0 3 0x006 "I_SRC" .u32 .halt (.orNone 0 0xFFFF) (.w noneV),
  r1 1 0 3 0x007 "V_SCALE" .b64 .halt (.real 1 1000 1000000 1) (.q 1 1),
  r1 1 0 3 0x008 "I_SCALE" .b64 .halt (.real 1 1000 1000000 1) (.q 1 1),
  r1 1 0 3 0x009 "MEAS_DELAY_V" .t .halt (.time 0 (usQ 1000) stepQ) (.dep 9),
  r1 1 0 3 0x00A "MEAS_DELAY_I" .t .halt (.time 0 (usQ 1000) stepQ) (.dep 10),
  r1 1 0 3 0x00B "ADV_EXTRA" .t .halt (.time 0 (usQ 1000) stepQ) (.i 0),
  r1 1 0 3 0x00C "F_MIN" .b64 .halt (.real 40 1 60 1) (.dep 12),
  r1 1 0 3 0x00D "F_MAX" .b64 .halt (.real 50 1 70 1) (.dep 13),
  r1 1 0 3 0x00E "LOSS_POLICY" .u32 .live (.nat 0 2) (.w 2),
  r1 1 0 3 0x00F "T_HOLD" .u32 .live (.nat 1 1000) (.w 2),
  r1 1 0 3 0x010 "ALT_V_SRC" .u32 .halt (.orNone 0 0xFFFF) (.w noneV),
  r1 1 0 3 0x011 "ALT_I_SRC" .u32 .halt (.orNone 0 0xFFFF) (.w noneV),
  r1 1 0 3 0x012 "ALT_RESET" .u32 .cmd (.nat 1 1) (.w 0),
  r1 1 0 3 0x020 "H" .b64 .edge (.real 1 10 30 1) (.q 4 1),
  r1 1 0 3 0x021 "D" .b64 .edge (.real 0 1 200 1) (.q 50 1),
  r1 1 0 3 0x022 "MP" .b64 .edge (.real 5 1000 20 100) (.q 4 100),
  r1 1 0 3 0x023 "NQ" .b64 .edge (.real 0 1 25 100) (.q 5 100),
  r1 1 0 3 0x024 "QFILT_TC" .b64 .edge (.real 1 1 1000 1) (.q 20 1),
  r1 1 0 3 0x025 "RV" .b64 .edge (.real 0 1 5 10) (.q 2 100),
  r1 1 0 3 0x026 "XV" .b64 .edge (.real 0 1 5 10) (.q 1 10),
  r1 1 0 3 0x027 "TRK_BW" .b64 .edge (.real 1 1 100 1) (.q 10 1),
  r1 1 0 3 0x030 "P_SET" .b64 .live (.real (-3) 2 3 2) (.q 0 1),
  r1 1 0 3 0x031 "Q_SET" .b64 .live (.real (-3) 2 3 2) (.q 0 1),
  r1 1 0 3 0x032 "V_SET" .b64 .live (.real 8 10 12 10) (.q 1 1),
  r1 1 0 3 0x033 "F_SET" .b64 .live (.real 40 1 70 1) (.dep 51),
  r1 1 0 3 0x034 "P_RATE" .b64 .live (.real 1 1000 100 1) (.q 1 1),
  r1 1 0 3 0x035 "Q_RATE" .b64 .live (.real 1 1000 100 1) (.q 1 1),
  r1 1 0 3 0x036 "V_RATE" .b64 .live (.real 1 1000 10 1) (.q 1 2),
  r1 1 0 3 0x037 "F_RATE" .b64 .live (.real 1 1000 10 1) (.q 1 2),
  r1 1 0 3 0x040 "I_LIM" .b64 .edge (.real 1 1 5 2) (.q 12 10),
  r1 1 0 3 0x041 "I_VI_START" .b64 .edge (.real 1 2 5 2) (.q 1 1),
  r1 1 0 3 0x042 "VI_KX" .b64 .edge (.real 0 1 5 1) (.q 8 10),
  r1 1 0 3 0x043 "VI_XR" .b64 .edge (.real 1 1 10 1) (.q 5 1),
  r1 1 0 3 0x044 "ILIM_KP" .b64 .edge (.real 1 100 10 1) (.q 1 2),
  r1 1 0 3 0x045 "ILIM_TI" .b64 .edge (.real 1 10 100 1) (.q 5 1),
  r1 1 0 3 0x050 "RIDE_V_ENTER" .b64 .edge (.real 1 10 9 10) (.q 85 100),
  r1 1 0 3 0x051 "RIDE_V_EXIT" .b64 .edge (.real 1 2 95 100) (.q 9 10),
  r1 1 0 3 0x052 "RIDE_T_MAX" .b64 .edge (.real 1 10 10 1) (.q 3 1),
  r1 1 0 3 0x053 "RIDE_IQ_K" .b64 .edge (.real 0 1 10 1) (.q 2 1),
  r1 1 0 3 0x054 "ROCOF_ALARM" .b64 .live (.real 1 10 10 1) (.q 2 1),
  r1 1 0 3 0x055 "JUMP_ALARM" .b64 .live (.real 5 1 60 1) (.q 20 1),
  r1 1 0 3 0x060 "ENERGIZE_RAMP" .b64 .edge (.real 1 10 60 1) (.q 10 1),
  r1 1 0 3 0x061 "SYNC_DF" .b64 .live (.real 1 100 1 2) (.q 1 10),
  r1 1 0 3 0x062 "SYNC_DV" .b64 .live (.real 1 100 2 10) (.q 5 100),
  r1 1 0 3 0x063 "SYNC_DPHI" .b64 .live (.real 1 1 30 1) (.q 10 1),
  r1 1 0 3 0x064 "STOP_RAMP" .b64 .edge (.real 1 100 10 1) (.q 1 1),
  r1 1 0 3 0x070 "PROBE_EN" .u32 .live bit01 (.w 0),
  r1 1 0 3 0x071 "PROBE_AMP" .b64 .edge (.real 2 1000 1 100) (.q 5 1000),
  r1 1 0 3 0x072 "PROBE_FREQ" .b64 .edge (.real 75 1 1000 1) (.dep 114),
  r1 1 0 3 0x073 "SCR_PERIOD" .b64 .live (.real 1 1 60 1) (.q 10 1),
  r1 1 0 3 0x074 "SCHED_EN" .u32 .live bit01 (.w 0),
  r1 1 0 3 0x07F "MODE_REQ" .u32 .live (.oneOf [0, 1, 2, 3, 5, 6]) (.w 0),
  ro 1 0 3 0x080 "MODE" .u32, ro 1 0 3 0x081 "F_ROTOR" .b64, ro 1 0 3 0x082 "F_GRID" .b64,
  ro 1 0 3 0x083 "THETA" .u64, ro 1 0 3 0x084 "EMF" .b64, ro 1 0 3 0x085 "P_E" .b64,
  ro 1 0 3 0x086 "Q_E" .b64, ro 1 0 3 0x087 "RV_EFF" .b64, ro 1 0 3 0x088 "XV_EFF" .b64,
  ro 1 0 3 0x089 "LIMIT" .u32, ro 1 0 3 0x08A "SCR_EST" .b64, ro 1 0 3 0x08B "SCR_AGE" .u32,
  ro 1 0 3 0x08C "TRK_ROCOF" .b64]

/-- Tables 5-6 and 5-8 (LPE). The class of a block's P fields follows its TYPE (Table 5-4): see `rowClass`. -/
def rowsLpe : List Row := [
  r1 2 0 63 0x001 "ENABLE" .u32 .halt bit01 (.w 0),
  r1 2 0 63 0x002 "EDGE_REF" .u32 .halt (.oneOf ([0] ++ (List.range 32).map (0x100 + ·) ++ [0x200, 0x201, 0x202, 0x203])) (.w 0),
  r1 2 0 63 0x003 "GATE" .u32 .halt (.nat 0 0xFFFFFFFF) (.w noneV),
  r1 2 0 63 0x004 "LOSS_POLICY" .u32 .live (.nat 0 2) (.w 2),
  r1 2 0 63 0x005 "T_HOLD" .u32 .live (.nat 1 1000) (.w 2),
  r1 2 0 63 0x006 "ALT_RESET" .u32 .cmd (.nat 1 1) (.w 0),
  rn 2 0 63 0x010 4 2 "ALT_PRI" .u32 .halt (.orNone 0 0xFFFF) (.w noneV),
  rn 2 0 63 0x011 4 2 "ALT_SEC" .u32 .halt (.orNone 0 0xFFFF) (.w noneV),
  rn 2 0 63 0x020 8 4 "SINK_KIND" .u32 .halt (.nat 0 7) (.w 0),
  rn 2 0 63 0x021 8 4 "SINK_TARGET" .u32 .halt (.nat 0 255) (.w 0),
  rn 2 0 63 0x022 8 4 "SINK_WIDTH" .u32 .halt (.nat 1 12) (.w 1),
  rn 2 0 63 0x023 8 4 "SINK_SRC" .u32 .halt (.orNone 0 0xFFFF) (.w noneV),
  rn 2 0 63 0x400 24 32 "TYPE" .u32 .halt (.nat 0 0x10) (.w 0),
  rn 2 0 63 0x401 24 32 "IN0" .u32 .halt (.orNone 0 0xFFFF) (.w noneV),
  rn 2 0 63 0x402 24 32 "IN1" .u32 .halt (.orNone 0 0xFFFF) (.w noneV),
  rn 2 0 63 0x403 24 32 "IN2" .u32 .halt (.orNone 0 0xFFFF) (.w noneV),
  rn 2 0 63 0x404 24 32 "IN3" .u32 .halt (.orNone 0 0xFFFF) (.w noneV),
  rn 2 0 63 0x405 24 32 "IN4" .u32 .halt (.orNone 0 0xFFFF) (.w noneV),
  rn 2 0 63 0x406 24 32 "IN5" .u32 .halt (.orNone 0 0xFFFF) (.w noneV),
  rn 2 0 63 0x407 24 32 "IN6" .u32 .halt (.orNone 0 0xFFFF) (.w noneV),
  rn 2 0 63 0x408 24 32 "IN7" .u32 .halt (.orNone 0 0xFFFF) (.w noneV)]
  ++ (List.range 23).map (fun p => rn 2 0 63 (0x409 + p) 24 32 "P" .b32 .edge .finite (.w 0))
  ++ [r1 2 0x100 0x100 0x001 "TEL_AGE_MAX" .u32 .live (.nat 1 1000) (.w 3),
  rn 2 0x200 0x200 0 256 1 "SETPT" .b32 .live .finite (.w 0),
  rn 2 0x300 0x30F 0 64 1 "Y" .b32 .live .finite (.w 0),
  r1 2 0x300 0x30F 0x040 "X0" .b32 .live .finite (.w 0),
  r1 2 0x300 0x30F 0x041 "DX" .b32 .live .positive (.q 1 1),
  r1 2 0x300 0x30F 0x042 "N" .u32 .live (.nat 2 64) (.w 2),
  ro 2 0 63 0x080 "STATE" .u32, ro 2 0 63 0x081 "TRANSPORT" .t, ro 2 0 63 0x082 "HOLD_COUNT" .u32,
  ro 2 0 63 0x083 "SINK_CLAMPS" .u32, ron 2 0 63 0x700 24 1 "OUT" .b32,
  ro 2 0x100 0x100 0x080 "SCHED_START" .t, ro 2 0x100 0x100 0x081 "SCHED_END" .t, ro 2 0x100 0x100 0x082 "SLACK" .t,
  ro 2 0x100 0x100 0x083 "BLOCKS" .u32]

/-- Tables 6-4 and 6-5 (MOD). UPDATE has the class EDGE of Table 6-4, although R92 has the update mode take effect at the entry to ARMED only
(DESIGN CHOICE, notes/assumptions/128.md). -/
def rowsMod : List Row := [
  r1 3 0 255 0x001 "CAR" .u32 .halt (.nat 0 31) (.w 0),
  r1 3 0 255 0x002 "PHASE" .t .edge (.time 0 (msQ 20 - stepQ) stepQ) (.i 0),
  r1 3 0 255 0x003 "UPDATE" .u32 .edge bit01 (.w 0),
  r1 3 0 255 0x004 "DEADTIME" .t .edge (.time (nsQ 50) (usQ 10) stepQ) (.i (usQ 2)),
  r1 3 0 255 0x005 "MIN_PULSE" .t .edge (.time (nsQ 100) (usQ 20) stepQ) (.i (usQ 1)),
  r1 3 0 255 0x006 "SUPPRESS" .u32 .live bit01 (.w 1),
  r1 3 0 255 0x007 "FORCE" .u32 .cmd (.nat 0 15) (.w 0),
  r1 3 0 255 0x008 "FAULT_SAFE" .u32 .halt (.nat 0 255) (.w 0),
  r1 3 0 255 0x009 "CELL_HOLD" .u32 .live (.nat 0 2) (.w 0),
  r1 3 0x100 0x11F 0x001 "PERIOD" .t .edge (.time (usQ 4) (msQ 20) cycQ) (.i (usQ 100)),
  r1 3 0x100 0x11F 0x002 "ORIGIN_S" .u32 .halt (.nat 0 max32) (.w 0),
  r1 3 0x100 0x11F 0x003 "ORIGIN_NS" .t .halt (.time 0 (secQ 1 - cycQ) cycQ) (.i 0),
  r1 3 0x200 0x23F 0x001 "MODE" .u32 .halt (.nat 0 3) (.w 0),
  r1 3 0x300 0x307 0x001 "ENABLE" .u32 .halt bit01 (.w 0),
  r1 3 0x300 0x307 0x002 "FIRST_CH" .u32 .halt (.oneOf ((List.range 64).map (4 * ·))) (.w 0),
  r1 3 0x300 0x307 0x003 "CELLS" .u32 .halt (.nat 1 64) (.w 1),
  r1 3 0x300 0x307 0x004 "V_ITEM" .u32 .halt (.nat 0 15) (.w 0),
  r1 3 0x300 0x307 0x005 "I_SRC" .u32 .halt (.orNone 0 0xFFFF) (.w noneV),
  r1 3 0x300 0x307 0x006 "I_SIGN" .s32 .halt (.oneOf [1, 0xFFFFFFFF]) (.i 1),
  r1 3 0x300 0x307 0x007 "I_DB" .b32 .live (.real 0 1 1000000 1) (.w 0),
  r1 3 0x300 0x307 0x008 "HYST" .b32 .live (.real 0 1 10000 1) (.w 0),
  r1 3 0x300 0x307 0x009 "STR_PHASE" .t .halt (.time 0 (usQ 1000 - stepQ) stepQ) (.i 0),
  r1 3 0x400 0x400 0x001 "FAULT_IN_CLEAR" .u32 .cmd (.nat 0 15) (.w 0),
  ro 3 0 255 0x080 "STATE" .u32, ro 3 0 255 0x081 "SUPPRESSED" .u32, ro 3 0 255 0x082 "CLAMPS" .u32,
  ro 3 0 255 0x083 "CARRY" .t, ro 3 0 255 0x084 "DUTY_CLAMPS" .u32,
  ro 3 0x100 0x11F 0x080 "ORIGIN_EFF_S" .u32, ro 3 0x100 0x11F 0x081 "ORIGIN_EFF_NS" .t,
  ro 3 0x300 0x307 0x080 "INSERTED" .u32, ro 3 0x300 0x307 0x081 "AVAIL" .u32, ro 3 0x300 0x307 0x082 "SHORT" .u32,
  ro 3 0x300 0x307 0x083 "CHANGES" .u32, ro 3 0x300 0x307 0x084 "DIR" .s32,
  ron 3 0x400 0x400 0x090 8 1 "CLAMPS_HP" .u32, ro 3 0x400 0x400 0x098 "CLAMPS_NONE" .u32,
  ro 3 0x400 0x400 0x0A0 "FAULT_IN_LATCH" .u32]

/-- Tables 7-15 and 7-16 (PLK). -/
def rowsPlk : List Row := [
  r1 5 0 63 0x001 "ENABLE" .u32 .halt bit01 (.w 0),
  r1 5 0 63 0x002 "RATE" .u32 .halt bit01 (.w 1),
  r1 5 0 63 0x003 "CHAIN" .u32 .halt (.nat 1 4) (.w 1),
  r1 5 0 63 0x004 "VER_MAX" .u32 .halt (.oneOf [0x20, 0x21, 0x30, 0x31]) (.w 0x31),
  r1 5 0 63 0x005 "ASYM" .t .live (.time (-(nsQ 100)) (nsQ 100) stepQ) (.i 0),
  r1 5 0 63 0x006 "T_SILENCE" .t .halt (.time (usQ 2) (usQ 50) 65536) (.i (usQ 3)),
  r1 5 0 63 0x007 "T_CONFIRM" .t .halt (.time (nsQ 500) (usQ 20) 65536) (.i (usQ 2)),
  r1 5 0 63 0x008 "BLANKING" .t .halt (.time (nsQ 500) (usQ 5) 65536) (.i (nsQ 1500)),
  r1 5 0 63 0x009 "RETRY" .u32 .live (.nat 0 15) (.w 3),
  r1 5 0 63 0x00A "RETRY_INT" .t .live (.time (usQ 5) (usQ 1000) 0) (.i (usQ 20)),
  r1 5 0 63 0x00B "SUP_TIMEOUT" .t .live (.time (usQ 2) (msQ 10) 0) (.i (usQ 100)),
  r1 5 0 63 0x00C "TRAIN_TIMEOUT" .t .live (.time (msQ 1) (msQ 100) 0) (.i (msQ 10)),
  r1 5 0 63 0x00D "TEL_MASK" .u32 .halt (.nat 0 0xFFFF) (.w 1),
  rn 5 0x100 0x1FF 0x020 16 1 "TEL_SCALE" .b32 .live .finite (.q 1 1),
  rn 5 0x100 0x1FF 0x030 16 1 "TEL_OFFSET" .b32 .live .finite (.w 0),
  r1 5 0x400 0x400 0x001 "L_CMD" .t .halt (.time (usQ 1) (usQ 50) cycQ) (.i (usQ 4)),
  ro 5 0 63 0x080 "LINK_STATE" .u32, ro 5 0 63 0x081 "VERSION" .u32, ro 5 0 63 0x082 "HOPS" .u32,
  ro 5 0 63 0x083 "POSITIONS" .u32, ron 5 0 63 0x084 4 1 "DELAY" .t, ro 5 0 63 0x088 "BUDGET" .t,
  ro 5 0 63 0x089 "SLACK" .t, ro 5 0 63 0x08A "SUP_TIMEOUT_EFF" .t, ro 5 0 63 0x08B "DISCARDS" .u32,
  ro 5 0 63 0x08C "RETRIES" .u32, ro 5 0 63 0x08D "X_INSERTED" .u32, ro 5 0 63 0x08E "X_DELETED" .u32]

/-- Tables 8-9 and 8-10 (SPU). POLICY and REACT ranges depend on the code (R262, R263). -/
def rowsSpu : List Row := [
  r1 4 0 255 0x001 "PGROUP" .u32 .halt (.nat 0 15) (.w 0),
  r1 4 0 255 0x002 "GUARD" .u32 .halt bit01 (.w 0),
  r1 4 0 255 0x003 "BLOCK_LEVEL" .u32 .halt (.nat 0 2) (.w 0),
  r1 4 0x100 0x11F 0x001 "ROUTE_CH" .u32 .halt (.orNone 0 255) (.w noneV),
  r1 4 0x100 0x11F 0x002 "ROUTE_N" .u32 .halt (.nat 1 4) (.w 1),
  r1 4 0x140 0x16F 0x001 "ROUTE_CH" .u32 .halt (.orNone 0 255) (.w noneV),
  r1 4 0x140 0x16F 0x002 "ROUTE_N" .u32 .halt (.nat 1 4) (.w 1),
  r1 4 0x400 0x400 0x001 "ESC_WINDOW" .t .live (.time (usQ 1) (usQ 1000) 0) (.i (usQ 10)),
  r1 4 0x400 0x400 0x002 "ESC_GROUP_N" .u32 .live (.oneOf (0 :: (List.range 15).map (· + 2))) (.w 2),
  r1 4 0x400 0x400 0x003 "ESC_DEVICE_N" .u32 .live (.oneOf (0 :: (List.range 30).map (· + 3))) (.w 3),
  r1 4 0x400 0x400 0x004 "FAULT_HOLD" .t .live (.time (usQ 100) (msQ 1000) 0) (.i (msQ 1)),
  r1 4 0x400 0x400 0x005 "RETRY_N" .u32 .live (.nat 0 15) (.w 3),
  r1 4 0x400 0x400 0x006 "RETRY_WIN" .t .live (.time (secQ 1) (secQ 3600) 0) (.i (secQ 10)),
  r1 4 0x400 0x400 0x010 "SWEEP_EN" .u32 .live bit01 (.w 1),
  r1 4 0x400 0x400 0x011 "SWEEP_STRICT" .u32 .live bit01 (.w 0),
  r1 4 0x400 0x400 0x012 "SWEEP_I" .b32 .live (.realStep 1 2 5 1 1 100) (.q 2 1),
  r1 4 0x400 0x400 0x013 "SWEEP_T" .t .live (.time (usQ 100) (usQ 4000) 0) (.i (usQ 500)),
  r1 4 0x400 0x400 0x014 "SWEEP_R_SHORT" .b32 .live (.real 10 1 1000 1) (.q 100 1),
  r1 4 0x400 0x400 0x015 "SWEEP_R_OPEN" .b32 .live (.real 1 1 60 1) (.q 10 1),
  r1 4 0x400 0x400 0x020 "GUARD_TEST" .u32 .live bit01 (.w 1),
  r1 4 0x400 0x400 0x021 "GUARD_STRICT" .u32 .live bit01 (.w 0),
  r1 4 0x400 0x400 0x030 "FAULT_CLEAR" .u32 .cmd (.nat 0 max32) (.w 0),
  r1 4 0x400 0x400 0x031 "PRESTART_RUN" .u32 .cmd (.nat 1 1) (.w 0),
  rn 4 0xE01 0xE07 0 4096 1 "POLICY" .u32 .live bit01 (.dep 200),
  rn 4 0xF01 0xF07 0 4096 1 "REACT" .u32 .live (.nat 1 6) (.dep 201),
  ro 4 0 255 0x080 "REACTION" .u32, ro 4 0 255 0x081 "SWEEP_RES" .u32, ro 4 0 255 0x082 "GUARD_RES" .u32,
  ro 4 0 255 0x083 "AUTO_CLEARS" .u32, ro 4 0x200 0x23F 0x080 "BLOCK_LAT" .t, ro 4 0x300 0x30F 0x080 "REACTION" .u32,
  ro 4 0x400 0x400 0x080 "DEVICE_REACTION" .u32, ro 4 0x400 0x400 0x081 "PRESTART" .u32, ro 4 0x400 0x400 0x082 "LOG_SEQ" .u32,
  ro 4 0x400 0x400 0x083 "HELD" .u32, ro 4 0x400 0x400 0x084 "FO_CUR_N" .u32, ro 4 0x400 0x400 0x085 "FO_PREV_N" .u32,
  ro 4 0x400 0x400 0x086 "BLOCK_N" .u32]

/-- Tables 9-5 and 9-6 (BSD). -/
def rowsBsd : List Row := [
  r1 7 0 47 0x001 "ENABLE" .u32 .halt bit01 (.w 0),
  r1 7 0 47 0x002 "ORDER" .u32 .halt (.nat 3 4) (.w 3),
  r1 7 0 47 0x003 "DEC_R" .u32 .halt (.nat 8 512) (.w 32),
  r1 7 0 47 0x004 "PHASE_OPT" .u32 .halt bit01 (.w 0),
  r1 7 0 47 0x005 "SCALE" .b32 .live .nonzero (.q 1 1),
  r1 7 0 47 0x006 "OFFSET" .b32 .live .finite (.w 0),
  r1 7 0 47 0x007 "EXT_DELAY" .t .halt (.time (-(usQ 1)) (usQ 10) stepQ) (.i 0),
  r1 7 0 47 0x008 "STUCK_N" .u32 .live (.nat 16 4096) (.w 64),
  r1 7 0 47 0x010 "FAST_EN" .u32 .live bit01 (.w 0),
  r1 7 0 47 0x011 "FAST_R" .u32 .halt (.nat 4 32) (.w 8),
  r1 7 0 47 0x012 "FAST_LO" .b32 .live .finite (.q (-1) 1),
  r1 7 0 47 0x013 "FAST_HI" .b32 .live .finite (.q 1 1),
  r1 7 0 47 0x014 "FAST_HYST" .b32 .live .nonneg (.w 0),
  r1 7 0 47 0x015 "FAST_CNT" .u32 .live (.nat 1 4) (.w 2),
  r1 7 0x100 0x105 0x001 "CLK_DIR" .u32 .halt bit01 (.w 0),
  r1 7 0x100 0x105 0x002 "CLK_DIV" .u32 .halt (.even 20 160) (.w 40),
  r1 7 0x100 0x105 0x003 "CLK_FREQ" .b32 .halt (.real 5 1 40 1) (.q 20 1),
  r1 7 0x100 0x105 0x004 "CLK_EDGE" .u32 .halt bit01 (.w 0),
  r1 7 0x100 0x105 0x005 "SYNC_EN" .u32 .live bit01 (.w 1),
  r1 7 0x200 0x200 0x001 "DEC_RESET" .u32 .cmd (.nat 1 1) (.w 0),
  ro 7 0 47 0x080 "FLAGS" .u32, ro 7 0 47 0x081 "GROUP_DELAY" .t, ro 7 0 47 0x082 "PHASE" .u32, ro 7 0 47 0x083 "SAT" .u32,
  ro 7 0 47 0x084 "RUN_MAX" .u32, ro 7 0x100 0x105 0x080 "T_D_MEAS" .t, ro 7 0x200 0x200 0x080 "SYNC_COUNT" .u32,
  ro 7 0x200 0x200 0x081 "SYNC_IGNORED" .u32]

/-- Tables 10-4 and 10-5 (ADC). -/
def rowsAdc : List Row := [
  r1 8 0 31 0x001 "MODE" .u32 .halt (.nat 0 3) (.w 0),
  r1 8 0 31 0x002 "SCALE" .b32 .live .nonzero (.q 1 16000),
  r1 8 0 31 0x003 "OFFSET" .b32 .live .finite (.w 0),
  r1 8 0 31 0x004 "WIN_EN" .u32 .live bit01 (.w 0),
  r1 8 0 31 0x005 "WIN_LO" .b32 .live .finite (.q (-2048) 1000),
  r1 8 0 31 0x006 "WIN_HI" .b32 .live .finite (.q 2048 1000),
  r1 8 0 31 0x007 "WIN_HYST" .b32 .live .nonneg (.w 0),
  r1 8 0 31 0x008 "WIN_CNT" .u32 .live (.nat 1 4) (.w 1),
  r1 8 0 31 0x009 "FREEZE_N" .u32 .live (.nat 16 65535) (.w 1000),
  r1 8 0 31 0x00A "PLAUS_LO" .b32 .live .finite (.q (-2048) 1000),
  r1 8 0 31 0x00B "PLAUS_HI" .b32 .live .finite (.q 2048 1000),
  r1 8 0 31 0x00C "SAT_INVALID" .u32 .live bit01 (.w 1),
  r1 8 0 31 0x00D "QUEUE_MODE" .u32 .live (.nat 0 3) (.w 0),
  r1 8 0x200 0x200 0x001 "TQ_ROUTE" .u32 .live (.oneOf (0 :: (List.range 16).map (· + 0x10))) (.w 0),
  r1 8 0x200 0x200 0x002 "TQ_OWNER" .u32 .live (.nat 0 7) (.w 0),
  r1 8 0x200 0x200 0x003 "CAL_TOL" .u32 .live (.nat 1 64) (.w 8),
  r1 8 0x200 0x200 0x004 "PAIR_TOL" .u32 .live (.nat 1 4096) (.w 64),
  r1 8 0x200 0x200 0x005 "PAIR_N" .u32 .live (.nat 1 1000) (.w 10),
  ro 8 0 31 0x080 "FLAGS" .u32, ro 8 0 31 0x081 "REVISIT" .t, ro 8 0 31 0x082 "OUT_COUNT" .u32,
  ro 8 0x100 0x107 0x080 "PHYS" .u32, ro 8 0x200 0x200 0x080 "FREE_SLICE" .u32, ro 8 0x200 0x200 0x081 "RETIRED" .u32,
  ro 8 0x200 0x200 0x082 "STEPS" .u32, ro 8 0x200 0x200 0x083 "TQ_FILL" .u32, ro 8 0x200 0x200 0x084 "TQ_LOST" .u32]

/-- Tables 11-4 and 11-5 (REC). -/
def rowsRec : List Row := [
  r1 9 0 127 0x001 "SIGNAL" .u32 .halt (.orNone 0 0xFFFF) (.w noneV),
  r1 9 0 127 0x002 "STREAM" .u32 .halt (.orNone 0 3) (.w noneV),
  r1 9 0x100 0x103 0x001 "ENABLE" .u32 .live bit01 (.w 0),
  r1 9 0x100 0x103 0x002 "DEC" .u32 .halt (.nat 1 65535) (.w 1),
  r1 9 0x100 0x103 0x003 "RING_KIB" .u32 .halt (.nat 64 4096) (.w 1024),
  r1 9 0x100 0x103 0x004 "REC_SQ" .u32 .halt (.nat 0 15) (.inst 4),
  r1 9 0x100 0x103 0x005 "PRE" .u32 .live (.nat 0 65535) (.w 0),
  r1 9 0x100 0x103 0x006 "POST" .u32 .live (.nat 1 65535) (.w 1000),
  r1 9 0x100 0x103 0x007 "AUTO_T" .t .live (.orTime 0 (msQ 1) (secQ 3600)) (.i 0),
  r1 9 0x100 0x103 0x008 "RESTART_MODE" .u32 .live bit01 (.w 0),
  r1 9 0x100 0x103 0x009 "PEER_TX" .u32 .live bit01 (.w 0),
  r1 9 0x100 0x103 0x00A "PEER_CHAN" .u32 .live (.nat 0 255) (.w 0),
  rn 9 0x100 0x103 0x020 4 8 "KIND" .u32 .live (.nat 0 6) (.w 0),
  rn 9 0x100 0x103 0x021 4 8 "ARG_SLOT" .u32 .live (.nat 0 255) (.w 0),
  rn 9 0x100 0x103 0x022 4 8 "LO" .b32 .live .finite (.w 0),
  rn 9 0x100 0x103 0x023 4 8 "HI" .b32 .live .finite (.w 0),
  rn 9 0x100 0x103 0x024 4 8 "POL" .u32 .live (.nat 0 2) (.w 0),
  rn 9 0x100 0x103 0x025 4 8 "MASK" .u32 .live (.nat 0 max32) (.w max32),
  rn 9 0x100 0x103 0x026 4 8 "CODE_RANGE" .u32 .live (.nat 0 max32) (.w 0xFFFF),
  rn 9 0x100 0x103 0x027 4 8 "MIN_REACT" .u32 .live (.nat 0 6) (.w 2),
  rn 9 0x100 0x103 0x040 8 4 "MEAS_SLOT" .u32 .live (.orNone 0 127) (.w noneV),
  rn 9 0x100 0x103 0x041 8 4 "MEAS_LEVEL" .b32 .live .finite (.w 0),
  rn 9 0x100 0x103 0x042 8 4 "MEAS_HYST" .b32 .live .nonneg (.w 0),
  r1 9 0x100 0x103 0x060 "REF_SLOT" .u32 .live (.orNone 0 127) (.w noneV),
  r1 9 0x200 0x200 0x001 "REC_TRIGGER" .u32 .cmd (.nat 0 15) (.w 0),
  r1 9 0x200 0x200 0x002 "REC_RESTART" .u32 .cmd (.nat 0 15) (.w 0),
  ro 9 0x100 0x103 0x080 "STATE" .u32, ro 9 0x100 0x103 0x081 "RECORD" .u32, ro 9 0x100 0x103 0x082 "ROWS" .u32,
  ro 9 0x100 0x103 0x083 "MARKS" .u32, ro 9 0x100 0x103 0x084 "MISSED" .u32, ro 9 0x100 0x103 0x085 "FILL" .u32,
  ro 9 0x100 0x103 0x086 "OVERFLOWS" .u32]

/-- Tables 12-10 and 12-11 (RDN). -/
def rowsRdn : List Row := [
  r1 10 0 0 0x001 "PAIR_EN" .u32 .halt bit01 (.w 0),
  r1 10 0 0 0x002 "MEMBER" .u32 .halt bit01 (.w 0),
  r1 10 0 0 0x003 "NODE_ID" .u32 .halt (.nat 0 4094) (.w 0),
  r1 10 0 0 0x004 "JOIN_AUTO" .u32 .live bit01 (.w 1),
  r1 10 0 0 0x005 "JOIN_N" .u32 .live (.nat 100 100000) (.w 1000),
  r1 10 0 0 0x006 "ROLE_SWAP" .u32 .cmd (.nat 1 1) (.w 0),
  r1 10 0 0 0x007 "REMOTE_LAUNCH" .u32 .live (.nat 0 0x7F) (.w 0),
  r1 10 0 0 0x008 "GB_BUDGET" .t .live (.time (usQ 1) (msQ 1) 0) (.i (usQ 100)),
  r1 10 0x100 0x107 0x001 "PORT_LANE" .u32 .halt (.orNone 0 63) (.w noneV),
  r1 10 0x100 0x107 0x002 "PORT_ROLE" .u32 .halt (.nat 0 2) (.w 1),
  r1 10 0x100 0x107 0x003 "TIME_PORT" .u32 .halt bit01 (.w 0),
  r1 10 0x100 0x107 0x004 "ASYM" .t .live (.time (-(nsQ 100)) (nsQ 100) stepQ) (.i 0),
  r1 10 0x200 0x200 0x001 "VIGIL_PERIOD" .t .live (.time (msQ 100) (secQ 60) 0) (.i (secQ 1)),
  r1 10 0x200 0x200 0x002 "VIGIL_MASK" .u32 .live (.nat 0 0x7FF) (.w 0x7FF),
  ro 10 0 0 0x080 "ROLE" .u32, ro 10 0 0 0x081 "PARTNER_ROLE" .u32, ro 10 0 0 0x082 "SYNC_TICKS" .u32,
  ro 10 0 0 0x083 "JOIN_STATE" .u32, ron 10 0 0 0x084 2 1 "PAIR_DELAY" .t, ro 10 0 0 0x086 "FAILOVERS" .u32,
  ro 10 0 0 0x087 "D_DIAM" .t, ro 10 0x100 0x107 0x080 "PORT_STATE" .u32, ro 10 0x100 0x107 0x081 "DELAY" .t,
  ron 10 0x200 0x200 0x080 16 1 "VIGIL" .u32, ron 10 0x200 0x200 0x090 16 1 "VIGIL_OWN" .u32]

/-- Tables 13-5 and 13-7 (SFI). -/
def rowsSfi : List Row := [
  r1 11 0 7 0x001 "FUNC" .u32 .halt (.nat 0 4) (.w 0),
  r1 11 0 7 0x002 "FILTER" .t .halt (.time (usQ 100) (usQ 1500) 655360000) (.i (usQ 500)),
  r1 11 0 7 0x003 "PAIR_WITH" .u32 .halt (.orNone 0 7) (.w noneV),
  r1 11 0 7 0x004 "DISC_T" .t .halt (.time (msQ 10) (msQ 500) 0) (.i (msQ 100)),
  r1 11 0 7 0x005 "PULSE_SRC" .u32 .halt (.orNone 0 7) (.w noneV),
  r1 11 0x100 0x107 0x001 "ROLE" .u32 .halt (.nat 0 3) (.w 0),
  r1 11 0x100 0x107 0x002 "OP_WIDTH" .t .halt (.time (usQ 100) (usQ 1000) 0) (.i (usQ 300)),
  r1 11 0x100 0x107 0x003 "OP_PERIOD" .t .halt (.time (msQ 50) (msQ 1000) 0) (.i (msQ 100)),
  r1 11 0x100 0x107 0x004 "DIRECT_SC" .u32 .halt (.nat 0 3) (.w 0),
  r1 11 0x200 0x203 0x001 "ENABLE" .u32 .halt bit01 (.w 0),
  r1 11 0x200 0x203 0x002 "TRANSPORT" .u32 .halt bit01 (.w 0),
  r1 11 0x200 0x203 0x003 "CONN_ID_IN" .u32 .halt (.nat 0 max32) (.w 0),
  r1 11 0x200 0x203 0x004 "CONN_ID_OUT" .u32 .halt (.nat 0 max32) (.w 0),
  r1 11 0x200 0x203 0x005 "WD_TIME" .t .halt (.time (msQ 5) (secQ 10) 0) (.i (msQ 50)),
  r1 11 0x200 0x203 0x006 "DEMAND_EN" .u32 .halt bit01 (.w 1),
  r1 11 0x200 0x203 0x007 "SC_TX_PERIOD" .t .halt (.time (msQ 1) (msQ 1000) 0) (.i (msQ 10)),
  r1 11 0x200 0x203 0x008 "SC_ADDR" .u32 .halt (.nat 0 max32) (.w 5310),
  r1 11 0x200 0x203 0x009 "SC_CAN" .u32 .halt (.nat 0 63) (.w 0),
  r1 11 0x300 0x300 0x001 "EMBER_EN" .u32 .halt bit01 (.w 1),
  r1 11 0x300 0x300 0x002 "T_EMBER" .u32 .halt (.nat 0 max32) (.w 86400),
  r1 11 0x300 0x300 0x003 "RESET_HOST_EN" .u32 .halt bit01 (.w 0),
  r1 11 0x300 0x300 0x004 "SUPPLY_TEST_EN" .u32 .halt bit01 (.w 1),
  r1 11 0x300 0x300 0x005 "SUPPLY_TEST_T" .t .halt (.time (msQ 1) (msQ 500) 0) (.i (msQ 50)),
  r1 11 0x300 0x300 0x006 "SUPPLY_TEST_MAX" .u32 .halt (.nat 3600 31536000) (.w 2592000),
  r1 11 0x300 0x300 0x007 "SC_CRC_MAX" .u32 .halt (.nat 1 1000) (.w 10),
  r1 11 0x300 0x300 0x010 "SAFE_CONFIRM" .u32 .cmd (.nat 0 max32) (.w 0),
  r1 11 0x300 0x300 0x011 "SGB_DEMAND" .u32 .cmd (.nat 1 1) (.w 0),
  r1 11 0x300 0x300 0x012 "SGB_RESET" .u32 .cmd (.nat 1 1) (.w 0),
  ro 11 0x300 0x300 0x080 "SGB_STATE" .u32, ro 11 0x300 0x300 0x081 "FIRST_CAUSE" .u32, ro 11 0x300 0x300 0x082 "SET_STATE" .u32,
  ro 11 0x300 0x300 0x083 "SAFE_CRC_EFF" .u32, ro 11 0x300 0x300 0x084 "SAFE_CRC_PENDING" .u32,
  ro 11 0x300 0x300 0x085 "EMBER_LEFT" .u32, ro 11 0x300 0x300 0x086 "EMBER_T_EFF" .u32, ro 11 0x300 0x300 0x087 "IO_LEVEL" .u32,
  ro 11 0x300 0x300 0x088 "SUPPLY_TEST_AGE" .u32, ro 11 0x200 0x203 0x080 "SC_STATE" .u32,
  ro 11 0x200 0x203 0x081 "SC_CRC_ERR" .u32, ro 11 0x200 0x203 0x082 "SC_GAPS" .u32]

/-- Tables 14-12 and 14-13 (HST). -/
def rowsHst : List Row := [
  r1 0x11 0 7 0x001 "ATTACH" .u32 .halt (.nat 0 3) (.dep 301),
  r1 0x11 0 7 0x002 "ATTACH_IDX" .u32 .halt (.nat 0 63) (.dep 302),
  r1 0x11 0 7 0x003 "PRIV" .u32 .halt (.nat 0 63) (.dep 303),
  r1 0x11 0 7 0x004 "UDP_PORT" .u32 .halt (.nat 1024 65535) (.inst 5300),
  r1 0x11 0 7 0x005 "UDP_PEER" .u32 .halt (.nat 0 max32) (.w 0),
  r1 0x11 0 7 0x006 "LEASE" .t .live (.time (secQ 1) (secQ 60) 0) (.i (secQ 10)),
  ro 0x11 0 7 0x080 "SESSION" .u32, ro 0x11 0 7 0x081 "VERSION" .u32, ro 0x11 0 7 0x082 "MESSAGES" .u32,
  ro 0x11 0 7 0x083 "REFUSED" .u32, ro 0x11 0 7 0x084 "LAST_STATUS" .u32,
  ro 0x11 0x100 0x100 0x080 "TOKEN_HOLDER" .u32, ro 0x11 0x100 0x100 0x081 "TOKEN_CHANGES" .u32]

/-- Tables 16-7 and 16-8 (LANE). -/
def rowsLane : List Row := [
  r1 14 0 63 0x001 "PROTO" .u32 .halt (.nat 0 5) (.w 0),
  r1 14 0 63 0x002 "TEST_RATE" .b32 .halt (.realOf [(5, 4), (5, 2), (25, 8), (5, 1), (25, 4), (165, 16)]) (.q 5 2),
  r1 14 0 63 0x003 "RX_EQ" .b32 .halt (.realStep 0 1 15 1 1 1) (.q 6 1),
  r1 14 0 63 0x004 "EQ_AUTO" .u32 .halt bit01 (.w 1),
  r1 14 0 63 0x005 "TX_SWING" .b32 .halt (.realStep 400 1 1000 1 100 1) (.q 800 1),
  r1 14 0 63 0x006 "TX_DEEMPH" .b32 .halt (.realStep 0 1 6 1 1 1) (.w 0),
  r1 14 0 63 0x007 "POL" .u32 .halt (.nat 0 3) (.w 0),
  r1 14 0 63 0x008 "LOOP" .u32 .cmd (.nat 0 3) (.w 0),
  r1 14 0 63 0x009 "PWR_REQ" .u32 .cmd (.nat 0 2) (.w 0),
  r1 14 0 63 0x00A "PRBS_GEN" .u32 .live (.nat 0 4) (.w 0),
  r1 14 0 63 0x00B "PRBS_CHK" .u32 .cmd (.nat 0 4) (.w 0),
  r1 14 0 63 0x00C "ERR_INJ" .u32 .cmd (.nat 0 max32) (.w 0),
  r1 14 0 63 0x00D "MARGIN_SCAN" .u32 .cmd (.nat 1 1) (.w 0),
  r1 14 0 63 0x010 "ETH_VID" .u32 .halt (.nat 0 0x7FFE) (.w 0),
  r1 14 0 63 0x011 "IP_ADDR" .u32 .halt (.nat 0 max32) (.w 0),
  r1 14 0 63 0x012 "IP_MASK" .u32 .halt (.nat 0 max32) (.w 0xFFFFFF00),
  r1 14 0 63 0x013 "IP_GW" .u32 .halt (.nat 0 max32) (.w 0),
  r1 14 0 63 0x014 "AN_EN" .u32 .halt bit01 (.w 1),
  r1 14 0x200 0x200 0x001 "WAKE_LANE" .u32 .halt (.orNone 0 63) (.w noneV),
  ro 14 0 63 0x080 "PSTATE" .u32, ro 14 0 63 0x081 "FLAGS" .u32, ro 14 0 63 0x082 "RX_EQ_EFF" .b32,
  ro 14 0 63 0x083 "PRBS_BITS" .u64, ro 14 0 63 0x084 "PRBS_ERRS" .u32, ro 14 0 63 0x085 "H_MARGIN" .u32,
  ro 14 0 63 0x086 "V_MARGIN" .b32, ro 14 0 63 0x087 "LOS_COUNT" .u32, ro 14 0 63 0x088 "ETH_DROP" .u32,
  ro 14 0x100 0x10F 0x080 "FAMILY" .u32, ro 14 0x100 0x10F 0x081 "LPLL_LOCK" .u32]

/-- Tables 17-7 and 17-8 (CLK). -/
def rowsClk : List Row := [
  r1 13 0 7 0x001 "ENABLE" .u32 .live bit01 (.w 0),
  r1 13 0 7 0x002 "FORMAT" .u32 .halt (.nat 0 2) (.w 0),
  r1 13 0 7 0x003 "SRC" .u32 .halt bit01 (.w 0),
  r1 13 0 7 0x004 "DIV" .u32 .live (.even 4 2048) (.w 128),
  r1 13 0 7 0x005 "TB_PERIOD" .t .live (.time (nsQ 10) (secQ 1) cycQ) (.i (nsQ 100)),
  r1 13 0 7 0x006 "SYNC_EN" .u32 .live bit01 (.w 1),
  r1 13 0x100 0x100 0x001 "N_INT" .u32 .live (.nat 100 140) (.w 128),
  r1 13 0x100 0x100 0x002 "N_FRAC" .u32 .live (.nat 0 0xFFFFFF) (.w 0),
  r1 13 0x100 0x100 0x003 "DITHER_EN" .u32 .live bit01 (.w 1),
  r1 13 0x100 0x100 0x004 "DITHER_SEED" .u32 .live (.nat 1 max32) (.w 1),
  r1 13 0x100 0x100 0x005 "STEER_TB" .u32 .live (.nat 0 4) (.w 0),
  r1 13 0x200 0x200 0x001 "REF_A_MODE" .u32 .halt (.nat 0 3) (.w 0),
  r1 13 0x200 0x200 0x002 "REF_B_MODE" .u32 .halt (.nat 0 3) (.w 0),
  r1 13 0x200 0x200 0x003 "LOCK_A_MASK" .u32 .live (.nat 0 31) (.w 0x1F),
  ro 13 0 7 0x080 "OUT_STATE" .u32, ro 13 0x100 0x100 0x080 "OPLL_VCO" .u64, ro 13 0x200 0x200 0x080 "LOCKS" .u32,
  ro 13 0x200 0x200 0x081 "REF_A_PPM" .s32, ro 13 0x200 0x200 0x082 "REF_B_PPM" .s32, ro 13 0x200 0x200 0x083 "SYNC_IGNORED" .u32]

/-- Tables 18-5 and 18-6 (CAN). -/
def rowsCan : List Row := [
  r1 12 0 3 0x001 "MODE" .u32 .live (.nat 0 2) (.w 0),
  r1 12 0 3 0x002 "FD_EN" .u32 .halt bit01 (.w 1),
  r1 12 0 3 0x003 "NBRP" .u32 .halt (.nat 1 32) (.w 2),
  r1 12 0 3 0x004 "NTSEG1" .u32 .halt (.nat 2 128) (.w 31),
  r1 12 0 3 0x005 "NTSEG2" .u32 .halt (.nat 1 64) (.w 8),
  r1 12 0 3 0x006 "NSJW" .u32 .halt (.nat 1 64) (.w 8),
  r1 12 0 3 0x007 "DBRP" .u32 .halt (.nat 1 8) (.w 2),
  r1 12 0 3 0x008 "DTSEG1" .u32 .halt (.nat 1 32) (.w 7),
  r1 12 0 3 0x009 "DTSEG2" .u32 .halt (.nat 1 16) (.w 2),
  r1 12 0 3 0x00A "DSJW" .u32 .halt (.nat 1 16) (.w 2),
  r1 12 0 3 0x00B "TDC_EN" .u32 .halt bit01 (.w 1),
  r1 12 0 3 0x00C "TDC_OFFSET" .u32 .halt (.nat 0 127) (.w 16),
  r1 12 0 3 0x00D "SAM" .u32 .halt bit01 (.w 0),
  r1 12 0 3 0x00E "TX_ORDER" .u32 .live bit01 (.w 0),
  r1 12 0 3 0x00F "RETRY" .u32 .live (.nat 0 16) (.w 3),
  r1 12 0 3 0x010 "BO_AUTO" .u32 .live bit01 (.w 1),
  r1 12 0 3 0x011 "RX_ROUTE" .u32 .live (.oneOf (0 :: (List.range 16).map (· + 0x10))) (.w 0),
  r1 12 0 3 0x012 "WAKE_FILTER" .u32 .live (.orNone 0 15) (.w noneV),
  r1 12 0 3 0x013 "AUTO_ARM" .u32 .live bit01 (.w 0),
  r1 12 0 3 0x014 "TX_REQ" .u32 .cmd (.nat 0 7) (.w 0),
  r1 12 0 3 0x015 "TX_ABORT" .u32 .cmd (.nat 0 7) (.w 0),
  r1 12 0 3 0x016 "CAN_RECOVER" .u32 .cmd (.nat 1 1) (.w 0),
  r1 12 0x100 0x13F 0x001 "F_ID" .u32 .live (.nat 0 max32) (.w 0),
  r1 12 0x100 0x13F 0x002 "F_MASK" .u32 .live (.nat 0 0x1FFFFFFF) (.w 0),
  r1 12 0x100 0x13F 0x003 "F_EN" .u32 .live bit01 (.w 0),
  r1 12 0x200 0x232 0x001 "TX_ID" .u32 .live (.nat 0 max32) (.w 0),
  r1 12 0x200 0x232 0x002 "TX_FLAGS" .u32 .live (.nat 0 7) (.w 0),
  r1 12 0x200 0x232 0x003 "TX_DLC" .u32 .live (.nat 0 15) (.w 0),
  rn 12 0x200 0x232 0x010 16 1 "TX_DATA" .u32 .live (.nat 0 max32) (.w 0),
  ro 12 0 3 0x080 "STATE" .u32, ro 12 0 3 0x081 "TEC" .u32, ro 12 0 3 0x082 "REC" .u32, ro 12 0 3 0x083 "RX_FILL" .u32,
  ro 12 0 3 0x084 "RX_LOST" .u32, ro 12 0 3 0x085 "BIT_ERRS" .u32, ro 12 0 3 0x086 "TDC_MEAS" .u32,
  ro 12 0x200 0x232 0x080 "TX_STATE" .u32, ro 12 0x200 0x232 0x081 "ATTEMPTS" .u32]

/-- Tables 19-8, 19-14 and 21-16 (SYS). -/
def rowsSys : List Row := [
  r1 15 0 0 0x001 "START_TARGET" .u32 .halt bit01 (.w 0),
  r1 15 0 0 0x002 "XM_MODE" .u32 .halt bit01 (.w 0),
  r1 15 0 0 0x003 "BOOT_SLOT" .u32 .halt bit01 (.w 0),
  r1 15 0 0 0x004 "WARM_EN" .u32 .halt bit01 (.w 1),
  r1 15 0 0 0x005 "QSPI_DIV" .u32 .halt (.nat 2 16) (.w 4),
  r1 15 0 0 0x006 "QSPI_MODE" .u32 .halt bit01 (.w 1),
  r1 15 0 0 0x007 "IO_BANK_V" .u32 .halt (.nat 0 0xFFFF) (.w 0),
  r1 15 0 0 0x008 "START_OK_T" .t .halt (.time (secQ 10) (secQ 600) 0) (.i (secQ 60)),
  r1 15 0 0 0x009 "BLOCKN_IDLE" .u32 .halt bit01 (.w 0),
  r1 15 0 0 0x010 "BLOCK_RESET" .u32 .cmd (.nat 0 max32) (.w 0),
  r1 15 0 0 0x011 "BLK_IDLE_T" .t .live (.time (usQ 10) (msQ 10) 0) (.i (usQ 100)),
  r1 15 0 0 0x012 "START_CLEAR" .u32 .cmd (.nat 1 1) (.w 0),
  rn 15 0 0 0x020 64 1 "KEEP_RET" .u32 .live (.nat 0 max32) (.w 0),
  ro 15 0 0 0x080 "START_KIND" .u32, ro 15 0 0 0x081 "RESET_CAUSE" .u32, ro 15 0 0 0x082 "ACTIVE_SLOT" .u32,
  ro 15 0 0 0x083 "ATTEMPTS" .u32, ro 15 0 0 0x084 "POWER_CYCLES" .u32, ro 15 0 0 0x085 "START_TIME" .t,
  ro 15 0 0 0x086 "PAT_CUR" .u32, ro 15 0 0 0x087 "PAT_PREV" .u32, ro 15 0 0 0x088 "PAT_STATE" .u32,
  ro 15 0 0 0x089 "TRIAL_LEFT" .t, ro 15 0 0 0x08A "PAT_HIGH" .u32, ro 15 0 0 0x08B "OPTION_COPY" .u32,
  ro 15 0 0 0x08C "BIST_STATE" .u32, ro 15 0 0 0x090 "BANK_V" .u32, ro 15 0 0 0x091 "RAIL_OK" .u32, ro 15 0 0 0x092 "T_J" .s32]

/-- Table 20-9 (SEC). -/
def rowsSec : List Row := [
  r1 16 0 1 0x001 "TAMPER_EN" .u32 .live bit01 (.w 0),
  r1 16 0 1 0x002 "TAMPER_ACT" .u32 .live (.nat 0 2) (.w 0),
  ro 16 0x100 0x100 0x080 "LIFECYCLE" .u32, ro 16 0x100 0x100 0x081 "TAMPER_LATCH" .u32, ro 16 0x100 0x100 0x082 "TAMPER_COUNT" .u32,
  ro 16 0x100 0x100 0x083 "OWNER_KEY_ID" .u64, ron 16 0x100 0x100 0x090 32 1 "CTR" .u32]

/-- The rows of a unit. -/
def rowsOf : Nat → List Row
  | 1 => rowsGfe | 2 => rowsLpe | 3 => rowsMod | 4 => rowsSpu | 5 => rowsPlk | 6 => rowsAlm | 7 => rowsBsd | 8 => rowsAdc
  | 9 => rowsRec | 10 => rowsRdn | 11 => rowsSfi | 12 => rowsCan | 13 => rowsClk | 14 => rowsLane | 15 => rowsSys
  | 16 => rowsSec | 17 => rowsHst | _ => []

/-- The parts of a parameter ID: UNIT[31:24] | INSTANCE[23:12] | FIELD[11:0] (spec/00_scope.md). -/
def idUnit (id : Nat) : Nat := id / 2 ^ 24 % 256
def idInst (id : Nat) : Nat := id / 4096 % 4096
def idField (id : Nat) : Nat := id % 4096
def mkId (unit inst field : Nat) : Nat := unit * 2 ^ 24 + inst * 4096 + field

def Row.covers (r : Row) (inst field : Nat) : Bool :=
  decide (r.i0 ≤ inst) && decide (inst ≤ r.i1) && decide (r.f0 ≤ field) && (field - r.f0) % r.fs == 0
    && decide ((field - r.f0) / r.fs < r.fn)

/-- The instances of CAN transmit buffers are 0x200 + 0x10 n + b with b = 0..2 (Table 18-5). -/
def instExists (unit inst : Nat) : Bool := !(unit == 12 && inst ≥ 0x200 && inst % 16 > 2)

/-- The row of a parameter ID, if the manual defines one. -/
def rowOf (id : Nat) : Option Row :=
  if id < 2 ^ 32 && instExists (idUnit id) (idInst id) then
    (rowsOf (idUnit id)).find? (fun r => r.covers (idInst id) (idField id))
  else none

end Sys2Proof.Machine
end

