-- ==== Sys2Proof/Machine/Parts.lean ====
section
/-! DEFINITION. The parts of the state: the registers, FIFOs, buffers, counters and modes of each unit of the GW8256, as plain
data. Times of TB[0] are in 2^-16 ns (`q`) unless a field says steps of 62.5 ps. -/
namespace Sys2Proof.Machine

/-- Device states (Table 1-3). -/
inductive Dev where
  | off | shelf | boot | parked | armed | run | blocked | fallback
deriving DecidableEq, Repr

/-! Almanac (spec/02_almanac_time.md). -/

/-- Timebase states, Table 2-2. -/
inductive TbSt where
  | free | acquiring | locked | holdover | slewing | steering
deriving DecidableEq, Repr

/-- One timebase TB[k] (R33 to R50). -/
structure Tb where
  /-- The reading since the PTP epoch in 2^-56 ns (2^-40 of R36's unit). -/
  acc : Nat := 0
  st : TbSt := .free
  leapt : Bool := false
  leaps : Nat := 0
  /-- R_E, the rate estimate, in 2^-40. -/
  rateE : Int := 0
  /-- The slew part in force, in 2^-40. -/
  slew : Int := 0
  /-- The phase the slew part is still to add since the last update, magnitude, in 2^-56 ns. -/
  slewLeft : Nat := 0
  /-- The phase the slew part added since the last update, signed, in 2^-56 ns (S of R46). -/
  slewSum : Int := 0
  /-- o_k, the last measured offset, in 2^-16 ns. -/
  off : Int := 0
  /-- The reading at the last update, in 2^-56 ns. -/
  lastUpd : Nat := 0
  /-- The next update takes d_k as 0 (R46). -/
  fresh : Bool := true
  /-- Acquisition measurements collected, newest first (R41). -/
  meas : List Int := []
  /-- Consecutive updates with the offset below LOCK_THRESH (Table 2-2). -/
  below : Nat := 0
  /-- Applied rates and the readings (2^-56 ns) from which they held, newest first (R47). -/
  hist : List (Nat × Int) := []
  /-- The HOLDOVER in force began in STEERING (R48). -/
  holdSteer : Bool := false
  /-- The reading at entry to HOLDOVER (R49, 0x4112), in 2^-56 ns. -/
  holdAt : Nat := 0
  /-- The reading at entry to SLEWING or STEERING (R49, 0x4113), in 2^-56 ns. -/
  slewAt : Nat := 0
deriving DecidableEq, Repr

/-- One entry of the launch table (R63). -/
structure Launch where
  tb : Nat
  t : Nat
  action : Nat
  arg : Nat
  part : Nat
deriving DecidableEq, Repr

/-- A master heard on a lane: its data set, the reading of TB[k] at its last Announce and at the one before (R52). -/
structure PtpForeign where
  lane : Nat
  ds : PtpDs
  last : Nat
  prev : Option Nat := none
deriving DecidableEq, Repr

/-- One PTP instance (R52 to R56): the masters heard, the states of its ports, the sides of the exchanges in progress. -/
structure Ptp where
  slaveLane : Option Nat := none
  foreign : List PtpForeign := []
  /-- Lanes whose port is PASSIVE. -/
  passive : List Nat := []
  /-- Receive stamp and sequence of a two-step Sync awaiting its Follow_Up. -/
  syncRx : Option (Nat × Int) := none
  /-- Sequence and transmit stamp of the delay request in flight, and the responder's receive stamp so far. -/
  reqTx : Option (Nat × Int) := none
  respT2 : Option (Nat × Int × Int) := none
  /-- Mean path delay, 2^-16 ns. -/
  delay : Option Int := none
  /-- The last t2 − t1 − correction of a Sync, for delay request-response. -/
  ms : Option Int := none
  seq : Nat := 0
deriving DecidableEq, Repr

/-- The Almanac. -/
structure Alm where
  tb : Vector Tb 4 := Vector.replicate 4 {}
  /-- TPLL steps elapsed and not yet counted while the resolution is 40 ns (R28), 0 to 639. -/
  coarseRem : Nat := 0
  coarse : Bool := false
  /-- The Almanac domain is released and its timebases advance (R40). -/
  running : Bool := false
  launch : Tab Launch := []
  ppsOut : Bool := false
  /-- The pulse of PPS_OUT in progress: its timebase and the reading at which it falls. -/
  ppsEnd : Nat × Nat := (0, 0)
  trigOut : Nat := 0
  /-- TRIG_OUT pulses in progress: pin and the TB time of the falling edge. -/
  pulses : List (Nat × Nat × Nat) := []
  /-- The planes of the last hardware timestamp (R57), in 2^-16 ns. -/
  stamp : List Nat := []
  todSet : Bool := false
  ptp : Vector Ptp 3 := Vector.replicate 3 {}
  /-- T_tick, W and the tick origin in force (R51), in 2^-16 ns; F follows the pair setting (R13). -/
  period : Nat := 655360000
  phaseW : Nat := 131072000
  origin : Nat := 0
  lcmd : Nat := 262144000
  /-- The tick instants that have been executed: the TICK count of the last one. -/
  tick : Int := 0
  /-- How far the schedule of that tick has come: 1 its tick instant, 2 F, 3 W, 4 W + 150 ns. -/
  stage : Nat := 3
  /-- The ACQ_WAIT of BOOT has ended (R45). -/
  acqDone : Bool := false
deriving DecidableEq, Repr

/-! Host partitions (spec/14_host_partitions.md) and stream queues (spec/15_stream_queues.md). -/

/-- A message in a request buffer or datagram (Table 14-5). -/
structure Msg where
  maj : Nat
  min : Nat
  opcode : Nat
  tag : Nat
  payload : List Word
deriving DecidableEq, Repr

/-- A response. -/
structure Resp where
  status : Nat := 0
  tag : Nat := 0
  opcode : Nat := 0
  more : Bool := false
  saturated : Bool := false
  payload : List Word := []
deriving DecidableEq, Repr

/-- An event-log record (Table 8-8, Table 15-2). -/
structure LogRec where
  seq : Nat := 0
  sec : Nat := 0
  ns : Nat := 0
  code : Nat := 0
  kind : Nat := 0
  index : Nat := 0
  reactCfg : Nat := 0
  reactApplied : Nat := 0
  reactDevice : Nat := 0
  firstOut : Bool := false
  escalated : Bool := false
  cleared : Bool := false
  auto : Bool := false
  reps : Nat := 0
  data0 : Nat := 0
  data1 : Nat := 0
  tick : Nat := 0
deriving DecidableEq, Repr

/-- What waits for SQ[0] in the event log's own buffer: a record, or the first and last LOG_SEQ of those skipped (R413). -/
inductive LogItem where
  | record (r : LogRec)
  | gap (first last : Nat)
deriving DecidableEq, Repr

/-- One partition HP[p]. -/
structure Hp where
  session : Bool := false
  version : Nat := 0
  messages : Nat := 0
  refusedN : Nat := 0
  lastStatus : Nat := 0
  reqBusy : Bool := false
  rspReady : Bool := false
  overrun : Bool := false
  irqStat : BitVec 4 := 0
  irqEn : BitVec 4 := 0
  /-- Request buffer words written (0x2000 + 4i). -/
  reqBuf : Tab Word := []
  /-- Response buffer (0x3000). -/
  rsp : List Word := []
  /-- The message whose doorbell rang: executing, or held while RSP_READY (R396). -/
  msg : Option Msg := none
  held : Bool := false
  /-- The bytes of the last doorbell. -/
  reqLen : Nat := 0
  /-- Datagrams that wait behind that message (R407). -/
  behind : List Msg := []
  /-- The executing request's response is to be discarded (ABORT, HELLO; R396, Table 14-10). -/
  drop : Bool := false
  /-- Last UDP request executed and its response (R400). -/
  lastTag : Option Nat := none
  lastRsp : Resp := {}
  /-- TB[0] time of the last message, q (R392). -/
  lastMsg : Nat := 0
  /-- Read-holding registers of the four TIME blocks (R66), eight words each. -/
  timeSnap : Tab (List Word) := []
  /-- Read-holding registers of LV_LO (R309). -/
  lvSnap : Tab Word := []
  /-- Held tagged-queue entry of the owner (R308). -/
  tqHold : Option (BitVec 64) := none
  sqSel : Nat := 0
  sqIrqSum : BitVec 16 := 0
  /-- Attestation report held (spec/20_security.md R520). -/
  report : List Byte := []
deriving DecidableEq, Repr

/-- A staged packet of a stream queue (Table 15-3). -/
structure Packet where
  producer : Nat
  pseq : Nat
  poison : Bool
  words : List Word
deriving DecidableEq, Repr

/-- One stream queue SQ[q] (Table 15-5). -/
structure Sq where
  owner : Nat := 15
  enable : Bool := false
  wpoison : Bool := false
  advErr : Bool := false
  dma : Bool := false
  ringBase : Nat := 0
  ringLog2 : Nat := 12
  hostRd : Nat := 0
  devWr : Nat := 0
  wbAddr : Nat := 0
  irqBytes : Nat := 0x1000
  irqTime : Nat := 0x3E8
  packets : Nat := 0
  poisoned : Nat := 0
  discarded : Nat := 0
  pseq : Nat := 0
  /-- Staged packets, oldest first; in window mode the first `vis` of them are visible. -/
  staged : List Packet := []
  vis : Nat := 0
  /-- Packet boundaries in the host ring between HOST_RD and DEV_WR (R418). -/
  bounds : List Nat := []
  /-- Visible bytes not yet signalled, and the TB[0] time of the first of them (R420). -/
  unsig : Nat := 0
  unsigAt : Nat := 0
deriving DecidableEq, Repr

/-- The engine side of the host unit. -/
structure Hst where
  hp : Vector Hp 8 := Vector.replicate 8 {}
  /-- Token holder, 15 when none (R391). -/
  token : Nat := 15
  tokenChanges : Nat := 0
  tokenAt : Nat := 0
  /-- Staged sets by number (R405). -/
  staged : Tab (List (Nat × Wire)) := []
  /-- Messages waiting in doorbell order: partition numbers (R407). -/
  order : List Nat := []
  /-- LOG_SEQ of the newest event-log record (EVT_SEQ). -/
  evtSeq : Nat := 0
  sq : Vector Sq 16 := Vector.replicate 16 {}
  /-- The event log's own buffer of at most 256 records waiting for SQ[0] (R413), oldest first, and the first and last LOG_SEQ skipped
  since it was full. -/
  logHold : List LogItem := []
  gap : Option (Nat × Nat) := none
deriving DecidableEq, Repr

/-! Grid-forming engine (spec/03_grid_forming_engine.md, spec/04_grid_events.md). -/

/-- Modes, Table 3-5. -/
inductive Mode where
  | idle | energize | sync | form | ride | island | stop
deriving DecidableEq, Repr

/-- binary64(1.0). -/
def one64 : F64 := 0x3FF0000000000000

/-- The loss handling of one source of an instance or one input of a slot (R158). -/
structure Loss where
  /-- Consecutive ticks the input has been invalid. -/
  cnt : Nat := 0
  /-- Last valid value (three words for a triple). -/
  last : List Word := []
  alt : Bool := false
  /-- The valid flag of the primary fixed at F of the last completed tick (R159), and that of the tick in progress. -/
  priOk : Bool := true
  priNow : Bool := true
  lost : Bool := false
  /-- policy 2: loss is certain at cnt = T_HOLD even if the input returns (R158). -/
  doomed : Nat := 0
deriving DecidableEq, Repr

/-- One instance GFI[k]. -/
structure Gfi where
  theta : BitVec 64 := 0
  /-- θ at the last tick instant (THETA of Table 3-5). -/
  thetaAt : BitVec 64 := 0
  thetaG : BitVec 64 := 0
  thetaOut : BitVec 64 := 0
  phiV : BitVec 64 := 0
  phiI : BitVec 64 := 0
  omega : F64 := one64
  omegaG : F64 := one64
  omegaGPrev : F64 := one64
  wi : F64 := one64
  qf : F64 := 0
  pr : F64 := 0
  qr : F64 := 0
  vr : F64 := 0
  fr : F64 := one64
  pCorr : F64 := 0
  rvE : F64 := 0
  xvE : F64 := 0
  /-- x_f, u_i, y, e_ri, e_r, δ (R107, R113, R114, R120, R125). -/
  xf : F64 := 0
  ui : F64 := 0
  ysy : F64 := 0
  eri : F64 := 0
  er : F64 := 0
  delta : F64 := 0
  emf : F64 := 0
  pe : F64 := 0
  qe : F64 := 0
  mag : F64 := 0
  im : F64 := 0
  rocof : F64 := 0
  thetaPr : BitVec 64 := 0
  svr : F64 := 0
  svi : F64 := 0
  sir : F64 := 0
  sii : F64 := 0
  count : Nat := 0
  /-- Scheduled XV_S and D_S in force, and those waiting for the next cycle boundary (R131). -/
  xvS : Option F64 := none
  dS : Option F64 := none
  schedNext : Option (F64 × F64) := none
  scrEst : F64 := 0
  /-- The device was in RUN at the last tick instant (R105). -/
  ran : Bool := false
  /-- The status fields 0x080 to 0x08C as taken at the end of the last slot, and those of the last completed tick (R100). -/
  snap : List Wire := []
  stat : List Wire := []
  /-- Ticks since SCR_EST was updated; none before the first. -/
  scrTicks : Option Nat := none
  scrValid : Bool := false
  mode : Mode := .idle
  /-- TICK from which the mode is in force. -/
  since : Int := 0
  /-- The transition decided at the end of the last tick, with its cause (R103). -/
  next : Option (Mode × Nat) := none
  rideFrom : Mode := .form
  vEn : F64 := 0
  pSp : F64 := 0
  qSp : F64 := 0
  deadPrev : Bool := false
  exitCnt : Nat := 0
  lowCnt : Nat := 0
  hardCnt : Nat := 0
  syncCnt : Nat := 0
  rocofClr : Nat := 0
  jumpClr : Nat := 0
  trkLow : Nat := 0
  trkOk : Nat := 0
  clampRun : Bool := false
  jumpRun : Bool := false
  rocofRun : Bool := false
  /-- ω stayed inside its limits since the last cycle boundary (0x5102). -/
  freqOk : Bool := false
  reqRefused : Bool := false
  reqHeld : Bool := false
  syncWait : Bool := false
  syncOk : Bool := false
  hard : Bool := false
  hold : Bool := false
  probeOn : Bool := false
  jump : Bool := false
  trkHeld : Bool := false
  /-- A request is waiting for evaluation (R110, R111), and MODE_REQ as the instance holds it. -/
  reqNew : Bool := false
  /-- GFE cycle boundary found at step 28 of the last tick. -/
  cycle : Bool := false
  /-- Signals of Table 3-3 in row order, 19 words. -/
  sig : List Word := List.replicate 19 0
  limit : Word := 0
  lossV : Loss := {}
  lossI : Loss := {}
  /-- GFE sinks' override of P_SET, Q_SET, V_SET, F_SET (R153). -/
  ovr : List (Option F64) := [none, none, none, none]
deriving DecidableEq, Repr

/-! Loop engine (spec/05_loop_engine.md). -/

/-- State words and outputs of one block; the layout of `st` follows the block type (R142 ff.). -/
structure Blk where
  st : List Word := []
  out : List Word := [0, 0, 0, 0]
deriving DecidableEq, Repr

/-- A request a sink presents at W (Table 5-5, R166). -/
inductive Req where
  | off
  | val (v : Word)
deriving DecidableEq, Repr

structure Slot where
  holdCount : Nat := 0
  sinkClamps : Nat := 0
  /-- Loss handling per primary signal number. -/
  inp : Tab Loss := []
  /-- The slot ran with its gate 1 in the last tick. -/
  ran : Bool := false
  /-- STATE as of the tick in progress, and that of the last completed tick (Table 5-8). -/
  state : Nat := 0
  shown : Nat := 0
deriving DecidableEq, Repr

structure Lpe where
  slot : Tab Slot := []
  /-- Blocks by 32 s + b. -/
  blk : Tab Blk := []
  /-- Their outputs 0 at the end of the last completed tick (R146). -/
  outs : Tab Word := []
  /-- The compiled schedule: blocks in order of evaluation (R139). -/
  sched : List (Nat × Nat) := []
  /-- Where the schedule places each block: processor and end (R139). -/
  place : List (Nat × Nat) := []
  lcyc : Nat := 0
  schedStart : Nat := 0
  schedEnd : Nat := 0
  slack : Int := 0
  /-- Requests of the tick, by channel, and by string at 256 + s. -/
  req : Tab Req := []
  /-- Signal values and valid flags latched at F of the tick (R13). -/
  latched : Tab (Word × Bool) := []
deriving DecidableEq, Repr

/-! Modulator (spec/06_modulator.md). Instants are TB[0] counts of 62.5 ps steps. -/

/-- The switches of a half-bridge: on or off, the execute times of their last turn-offs, and the
instants of turn-ons not yet due. -/
structure Phys where
  h : Bool := false
  l : Bool := false
  offH : Option Nat := none
  offL : Option Nat := none
  onH : Option Nat := none
  onL : Option Nat := none
deriving DecidableEq, Repr

/-- One channel CH[c]. -/
structure Chan where
  /-- The commanded output at the end of the last dispatched window, and at its start. -/
  ph : Phys := {}
  ph0 : Phys := {}
  /-- The mode's own output with its dead times (rule 4 of R184). -/
  ml : Phys := {}
  /-- The mode's output over the last dispatched window: instant, H, L, DEADTIME in force. -/
  line : List (Nat × Bool × Bool × Nat) := []
  line0 : Bool × Bool × Nat := (false, false, 0)
  /-- The carrier period in progress: its start, off instant (none: no turn-off) and length (R176, R177). -/
  per : Option (Nat × Option Nat × Nat) := none
  /-- H is commanded on to the end of the period (w_e = N_P, R176). -/
  full : Bool := false
  mid : Option Nat := none
  nxt : Option Nat := none
  carry : Int := 0
  suppressed : Nat := 0
  clamps : Nat := 0
  dutyClamps : Nat := 0
  edgeId : Nat := 0
  /-- PHASE in force (R174). -/
  phase : Nat := 0
  prevReq : Option Req := none
  /-- The channel rejoins its mode at its first decision (R188), from window `resume` on (R259). -/
  wait : Bool := false
  resume : Option Int := none
  /-- `wait` at the start of the last dispatched window, and the levels a waiting channel stands at until that decision (R188). -/
  wait0 : Bool := false
  base : Bool × Bool := (false, false)
  /-- First decision of the last dispatched window. -/
  first : Option Nat := none
  /-- The partition that wrote FORCE (none: the pattern); and, until T_f of the last write, that T_f and the value and
  writer before it, oldest first (R183, R185). -/
  forceBy : Option Nat := none
  forceOld : List (Nat × Nat × Option Nat) := []
  clampRun : Bool := false
  clampRun0 : Bool := false
  /-- Clamped intervals begun in the last dispatched window: instant and the partition charged. -/
  clampLog : List (Nat × Option Nat) := []
  /-- Covered by a reaction or a safe level throughout the last dispatched window. -/
  covered : Bool := false
deriving DecidableEq, Repr

/-- One carrier: the period in force and ORIGIN_EFF (R173). -/
structure Car where
  period : Nat := 1600000
  origin : Nat := 0
  /-- Period and origin before the change at `origin`: starts before it are theirs. -/
  old : Option (Nat × Nat) := none
deriving DecidableEq, Repr

/-- One string (R189 to R194). -/
structure Str where
  dir : Int := 1
  inserted : Nat := 0
  avail : Nat := 0
  short : Nat := 0
  changes : Nat := 0
  /-- Free cells of the tick with their keys (R192), in rank order. -/
  ranked : List Nat := []
  prevLevel : Option Req := none
deriving DecidableEq, Repr

/-- An edge record (Table 7-6) between dispatch and framing. -/
structure Edge where
  ch : Nat
  high : Bool
  on : Bool
  fclr : Bool
  id : Nat
  exec : Nat
  release : Nat
deriving DecidableEq, Repr

/-- What Table 6-5 shows of a channel: STATE and the counters, CARRY in steps. -/
structure ChanStat where
  st : Nat := 0
  suppressed : Nat := 0
  clamps : Nat := 0
  carry : Int := 0
  dutyClamps : Nat := 0
deriving DecidableEq, Repr

/-- A snapshot of the status fields of Table 6-5 (R196). -/
structure ModStat where
  ch : Tab ChanStat := []
  /-- ORIGIN_EFF by carrier, in steps. -/
  origin : Tab Nat := []
  str : Vector Str 8 := Vector.replicate 8 {}
  latch : BitVec 4 := 0
  clampsHp : Vector Nat 8 := Vector.replicate 8 0
  clampsNone : Nat := 0
deriving DecidableEq, Repr

structure Modr where
  ch : Tab Chan := []
  car : Tab Car := []
  str : Vector Str 8 := Vector.replicate 8 {}
  /-- Cells inserted, by channel. -/
  ins : Tab Bool := []
  cellChange : Tab Nat := []
  latch : BitVec 4 := 0
  /-- Decision time of each set latch, q (R345). -/
  latchAt : List Nat := [0, 0, 0, 0]
  clampsHp : Vector Nat 8 := Vector.replicate 8 0
  clampsNone : Nat := 0
  /-- The last dispatched window: its tick, start and end, in steps. -/
  win : Option (Int × Nat × Nat) := none
  /-- Records formed and not yet released (R169), in hand-over order. -/
  unrel : List Edge := []
  /-- FAULT_IN latches cleared since the last dispatch: channels that owe a RELEASE (R188). -/
  relOwed : List Nat := []
  /-- Channels of ports that became READY in RUN since the last tick instant: they owe a RELEASE from the next (R230). -/
  relNext : List Nat := []
  /-- The snapshot at the end of dispatch of the tick in progress, and the one that shows: that of the last completed tick (R196). -/
  snap : ModStat := {}
  stat : ModStat := {}
deriving DecidableEq, Repr

/-! Switch protection (spec/08_switch_protection.md). -/

/-- A held fault: its record, decision time (q), scope and the groups its reaction covers. -/
structure Held where
  lr : LogRec
  time : Nat
  /-- Channels of the scope (R242). -/
  scope : List Nat
  /-- Channels covered by the applied reaction when it is LEG_OPEN or GROUP_BLOCK. -/
  cover : List Nat
  /-- An automatic clearing attempt has been made and waits for its TEL frame: the record's EXEC (R257). -/
  trying : Option Nat := none
  /-- The condition of the "Clears when" column holds (R256). -/
  ok : Bool := false
  /-- A FAULT_CLEAR waits for the satellite's answer. -/
  clearing : Bool := false
  /-- In a pair: the first tick whose snapshot contains a frame that reports this satellite fault (R345). -/
  entered : Option Int := none
deriving DecidableEq, Repr

/-- Sweep and self-test progress of one satellite (R265, R267): port, hop, position, step. -/
structure Sweep where
  port : Nat
  hop : Nat
  pos : Nat
  /-- 0 RAIL test, 1 RAIL result, 2 LOAD test, 3 LOAD result, 4 self-test, 5 self-test result, 6 done. -/
  step : Nat := 0
  /-- SWEEP_RAIL of the position as read. -/
  rail : Word := 0xFFFFFFFF
  aborted : Bool := false
  /-- TB[0] time (q) of the answer to the last SWEEP or SELFTEST: the wait runs from there. -/
  askedAt : Nat := 0
  /-- Positions that a reaction has covered since the diagnostics began (Table 8-4). -/
  hit : List Nat := []
deriving DecidableEq, Repr

structure Spu where
  held : List Held := []
  logSeq : Nat := 0
  /-- Faults found at one instant, before they are raised in the order of R255: code, KIND, index, DATA0. -/
  due : List (Nat × Nat × Nat × Nat) := []
  /-- The MRAM ring, newest first, at most 4096 (R268). -/
  log : List LogRec := []
  foCur : List LogRec := []
  foPrev : List LogRec := []
  /-- LEG_OPEN decisions of the escalation window: time (q) and scope (R254). -/
  decisions : List (Nat × List Nat) := []
  /-- Automatic clearing attempts per channel: times in q, newest first (R258). -/
  attempts : Tab (List Nat) := []
  sweepRes : Tab Nat := []
  guardRes : Tab Nat := []
  prestart : Nat := 0
  sweeps : List Sweep := []
  /-- BLOCK_N: driven by this device, seen low, and the TB[0] times (q) that bound the pulse and the quiet time (R260). -/
  blockNLow : Bool := true
  /-- The wire's level at the ball as last seen. -/
  wireLow : Bool := true
  /-- The planes of the wire's last falling edge (R57, R261). -/
  fallStamp : List Nat := []
  /-- The PEER_GLOBAL_BLOCK pulse drives the wire until this time. -/
  pulseEnd : Option Nat := none
  quietEnd : Option Nat := none
  /-- The wire has been high since (q). -/
  highSince : Nat := 0
  /-- The SPU's own record of the switches from the records it has passed (R248). -/
  sw : Tab Phys := []
  /-- The partition whose FAULT_CLEAR waits for satellites, and the first fault refused so far (R259, Table 14-9). -/
  clearBy : Option (Nat × Option (Nat × Nat)) := none
  /-- The evaluation-run flags of conditions named by (code, instance) that held at their last evaluation (R253). -/
  runs : List (Nat × Nat) := []
deriving DecidableEq, Repr

/-! Bitstream inputs (spec/09_bitstream_inputs.md). Times are TB[0] steps of 62.5 ps. -/

/-- One input SDIN[n]. -/
structure SdIn where
  /-- The N integrators and N comb registers, 38 bits each (R276). -/
  integ : List Nat := [0, 0, 0, 0]
  comb : List Nat := [0, 0, 0, 0]
  /-- Bits of the block in hand, and blocks ended since the last reset. -/
  bits : Nat := 0
  blocks : Nat := 0
  /-- The newest S_j (at most 64), y_j and τ_j (at most 80), newest first. -/
  ss : List Int := []
  ys : List Int := []
  taus : List Nat := []
  satN : Nat := 0
  /-- The value delivered for the tick, p of the last tick, and the valid flag. -/
  val : Word := 0
  phase : Nat := 0
  ok : Bool := false
  /-- The bit held and how long it has been held, in clock periods. -/
  last : Bool := false
  run : Nat := 0
  runMax : Nat := 0
  stuck : Bool := false
  /-- The last instant at which a detector of the input was active, and its last reset (R290). -/
  badAt : Option Nat := none
  resetAt : Option Nat := none
  /-- The last decision of the fast comparator (R285). -/
  fastOut : Bool := false
  /-- The fast filter: the bits its newest output covers, newest first (R284); those BSD_FAST_DECISION brought before their sampling edges;
  consecutive outputs outside the band and inside the inner one (R285). -/
  fast : List Bool := []
  ahead : Nat := 0
  nOut : Nat := 0
  nIn : Nat := 0
deriving DecidableEq, Repr

/-- One clock group. -/
structure SdGrp where
  noClk : Bool := false
  /-- A decimator reset waits for the first rising edge at or after this instant (R287). -/
  resetDue : Option Nat := none
deriving DecidableEq, Repr

/-- The pin SDCLK[g] (R271, R272): an input, held low, or driven with rising edges at origin + k × period, in steps. -/
inductive SdClk where
  | input
  | low
  | clock (origin period : Nat)
deriving DecidableEq, Repr

/-- What Table 9-6 shows of an input. -/
structure SdStat where
  flags : Nat := 0
  delay : Int := 0
  phase : Nat := 0
  sat : Nat := 0
  runMax : Nat := 0
deriving DecidableEq, Repr

/-- A snapshot of the status fields of Table 9-6 (R293). -/
structure BsdStat where
  inp : Tab SdStat := []
  tD : List Nat := []
  syncCount : Nat := 0
  syncIgnored : Nat := 0
deriving DecidableEq, Repr

structure Bsd where
  inp : Tab SdIn := []
  grp : Vector SdGrp 6 := Vector.replicate 6 {}
  /-- Groups that the pattern in force sets to OUT, and the clock pins. -/
  patOut : BitVec 6 := 0
  sdclk : Vector SdClk 6 := Vector.replicate 6 .input
  /-- The snapshot at F of the tick in progress, and the one that shows: that of the last completed tick. -/
  snap : BsdStat := {}
  stat : BsdStat := {}
  syncCount : Nat := 0
  syncIgnored : Nat := 0
deriving DecidableEq, Repr

/-! On-chip converters (spec/10_analog_inputs.md). -/

/-- One physical slice PS[s]: its corrections, none before its first calibration (R295), and its checks (R300). -/
structure Slice where
  corr : Option (Int × Int) := none
  passed : Bool := false
  fails : Nat := 0
deriving DecidableEq, Repr

/-- One input AIN[n]. -/
structure AdcIn where
  code : Int := 0
  /-- The latest-value pair, high word over low word (Table 10-3). -/
  lv : BitVec 64 := 0
  /-- The tick sample: code, valid flag and slice. -/
  tick : Int := 0
  tickOk : Bool := false
  tickPs : Nat := 0
  /-- Consecutive conversions outside the band, and inside the inner band (R302). -/
  nOut : Nat := 0
  nIn : Nat := 0
  isOut : Bool := false
  outCount : Nat := 0
  /-- First code of the freeze run and its length (R305). -/
  frz : Int := 0
  frzN : Nat := 0
  implaus : Bool := false
  valid : Bool := false
  /-- Consecutive ticks with and without a difference from the forwarded code (R311). -/
  pairBad : Nat := 0
  pairGood : Nat := 0
deriving DecidableEq, Repr

structure Adc where
  inp : Tab AdcIn := []
  slice : Tab Slice := []
  phys : List Nat := [0, 1, 2, 3, 4, 5, 6, 7]
  free : Nat := 8
  retired : Nat := 0
  steps : Nat := 0
  /-- Rotation step number i of the next step (R299). -/
  stepNo : Nat := 0
  shadowing : Bool := false
  shSum : Int := 0
  shN : Nat := 0
  /-- The tick of each position's last conversion and the first slot after it; the tick of the last rotation step (R297, R299). -/
  slots : List (Option (Int × Nat)) := List.replicate 8 none
  stepTick : Option Int := none
  /-- The input each position converted last by its scan (R297). -/
  ptr : List Nat := [24, 25, 26, 27, 28, 29, 30, 31]
  /-- Tagged queue, oldest first (R307), and the marks of dropped entries. -/
  tq : List (BitVec 64) := []
  /-- The tick in which each of these entries came (Table 15-1). -/
  tqTick : List Int := []
  tqLost : Nat := 0
  lostMark : Bool := false
deriving DecidableEq, Repr

/-! PlynLink (spec/07_plynlink.md). -/

/-- LINK_STATE of Table 7-16. -/
inductive LinkSt where
  | off | lock | hello | config | delay | replica | ready | refused | down
deriving DecidableEq, Repr

/-- A CFG or DIAG request outstanding or waiting (R225). -/
structure CfgReq where
  hop : Nat
  seq : Nat
  diag : Bool
  op : Nat
  addr : Nat
  data : Nat
  sent : Bool := false
  tries : Nat := 0
  /-- TB[0] time (q) at which it was last handed to the transmitter. -/
  at_ : Nat := 0
  /-- What the response belongs to: 0 training, 1 FAULT_CLEAR, 2 sweep, 3 guard self-test, 4 DEADTIME, 5 telemetry set-up and
  clears after the supply-cut test. -/
  use : Nat := 0
deriving DecidableEq, Repr

/-- A satellite that answered HELLO (R228). -/
structure Sat where
  hop : Nat
  verMax : Nat
  verMin : Nat
  first : Nat
  chans : Nat
deriving DecidableEq, Repr

/-- The delay filter of one hop (R210), in 62.5 ps units. -/
structure Delay where
  value : Nat := 0
  valid : Bool := false
  /-- The newest 16 accepted measurements as 2 d, newest first, with the CORR_DN of each (R231). -/
  acc : List (Int × Nat) := []
  /-- Consecutive unaccepted measurements. -/
  rej : List (Int × Nat) := []
deriving DecidableEq, Repr

/-- One PlynLink port. -/
structure Port where
  st : LinkSt := .off
  version : Nat := 0
  sats : List Sat := []
  positions : Nat := 0
  delay : Vector Delay 4 := Vector.replicate 4 {}
  budget : Nat := 0
  slack : Int := 0
  discards : Nat := 0
  retries : Nat := 0
  xIns : Nat := 0
  xDel : Nat := 0
  /-- SEQ counters: EDGE, STATE, CFG and DIAG per type; beacons per link (R205). -/
  seqBeacon : Nat := 0
  seqEdge : Nat := 0
  seqState : Nat := 0
  seqCfg : Nat := 0
  seqDiag : Nat := 0
  dreqHop : Nat := 0
  reqs : List CfgReq := []
  /-- Records handed over and not yet framed (R213). -/
  edges : List Edge := []
  /-- TB[0] time of the last valid frame per hop and of training events, q. -/
  lastRx : List Nat := [0, 0, 0, 0]
  trainAt : Nat := 0
  /-- When HELLO was broadcast, and when training failed. -/
  helloAt : Nat := 0
  failAt : Nat := 0
  discardTimes : List Nat := []
  /-- Immediate codes sent per position: 0 BLOCK, 1 RELEASE, 2 SAFE_H, 3 SAFE_L, and the EFF of the release (steps). -/
  code : List Nat := [0, 0, 0, 0]
  eff : List Nat := [0, 0, 0, 0]
  telOrigin : Nat := 0
  telLead : Nat := 0
  /-- A LINK_TRAIN_FAIL has been raised in this ARMED (R264). -/
  failedOnce : Bool := false
deriving DecidableEq, Repr

/-- Telemetry of one channel (R223, R224). -/
structure Tel where
  /-- Item j: converted value and its SAMPLE_TIME (steps). -/
  items : Tab (F32 × Nat) := []
  /-- The scheduled frames accepted and not yet frozen: the tick each serves and its items. -/
  wait : List (Int × List (Nat × F32) × Nat) := []
  /-- STATUS of each of those frames (R345). -/
  waitSt : List (Int × Word) := []
  /-- Frozen snapshot of the tick: item, value, SAMPLE_TIME. -/
  snap : Tab (F32 × Nat) := []
  /-- The items of the snapshot that are valid, as fixed at F: bit j (R157). -/
  flags : Nat := 0
  status : Word := 0
  sampleTime : Nat := 0
  seen : Bool := false
deriving DecidableEq, Repr

structure Plk where
  port : Tab Port := []
  tel : Tab Tel := []
deriving DecidableEq, Repr

/-! Disturbance recorder (spec/11_recorder.md). -/

/-- A firing that waits for its anchor row: kind of Table 11-2, condition, trigger time (q of TB[0]), ARG of the mark. -/
structure Fire where
  src : Nat
  cond : Nat := 0
  time : Nat
  arg : Nat := 0
deriving DecidableEq, Repr

/-- A row: its tick, INVALID, its words by slot. -/
structure RecRow where
  tick : Int
  bad : Bool
  words : List Word
deriving DecidableEq, Repr

/-- A packet in a ring: its payload and the rows it carries. -/
structure RecPkt where
  words : List Word
  rows : Nat := 0
deriving DecidableEq, Repr

/-- An open record with the settings it opened with (R323, R325): measured slots with level and hysteresis, reference. -/
structure OpenRec where
  anchor : Int
  pre : Nat
  rows : Nat
  left : Nat
  /-- Rows after the record's last one that the ring held when a late trigger opened it. -/
  skip : Nat := 0
  trigs : Nat := 1
  shortPre : Bool := false
  meas : List (Nat × F32 × F32) := []
  ref : Nat := 0xFFFFFFFF
deriving DecidableEq, Repr

/-- One stream REC[s]. -/
structure Rst where
  /-- STATE of Table 11-5: 0 OFF, 1 RUNNING, 2 STOPPED. -/
  run : Nat := 0
  /-- The first row since the start or restart has been taken. -/
  started : Bool := false
  /-- The tick of that row. -/
  first : Int := 0
  /-- Rows of the DATA packet in hand, oldest first. -/
  rows : List RecRow := []
  /-- Whole packets waiting for the queue, oldest first. -/
  ring : List RecPkt := []
  /-- Rows since the start that the ring still holds, newest first (R323). -/
  hist : List RecRow := []
  fires : List Fire := []
  opened : Option OpenRec := none
  rowsN : Nat := 0
  marks : Nat := 0
  missed : Nat := 0
  overflows : Nat := 0
  /-- Start or last firing, q of TB[0] (R322). -/
  lastFire : Nat := 0
deriving DecidableEq, Repr

structure Recs where
  stream : Vector Rst 4 := Vector.replicate 4 {}
  /-- The last latch of each slot: value and valid flag. -/
  latch : Tab (Word × Bool) := []
deriving DecidableEq, Repr


/-! Redundancy and peering (spec/12_pairs_and_chains.md). -/

/-- DIG of one tick (Table 12-4). -/
structure Dig where
  tick : Int := 0
  eDig : BitVec 64 := 0
  gDig : BitVec 64 := 0
  ready : BitVec 64 := 0
  own : Bool := false
  integrity : Bool := false
  stateSeq : List Nat := []
deriving DecidableEq, Repr

/-- What a HELLO carries (R349 step 1): version, MEMBER, NODE_ID, firmware version, pattern counter, first 128 bits of the
pattern's digest; with the sender's role and the time of its latest PAIR_FAILOVER record. -/
structure HelloId where
  version : Nat
  member : Nat
  node : Nat
  firmware : Nat
  counter : Nat
  digest : BitVec 128
  role : Nat := 0
  failAt : Option Nat := none
deriving DecidableEq, Repr

/-- SNAP of one tick (R341): TICK, per enabled SDIN its j, p and valid flag, and the sender's receipt map. -/
structure Snap where
  tick : Int
  sdin : List (Nat × Int × Nat × Bool)
  map : BitVec 256
deriving DecidableEq, Repr

/-- FWD_S of one tick (R310, R341): per tick-set input its CODE, VALID and PSLICE. -/
structure FwdS where
  tick : Int
  ain : List (Nat × Int × Bool × Nat)
deriving DecidableEq, Repr

/-- A reply window as R219 keeps it: the highest number accepted, none before the first. -/
structure SeqWin where
  high : Option Nat := none
  seen : List Nat := []
deriving DecidableEq, Repr

/-- One peer port PP[q]; the two pair lanes use the delay fields alone. -/
structure Pp where
  /-- PORT_STATE: 0 OFF, 1 HELLO, 2 DELAY, 3 READY, 4 REFUSED. -/
  st : Nat := 0
  peerId : Nat := 0
  up : Bool := false
  dly : Delay := {}
  /-- The child's two largest heights, steps of 62.5 ps (R357), and the nodes known beyond the port. -/
  h1 : Nat := 0
  h2 : Nat := 0
  best : Nat := 0
  ids : List Nat := []
  depthRefused : Bool := false
  /-- TX instants of the PTIMEs awaiting replies, by SEQ (steps). -/
  ptx : List (Nat × Nat) := []
deriving DecidableEq, Repr

/-- A buffered tick: what the joiner's replay computes it from. -/
structure JoinTick where
  tick : Int
  latched : Tab (Word × Bool)
  tel : Tab Tel
deriving DecidableEq, Repr

structure Rdn where
  role : Nat := 0
  partnerRole : Nat := 0
  syncTicks : Nat := 0
  joinState : Nat := 0
  failovers : Nat := 0
  dDiam : Nat := 0
  pp : Vector Pp 8 := Vector.replicate 8 {}
  lane : Vector Pp 2 := Vector.replicate 2 {}
  hb : Bool := false
  /-- PAIR_HB_OUT carries its square wave (R332). -/
  hbOut : Bool := false
  partner : Option HelloId := none
  /-- The hello mismatch or digest difference stopped the join until the next agreeing HELLO. -/
  mismatch : Bool := false
  snap : Option Snap := none
  fwd : Option FwdS := none
  rmap : Option (Int × BitVec 256) := none
  ownMap : BitVec 256 := 0
  dig : Dig := {}
  pdig : Dig := {}
  /-- The tick in hand is computed from own values (R346). -/
  ownValues : Bool := false
  /-- The integrity flag of the tick in hand (R344). -/
  integrity : Bool := false
  gseq : Nat := 0
  bseq : Nat := 0
  gbWin : Tab SeqWin := []
  bcWin : Tab SeqWin := []
  typeWin : Tab SeqWin := []
  /-- SEQ counters by frame type. -/
  txSeq : Tab Nat := []
  vigil : List Word := List.replicate 16 0
  vigilOwn : List Word := List.replicate 16 0
  vseq : Nat := 0
  /-- Counters of the vigil period: DIG mismatches, forward misses, one-sided frames, ADC differences, BSD differences. -/
  perMis : Nat := 0
  perMiss : Nat := 0
  perOne : Nat := 0
  perAdc : Nat := 0
  perBsd : BitVec 48 := 0
  perEcc : Nat := 0
  /-- Uncorrectable SRAM errors since start (Table 12-8). -/
  eccUn : Nat := 0
  swapAt : Option Int := none
  /-- Ticks buffered while the captured state is on its way (R349 step 7), oldest first. -/
  buf : List JoinTick := []
  joinRestarts : Nat := 0
  /-- Time of this member's latest PAIR_FAILOVER record, q (R348). -/
  failAt : Option Nat := none
  /-- The partner waits for the captured state of the next W + 150 ns (R349 step 6). -/
  capture : Bool := false
  /-- The partner's device state, in which a joiner computes its ticks until it is STANDBY (R349 step 8). -/
  shadow : Option Dev := none
  /-- The tick whose digests were compared last (R344). -/
  cmp : Option Int := none
  /-- The partner's PAIR_FAILOVER time, q (R348). -/
  partnerFail : Option Nat := none
  /-- When HELLO, TOPO and the vigil report left last, clock steps. -/
  helloAt : Option Nat := none
  topoAt : Option Nat := none
  vigilAt : Nat := 0
deriving DecidableEq, Repr

/-! Safety island (spec/13_safety.md). -/

/-- One safe input. Times of the island are clock steps. -/
structure Sin where
  level : Bool := false
  /-- Start of the low or high that counts toward FILTER or toward RESET. -/
  since : Nat := 0
  /-- The low reached FILTER: the input is in its demand state. -/
  demand : Bool := false
  /-- A missed pulse check is the present cause of 0x6009 or 0x6032 (R370). -/
  pulseFail : Bool := false
  pulseOk : Bool := false
  /-- The input has read low in the pulse window in hand. -/
  sawLow : Bool := false
  /-- The two inputs of the pair have differed since (R369). -/
  discSince : Option Nat := none
  /-- A discrepancy is held until both inputs have been low together once. -/
  discHeld : Bool := false
  /-- SAFE_BLOCK_N changed and a FEEDBACK input has not followed yet: since. -/
  fbSince : Option Nat := none
deriving DecidableEq, Repr

/-- One safe output. -/
structure Sout where
  level : Bool := false
  /-- The off-pulse in progress ends at this time. -/
  pulseEnd : Option Nat := none
  /-- When the last off-pulse began. -/
  pulseAt : Option Nat := none
  passed : Bool := false
  /-- The pin has read low in the pulse in hand. -/
  sawLow : Bool := false
  /-- Read back stuck or short: the cause of 0x600A or 0x6031 is present. -/
  bad : Bool := false
deriving DecidableEq, Repr

/-- One safety connection. -/
structure Sc where
  st : Nat := 0
  last : Option Nat := none
  wd : Nat := 0
  crcErr : Nat := 0
  gaps : Nat := 0
  runPermit : Bool := false
  resetReq : Bool := false
  direct : BitVec 8 := 0
  crcTimes : List Nat := []
  seqOut : Nat := 0
  /-- When the last periodic status SPDU left, or the connection started. -/
  txAt : Nat := 0
  /-- Bytes 8 to 11 of the last status SPDU. -/
  lastData : List Byte := []
deriving DecidableEq, Repr

structure Sfi where
  /-- The SGB is in force (MRAM), its FIRST_CAUSE, and since when. -/
  inForce : Bool := false
  firstCause : Nat := 0
  forceAt : Nat := 0
  /-- SAFE_BLOCK_N is driven high. -/
  safeHigh : Bool := false
  setConfirmed : Bool := false
  /-- CRC of the set last confirmed on this device (MRAM); SAFE_CRC_EFF. -/
  confirmedCrc : Option Nat := none
  crcEff : Nat := 0
  ember : Bool := false
  emberLeft : Nat := 86400
  supplyAge : Nat := 0
  /-- Supply-cut test: 0 not run, 1 wait clear, 2 wait set, 3 wait clear again, 4 passed, 5 failed; and since when. -/
  testPhase : Nat := 0
  testAt : Nat := 0
  testBad : List Nat := []
  sin : Vector Sin 8 := Vector.replicate 8 {}
  sout : Vector Sout 8 := Vector.replicate 8 {}
  sc : Vector Sc 4 := Vector.replicate 4 {}
  mon : Bool := false
  /-- SAFE_BLOCK_N read back high while driven low, until a correct readback (R372). -/
  outBad : Bool := false
  /-- Codes 0x6010 to 0x6014 whose cause lasts until a reset of reach SYSTEM. -/
  latched : List Nat := []
  /-- Demands detected and not yet decided: code, DATA1, and the channels of 0x6007 (R362). -/
  detected : List (Nat × Nat × List Nat) := []
  resetReq : Bool := false
  /-- A reset waits for the supply-cut test that 0x6007 asks for (Table 13-6). -/
  resetTest : Bool := false
  xmLost : Bool := false
deriving DecidableEq, Repr

/-! Start, reset and configuration (spec/19_start_and_configuration.md); security (spec/20_security.md). -/

/-- An option record copy (Table 19-5). -/
structure Opt where
  valid : Bool := false
  seq : Nat := 0
  startTarget : Nat := 0
  xmMode : Nat := 0
  bootSlot : Nat := 0
  warmEn : Nat := 1
  qspiDiv : Nat := 4
  qspiMode : Nat := 1
  bankV : Nat := 0
  startOk : Nat := 60
  idle : Nat := 0
deriving DecidableEq, Repr

/-- A pattern slot, or the pattern parsed from staging (Table 19-7). -/
structure Pat where
  valid : Bool := false
  counter : Nat := 0
  flags : Nat := 0
  fwMin : Nat := 0
  label : List Byte := []
  digest : List Byte := []
  entries : List (Nat × Wire) := []
  /-- Its signature or seal fails the check of R499. -/
  sealBad : Bool := false
deriving DecidableEq, Repr

/-- A firmware slot. -/
structure Fw where
  words : Tab Word := []
  version : Nat := 0
  svn : Nat := 0
  sigOk : Bool := false
deriving DecidableEq, Repr

structure Sys where
  /-- Sources of Table 19-2, by row, whose reset is asserted and not released. -/
  asserted : List Nat := []
  /-- The release step in progress, 1 to 8; 9 when the sequence is complete; 0 while a reset is asserted. -/
  step : Nat := 1
  /-- The clock step from which the step in progress is timed, and the step released before it, 0 for the first (Table 19-3). -/
  stepAt : Nat := 0
  stepBefore : Nat := 0
  /-- An ENGINE reset stops the sequence before step 7 (R480). -/
  holdFrom : Nat := 0
  reach : Nat := 1
  cause : Nat := 0x0101
  startKind : Nat := 0
  startTime : Nat := 0
  /-- Clock steps at the release that began this start, and at which the target was reached. -/
  startClock : Nat := 0
  targetClock : Option Nat := none
  succeeded : Bool := false
  lastOk : Bool := false
  imgSince : Bool := false
  retainOk : Bool := true
  abandoned : Bool := false
  activeSlot : Nat := 0
  /-- The slot this start runs from (R495), and that its image failed at step 5. -/
  runSlot : Nat := 0
  noFw : Bool := false
  att0 : Nat := 0
  att1 : Nat := 0
  fallback : Bool := false
  powerCycles : Nat := 0
  /-- At reset F0 holds an image whose signature verifies (notes/assumptions/61.md). -/
  fw : Vector Fw 2 := #v[{ sigOk := true }, {}]
  slot : Vector Pat 2 := Vector.replicate 2 {}
  cur : Nat := 0
  inForce : Bool := false
  trial : Bool := false
  trialLeft : Nat := 0
  patHigh : Nat := 0
  staging : List Byte := []
  /-- The parsed pattern of the last successful PATTERN_VERIFY since the last load. -/
  verified : Option Pat := none
  optA : Opt := {}
  optB : Opt := {}
  opt : Opt := {}
  optCopy : Nat := 0
  keepIdle : Option Nat := none
  keepSec : Nat := 0
  mirrorSec : Nat := 0
  /-- The clock step of the last keeper second. -/
  secAt : Option Nat := none
  /-- MRAM mirrors of the keeper values: attempts F0, F1, ACTIVE_SLOT, fallback, POWER_CYCLES, TRIAL_LEFT. -/
  mirror : List Nat := [0, 0, 0, 0, 0, 0]
  keepRet : Tab Word := []
  vbat : Bool := true
  keeperLost : Bool := false
  bist : Nat := 0
  bistMask : Nat := 0
  bistSig : List Word := [0, 0, 0, 0]
  bistPass : Nat := 0
  bistPart : Nat := 8
  /-- The blocks that a BLOCK reset waits on, each with the clock when it was asked to go idle (R485). -/
  blk : List (Nat × Nat) := []
  /-- The revert of an expired trial enters ARMED after the ENGINE reset (R500). -/
  revert : Bool := false
deriving DecidableEq, Repr

structure Sec where
  lifecycle : Nat := 0
  idKey : List Byte := []
  /-- Which generated key pair the store holds. -/
  keyNo : Nat := 0
  cert : List Byte := []
  ownerKey : List Byte := []
  ctr : Tab Nat := []
  mirror : Tab Nat := []
  latch : BitVec 3 := 0
  count : Nat := 0
  /-- Key, certificate or authorisation data received so far, and the OP they belong to. -/
  buf : List Byte := []
  bufOp : Nat := 0
deriving DecidableEq, Repr

/-- Package monitors (Table 21-16). -/
structure Pkg where
  bankV : Nat := 0
  railOk : Nat := 0
  tj : Int := 0
deriving DecidableEq, Repr
/-! CAN FD controllers (spec/18_can.md). -/

/-- A received frame with its TB[0] time (q), ESI, LOST and filter (Table 18-3). -/
structure CanRx where
  time : Nat
  frame : CanFrame
  esi : Bool
  lost : Bool
  filter : Nat
deriving DecidableEq, Repr

/-- One transmit buffer: TX_STATE of Table 18-6 (0 EMPTY to 5 ABORTED_HOST). -/
structure TxBuf where
  st : Nat := 0
  attempts : Nat := 0
  /-- TB[0] time of the SOF of the frame that was sent (R468). -/
  sof : Nat := 0
  /-- TX_ABORT takes effect at the end of the attempt in progress (R469). -/
  abort : Bool := false
deriving DecidableEq, Repr

structure CanCtl where
  /-- 0 OFF, 1 INTEGRATING, 2 ERROR_ACTIVE, 3 ERROR_PASSIVE, 4 BUS_OFF. -/
  st : Nat := 0
  tec : Nat := 0
  recN : Nat := 0
  fifo : List CanRx := []
  rxLost : Nat := 0
  lostMark : Bool := false
  bitErrs : Nat := 0
  tdc : Nat := 0
  txb : Vector TxBuf 3 := Vector.replicate 3 {}
  /-- The count of 128 idle sequences has started (R471). -/
  counting : Bool := false
  /-- The frame in progress is the last before OFF, or before bus integration after a change of clock source (R461). -/
  goOff : Bool := false
  restart : Bool := false
  /-- The island's status frame waiting in TXB[2] (R475). -/
  safety : Option (List Byte) := none
  /-- The status frame of the attempt in progress: a newer one waits behind it. -/
  sending : Option (List Byte) := none
deriving DecidableEq, Repr

/-! Serial lanes (spec/16_serial_lanes.md). -/

structure Lane where
  /-- PSTATE: 0 L0, 1 L1, 2 L2. -/
  pst : Nat := 2
  /-- The exit from L2 in progress ends in this state. -/
  exitTo : Option Nat := none
  los : Bool := false
  lol : Bool := false
  sync : Bool := false
  eqEff : Nat := 0
  prbsLock : Bool := false
  /-- Bits compared before `prbsFrom`, and the clock step from which the checker has been counting. -/
  prbsBits : Nat := 0
  prbsFrom : Nat := 0
  prbsErrs : Nat := 0
  hMargin : Nat := 0
  vMargin : Nat := 0
  scanning : Bool := false
  losCount : Nat := 0
  ethDrop : Nat := 0
  /-- LOS, LOL or SYNC lost since (clock steps). -/
  badSince : Option Nat := none
  /-- LANE_ETH_DOWN has been raised in this loss. -/
  badTold : Bool := false
  /-- A PWR_REQ that waits for the end of a loop or of PARKED (R437, Table 16-5). -/
  heldPwr : Option Nat := none
  /-- The clock step of the last PWR_REQ carried out (Table 16-5). -/
  pwrAt : Option Nat := none
deriving DecidableEq, Repr

structure LaneU where
  lane : Tab Lane := []
  /-- LPLL_LOCK of LQ[q]. -/
  lock : Vector Bool 16 := Vector.replicate 16 false
  /-- LPLLs unlocked after lock (Table 17-4). -/
  lost : Vector Bool 16 := Vector.replicate 16 false
  /-- The PCIe link is up (R386). -/
  pcie : Bool := false
deriving DecidableEq, Repr

/-! Clocks (spec/17_clocks.md). -/

/-- A PLL: off, acquiring, locked, or unlocked after lock. -/
inductive Pll where
  | off | acquiring | locked | lost
deriving DecidableEq, Repr

/-- One output CLKOUT[c]. Times are clock steps for source OPLL and TB[0] steps for source TB0. -/
structure ClkOut where
  div : Nat := 128
  per : Nat := 1600
  /-- First rising edge of the run in hand; none while nothing lets the output run. -/
  runFrom : Option Nat := none
  /-- The end of the cycle at which the output is held low. -/
  stopAt : Option Nat := none
  /-- An aligned edge that a SYNC_IN gave the gated output (Table 17-5). -/
  align : Option Nat := none
deriving DecidableEq, Repr

structure Clk where
  cpll : Pll := .off
  fpll : Pll := .off
  tpll : Pll := .off
  opll : Pll := .off
  xmOk : Bool := false
  xsOk : Bool := false
  refOk : Vector Bool 2 := Vector.replicate 2 false
  refPpm : Vector Int 2 := Vector.replicate 2 0
  nInt : Nat := 128
  nFrac : Nat := 0
  /-- The dither LFSR's reload value, and whether it runs (R455). -/
  seed : Nat := 1
  dither : Bool := true
  /-- The steer in force, in 2^-40 (R454). -/
  steer : Int := 0
  /-- The clock step of the last steer. -/
  steerAt : Option Nat := none
  out : Vector ClkOut 8 := Vector.replicate 8 {}
  syncIgnored : Nat := 0
deriving DecidableEq, Repr

/-- A pending value (R51, R97, R403): the field, its value and the tick from which its class may promote it. -/
structure Pend where
  id : Nat
  val : Wire
  tick : Int
  /-- The launch entry that brought it; 32 for a command's. -/
  entry : Nat := 32
deriving DecidableEq, Repr

/-- A state command accepted and waiting for its tick instant (R24): 0 ARM, 1 START, 2 PARK, 3 RESUME; the commanding
partition, 8 for a launch entry, and the entry's index. -/
structure Trans where
  kind : Nat
  part : Nat
  entry : Nat := 0
  /-- The tick at which it takes effect. -/
  tick : Int := 0
deriving DecidableEq, Repr

/-- What is captured of a port: its SEQ counters, the codes in force, and the records not yet framed. -/
structure PortCap where
  port : Nat
  seqEdge : Nat
  seqState : Nat
  seqCfg : Nat
  seqDiag : Nat
  code : List Nat
  eff : List Nat
  edges : List Edge
deriving DecidableEq, Repr

/-- The captured state entering tick k + 1 (R349 step 6): what the joiner loads. -/
structure Capture where
  tick : Int
  dev : Dev
  gfe : Vector Gfi 4
  lpe : Lpe
  mod : Modr
  spu : Spu
  ports : List PortCap
  /-- The derived constants (R349 step 5). -/
  derived : List Int := []
  launch : Tab Launch
  pend : List Pend
  /-- The telemetry values of the channels. -/
  tel : Tab Tel
deriving DecidableEq, Repr

/-- What STX frames carry: the parameter sets, effective and pending, or the captured state (R349 steps 3 and 6). -/
inductive Stx where
  | par (effective : Tab Wire) (pend : List Pend)
  | captured (c : Capture)
deriving DecidableEq, Repr

/-- Frames of the pair and peer lanes the device sends (spec/12_pairs_and_chains.md Tables 12-2 to 12-4). Times are
steps of 62.5 ps. -/
inductive PeerFrame where
  | hello (h : HelloId)
  | ptime (seq : Nat) (sec ns frac : Nat)
  | ptimeReply (seq : Nat) (turn : Nat)
  | snap (tick : Int) (sdin : List (Nat × Int × Nat × Bool)) (map : BitVec 256)
  | rmap (tick : Int) (map : BitVec 256)
  | fwdS (tick : Int) (ain : List (Nat × Int × Bool × Nat))
  | dig (tick : Int) (eDig gDig ready : BitVec 64) (own integrity : Bool) (stateSeq : List Nat)
  /-- WRITE: the entries of an accepted set, or of a command field, and their effective tick. -/
  | write (tick : Int) (entries : List (Nat × BitVec 64))
  /-- DECIDE: decision time, code, kind, index, applied level and covered channels. -/
  | decide (time code kind index level : Nat) (cover : List Nat)
  | stx (x : Stx)
  | vig (words : List Word)
  /-- ROLE: 0 DETACH, 1 JOIN_REQ, 2 SWAP with its effective tick, 3 SWAP asked of the active, 4 answer. -/
  | role (op : Nat) (arg : Int)
  | gb (origin gseq : Nat) (time : Nat)
  /-- BC: a recorder trigger (kind 0: channel) or a launch entry (kind 1). -/
  | bc (origin bseq : Nat) (kind : Nat) (args : List Nat)
  /-- TOPO: the two largest branch heights, the largest sum in the subtree, the nodes of the subtree. -/
  | topo (h1 h2 best : Nat) (ids : List Nat)
deriving DecidableEq, Repr

/-! Transmitters (spec/07_plynlink.md R206, spec/12_pairs_and_chains.md R340). Times are clock steps. -/

/-- One transmitter: the frame in progress, the step at which the line is free, and the frames handed over and waiting with the step at
which each was, oldest first. -/
structure TxLine (α : Type) where
  cur : Option α := none
  free : Nat := 0
  wait : List (α × Nat) := []
deriving DecidableEq, Repr

/-- The transmitters of the PlynLink ports and of the peer ports and pair lanes (8, 9), and the TX_TIME of the newest beacons of each
port that carried DREQ, by SEQ, newest first (R207, R210). -/
structure Tx where
  port : Tab (TxLine PlyFrame) := []
  peer : Tab (TxLine (Nat × PeerFrame)) := []
  beacons : Tab (List (Nat × Nat)) := []
deriving DecidableEq, Repr

end Sys2Proof.Machine
end

