-- ==== Sys2Proof/Syntax.lean ====
section
/-! DEFINITION. The commands of the block: one constructor of Instr for each row of spec/opcode_table.json. What arrives from
outside (frames, edges, measurements, messages) is the operand. -/
namespace Sys2Proof
open Sys2Proof.Machine

/-- The commands of the GW8256: one constructor for each row of the table of operations and events.
The first operand of each is `dt`, the number of TPLL steps of 62.5 ps (R34) since the previous command. -/
inductive Instr where
  /-- TICK_INSTANT (R12): At each tick instant the active ADC slices sample, the BSD resamplers deliver and PLK freezes the telemetry snapshot for the tick. -/
  | tickInstant (dt : Nat) (edges : List SdEdge)
  /-- FWD_S_SEND (R341): The active forwards the codes, valid flags and slices of the tick-set inputs at t_n + 200 ns. -/
  | fwdSSend (dt : Nat)
  /-- INPUT_FREEZE (R13): At the freeze point F every tick input and valid flag is latched, and the GFE and then the LPE begin computing. -/
  | inputFreeze (dt : Nat)
  /-- WRITE_PHASE (R16): At W the LPE presents its requests to the MOD, which computes and checks every edge of the tick's execute window. -/
  | writePhase (dt : Nat)
  /-- REC_LATCH (R315): At W + 150 ns the recorder latches every slot and takes stream rows by DEC. -/
  | recLatch (dt : Nat)
  /-- EDGE_RECORD_RELEASE (R169): An edge record is handed to PLK at its release instant, the later of E − L_cmd and the end of dispatch. -/
  | edgeRecordRelease (dt : Nat)
  /-- EDGE_FRAME_FORMATION (R213): At each 250 ns formation instant PLK packs the released records into EDGE frames with the next SEQ. -/
  | edgeFrameFormation (dt : Nat)
  /-- STATE_REPEAT (R220): At each multiple of 10 µs the device repeats the current state of every position in a STATE frame. -/
  | stateRepeat (dt : Nat)
  /-- BEACON_DUE (R207): A beacon falls due at each whole microsecond and leaves with its TX_TIME stamped at the ball. -/
  | beaconDue (dt : Nat) (p : Fin 64)
  /-- BEACON_REPLY_RX (R210): A beacon reply yields a delay measurement that updates the hop's DELAY filter. -/
  | beaconReplyRx (dt : Nat) (p : Fin 64) (hop : Fin 4) (bseq tTurn : Nat) (corrDn corrUp : Int)
  /-- TEL_RX (R224): A TEL frame from a satellite is accepted, converted and its STATUS mapped to satellite fault codes. -/
  | telRx (dt : Nat) (p : Fin 64) (pos : Fin 4) (sampleTime : Nat) (status : Word) (mask : BitVec 16) (items : List (BitVec 16))
  /-- SYMBOL_LOCK (R228): Upstream symbol lock is declared and the port starts sending STATE BLOCK, beacons and HELLO. -/
  | symbolLock (dt : Nat) (p : Fin 64)
  /-- HELLO_WINDOW_END (R229): 100 µs after HELLO the device selects the version and checks the chain, then writes the satellites' registers. -/
  | helloWindowEnd (dt : Nat) (p : Fin 64)
  /-- CFG_RESPONSE_RX (R225): A CFG or DIAG response completes its request and frees an outstanding slot. -/
  | cfgResponseRx (dt : Nat) (p : Fin 64) (diag : Bool) (hop : Fin 4) (seq op status addr : Nat) (data : Word) (words : List Word)
  /-- CFG_RETRY (R225): A request without a response within RETRY_INT is resent, and LINK_CFG_FAIL is raised after RETRY attempts. -/
  | cfgRetry (dt : Nat) (p : Fin 64) (diag : Bool) (hop : Fin 4) (seq : Nat)
  /-- LINK_SUPERVISION (R226): No valid upstream frame from a hop within SUP_TIMEOUT_EFF raises LINK_SUPERVISION. -/
  | linkSupervision (dt : Nat) (p : Fin 64) (hop : Fin 4)
  /-- TRAIN_TIMEOUT (R228): A port not READY within TRAIN_TIMEOUT raises LINK_TRAIN_FAIL and waits 100 ms to restart. -/
  | trainTimeout (dt : Nat) (p : Fin 64)
  /-- TRAIN_RESTART (R228): 100 ms after a training failure the port restarts training from step 1. -/
  | trainRestart (dt : Nat) (p : Fin 64)
  /-- PRESTART_SWEEP_STEP (R265): After 2 × SWEEP_T + 100 µs the device reads a sweep or self-test result and sends the next test. -/
  | prestartSweepStep (dt : Nat) (p : Fin 64) (hop : Fin 4)
  /-- AUTO_CLEAR_ATTEMPT (R257): After FAULT_HOLD the SPU ends a satellite LEG_OPEN, sends a timed RELEASE and sets FCLR in the first turn-on. -/
  | autoClearAttempt (dt : Nat) (c : Fin 256)
  /-- FAULT_CLEAR (R259): The token holder clears a named held fault or every held fault whose condition allows. -/
  | faultClear (dt : Nat) (p : Fin 8) (name : Word)
  /-- PRESTART_RUN (R264): The token holder reruns the pre-start diagnostics in ARMED. -/
  | prestartRun (dt : Nat) (p : Fin 8)
  /-- BLOCK_N_FALL (R261): BLOCK_N seen low while not driven raises BLOCK_N_REMOTE, timestamps the edge and relays GLOBAL_BLOCK. -/
  | blockNFall (dt : Nat) (fall : Bool)
  /-- BLOCK_N_PULSE_END (R260): 1.0 µs after a PEER_GLOBAL_BLOCK record the device releases BLOCK_N. -/
  | blockNPulseEnd (dt : Nat)
  /-- BLOCK_N_QUIET_END (R260): 3.0 µs after the device stops driving BLOCK_N it again treats a low as driven by another device. -/
  | blockNQuietEnd (dt : Nat)
  /-- FAULT_IN_LATCH (R187): A FAULT_IN pulse sets its latch, sends immediate safe-level STATE frames and discards unreleased records. -/
  | faultInLatch (dt : Nat) (pin : Fin 4) (width : Nat)
  /-- FAULT_IN_CLEAR (R188): The token holder clears FAULT_IN latches whose pins are low, and the channels rejoin their mode. -/
  | faultInClear (dt : Nat) (p : Fin 8) (mask : BitVec 4) (low : BitVec 4)
  /-- FORCE (R183): A FORCE write takes effect from its execute time, and the channel's unreleased records are recomputed. -/
  | force (dt : Nat) (p : Fin 8) (c : Fin 256) (v : BitVec 4)
  /-- GFE_ALT_RESET (R101): The token holder returns a GFE instance from its alternate source to V_SRC and I_SRC. -/
  | gfeAltReset (dt : Nat) (p : Fin 8) (k : Fin 4)
  /-- ALT_RESET (R159): The token holder returns a loop slot's switched input to its primary if the primary is valid. -/
  | altReset (dt : Nat) (p : Fin 8) (slot : Fin 64)
  /-- INPUT_HOLD_EXPIRY (R158): After T_HOLD invalid ticks a loop or instance raises its input-loss fault or switches to its alternate. -/
  | inputHoldExpiry (dt : Nat) (who : Fin 68)
  /-- GFE_RIDE_TIMEOUT (R121): RIDE lasting RIDE_T_MAX sends the instance to STOP and raises GFE_RIDE_TIMEOUT. -/
  | gfeRideTimeout (dt : Nat) (k : Fin 4)
  /-- RIDE_EXIT (R103): N_20 consecutive ticks with m at or above RIDE_V_EXIT end RIDE. -/
  | rideExit (dt : Nat) (k : Fin 4)
  /-- GFE_ENERGIZE_FAIL (R124): A dead-bus energising that stays low or current-limited for its count raises GFE_ENERGIZE_FAIL and goes to IDLE. -/
  | gfeEnergizeFail (dt : Nat) (k : Fin 4)
  /-- SYNC_OK (R126): SYNC_OK sets once the frequency, voltage and phase windows have held for N_20 ticks. -/
  | syncOk (dt : Nat) (k : Fin 4)
  /-- STOP_TIMEOUT (R103): 2 × STOP_RAMP after entry to STOP with the set-points at zero, the instance goes to IDLE. -/
  | stopTimeout (dt : Nat) (k : Fin 4)
  /-- PROBE_WINDOW_CLOSE (R128): When the probe count reaches N_W the window closes and the SCR estimate is computed. -/
  | probeWindowClose (dt : Nat) (k : Fin 4)
  /-- TIMEBASE_SOURCE_UPDATE (R46): A source offset measurement updates the timebase servo or its acquisition. -/
  | timebaseSourceUpdate (dt : Nat) (k : Fin 4) (offset : Int)
  /-- HOLDOVER_ENTRY (R47): HOLD_ENTRY missing source updates move a timebase to HOLDOVER, or to FREE in ACQUIRING. -/
  | holdoverEntry (dt : Nat) (k : Fin 4)
  /-- TB_HOLDOVER_LONG (R49): HOLDOVER lasting longer than HOLD_MAX raises TB_HOLDOVER_LONG. -/
  | tbHoldoverLong (dt : Nat) (k : Fin 4)
  /-- TB_SLEW_LAG (R49): An offset still above OFFSET_ALARM after 10 × SERVO_TC of slewing raises TB_SLEW_LAG. -/
  | tbSlewLag (dt : Nat)
  /-- ACQ_WAIT_EXPIRY (R45): BOOT stops waiting for the TB[0] leap after ACQ_WAIT and starts port training. -/
  | acqWaitExpiry (dt : Nat)
  /-- PPS_OUT_EDGE (R60): PPS_OUT rises at each whole second plus PPS_OUT_OFFSET and falls after PPS_OUT_WIDTH. -/
  | ppsOutEdge (dt : Nat) (rise : Bool)
  /-- PPS_IN_EDGE (R61): A PPS_IN edge is timestamped and gives a phase offset to its timebase. -/
  | ppsInEdge (dt : Nat) (rise : Bool)
  /-- TRIG_IN_EDGE (R62): A TRIG_IN edge is timestamped and passed to the recorder and the event log. -/
  | trigInEdge (dt : Nat) (pin : Fin 4) (rise : Bool)
  /-- LAUNCH_FIRE (R63): A launch entry fires when its timebase reaches T and its action is carried out. -/
  | launchFire (dt : Nat) (e : Fin 32)
  /-- PULSE_END (R63): At T + width a launched PULSE ends with the falling edge of its TRIG_OUT. -/
  | pulseEnd (dt : Nat) (pin : Fin 4)
  /-- PTP_MESSAGE_RX (R52): A received PTP message is timestamped and handled by its instance's BMCA, servo or management. -/
  | ptpMessageRx (dt : Nat) (lane : Fin 64) (m : PtpMsg)
  /-- PTP_MESSAGE_DUE (R55): A PTP instance sends its periodic event or announce message at its interval. -/
  | ptpMessageDue (dt : Nat) (k : Fin 3) (lane : Fin 64) (m : PtpKind)
  /-- TIME_STAT_READ (R66): A read of TIME_STAT snapshots the timebase's read block into the partition's holding register. -/
  | timeStatRead (dt : Nat) (p : Fin 8) (k : Fin 4)
  /-- ADC_CONVERSION (R297): A slice converts its input in a 100 ns slot and updates its code, latest value, queue and comparator. -/
  | adcConversion (dt : Nat) (pos : Fin 8) (slot : Nat) (raw : Int) (shadow : Option Int)
  /-- ADC_SHADOW_START (R299): 1 ms before a rotation step the passed free slice starts shadowing the position's slice. -/
  | adcShadowStart (dt : Nat)
  /-- ADC_CAL_STEP (R299): At each 12.5 ms step the free slice takes its position and the displaced slice becomes free. -/
  | adcCalStep (dt : Nat)
  /-- ADC_CAL_DONE (R300): The free slice ends its calibration and reference check, and three failures retire it. -/
  | adcCalDone (dt : Nat) (ofs gain : Int) (res : List Int)
  /-- TQ_LO_READ (R308): A read of TQ_LO returns the oldest entry's low word and latches the entry. -/
  | tqLoRead (dt : Nat) (p : Fin 8)
  /-- TQ_HI_READ (R308): A read of TQ_HI returns the latched high word and removes the entry. -/
  | tqHiRead (dt : Nat) (p : Fin 8)
  /-- LV_LO_READ (R309): A read of LV_LO snapshots the input's latest value into the partition's holding register. -/
  | lvLoRead (dt : Nat) (p : Fin 8) (n : Fin 32)
  /-- BSD_FAST_DECISION (R285): FAST_CNT consecutive fast outputs decide out or in, and an out decision raises BSD_FAST. -/
  | bsdFastDecision (dt : Nat) (n : Fin 48) (bits : List Bool)
  /-- BSD_MISSING_CLOCK (R289): No SDCLK edge for four modulator periods activates the missing-clock detector. -/
  | bsdMissingClock (dt : Nat) (g : Fin 6)
  /-- BSD_STUCK_STREAM (R289): STUCK_N periods of one bit value activate the stuck-stream detector. -/
  | bsdStuckStream (dt : Nat) (n : Fin 48)
  /-- SYNC_IN_EDGE (R287): A SYNC_IN edge resets the decimators of SYNC_EN groups and aligns the OPLL outputs. -/
  | syncInEdge (dt : Nat) (width : Nat)
  /-- DEC_RESET (R288): The token holder resets the decimators of every IN group with SYNC_EN. -/
  | decReset (dt : Nat) (p : Fin 8)
  /-- REC_AUTO_TRIGGER (R322): AUTO_T without a firing makes the stream fire a forced AUTO trigger. -/
  | recAutoTrigger (dt : Nat) (k : Fin 4)
  /-- REC_TRIGGER (R319): A partition with CONFIGURE triggers the named recorder streams. -/
  | recTrigger (dt : Nat) (p : Fin 8) (mask : BitVec 4)
  /-- REC_RESTART (R327): A partition restarts stopped recorder streams with a RESTART packet. -/
  | recRestart (dt : Nat) (p : Fin 8) (mask : BitVec 4)
  /-- REC_RING_DRAINED (R327): A stopped stream with RESTART_MODE 1 restarts once its ring has drained empty. -/
  | recRingDrained (dt : Nat) (k : Fin 4)
  /-- SQ_PACKET_COMMIT (R413): A producer writes a whole packet into staging once there is room for it. -/
  | sqPacketCommit (dt : Nat) (producer : Fin 11) (poison : Bool)
  /-- SQ_DELIVER (R418): A staged packet is delivered to the host ring by DMA or becomes visible in the window. -/
  | sqDeliver (dt : Nat) (q : Fin 16) (parity badLen dmaError : Bool)
  /-- SQ_IRQ_SIGNAL (R420): IRQ_TIME after the first unsignalled byte, the queue signals its owner. -/
  | sqIrqSignal (dt : Nat) (q : Fin 16)
  /-- CLAIM (R417): A partition claims an unowned stream queue. -/
  | claim (dt : Nat) (p : Fin 8) (q : Fin 16) (dma enable : Bool)
  /-- RELEASE (R417): The owner gives up its stream queue. -/
  | release (dt : Nat) (p : Fin 8) (q : Fin 16)
  /-- SQ_RD_ADV (R419): The owner advances the window read point past whole packets. -/
  | sqRdAdv (dt : Nat) (p : Fin 8) (q : Fin 16) (n : BitVec 17)
  /-- HOST_RD (R418): The host writes its ring read offset after consuming packets. -/
  | hostRd (dt : Nat) (p : Fin 8) (q : Fin 16) (off : BitVec 24)
  /-- PAIR_HB_LOSS (R332): No PAIR_HB_IN rising edge for 200 ns declares the partner's heartbeat lost. -/
  | pairHbLoss (dt : Nat)
  /-- PAIR_LANE_DOWN (R331): A pair lane that is lost or too long is not used and PAIR_LANE_DOWN is raised. -/
  | pairLaneDown (dt : Nat) (l : Fin 2)
  /-- SNAP_RX (R341): The standby receives the active's SNAP with TICK, the BSD phases and the receipt map. -/
  | snapRx (dt : Nat) (lane : Fin 2) (seq : Nat) (snap : Snap)
  /-- RMAP_RX (R341): The active receives the partner's receipt map for the snapshot intersection. -/
  | rmapRx (dt : Nat) (lane : Fin 2) (seq : Nat) (tick : Int) (map : BitVec 256)
  /-- FWD_S_RX (R341): The standby receives the forwarded tick samples and compares them with its own. -/
  | fwdSRx (dt : Nat) (lane : Fin 2) (seq : Nat) (f : FwdS)
  /-- DIG_RX (R344): A partner digest is compared with the own digest, and a mismatch arbitrates a loser. -/
  | digRx (dt : Nat) (lane : Fin 2) (seq : Nat) (d : Dig)
  /-- WRITE_RX (R98): The standby receives an accepted write or command with its effective tick. -/
  | writeRx (dt : Nat) (lane : Fin 2) (seq : Nat) (tick : Int) (es : List (Nat × Wire))
  /-- DECIDE_RX (R345): A partner's reaction decision is applied on the own links on arrival. -/
  | decideRx (dt : Nat) (lane : Fin 2) (seq : Nat) (time code kind index level : Nat) (cover : List Nat)
  /-- STX_RX (R349): A joiner receives a chunk of parameter sets or captured state. -/
  | stxRx (dt : Nat) (lane : Fin 2) (seq : Nat) (x : Stx)
  /-- VIG_RX (R351): A vigil report from the partner is stored in VIGIL. -/
  | vigRx (dt : Nat) (lane : Fin 2) (seq : Nat) (words : List Word)
  /-- ROLE_RX (R350): A ROLE frame carrying DETACH, JOIN_REQ, SWAP or an answer is handled. -/
  | roleRx (dt : Nat) (lane : Fin 2) (seq : Nat) (op : Fin 5) (arg : Int)
  /-- PEER_HELLO_RX (R353): A peer HELLO is checked for IDs and versions and advances a join or a peer port. -/
  | peerHelloRx (dt : Nat) (q : Fin 10) (seq : Nat) (h : HelloId)
  /-- PEER_HELLO_DUE (R339): A HELLO is sent on each pair lane and peer port every 1 ms. -/
  | peerHelloDue (dt : Nat)
  /-- PTIME_DUE (R339): A PTIME frame is sent at each whole microsecond of TB[0]. -/
  | ptimeDue (dt : Nat)
  /-- PTIME_RX (R354): A received PTIME steers TB[0] of a node with source PEER. -/
  | ptimeRx (dt : Nat) (q : Fin 10) (seq : Nat) (sec ns frac : Nat)
  /-- PTIME_REPLY_RX (R354): A PTIME reply gives a peer delay measurement. -/
  | ptimeReplyRx (dt : Nat) (q : Fin 10) (seq turn : Nat)
  /-- GB_RX (R355): The first copy of a GLOBAL_BLOCK event raises PEER_GLOBAL_BLOCK and is relayed once. -/
  | gbRx (dt : Nat) (q : Fin 10) (origin gseq time : Nat)
  /-- BC_RX (R356): A broadcast trigger or launch entry is relayed and placed where admitted. -/
  | bcRx (dt : Nat) (q : Fin 8) (origin bseq kind : Nat) (args : List Nat)
  /-- TOPO_RX (R357): A child's branch heights are taken in and D_DIAM is recomputed at the root. -/
  | topoRx (dt : Nat) (q : Fin 8) (h1 h2 best : Nat) (ids : List Nat)
  /-- TOPO_DUE (R357): Each node sends its two largest branch heights upward every 1 ms. -/
  | topoDue (dt : Nat)
  /-- VIGIL_REPORT (R351): Each VIGIL_PERIOD a non-active member sends its vigil report. -/
  | vigilReport (dt : Nat) (scrub mram sched : Bool) (lane : Fin 64) (margin : Fin 1025)
  /-- JOIN_REPLAY_DONE (R349): The joiner finishes replaying its buffered ticks and starts computing live ticks. -/
  | joinReplayDone (dt : Nat)
  /-- JOIN_BUFFER_FULL (R349): A full 512-tick join buffer restarts the join from step 6. -/
  | joinBufferFull (dt : Nat)
  /-- JOIN_COMPLETE (R349): After JOIN_N consecutive matching digests the joiner becomes STANDBY. -/
  | joinComplete (dt : Nat)
  /-- ROLE_SWAP (R350): A SERVICE partition asks the active to swap roles at a chosen tick. -/
  | roleSwap (dt : Nat) (p : Fin 8)
  /-- ROLE_SWAP_EFFECT (R350): At the effective tick the former standby becomes ACTIVE and the former active STANDBY. -/
  | roleSwapEffect (dt : Nat)
  /-- SAFETY_CYCLE (R362): Each 100 µs cycle the island evaluates demands, diagnostics and resets and sets SAFE_BLOCK_N and SOUT. -/
  | safetyCycle (dt : Nat) (x : SafeIn)
  /-- EMBER_EXPIRED (R381): EMBER_LEFT reaching zero raises EMBER_EXPIRED, which demands the SGB. -/
  | emberExpired (dt : Nat)
  /-- SOUT_OFF_PULSE (R371): Each OP_PERIOD a high safe output is pulsed low and read back. -/
  | soutOffPulse (dt : Nat) (j : Fin 8)
  /-- SC_SPDU_RX (R375): A received command SPDU is checked, accepted or discarded, and restarts the watchdog. -/
  | scSpduRx (dt : Nat) (k : Fin 4) (bytes : List Byte)
  /-- SC_TIMEOUT (R375): A safety connection watchdog reaching WD_TIME raises SC_TIMEOUT. -/
  | scTimeout (dt : Nat) (k : Fin 4)
  /-- SC_STATUS_TX (R376): A status SPDU is sent every SC_TX_PERIOD and after each change of its data. -/
  | scStatusTx (dt : Nat) (k : Fin 4)
  /-- SUPPLY_CUT_TEST_STEP (R366): The supply-cut test advances when the positions report the expected UVLO bits or fails at SUPPLY_TEST_T. -/
  | supplyCutTestStep (dt : Nat)
  /-- ISLAND_CLOCK_CHECK (R360): Every 1 ms the island RC clock is compared with XM. -/
  | islandClockCheck (dt : Nat) (agrees : Bool)
  /-- ISLAND_MEMORY_CHECK (R360): Every 10 min the island checks the CRC of its ROM and of the confirmed set. -/
  | islandMemoryCheck (dt : Nat) (good : Bool)
  /-- SFI_PEER_DISAGREE (R382): An SGB in force for 3 ms while SGB_MON reads high raises SFI_PEER_DISAGREE. -/
  | sfiPeerDisagree (dt : Nat)
  /-- SUPPLY_TEST_OVERDUE (R366): SUPPLY_TEST_AGE exceeding SUPPLY_TEST_MAX raises SUPPLY_TEST_OVERDUE. -/
  | supplyTestOverdue (dt : Nat)
  /-- SGB_DEMAND (R364): A SAFETY partition demands the Safe Gate Block. -/
  | sgbDemand (dt : Nat) (p : Fin 8)
  /-- SGB_RESET (R367): A SAFETY partition requests a reset of the SGB when RESET_HOST_EN is 1. -/
  | sgbReset (dt : Nat) (p : Fin 8)
  /-- SAFE_CONFIRM (R379): A SAFETY partition confirms the pending safety set by its check value. -/
  | safeConfirm (dt : Nat) (p : Fin 8) (v : Word)
  /-- MAILBOX_DOORBELL (R396): A write of REQ_DB rings the doorbell and queues the request for execution. -/
  | mailboxDoorbell (dt : Nat) (p : Fin 8) (len : BitVec 13)
  /-- RSP_ACK (R396): A write of RSP_ACK frees the response buffer and releases a held request. -/
  | rspAck (dt : Nat) (p : Fin 8)
  /-- ABORT (R396): A write of ABORT discards a held request or the response of one executing. -/
  | abort (dt : Nat) (p : Fin 8)
  /-- UDP_MESSAGE_RX (R400): A datagram message is accepted, or answered from the stored response if its TAG repeats. -/
  | udpMessageRx (dt : Nat) (p : Fin 8) (ws : List Word)
  /-- PCIE_FUNCTION_RESET (R386): A function-level reset or link-down of a PCIe function ends its partition's session. -/
  | pcieFunctionReset (dt : Nat) (f : Fin 8) (linkDown : Bool)
  /-- TOKEN_LEASE_EXPIRY (R392): No message from the token holder for LEASE loses the token. -/
  | tokenLeaseExpiry (dt : Nat)
  /-- HELLO (R401): A host opens a session and agrees the protocol version. -/
  | hello (dt : Nat) (p : Fin 8) (maj min : Byte)
  /-- BYE (R392): A host ends its session and loses any token it holds. -/
  | bye (dt : Nat) (p : Fin 8)
  /-- PING (R392): A host pings the device, renews its lease and gets the TB[0] time. -/
  | ping (dt : Nat) (p : Fin 8) (w : Word)
  /-- INFO (R406): A host reads the part, firmware, pattern, state and pair role. -/
  | info (dt : Nat) (p : Fin 8)
  /-- TOKEN_ACQUIRE (R391): A partition with OPERATE takes the free operator token, or forces it with SERVICE. -/
  | tokenAcquire (dt : Nat) (p : Fin 8) (force : Bool)
  /-- TOKEN_RELEASE (R392): The token holder releases the operator token. -/
  | tokenRelease (dt : Nat) (p : Fin 8)
  /-- TOKEN_STATUS (R391): A host reads the token holder and the time of the last change. -/
  | tokenStatus (dt : Nat) (p : Fin 8)
  /-- ARM (R24): The token holder commands PARKED to ARMED. -/
  | arm (dt : Nat) (p : Fin 8)
  /-- ARMED_ENTRY (R449): After the trigger, clocks and engines become ready, the schedule is compiled and the ports train. -/
  | armedEntry (dt : Nat)
  /-- START (R25): The token holder commands ARMED to RUN. -/
  | start (dt : Nat) (p : Fin 8)
  /-- PARK (R24): The token holder commands ARMED to PARKED. -/
  | park (dt : Nat) (p : Fin 8)
  /-- RESUME (R26): The token holder commands BLOCKED to ARMED once faults are cleared. -/
  | resume (dt : Nat) (p : Fin 8)
  /-- BLOCK (R27): The token holder or a SAFETY partition blocks the device. -/
  | block (dt : Nat) (p : Fin 8)
  /-- STATE_READ (R406): A host reads the device state, reaction, role, token holder and PRESTART. -/
  | stateRead (dt : Nat) (p : Fin 8)
  /-- RESET (R478): A partition commands a reset of reach SYSTEM or ENGINE. -/
  | reset (dt : Nat) (p : Fin 8) (reach : Word)
  /-- PARAM_READ (R404): A host reads parameter entries taken at the end of one completed tick. -/
  | paramRead (dt : Nat) (p : Fin 8) (ids : List Word)
  /-- PARAM_WRITE (R403): A host writes a set of parameters that is accepted or refused whole. -/
  | paramWrite (dt : Nat) (p : Fin 8) (es : List (Nat × Wire))
  /-- PARAM_STAGE (R405): A host stores a checked parameter set under a set number for a COMMIT. -/
  | paramStage (dt : Nat) (p : Fin 8) (n : Word) (es : List (Nat × Wire))
  /-- PARAM_UNSTAGE (R405): The token holder removes a staged parameter set. -/
  | paramUnstage (dt : Nat) (p : Fin 8) (n : Word)
  /-- PARAM_DESCRIBE (R402): A host reads a parameter's type, class, right, range and default. -/
  | paramDescribe (dt : Nat) (p : Fin 8) (id : Word)
  /-- TIME_READ (R66): A host reads snapshots of the requested timebases taken in one fabric cycle. -/
  | timeRead (dt : Nat) (p : Fin 8) (mask : Word)
  /-- RE_ACQUIRE (R43): A TIME partition returns a timebase to ACQUIRING so that it may leap again. -/
  | reAcquire (dt : Nat) (p : Fin 8) (tb : Word)
  /-- TOD_WRITE (R33): A TIME partition writes a time of day for a timebase of source HOST. -/
  | todWrite (dt : Nat) (p : Fin 8) (tb : Word) (sec : Wire) (ns frac : Word)
  /-- LAUNCH_PLACE (R63): A partition places a launch entry at an Almanac time. -/
  | launchPlace (dt : Nat) (p : Fin 8) (tb : Word) (sec : Wire) (ns frac action arg : Word)
  /-- LAUNCH_CANCEL (R63): The placing partition or SERVICE cancels a launch entry. -/
  | launchCancel (dt : Nat) (p : Fin 8) (e : Word)
  /-- LAUNCH_LIST (R63): A host reads the 32 launch entries with their placing partitions. -/
  | launchList (dt : Nat) (p : Fin 8)
  /-- FAULT_LIST (R268): A host reads the held fault records, paged. -/
  | faultList (dt : Nat) (p : Fin 8) (first : Word)
  /-- LOG_READ (R268): A host reads records from the MRAM log ring, paged. -/
  | logRead (dt : Nat) (p : Fin 8) (first count : Word)
  /-- FIRST_OUT_READ (R269): A host reads FO_CUR or FO_PREV. -/
  | firstOutRead (dt : Nat) (p : Fin 8) (which : Word)
  /-- PATTERN_LOAD (R503): A partition writes pattern bytes into staging. -/
  | patternLoad (dt : Nat) (p : Fin 8) (offset : Word) (ws : List Word)
  /-- PATTERN_VERIFY (R497): The staged pattern is checked for layout, digest, target, signature, counter and entries. -/
  | patternVerify (dt : Nat) (p : Fin 8)
  /-- PATTERN_ACTIVATE (R498): The verified pattern is written to the previous slot and comes into force, committed or on trial. -/
  | patternActivate (dt : Nat) (p : Fin 8) (trialT : Word)
  /-- PATTERN_CONFIRM (R500): The token holder ends a trial and commits the trial pattern. -/
  | patternConfirm (dt : Nat) (p : Fin 8) (counter : Word)
  /-- PATTERN_ROLLBACK (R501): The current and previous patterns are exchanged. -/
  | patternRollback (dt : Nat) (p : Fin 8)
  /-- PATTERN_STATUS (R500): A host reads the pattern slots, staging state and TRIAL_LEFT. -/
  | patternStatus (dt : Nat) (p : Fin 8)
  /-- IMAGE_LOAD (R514): A SERVICE partition writes firmware image bytes into a slot not in use. -/
  | imageLoad (dt : Nat) (p : Fin 8) (slot : Fin 2) (offset : Word) (ws : List Word)
  /-- IMAGE_SELECT (R503): A SERVICE partition verifies an image and makes its slot ACTIVE_SLOT for the next start. -/
  | imageSelect (dt : Nat) (p : Fin 8) (slot : Fin 2)
  /-- IMAGE_STATUS (R492): A SERVICE partition reads the firmware slots, attempt counts and fallback flag. -/
  | imageStatus (dt : Nat) (p : Fin 8)
  /-- IDENTITY_READ (R515): A host reads the certificate, identity key or owner key, paged. -/
  | identityRead (dt : Nat) (p : Fin 8) (item offset : Word)
  /-- ATTEST (R520): A host has the device sign a report over a nonce, or reads bytes of the held report. -/
  | attest (dt : Nat) (p : Fin 8) (offset : Word) (nonce : BitVec 256)
  /-- PROVISION (R512): The device generates its identity key pair and returns the public key. -/
  | provision (dt : Nat) (p : Fin 8)
  /-- OWNER_KEY_SET (R516): A SERVICE partition installs or replaces the owner key. -/
  | ownerKeySet (dt : Nat) (p : Fin 8) (offset : Word) (ws : List Word)
  /-- LIFECYCLE_ADVANCE (R512): The lifecycle advances from PROVISIONED to FIELD once the certificate is stored. -/
  | lifecycleAdvance (dt : Nat) (p : Fin 8)
  /-- RMA_ENTER (R512): An authorised RMA entry erases the keys, patterns and safety set. -/
  | rmaEnter (dt : Nat) (p : Fin 8) (offset : Word) (ws : List Word)
  /-- COUNTER_ADVANCE (R517): A SERVICE partition raises an anti-rollback counter. -/
  | counterAdvance (dt : Nat) (p : Fin 8) (k v : Word)
  /-- TAMPER_CLEAR (R519): A SERVICE partition clears a tamper latch whose input is high. -/
  | tamperClear (dt : Nat) (p : Fin 8) (source : Word) (high : Bool)
  /-- TAMPER_LATCH (R518): A TAMPER_N low of 1 ms sets its latch and applies TAMPER_ACT. -/
  | tamperLatch (dt : Nat) (k : Fin 2)
  /-- BIST_RUN (R507): A SERVICE partition starts logic or memory BIST in PARKED or ARMED. -/
  | bistRun (dt : Nat) (p : Fin 8) (mask : BitVec 2)
  /-- BIST_COMPLETE (R508): BIST ends, the schedule is recompiled, the engines reinitialised and a failure raises SYS_BIST_FAIL. -/
  | bistComplete (dt : Nat) (sig : BitVec 128) (pass : BitVec 2)
  /-- BIST_RESULT (R508): A host reads the BIST signature and pass flags. -/
  | bistResult (dt : Nat) (p : Fin 8)
  /-- BLOCK_RESET (R485): The token holder asks a block to go idle and then resets it. -/
  | blockReset (dt : Nat) (p : Fin 8) (code : Word)
  /-- BLOCK_RESET_COMPLETE (R486): On the idle acknowledgement or BLK_IDLE_T the block is reset and runs again from the next tick. -/
  | blockResetComplete (dt : Nat) (code : Nat) (idle : Bool)
  /-- START_CLEAR (R495): A SERVICE partition zeroes both start-attempt counts and clears the fallback flag. -/
  | startClear (dt : Nat) (p : Fin 8)
  /-- POWER_ON_RESET (R478): A main rail below its power-on threshold asserts a FULL reset. -/
  | powerOnReset (dt : Nat) (low : Bool)
  /-- RESET_N (R478): A RESET_N low of 1 µs or longer asserts a FULL reset. -/
  | resetN (dt : Nat) (low : Bool)
  /-- JTAG_RESET (R478): A JTAG reset in an open lifecycle asserts a FULL reset. -/
  | jtagReset (dt : Nat)
  /-- RESET_RELEASE_STEP (R481): A domain of the release order is released when its condition and the previous gap are met. -/
  | resetReleaseStep (dt : Nat)
  /-- RELEASE_WAIT_LIMIT (R481): A release step whose wait limit passes records the step and asserts a FULL reset. -/
  | releaseWaitLimit (dt : Nat)
  /-- START_TARGET_REACHED (R489): BOOT enters its start target once every enabled port is READY, refused or failed once. -/
  | startTargetReached (dt : Nat)
  /-- START_SUCCESS (R493): START_OK_T after reaching the target the start succeeds and the slot count is zeroed. -/
  | startSuccess (dt : Nat)
  /-- TRIAL_EXPIRY (R500): TRIAL_LEFT reaching zero reverts to the previous pattern. -/
  | trialExpiry (dt : Nat)
  /-- KEEPER_SECOND (R40): The keeper counts a whole second and counts down TRIAL_LEFT and EMBER_LEFT. -/
  | keeperSecond (dt : Nat)
  /-- KEEPER_MIRROR (R505): Every 10 s the keeper counts are mirrored in MRAM. -/
  | keeperMirror (dt : Nat)
  /-- RAILS_LOSS (R504): The keeper isolates within 1 µs of VDD falling and the device enters SHELF. -/
  | railsLoss (dt : Nat)
  /-- MIL_LOCKSTEP (R10): A lockstep divergence in a Milliner pair raises MIL_LOCKSTEP. -/
  | milLockstep (dt : Nat)
  /-- MIL_WATCHDOG (R10): A supervisor watchdog expiry raises MIL_WATCHDOG. -/
  | milWatchdog (dt : Nat)
  /-- SRAM_ECC (R262): An uncorrectable error in firmware or control tables raises SRAM_ECC. -/
  | sramEcc (dt : Nat) (corrected perTick tables : Bool)
  /-- SUPPLY_MONITOR (R529): VDD, VDDM or VDDA outside its range for 1 µs raises SUPPLY_MONITOR. -/
  | supplyMonitor (dt : Nat) (rail : Fin 3) (inRange : Bool)
  /-- PKG_RAIL (R534): VDDL, VDDLH or a VDDIO bank outside its range for 1 µs raises PKG_RAIL. -/
  | pkgRail (dt : Nat) (rail : Fin 10) (inRange : Bool)
  /-- TEMP_MONITOR_UPDATE (R540): The on-die temperature reading updates and raises or clears TEMP_HIGH and TEMP_TRIP. -/
  | tempMonitorUpdate (dt : Nat) (tj : Int)
  /-- LANE_LOS (R430): Loss of signal asserts on a lane and its owner raises its link fault. -/
  | laneLos (dt : Nat) (n : Fin 64)
  /-- LANE_LOL (R430): Loss of lock asserts on a lane and its owner raises its link fault. -/
  | laneLol (dt : Nat) (n : Fin 64)
  /-- LANE_ETH_DOWN (R442): An Ethernet lane with LOS, LOL or SYNC lost for 1 ms raises LANE_ETH_DOWN. -/
  | laneEthDown (dt : Nat) (n : Fin 64)
  /-- LANE_L2_EXIT (R436): A lane completes its exit from L2 with equaliser selection and retraining. -/
  | laneL2Exit (dt : Nat) (n : Fin 64) (eq : Fin 16)
  /-- ETH_FRAME_RX (R438): An Ethernet frame is received and answered or passed on by ARP, ICMP, UDP or PTP. -/
  | ethFrameRx (dt : Nat) (n : Fin 64) (f : EthFrame)
  /-- MARGIN_SCAN (R431): A write starts a margin scan across phase and threshold on the lane. -/
  | marginScan (dt : Nat) (p : Fin 8) (n : Fin 64)
  /-- MARGIN_SCAN_DONE (R431): The margin scan ends and reports H_MARGIN and V_MARGIN. -/
  | marginScanDone (dt : Nat) (n : Fin 64) (h : Fin 1025) (v : Nat)
  /-- ERR_INJ (R435): A write inverts one bit or a burst of bits of the PRBS generator. -/
  | errInj (dt : Nat) (p : Fin 8) (n : Fin 64) (v : Word)
  /-- PRBS_CHK (R434): A write selects the PRBS checker and zeroes its counters. -/
  | prbsChk (dt : Nat) (p : Fin 8) (n : Fin 64) (v : Fin 5)
  /-- PWR_REQ (R437): A write requests a lane power state. -/
  | pwrReq (dt : Nat) (p : Fin 8) (n : Fin 64) (v : Fin 3)
  /-- LOOP (R432): A write selects or ends a lane loop and the port retrains on its end. -/
  | loop (dt : Nat) (p : Fin 8) (n : Fin 64) (v : Fin 4)
  /-- XM_LOSS (R444): No XM edge for 200 ns drops XM_OK and raises CLK_XM_LOST. -/
  | xmLoss (dt : Nat)
  /-- XS_LOSS (R446): No XS edge for 250 µs drops XS_OK and raises CLK_XS_LOST. -/
  | xsLoss (dt : Nat)
  /-- REF_MEASURE (R445): Once per second each enabled REF input is measured against XM and may be declared lost. -/
  | refMeasure (dt : Nat) (x : Fin 2) (present : Bool) (ppm : Int)
  /-- PLL_LOCK (R447): A PLL is declared locked and the outputs it gates resume. -/
  | pllLock (dt : Nat) (x : Fin 20)
  /-- PLL_UNLOCK (R448): A PLL is declared unlocked and its loss-of-lock reaction applies. -/
  | pllUnlock (dt : Nat) (x : Fin 20)
  /-- OPLL_RETUNE (R453): A write of N_INT, N_FRAC or dither gates the OPLL outputs and retunes the OPLL. -/
  | opllRetune (dt : Nat) (p : Fin 8) (ni nf dith seed : Word)
  /-- CLKOUT_DIV_CHANGE (R453): A write of DIV or TB_PERIOD gates one output and loads the new value at the gate. -/
  | clkoutDivChange (dt : Nat) (p c : Fin 8) (tb : Bool) (v : Wire)
  /-- OPLL_STEER (R454): Every millisecond the OPLL fraction follows the steered timebase's rate correction. -/
  | opllSteer (dt : Nat)
  /-- TX_REQ (R466): A write requests transmission of CAN transmit buffers. -/
  | txReq (dt : Nat) (p : Fin 8) (n : Fin 4) (mask : BitVec 3)
  /-- TX_ABORT (R469): A write aborts CAN transmit buffers. -/
  | txAbort (dt : Nat) (p : Fin 8) (n : Fin 4) (mask : BitVec 3)
  /-- CAN_RECOVER (R471): The token holder starts bus-off recovery of a controller. -/
  | canRecover (dt : Nat) (p : Fin 8) (n : Fin 4)
  /-- CAN_TX_START (R467): When the bus becomes free the controller selects a PENDING buffer by TX_ORDER and sends it. -/
  | canTxStart (dt : Nat) (n : Fin 4)
  /-- CAN_TX_ATTEMPT_END (R468): A transmission attempt ends in success, lost arbitration or an error that counts against RETRY. -/
  | canTxAttemptEnd (dt : Nat) (n : Fin 4) (e : CanEnd) (tdc : Nat)
  /-- CAN_FRAME_RX (R472): A received frame matching a filter goes to the receive FIFO, and a wake frame may cause ARM. -/
  | canFrameRx (dt : Nat) (n : Fin 4) (fr : CanFrame) (esi : Bool) (age : Nat)
  /-- CAN_BUS_OFF_RECOVERED (R471): 128 occurrences of 11 recessive bits end BUS_OFF. -/
  | canBusOffRecovered (dt : Nat) (n : Fin 4)
  /-- REGISTER_WRITE (R395): A write to a window register with no behaviour of its own updates the partition's register. -/
  | registerWrite (dt : Nat) (p : Fin 8) (off : BitVec 15) (v : Word)
  /-- VBAT_IN_RANGE (R504): VBAT comes into range while the main rails are absent, and the device passes from OFF to SHELF with the keeper running. -/
  | vbatInRange (dt : Nat)
  /-- VBAT_LOSS (R505): VBAT is lost while the main rails are off, so the keeper loses its counts and the device passes from SHELF to OFF. -/
  | vbatLoss (dt : Nat)
  /-- XM_OK_RISING (R447): XM edges return, XM_OK rises and the PLLs start their lock from it. -/
  | xmOkRising (dt : Nat)
  /-- XS_OK_RISING (R446): XS edges return, XS_OK rises and the keeper counts on the 32.768 kHz clock again. -/
  | xsOkRising (dt : Nat)
  /-- LOS_CLEAR (R430): After the lane amplitude has stayed at or above 120 mV for 2 µs, LOS clears and the owner may retrain the link. -/
  | losClear (dt : Nat) (n : Fin 64)
  /-- LANE_SYNC_ACQUIRED (R430): A lane's Clause 36 code-group synchronisation or Clause 49 block lock is gained and SYNC is set. -/
  | laneSyncAcquired (dt : Nat) (n : Fin 64)
  /-- LANE_SYNC_LOST (R430): A lane loses code-group synchronisation or block lock and SYNC clears, starting the 1 ms of LANE_ETH_DOWN. -/
  | laneSyncLost (dt : Nat) (n : Fin 64)
  /-- HEARTBEAT_PRESENT (R332): Rising edges return on PAIR_HB_IN and the partner's heartbeat is present again. -/
  | heartbeatPresent (dt : Nat)
  /-- PAIR_LANE_UP (R331): A pair lane comes up within its delay limit, which lets a member join or clears PAIR_LANE_DOWN. -/
  | pairLaneUp (dt : Nat) (l : Fin 2)
  /-- FRAME_DISCARDED (R204): An upstream PlynLink frame with a bad CRC, code violation, wrong LEN, reserved TYPE or /A/ is discarded and counted in DISCARDS toward LINK_CRC. -/
  | frameDiscarded (dt : Nat) (p : Fin 64)
  /-- SLEW_PART_END (R46): The phase added by the slew part reaches −o_k and the slew part of the timebase's rate correction returns to zero. -/
  | slewPartEnd (dt : Nat) (k : Fin 4)
  /-- MIL_FAULT_RESET (R478): 10 ms after a MIL_LOCKSTEP or MIL_WATCHDOG record reaches MRAM, a reset of reach SYSTEM is asserted. -/
  | milFaultReset (dt : Nat)
  /-- CHECKER_LOCK (R434): The PRBS checker finds 64 consecutive matching bits, locks and starts counting bits and errors. -/
  | checkerLock (dt : Nat) (n : Fin 64)
  /-- CHECKER_LOCK_LOST (R434): More than 16 errors in 64 bits make the PRBS checker lose lock and seek to relock. -/
  | checkerLockLost (dt : Nat) (n : Fin 64) (errs : Nat)
  /-- CAN_BUS_INTEGRATION (R461): A controller sees 11 consecutive recessive bits after a start or a clock-source change and leaves INTEGRATING. -/
  | canBusIntegration (dt : Nat) (n : Fin 4)
  /-- CAN_RECEIVE_ERROR (R470): A controller detects an error in a frame it is receiving, raises REC and may become error passive. -/
  | canReceiveError (dt : Nat) (n : Fin 4) (primary : Bool)
  /-- PCIE_LINK_UP (R386): The PCIe link trains and its functions present their register windows to the host. -/
  | pcieLinkUp (dt : Nat)
  /-- SDCLK_RETURN (R289): A rising edge returns on SDCLK[g] and the missing-clock detector of the group's inputs becomes inactive. -/
  | sdclkReturn (dt : Nat) (g : Fin 6)
  /-- CLEARS_WHEN_HELD (R256): A held NOTE fault whose clearing condition must hold for a time, such as locked for 1 ms or heartbeat present for 1 ms, clears when that time runs out. -/
  | clearsWhenHeld (dt : Nat) (code : BitVec 16) (kind : BitVec 4) (index : BitVec 12)
deriving DecidableEq, Repr

end Sys2Proof
end

