-- ==== Sys2Proof/Decode.lean ====
section
/-! DEFINITION. The command a word spells by the bits of spec/opcode_table.json. No row of that table gives bits: the commands of this
block are messages, register accesses and events, none of which is one word. -/
namespace Sys2Proof

/-- The command that the `nbits` bits `w` spell: none, since the table gives no row any bits. -/
def decodeTableWord (_nbits _w : Nat) : Option Instr := none

end Sys2Proof
end

