-- ==== Sys2Proof/Machine/State.lean ====
section
/-! DEFINITION. The state of the GW8256: everything the manual gives the device, as plain data; its faults and
refusals; and the state right after reset. Times of TB[0] are in 2^-16 ns (`q`) unless a field says steps of 62.5 ps. -/
namespace Sys2Proof.Machine

/-- What would stop a step with a fault. No command of this block does: the manual answers every command, and every
error of a host or of the plant is a status code, a fault record or a discarded frame, which are NEXT states. Safe. -/
inductive Fault where
  /-- Raised by no meaning; kept so that the type is inhabited. Safe. -/
  | none
deriving DecidableEq, Repr

/-- Why a command has no meaning. -/
inductive Refusal where
  /-- The command's arm has no meaning yet (Dispatch). Safe: nothing is claimed of it. -/
  | notModelled (mnemonic : String)
deriving DecidableEq, Repr

/-! The whole device. -/

/-- What the device sends or drives because of one command. -/
inductive Out where
  /-- A PlynLink frame is handed to the transmitter of port `p`, which sends it in the order of R206. -/
  | plink (port : Nat) (f : PlyFrame)
  /-- The first bit of a frame leaves port `p` at a step of TB[0]: its bytes from header to CRC (R203). -/
  | wire (port : Nat) (at_ : Nat) (bytes : List Byte)
  /-- A CFG or DIAG frame in progress is closed with /A/ at a step of TB[0] (R206). -/
  | abort (port : Nat) (at_ : Nat)
  /-- A frame is handed to the transmitter of PP[port] (0 to 7) or PAIR[port - 8] with its SEQ (spec/12_pairs_and_chains.md). -/
  | peer (port : Nat) (seq : Nat) (f : PeerFrame)
  /-- That frame starts to leave at a step of TB[0] (R340), with its header (Table 12-2). -/
  | peerWire (port : Nat) (at_ : Nat) (hdr : BitVec 64) (f : PeerFrame)
  /-- A response becomes ready for partition `p` (R396, R400). -/
  | resp (p : Nat) (r : Resp)
  /-- An interrupt of partition `p`: IRQ_STAT bit v rose while enabled (MSI-X vector v, HSPI_IRQ_N or NOTICE). -/
  | irq (p : Nat) (v : Nat)
  /-- A NOTICE datagram (R388). -/
  | notice (p : Nat) (stat : Nat) (evtSeq : Nat)
  /-- An edge of a named pin: 0 PPS_OUT, 1 to 4 TRIG_OUT[0..3], at a TB[0] time in q. -/
  | pin (n : Nat) (high : Bool) (at_ : Nat)
  /-- A PTP message leaves an Ethernet lane. -/
  | ptp (lane : Nat) (k : PtpKind) (time : Int) (hd : PtpHead)
  /-- A CAN FD frame starts on CANFD[n]. -/
  | can (n : Nat) (f : CanFrame) (esi : Bool)
  /-- A safety connection status message leaves (R376). -/
  | safety (conn : Nat) (bytes : List Byte)
  /-- Words written to host memory at an address (R418). -/
  | dma (addr : Nat) (words : List Word)
  /-- Inverted bits of a lane's PRBS generator (R435). -/
  | inject (lane : Nat) (bits : Nat)
  /-- An Ethernet frame leaves a lane: 0 ARP reply, 1 ICMP echo reply. -/
  | eth (lane : Nat) (kind : Nat)
  /-- A word read through a window. -/
  | read (p : Nat) (w : Word)
deriving DecidableEq, Repr

/-- The state of the device. -/
structure State where
  dev : Dev := .boot
  trans : List Trans := []
  /-- The cause of the last transition out of RUN and blocking causes of the current tick: code and detail (R26). -/
  blockCause : Option (Nat × Nat) := none
  alm : Alm := {}
  hst : Hst := {}
  gfe : Vector Gfi 4 := Vector.replicate 4 {}
  lpe : Lpe := {}
  mod : Modr := {}
  plk : Plk := {}
  spu : Spu := {}
  bsd : Bsd := {}
  adc : Adc := {}
  recd : Recs := {}
  rdn : Rdn := {}
  can : Vector CanCtl 4 := Vector.replicate 4 {}
  lanes : LaneU := {}
  clk : Clk := {}
  sfi : Sfi := {}
  sys : Sys := {}
  sec : Sec := {}
  tx : Tx := {}
  pkg : Pkg := {}
  /-- Effective values written, by parameter ID; a field not listed has its default (R4). -/
  par : Tab Wire := []
  pend : List Pend := []
  /-- Since when, in clock steps, the timed "Clears when" condition of a held fault has held, by code and INDEX (R256). -/
  since : Tab Nat := []
  /-- The model's own: TPLL steps of 62.5 ps since State.reset, in real time. -/
  clock : Nat := 0
  /-- The model's own: how many free values have been drawn. -/
  free : Nat := 0
  /-- The model's own: what the latest command made the device send. -/
  out : List Out := []
  /-- The model's own: commands waiting, first in first out. -/
  pending : List Instr := []
deriving DecidableEq, Repr

/-- The device right after reset. -/
def State.reset : State := {}

end Sys2Proof.Machine
end

