-- ==== Sys2Proof/Machine/Crc.lean ====
section
/-! DEFINITION. The check values of the manual: CRC-32 (R204), CRC-32C (R374) and CRC-64 (R343), all with reflected input and
output, over bytes; and the byte forms of numbers. -/
namespace Sys2Proof.Machine

/-- One bit of a reflected CRC with the bit-reversed polynomial `poly`. -/
def crcBit {w : Nat} (poly : BitVec w) (c : BitVec w) : BitVec w := if c.getLsbD 0 then (c >>> 1) ^^^ poly else c >>> 1

def crcByte {w : Nat} (poly : BitVec w) (c : BitVec w) (b : Byte) : BitVec w :=
  (List.range 8).foldl (fun c _ => crcBit poly c) (c ^^^ b.setWidth w)

def crcGo {w : Nat} (poly : BitVec w) (bs : List Byte) : BitVec w :=
  ~~~ (bs.foldl (crcByte poly) (BitVec.allOnes w))

/-- R204: polynomial 0x04C1_1DB7. -/
def crc32 (bs : List Byte) : BitVec 32 := crcGo 0xEDB88320 bs
/-- R374: polynomial 0x1EDC_6F41. -/
def crc32c (bs : List Byte) : BitVec 32 := crcGo 0x82F63B78 bs
/-- R343: polynomial 0x42F0_E1EB_A9EA_3693. -/
def crc64 (bs : List Byte) : BitVec 64 := crcGo 0xC96C5795D7870F42 bs

/-- The n bytes of a number, most significant first. -/
def bytesBE : Nat → Nat → List Byte
  | 0, _ => []
  | n + 1, v => BitVec.ofNat 8 (v / 256 ^ n) :: bytesBE n v

/-- The n bytes of a number, least significant first. -/
def bytesLE : Nat → Nat → List Byte
  | 0, _ => []
  | n + 1, v => BitVec.ofNat 8 v :: bytesLE n (v / 256)

def ofBytesBE (bs : List Byte) : Nat := bs.foldl (fun a b => a * 256 + b.toNat) 0

end Sys2Proof.Machine
end

