-- ==== Sys2Proof/Config.lean ====
section
/-! DEFINITION. What an implementation fixes and the manual leaves open: constants without a body, so that a claim about the
model holds whatever they are. A fresh value is one of them applied to the counter State.free. -/
namespace Sys2Proof.Config

/-- A free word: the n-th value the manual leaves open (notes/assumptions/4.md). -/
opaque freeWord : Nat → BitVec 32

/-- A free bit (FAULT_IN pulses between 10 and 25 ns, spec/06_modulator.md R186). -/
opaque freeBit : Nat → Bool

/-- The fixed table of compensator coefficients for an ORDER and PHASE_OPT, and the binary places that its scaling by 1/R^N keeps for a
decimation setting (spec/09_bitstream_inputs.md R277), unprinted in the manual. `compCoeff` holds them to the limits R277 sets. -/
opaque compTable : Nat → Nat → Int
opaque compPlaces : Nat → Nat

/-- The shift K of the compensator for a decimation setting (R277), unprinted in the manual. -/
opaque compShift : Nat → Nat

/-- Taps h_p[i] of the resampler (spec/09_bitstream_inputs.md R278), unprinted in the manual: phase, tap. `resampTaps` holds them to the
limits R278 sets. -/
opaque resampTap : Nat → Nat → Int

/-- Factory corrections of converter slice s (spec/10_analog_inputs.md R294, R299): offset and gain. -/
opaque adcOffset : Nat → Int
opaque adcGain : Nat → Int

/-- The 64-bit UID, part and stepping words and factory lane latencies of the identity record. -/
opaque uid : BitVec 64
opaque part : BitVec 32
opaque laneLatency : (tx : Bool) → (lane rate : Nat) → Int

/-- SHA3-512 (FIPS 202) of a byte list, as 64 bytes; the manual names it and does not restate it (R511). -/
opaque sha3 : List (BitVec 8) → List (BitVec 8)

/-- ML-DSA-87 (FIPS 204) verification of a signature over a digest with a key (R511). -/
opaque verify : (key msg sig : List (BitVec 8)) → Bool

/-- A signature made with the device's identity key, and the n-th generated key pair's public half (R511, R513). -/
opaque sign : (n : Nat) → (msg : List (BitVec 8)) → List (BitVec 8)
opaque genKey : Nat → List (BitVec 8)

/-- VK[0] and VK[1], the digests in the boot ROM of the Valurn firmware keys (R514); the Valurn failure-analysis key that signs an RMA
authorisation (R512). -/
opaque vk : Nat → List (BitVec 8)
opaque rmaKey : List (BitVec 8)

/-- The version and the SVN that a firmware image carries; the manual does not place them in it (R497, R514). -/
opaque imageVersion : List (BitVec 8) → Nat
opaque imageSvn : List (BitVec 8) → Nat

/-- How many /X/ and /I/ the elastic buffer of port p's receiver has inserted (`ins`) or deleted between the frame that arrives at clock
step t and the one before it (spec/07_plynlink.md R202, Table 7-16): it depends on both ends' oscillators. -/
opaque filler : (ins : Bool) → (p t : Nat) → Nat

/-- The clockIdentity value of the identity record (spec/02_almanac_time.md R56). -/
opaque clockId : BitVec 64

end Sys2Proof.Config
end

