-- ==== Sys2Proof/Machine/Codes.lean ====
section
/-! DEFINITION. The fault codes: default reaction, floor, ceiling and scope of each (spec/08_switch_protection.md R242, R262,
Tables 8-5 and 8-6 with Tables 2-3, 3-6, 4-6, 5-9, 6-6, 7-17, 10-6, 11-6, 12-12, 13-6, 15-6, 16-9, 17-9, 18-7, 19-15, 20-10, 21-17). -/
namespace Sys2Proof.Machine

/-- Reaction levels of Table 8-1. -/
def rNote : Nat := 1
def rLeg : Nat := 2
def rGroup : Nat := 3
def rDevice : Nat := 4
def rGlobal : Nat := 5
def rSafe : Nat := 6

/-- One line of the code tables: codes lo..hi, default, floor, ceiling; scope 0 DEVICE, 1 CHANNEL, 2 PORT. -/
structure CodeRow where
  lo : Nat
  hi : Nat
  dflt : Nat
  floor : Nat := 1
  ceil : Nat := 5
  scope : Nat := 0
deriving DecidableEq, Repr

def codeRows : List CodeRow := [
  ⟨0x1001, 0x1005, 2, 1, 5, 1⟩, ⟨0x1006, 0x1006, 2, 1, 5, 2⟩, ⟨0x1010, 0x1010, 1, 1, 5, 1⟩, ⟨0x1011, 0x1013, 2, 1, 5, 1⟩,
  ⟨0x1014, 0x1014, 2, 1, 5, 2⟩, ⟨0x1015, 0x1015, 2, 1, 5, 1⟩, ⟨0x1020, 0x1023, 1, 1, 1, 1⟩, ⟨0x1030, 0x1030, 1, 1, 1, 1⟩,
  ⟨0x1031, 0x1031, 1, 1, 5, 1⟩,
  ⟨0x2100, 0x211F, 1, 1, 5, 1⟩, ⟨0x2140, 0x216F, 1, 1, 5, 1⟩, ⟨0x2180, 0x2184, 1, 1, 5, 0⟩, ⟨0x2301, 0x2304, 1, 1, 5, 1⟩,
  ⟨0x3001, 0x3001, 1, 1, 5, 2⟩, ⟨0x3002, 0x3002, 4, 1, 5, 2⟩, ⟨0x3003, 0x3005, 1, 1, 5, 2⟩, ⟨0x3010, 0x3011, 4, 1, 5, 2⟩,
  ⟨0x3012, 0x3014, 1, 1, 5, 2⟩,
  ⟨0x3101, 0x3108, 1, 1, 5, 0⟩, ⟨0x3110, 0x3110, 1, 1, 5, 0⟩, ⟨0x3120, 0x3120, 5, 5, 5, 0⟩, ⟨0x3121, 0x3123, 1, 1, 5, 0⟩,
  ⟨0x3201, 0x3202, 1, 1, 5, 0⟩,
  ⟨0x3300, 0x3303, 1, 1, 5, 0⟩, ⟨0x3310, 0x3313, 1, 1, 5, 0⟩, ⟨0x3320, 0x3323, 1, 1, 5, 0⟩, ⟨0x3330, 0x3333, 1, 1, 5, 0⟩,
  ⟨0x4101, 0x4101, 4, 4, 5, 0⟩, ⟨0x4110, 0x4113, 1, 1, 5, 0⟩, ⟨0x4201, 0x4201, 4, 4, 5, 0⟩, ⟨0x4301, 0x4301, 4, 4, 5, 0⟩,
  ⟨0x5101, 0x5101, 4, 4, 5, 0⟩, ⟨0x5102, 0x5103, 1, 1, 5, 0⟩, ⟨0x5104, 0x5104, 4, 1, 5, 0⟩, ⟨0x5105, 0x510B, 1, 1, 5, 0⟩,
  ⟨0x5201, 0x5201, 4, 4, 5, 0⟩, ⟨0x5202, 0x5202, 1, 1, 5, 0⟩, ⟨0x5203, 0x5203, 4, 1, 5, 0⟩, ⟨0x5204, 0x5205, 1, 1, 5, 0⟩,
  ⟨0x5301, 0x5301, 1, 1, 5, 1⟩, ⟨0x5302, 0x5303, 1, 1, 5, 0⟩, ⟨0x5401, 0x5401, 2, 2, 5, 1⟩,
  ⟨0x6001, 0x6006, 6, 6, 6, 0⟩, ⟨0x6007, 0x6007, 6, 6, 6, 1⟩, ⟨0x6008, 0x600C, 6, 6, 6, 0⟩, ⟨0x6010, 0x6014, 6, 6, 6, 0⟩,
  ⟨0x6020, 0x6020, 5, 5, 5, 0⟩, ⟨0x6031, 0x6033, 1, 1, 1, 0⟩, ⟨0x6035, 0x6035, 1, 1, 1, 0⟩,
  ⟨0x7001, 0x7004, 4, 4, 5, 0⟩, ⟨0x7005, 0x7005, 1, 1, 5, 0⟩, ⟨0x7006, 0x7006, 4, 4, 5, 0⟩, ⟨0x7007, 0x7007, 4, 4, 4, 0⟩,
  ⟨0x7008, 0x7008, 4, 4, 5, 0⟩, ⟨0x7101, 0x7104, 1, 1, 5, 0⟩, ⟨0x7200, 0x720F, 1, 1, 5, 0⟩, ⟨0x7210, 0x721F, 1, 1, 5, 0⟩,
  ⟨0x7220, 0x722F, 1, 1, 5, 0⟩,
  ⟨0x7301, 0x7301, 4, 1, 5, 0⟩, ⟨0x7302, 0x7302, 1, 1, 5, 0⟩, ⟨0x7303, 0x7303, 4, 1, 5, 0⟩, ⟨0x7304, 0x7306, 1, 1, 5, 0⟩,
  ⟨0x7401, 0x7408, 1, 1, 5, 0⟩, ⟨0x7501, 0x7502, 1, 1, 5, 0⟩, ⟨0x7601, 0x7602, 1, 1, 5, 0⟩]

/-- The line of a code, if the manual defines the code. -/
def codeRow (code : Nat) : Option CodeRow := codeRows.find? (fun r => decide (r.lo ≤ code) && decide (code ≤ r.hi))

def codeDefault (code : Nat) : Nat := ((codeRow code).map (·.dflt)).getD 1

/-- The codes of the safety island, whose reactions belong to the safety parameter set (R262, R368). -/
def codeIsSafety (code : Nat) : Bool := code / 4096 == 6

end Sys2Proof.Machine
end

