-- ==== Sys2Proof/Machine/Ops.lean ====
section
/-! DEFINITION. The operations every unit shares: sparse tables, elapsed time, effective parameter values, emissions,
interrupt flags, the event log, and the end of a command. -/
namespace Sys2Proof.Machine

/-! Sparse tables: keys strictly rising. -/

def tabGet {α : Type} (t : Tab α) (k : Nat) (d : α) : α :=
  match t with
  | [] => d
  | (i, v) :: r => if i = k then v else tabGet r k d

def tabGet? {α : Type} (t : Tab α) (k : Nat) : Option α :=
  match t with
  | [] => none
  | (i, v) :: r => if i = k then some v else tabGet? r k

def tabPut {α : Type} (t : Tab α) (k : Nat) (v : α) : Tab α :=
  match t with
  | [] => [(k, v)]
  | (i, w) :: r => if i = k then (k, v) :: r else if k < i then (k, v) :: (i, w) :: r else (i, w) :: tabPut r k v

def tabDel {α : Type} (t : Tab α) (k : Nat) : Tab α := t.filter (fun e => e.1 != k)

def tabMod {α : Type} (t : Tab α) (k : Nat) (d : α) (f : α → α) : Tab α := tabPut t k (f (tabGet t k d))

/-! Vectors by a natural index. -/

def vget {α : Type} {n : Nat} (v : Vector α n) (i : Nat) (d : α) : α := if h : i < n then v[i] else d

def vmod {α : Type} {n : Nat} (v : Vector α n) (i : Nat) (f : α → α) : Vector α n :=
  if h : i < n then v.set i (f v[i]) else v

/-- Counters of status registers are 32 bits wide and saturate (R410). -/
def sat32 (n : Nat) : Nat := if n < max32 then n + 1 else max32
def satAdd32 (n k : Nat) : Nat := min (n + k) max32

/-! Numbers of a wire value. -/

def s32Of (w : Nat) : Int := (BitVec.ofNat 32 w).toInt
def wireOfInt (i : Int) : Wire := BitVec.ofInt 64 i
def lo32 (w : Wire) : Nat := w.toNat % 2 ^ 32
def wireOf (lo hi : Word) : Wire := hi ++ lo

/-- The wire value of a default. -/
def dfltWire (s : Tab Wire) (r : Row) (inst field : Nat) : Wire :=
  match r.dflt with
  | .w v => BitVec.ofNat 64 v
  | .i v => if r.ty = .s32 then BitVec.ofNat 64 ((BitVec.ofInt 32 v).toNat) else wireOfInt v
  | .q n d => if r.ty = .b64 then BitVec.ofNat 64 (fOfQ fmt64 n d) else BitVec.ofNat 64 (fOfQ fmt32 n d)
  | .inst b => BitVec.ofNat 64 (b + inst)
  | .dep rule =>
    let fNom : F64 := BitVec.ofNat 64 (tabGet s (mkId 1 inst 2) (BitVec.ofNat 64 (fOfInt fmt64 50))).toNat
    if rule = 12 then BitVec.ofNat 64 (fSub fmt64 fNom.toNat (fOfInt fmt64 5))
    else if rule = 13 then BitVec.ofNat 64 (fAdd fmt64 fNom.toNat (fOfInt fmt64 5))
    else if rule = 51 then fNom
    else if rule = 114 then BitVec.ofNat 64 (fMul fmt64 fNom.toNat (fOfQ fmt64 7 2))
    else if rule = 2 then (if (tabGet s (mkId 6 inst 0x21) 2).toNat = 3 then 254 else 0)
    else if rule = 200 then (if 0x1001 ≤ field + (inst % 16) * 4096 && field + (inst % 16) * 4096 ≤ 0x1005 then 1 else 0)
    else if rule = 201 then BitVec.ofNat 64 (codeDefault (field + (inst % 16) * 4096))
    else if rule = 301 then (if inst = 0 then 1 else if inst = 1 then 2 else 0)
    else if rule = 302 then (if inst = 1 then 0 else BitVec.ofNat 64 inst)
    else if rule = 303 then (if inst ≤ 1 then 0x21 else 0)
    else 0

/-! Effective values (R4, R402). `u i f` are unit, instance and field. -/

def State.wire (s : State) (id : Nat) : Wire :=
  match tabGet? s.par id with
  | some v => v
  | none => match rowOf id with
    | some r => dfltWire s.par r (idInst id) (idField id)
    | none => 0

/-- U32 fields, and binary32 patterns. -/
def State.pn (s : State) (u i f : Nat) : Nat := lo32 (s.wire (mkId u i f))
/-- T fields, 2^-16 ns. -/
def State.pt (s : State) (u i f : Nat) : Int := (s.wire (mkId u i f)).toInt
def State.ptn (s : State) (u i f : Nat) : Nat := (s.pt u i f).toNat
/-- S32 fields. -/
def State.ps (s : State) (u i f : Nat) : Int := s32Of (s.pn u i f)
/-- 64-bit patterns. -/
def State.pd (s : State) (u i f : Nat) : Nat := (s.wire (mkId u i f)).toNat
def State.setPar (s : State) (id : Nat) (v : Wire) : State := { s with par := tabPut s.par id v }

/-! Views of indexed units. -/

def State.hp (s : State) (p : Nat) : Hp := vget s.hst.hp p {}
def State.modHp (s : State) (p : Nat) (f : Hp → Hp) : State := { s with hst := { s.hst with hp := vmod s.hst.hp p f } }
def State.port (s : State) (p : Nat) : Port := tabGet s.plk.port p {}
def State.modPort (s : State) (p : Nat) (f : Port → Port) : State :=
  { s with plk := { s.plk with port := tabMod s.plk.port p {} f } }
def State.tel (s : State) (c : Nat) : Tel := tabGet s.plk.tel c {}
def State.modTel (s : State) (c : Nat) (f : Tel → Tel) : State :=
  { s with plk := { s.plk with tel := tabMod s.plk.tel c {} f } }
def State.chan (s : State) (c : Nat) : Chan := tabGet s.mod.ch c {}
def State.modChan (s : State) (c : Nat) (f : Chan → Chan) : State :=
  { s with mod := { s.mod with ch := tabMod s.mod.ch c {} f } }
def State.tb (s : State) (k : Nat) : Tb := vget s.alm.tb k {}
def State.modTb (s : State) (k : Nat) (f : Tb → Tb) : State := { s with alm := { s.alm with tb := vmod s.alm.tb k f } }
def State.sq (s : State) (q : Nat) : Sq := vget s.hst.sq q {}
def State.modSq (s : State) (q : Nat) (f : Sq → Sq) : State := { s with hst := { s.hst with sq := vmod s.hst.sq q f } }
def State.gfi (s : State) (k : Nat) : Gfi := vget s.gfe k {}
def State.modGfi (s : State) (k : Nat) (f : Gfi → Gfi) : State := { s with gfe := vmod s.gfe k f }
def State.emit (s : State) (o : Out) : State := { s with out := s.out ++ [o] }

/-- Bit i of a word, set where b holds. -/
def bitN (b : Bool) (i : Nat) : Nat := if b then 2 ^ i else 0

/-- The next free value (notes/assumptions/4.md). -/
def State.freeWord (s : State) : Word × State := (Config.freeWord s.free, { s with free := s.free + 1 })

/-! Elapsed time (R28, R34). -/

/-- 200 ppm in 2^-40 (R42). -/
def ppm200 : Int := 219902325

def clampI (lo hi x : Int) : Int := if x < lo then lo else if hi < x then hi else x

/-- One timebase over `n` TPLL steps: the rate estimate throughout, and the slew part until its phase is used up (R46). -/
def Tb.advance (n : Nat) (b : Tb) : Tb :=
  let mag := min (n * 4096 * b.slew.natAbs) b.slewLeft
  let ph : Int := if b.slew < 0 then -(mag : Int) else mag
  { b with
    acc := ((b.acc : Int) + n * 4096 * (2 ^ 40 + b.rateE) + ph).toNat
    slewLeft := b.slewLeft - mag
    slewSum := b.slewSum + ph }

/-- All four, in 40 ns lumps while the resolution is coarse; not at all while the Almanac domain is in reset. -/
def Alm.advance (n : Nat) (a : Alm) : Alm :=
  if !a.running then a
  else if a.coarse then
    { a with coarseRem := (a.coarseRem + n) % 640, tb := a.tb.map (Tb.advance ((a.coarseRem + n) / 640 * 640)) }
  else { a with tb := a.tb.map (Tb.advance n) }

/-- What every command begins with: time passes and the outputs of the command before are gone. -/
def State.begin (dt : Nat) (s : State) : State := { s with out := [], clock := s.clock + dt, alm := s.alm.advance dt }

/-- The reading of TB[k] in 2^-16 ns (R35, R36). -/
def Tb.q (b : Tb) : Nat := b.acc / 2 ^ 40
def State.nowK (s : State) (k : Nat) : Nat := (s.tb k).q
def State.now (s : State) : Nat := s.nowK 0
/-- TB[0] in 62.5 ps steps. -/
def State.nowStep (s : State) : Nat := s.now / stepQ

/-- The reading of TB[k] one step of its advance ago: 62.5 ps, or 40 ns while the resolution is coarse. Events of an exact time happen
in the step that reaches it. -/
def State.prevK (s : State) (k : Nat) : Int :=
  let b := s.tb k
  let n : Int := if s.alm.coarse then 640 else 1
  Int.fdiv ((b.acc : Int) - n * 4096 * (2 ^ 40 + b.rateE + (if b.slewLeft = 0 then 0 else b.slew))) (2 ^ 40)

/-- TB[k] reached the reading `t` in its last step. -/
def State.reaches (s : State) (k : Nat) (t : Int) : Bool := decide (s.prevK k < t) && decide (t ≤ s.nowK k)

/-- TB[k] reached a reading of `off` plus a whole number of periods in its last step. -/
def State.strikes (s : State) (k : Nat) (period : Nat) (off : Int) : Bool :=
  s.reaches k (Int.fdiv ((s.nowK k : Int) - off) (max period 1) * (max period 1) + off)

/-- The limits of an interval (R36): a difference of two times saturates there (R37). -/
def satInt (x : Int) : Int := clampI (-(2 ^ 63)) (2 ^ 63 - 1) x

def nsecQ : Nat := 65536
def secQn : Nat := 65536000000000
def secOf (q : Nat) : Nat := q / secQn
def nsOf (q : Nat) : Nat := q / nsecQ % 1000000000
def fracOf (q : Nat) : Nat := q % 65536

/-- The PlynLink execute count of a time (R38), from steps of 62.5 ps. -/
def exCount (step : Nat) : Nat := step % 2 ^ 44

/-- TICK: the count of the tick instant at or before the present TB[0] time (R11, R50). -/
def State.tickNow (s : State) : Int := Int.fdiv ((s.now : Int) - s.alm.origin) (max s.alm.period 1)
/-- The tick instant t_n in q. -/
def State.tickAt (s : State) (n : Int) : Int := s.alm.origin + n * s.alm.period

/-- The offset of the present time from the tick instant of the tick in progress, 2^-16 ns. -/
def State.phaseQ (s : State) : Int := (s.now : Int) - s.tickAt s.alm.tick

/-- Freeze point F in q (R13): 650 ns for a pair member, 250 ns alone. -/
def State.pairEn (s : State) : Bool := s.pn 10 0 1 == 1
def State.freezeQ (s : State) : Nat := if s.pairEn then 650 * nsecQ else 250 * nsecQ

/-! Device states. -/

/-- State codes of Table 15-2; OFF and SHELF, in which nothing reads them, are 0. -/
def devCode : Dev → Nat
  | .off => 0 | .shelf => 0 | .boot => 1 | .parked => 2 | .armed => 3 | .run => 4 | .blocked => 5 | .fallback => 6

/-- ARMED, RUN and BLOCKED, the states outside R22. -/
def Dev.live : Dev → Bool
  | .armed => true | .run => true | .blocked => true | _ => false

def Dev.powered : Dev → Bool
  | .off => false | .shelf => false | _ => true

end Sys2Proof.Machine
end

