-- ==== Sys2Proof/Machine/Flags.lean ====
section
/-! DEFINITION. Interrupt flags, notices and the event log: what sets IRQ_STAT (Table 14-4), what a record carries
(Tables 8-8 and 15-2) and where it goes (R268, R409, R412, R413). -/
namespace Sys2Proof.Machine

/-- Set IRQ_STAT bit v of partition p. A rise while enabled signals the host: MSI-X or HSPI_IRQ_N (R386, R387), or a NOTICE
over UDP (R388). -/
def setIrq (v p : Nat) (s : State) : State :=
  let h := s.hp p
  if h.irqStat.getLsbD v then s
  else
    let st := h.irqStat ||| BitVec.ofNat 4 (2 ^ v)
    let s := s.modHp p (fun h => { h with irqStat := st })
    if h.irqEn.getLsbD v then
      (if s.pn 17 p 1 = 3 then s.emit (.notice p st.toNat s.hst.evtSeq) else s.emit (.irq p v))
    else s

/-- IRQ_STAT.EVENT in every partition (R409). -/
def setEventAll (s : State) : State := (List.range 8).foldl (fun s p => setIrq 1 p s) s

/-- Stamp a record: next LOG_SEQ, the TB[0] time on the 1.25 ns grid and the tick (R255, R268). -/
def stampAt (time : Nat) (s : State) (r : LogRec) : LogRec :=
  let t := time / cycQ * cycQ
  { r with
    seq := s.spu.logSeq % 2 ^ 32
    sec := secOf t % 2 ^ 32
    ns := nsOf t
    tick := (Int.fdiv ((t : Int) - s.alm.origin) (max s.alm.period 1) % (2 ^ 32 : Int)).toNat }
def stampRec (s : State) (r : LogRec) : LogRec := stampAt s.now s r

/-- The event log's own buffer of 256 records waiting for SQ[0] (R413). -/
def LogItem.isRecord : LogItem → Bool | .record _ => true | .gap _ _ => false
def holdRec (r : LogRec) (s : State) : State :=
  if s.hst.logHold.countP LogItem.isRecord < 256 then { s with hst := { s.hst with logHold := s.hst.logHold ++ [.record r] } }
  else { s with hst := { s.hst with gap := some ((s.hst.gap.map (·.1)).getD r.seq, r.seq) } }

/-- Log a record that carries the next LOG_SEQ: the MRAM ring of 4,096, the queue, EVT_SEQ and IRQ_STAT.EVENT (R268, R409). -/
def logRec (r : LogRec) (s : State) : State :=
  let s := { s with
    spu := { s.spu with logSeq := s.spu.logSeq + 1, log := (r :: s.spu.log).take 4096 }
    hst := { s.hst with evtSeq := r.seq } }
  setEventAll (holdRec r s)

/-- An event record that is no fault (Table 15-2), of the TB[0] time `time`, or of now. -/
def logAt (time code kind index d0 d1 : Nat) (s : State) : State :=
  logRec (stampAt time s { code := code, kind := kind, index := index, data0 := d0 % 2 ^ 32, data1 := d1 % 2 ^ 32 }) s
def logEvent (code kind index d0 d1 : Nat) (s : State) : State := logAt s.now code kind index d0 d1 s

/-- An event that the manual has logged without giving its record a code: the code, of those Table 15-2 leaves, is free. -/
def logOpen (kind index d0 d1 : Nat) (s : State) : State :=
  let c := s.freeWord
  logEvent (9 + c.1.toNat % 7) kind index d0 d1 c.2

/-- A device state transition, with its cause: opcode, fault code, or 0 for a launch (Table 15-2). -/
def setDev (d : Dev) (cause : Nat) (s : State) : State :=
  if s.dev = d then s
  else logEvent 1 0 0 (devCode s.dev * 256 + devCode d) cause { s with dev := d }

/-- Counters of Table 14-13 for one answered message. -/
def countAnswer (status : Nat) (h : Hp) : Hp :=
  { h with
    messages := sat32 h.messages
    refusedN := if status = 0 then h.refusedN else sat32 h.refusedN
    lastStatus := status }

/-- Store a response: into the response buffer, or as a datagram that is kept for a repeated TAG (R396, R399, R400). -/
def answer (p : Nat) (r : Resp) (s : State) : State :=
  let s := s.modHp p (fun h => { countAnswer r.status h with rsp := r.payload, lastRsp := r, lastTag := some r.tag })
  if s.pn 17 p 1 = 3 then s.emit (.resp p r)
  else setIrq 0 p ((s.modHp p (fun h => { h with rspReady := true })).emit (.resp p r))

/-- The executing message is answered, and the next datagram of a UDP partition takes its place. A response that was to be
discarded is only counted (R396, Table 14-10). -/
def respondWith (p : Nat) (status : Nat) (payload : List Word) (more sat : Bool) (s : State) : State :=
  let h := s.hp p
  if h.drop then s.modHp p (fun h => { countAnswer status h with drop := false })
  else
    let tag := (h.msg.map (·.tag)).getD 0
    let op := (h.msg.map (·.opcode)).getD 0
    let s := s.modHp p (fun h => { h with
      msg := h.behind.head?, behind := h.behind.tail, held := false, reqBusy := !h.behind.isEmpty })
    answer p { status := status, tag := tag, opcode := op, more := more, saturated := sat, payload := payload } s

def respond (p : Nat) (status : Nat) (payload : List Word) (more : Bool) (s : State) : State :=
  respondWith p status payload more false s

/-- A refusal: two payload words, DETAIL0 and DETAIL1 (R399). -/
def refuse (p status d0 d1 : Nat) (s : State) : State :=
  respond p status [BitVec.ofNat 32 d0, BitVec.ofNat 32 d1] false s

end Sys2Proof.Machine
end

