-- ==== Sys2Proof/Machine/Trigger.lean ====
section
/-! DEFINITION. Peers a frame goes to, and the firing of recorder triggers (spec/11_recorder.md R319 to R322, Table 11-2), which
faults, pins, launches and broadcasts cause from many places. -/
namespace Sys2Proof.Machine

def nodeId (s : State) : Nat := s.pn 10 0 3
def peerPortsReady (s : State) : List Nat := (List.range 8).filter (fun q => (vget s.rdn.pp q {}).st = 3)
def pairLanesUp (s : State) : List Nat := (List.range 2).filter (fun q => (vget s.rdn.lane q {}).up)
/-- TYPE of Table 12-3. -/
def frameType : PeerFrame → Nat
  | .hello _ => 1 | .ptime _ _ _ _ => 2 | .ptimeReply _ _ => 3 | .snap _ _ _ => 0x10 | .rmap _ _ => 0x11 | .fwdS _ _ => 0x12
  | .dig _ _ _ _ _ _ _ => 0x13 | .write _ _ => 0x14 | .decide _ _ _ _ _ _ => 0x15 | .stx _ => 0x16 | .vig _ => 0x17
  | .role _ _ => 0x18 | .gb _ _ _ => 0x20 | .bc _ _ _ _ => 0x21 | .topo _ _ _ _ => 0x22

/-- SEQ of Table 12-2: per type and direction; GSEQ or BSEQ for GB and BC. The counters are kept by port, 8 for the pair. -/
def nextSeq (port : Nat) (f : PeerFrame) (s : State) : Nat × State :=
  match f with
  | .gb _ g _ => (g, s)
  | .bc _ b _ _ => (b, s)
  | .ptime q _ _ _ => (q, s)
  | .ptimeReply q _ => (q, s)
  | _ =>
    let k := 64 * port + frameType f
    let n := tabGet s.rdn.txSeq k 0
    (n, { s with rdn := { s.rdn with txSeq := tabPut s.rdn.txSeq k ((n + 1) % 65536) } })

/-- A frame on each of the listed peer ports. -/
def sendPeer (ports : List Nat) (f : PeerFrame) (s : State) : State :=
  ports.foldl (fun s q => let r := nextSeq q f s; r.2.emit (.peer q r.1 f)) s
/-- Both pair lanes carry every pair frame under one SEQ (R331). -/
def sendPair (f : PeerFrame) (s : State) : State :=
  let r := nextSeq 8 f s
  (pairLanesUp s).foldl (fun s l => s.emit (.peer (8 + l) r.1 f)) r.2

/-- Originate a broadcast of kind 0 (recorder channel and trigger time) or 1 (launch entry) on every peer port (R356). -/
def originateBc (kind : Nat) (args : List Nat) (s : State) : State :=
  let b := s.rdn.bseq
  sendPeer (peerPortsReady s) (.bc (nodeId s) b kind args) { s with rdn := { s.rdn with bseq := (b + 1) % 65536 } }

def kRec : Nat := 9
def rst (s : State) (i : Nat) : Rst := vget s.recd.stream i {}
def modRst (i : Nat) (f : Rst → Rst) (s : State) : State := { s with recd := { s.recd with stream := vmod s.recd.stream i f } }
/-- Field f of REC[i]. -/
def rf (s : State) (i f : Nat) : Nat := s.pn kRec (0x100 + i) f
/-- Field o of TRIG[c] of REC[i]. -/
def trf (s : State) (i c o : Nat) : Nat := rf s i (0x20 + 8 * c + o)

/-- One firing of a stream: it waits for its anchor row while the stream runs and counts in MISSED while it is stopped (R320,
R327); it restarts the AUTO_T count (R322) and goes to the peers under PEER_TX (R321). -/
def fireStream (f : Fire) (i : Nat) (s : State) : State :=
  if (rst s i).run = 0 then s
  else
    let s := modRst i (fun r =>
      if r.run = 1 then { r with fires := r.fires ++ [f], lastFire := f.time }
      else { r with missed := sat32 r.missed, lastFire := f.time }) s
    if rf s i 9 = 1 && f.src != 6 && f.src != 9 then originateBc 0 [rf s i 10, f.time] s else s

/-- Every condition of a kind that `hit` accepts, given stream and condition, fires its stream. -/
def fireKind (kind : Nat) (hit : Nat → Nat → Bool) (time arg : Nat) (s : State) : State :=
  (List.range 4).foldl (fun s i =>
    (List.range 4).foldl (fun s c =>
      if trf s i c 0 = kind && hit i c then fireStream { src := kind, cond := c, time := time, arg := arg } i s else s) s) s

/-- Firings without a condition: launch and command (R319). -/
def fireMask (src mask time : Nat) (s : State) : State :=
  (List.range 4).foldl (fun s i => if mask.testBit i then fireStream { src := src, time := time } i s else s) s

/-- A new fault record (Table 11-2, FAULT). -/
def fireFault (code react seq time : Nat) (s : State) : State :=
  fireKind 4 (fun i c =>
    let r := trf s i c 6
    decide (r / 65536 ≤ code) && decide (code ≤ r % 65536) && decide (trf s i c 7 ≤ react)) time (code * 65536 + seq % 65536) s

/-- HALT values whose owner lets them act leave the pending list and become effective. -/
def promoteWhere (f : Pend → Bool) (s : State) : State :=
  let now := s.pend.filter f
  now.foldl (fun s e => s.setPar e.id e.val) { s with pend := s.pend.filter (fun e => !f e) }

end Sys2Proof.Machine
end

