-- ==== Sys2Proof/Machine/Transmit.lean ====
section
/-! DEFINITION. The transmitters: frames on the wire (spec/07_plynlink.md R203, R204, R206, R207) and the order in which frames leave
a PlynLink port, a peer port or a pair lane (R206, spec/12_pairs_and_chains.md R340). -/
namespace Sys2Proof.Machine

/-! Frames on the wire (R203, R204, Tables 7-2 to 7-11). -/

/-- The bytes of a frame from header to CRC. -/
def frameBytes (type addr link seq : Nat) (payload : List Byte) : List Byte :=
  let h := bytesBE 4 (type * 2 ^ 28 + addr % 8 * 2 ^ 25 + link % 2 * 2 ^ 24 + seq % 65536 * 256 + payload.length % 256)
  h ++ payload ++ bytesLE 4 (crc32 (h ++ payload)).toNat

/-- Link letter of this device: A for member A, B for member B (R199). -/
def linkOf (s : State) : Nat := if s.pairEn then s.pn 10 0 2 else 0

def wireBytes (link : Nat) : PlyFrame → List Byte
  | .beacon seq tx dreq delay =>
    let fl := match dreq with | some h => 0x8000 + h % 4 * 0x2000 | none => 0
    frameBytes 1 7 link seq (bytesBE 6 tx ++ bytesBE 4 0 ++ bytesBE 2 fl ++
      delay.flatMap (fun d => match d with | some v => bytesBE 4 (0x80000000 + v % 0x80000000) | none => bytesBE 4 0))
  | .edge seq recs => frameBytes 2 7 link seq (recs.flatMap (fun r => bytesBE 8 r.toNat))
  | .state seq imm eff codes =>
    frameBytes 3 7 link seq (bytesBE 6 eff ++ [if imm then 0x80 else 0, 0] ++ codes.map (BitVec.ofNat 8))
  | .cfg diag seq hop op addr data =>
    frameBytes (if diag then 5 else 6) hop link seq ([BitVec.ofNat 8 op, 0] ++ bytesBE 2 addr ++ bytesBE 4 data)

/-! One transmitter. -/

/-- What a transmitter does: at step `t` a frame handed over at `due` starts, or may not start yet. -/
structure TxRule (α : Type) where
  /-- The frame's place in the order, lower first. -/
  rank : Nat → α → Nat → Nat
  /-- The step from which it may start, `t` or later. -/
  from_ : Nat → α → Nat
  dur : α → Nat
  /-- A frame of this kind in progress is aborted for one of that kind, and how long the abort takes. -/
  yields : α → α → Bool
  abort : Nat

/-- What leaves: a frame at its first step, or an abort. -/
inductive TxEv (α : Type) where
  | start (t : Nat) (f : α)
  | abort (t : Nat)
deriving DecidableEq, Repr

/-- The best of the frames that may start at `t`. -/
def TxRule.pick {α : Type} (r : TxRule α) (t : Nat) (l : List (α × Nat)) : Option (α × Nat) :=
  (l.filter (fun e => decide (e.2 ≤ t) && decide (r.from_ t e.1 ≤ t))).foldl (fun (m : Option (α × Nat)) e => match m with
    | none => some e
    | some x => if r.rank t e.1 e.2 < r.rank t x.1 x.2 then some e else some x) none

/-- The first step at or after `t` at which a waiting frame may start. -/
def TxRule.next {α : Type} (r : TxRule α) (t : Nat) (l : List (α × Nat)) : Option Nat :=
  l.foldl (fun (m : Option Nat) e =>
    let u := r.from_ (max t e.2) e.1
    match m with | none => some u | some v => some (min u v)) none

/-- The line up to step `now`. -/
def TxRule.run {α : Type} [DecidableEq α] (r : TxRule α) (now : Nat) : Nat → TxLine α → TxLine α × List (TxEv α)
  | 0, l => (l, [])
  | fuel + 1, l =>
    let cut : Option Nat := match l.cur with
      | some c => ((l.wait.filter (fun e => r.yields c e.1 && decide (e.2 < l.free) && decide (e.2 ≤ now))).map (·.2)).head?
      | none => none
    match l.cur, cut with
    | some c, some t =>
      let n := r.run now fuel { cur := none, free := t + r.abort, wait := (c, t) :: l.wait }
      (n.1, .abort t :: n.2)
    | _, _ =>
      if l.cur.isSome && decide (now < l.free) then (l, [])
      else match r.next l.free l.wait with
        | none => ({ l with cur := none }, [])
        | some t =>
          if now < t then ({ l with cur := none }, [])
          else match r.pick t l.wait with
            | none => ({ l with cur := none }, [])
            | some e =>
              let n := r.run now fuel { cur := some e.1, free := t + r.dur e.1, wait := l.wait.erase e }
              (n.1, .start t e.1 :: n.2)

/-- Frames handed over at `now` join the line, and it runs. -/
def TxRule.push {α : Type} [DecidableEq α] (r : TxRule α) (now : Nat) (fs : List α) (l : TxLine α) : TxLine α × List (TxEv α) :=
  let l := { l with wait := l.wait ++ fs.map (fun f => (f, now)) }
  r.run now (3 * l.wait.length + 3) l

/-- TB[0] at a clock step that lies at or before now, in 2^-16 ns (DEDUCED, notes/assumptions/117.md). -/
def State.atClock (s : State) (t : Nat) : Nat := s.now - (s.clock - t) * stepQ

/-! PlynLink ports (R206). -/

/-- Character time in steps: 4.0 ns at 2.5 Gb/s, 2.0 ns at 5.0 Gb/s (R200). -/
def charStep (s : State) (p : Nat) : Nat := if s.pn 5 p 2 = 0 then 64 else 32

/-- Characters of a frame (Table 7-3). -/
def frameChars : PlyFrame → Nat
  | .beacon _ _ _ _ => 40 | .edge _ recs => 12 + 8 * recs.length | .state _ _ _ _ => 24 | .cfg _ _ _ _ _ _ => 20

/-- The place of a frame in the order of R206; a beacon is overdue 500 ns after it fell due. -/
def plyRank (t : Nat) (f : PlyFrame) (due : Nat) : Nat :=
  match f with
  | .state _ true _ _ => 1
  | .beacon _ _ _ _ => if due + 8000 < t then 2 else 5
  | .edge _ _ => 3
  | .state _ false _ _ => 4
  | .cfg false _ _ _ _ _ => 6
  | .cfg true _ _ _ _ _ => 7

def isCfg : PlyFrame → Bool
  | .cfg _ _ _ _ _ _ => true | _ => false
def isImmediate : PlyFrame → Bool
  | .state _ imm _ _ => imm | _ => false

def plyRule (s : State) (p : Nat) : TxRule PlyFrame where
  rank := plyRank
  from_ t _ := t
  dur f := frameChars f * charStep s p
  yields c f := isCfg c && isImmediate f
  abort := 2 * charStep s p

/-- The serialiser's TX_TIME (R207). -/
def stampTx (time : Nat) : PlyFrame → PlyFrame
  | .beacon q _ d l => .beacon q (exCount time) d l
  | f => f

def sentPly (s : State) (p : Nat) : TxEv PlyFrame → Out
  | .start t f => .wire p (s.atClock t / stepQ) (wireBytes (linkOf s) (stampTx (s.atClock t / stepQ) f))
  | .abort t => .abort p (s.atClock t / stepQ)

/-- The beacons among what left, with their TX_TIME, newest first. -/
def sentBeacons (s : State) (l : List (TxEv PlyFrame)) : List (Nat × Nat) :=
  l.foldl (fun m e => match e with | .start t (.beacon q _ _ _) => (q, s.atClock t / stepQ) :: m | _ => m) []

/-! Peer ports and pair lanes (R340, Table 12-3). -/

/-- Payload bytes (Table 12-4, R341, R351); those the manual does not lay out are the fields named, in whole words (PRESUMED,
notes/assumptions/117.md). -/
def peerPayload : PeerFrame → Nat
  | .hello _ => 32 | .ptime _ _ _ _ => 16 | .ptimeReply _ _ => 16 | .snap _ l _ => 40 + 4 * l.length | .rmap _ _ => 40
  | .fwdS _ l => 8 + 4 * l.length | .dig _ _ _ _ _ _ _ => 164 | .write _ es => 8 + 12 * es.length | .decide _ _ _ _ _ _ => 20
  | .stx _ => 256 | .vig _ => 64 | .role _ _ => 12 | .gb _ _ _ => 12 | .bc _ _ _ _ => 24 | .topo _ _ _ _ => 16

/-- 0.8 ns a byte, header and CRC included (R339, R341). -/
def peerDur (f : PeerFrame) : Nat := (12 + peerPayload f) * 64 / 5

/-- The order of Table 12-3 from GB and DECIDE on. -/
def peerRank (f : PeerFrame) : Nat :=
  match f with
  | .gb _ _ _ => 0 | .decide _ _ _ _ _ _ => 1 | .snap _ _ _ => 2 | .rmap _ _ => 3 | .fwdS _ _ => 4 | g => 5 + frameType g

/-- The interval around a tick instant in which a member starts only the first five kinds: a frame that would start in it waits until
t_n + 600 ns. -/
def peerFrom (s : State) (t : Nat) (f : PeerFrame) : Nat :=
  if !s.pairEn || peerRank f < 5 then t
  else
    let q : Int := (s.atClock t : Int) - s.alm.origin + 250 * nsecQ
    let x := q.toNat % max s.alm.period 1
    if q < 0 || x = 0 || 850 * nsecQ ≤ x then t else t + (850 * nsecQ - x + stepQ - 1) / stepQ

def peerRule (s : State) : TxRule (Nat × PeerFrame) where
  rank _ f _ := peerRank f.2
  from_ t f := peerFrom s t f.2
  dur f := peerDur f.2
  yields _ _ := false
  abort := 0

/-- SRC (Table 12-2): the sender, or the originator of a GB or BC. -/
def peerSrc (s : State) : PeerFrame → Nat
  | .gb o _ _ => o
  | .bc o _ _ _ => o
  | _ => nodeId s

/-- DST (Table 12-2): every node for what is relayed, the neighbour once its HELLO has named it (PRESUMED, notes/assumptions/117.md). -/
def peerDst (s : State) (p : Nat) : PeerFrame → Nat
  | .gb _ _ _ => 0xFFF
  | .bc _ _ _ _ => 0xFFF
  | _ =>
    if 8 ≤ p then ((s.rdn.partner.map (·.node)).getD 0xFFF)
    else let x := vget s.rdn.pp p {}; if x.st = 2 || x.st = 3 then x.peerId else 0xFFF

/-- The header of a frame (Table 12-2). -/
def peerHeader (s : State) (p seq : Nat) (f : PeerFrame) : BitVec 64 :=
  BitVec.ofNat 64 (frameType f * 2 ^ 58 + peerSrc s f % 4096 * 2 ^ 46 + peerDst s p f % 4096 * 2 ^ 34 + (p - 8) % 4 * 2 ^ 32 +
    seq % 65536 * 2 ^ 16 + peerPayload f % 4096)

def sentPeer (s : State) (p : Nat) : TxEv (Nat × PeerFrame) → Out
  | .start t f => .peerWire p (s.atClock t / stepQ) (peerHeader s p f.1 f.2) f.2
  | .abort t => .abort p (s.atClock t / stepQ)

/-! The end of a command: what it handed over joins the lines, and every line runs up to now. -/

def plyFramesFor (p : Nat) (l : List Out) : List PlyFrame :=
  l.filterMap (fun o => match o with | .plink q f => if q = p then some f else none | _ => none)
def peerFramesFor (p : Nat) (l : List Out) : List (Nat × PeerFrame) :=
  l.filterMap (fun o => match o with | .peer q n f => if q = p then some (n, f) else none | _ => none)

/-- Lines with something to do: those with a frame, and those that were handed one. -/
def plyLines (s : State) : List Nat :=
  s.out.foldl (fun l o => match o with | .plink q _ => if l.contains q then l else l ++ [q] | _ => l)
    ((s.tx.port.filter (fun e => e.2.cur.isSome || !e.2.wait.isEmpty)).map (·.1))
def peerLines (s : State) : List Nat :=
  s.out.foldl (fun l o => match o with | .peer q _ _ => if l.contains q then l else l ++ [q] | _ => l)
    ((s.tx.peer.filter (fun e => e.2.cur.isSome || !e.2.wait.isEmpty)).map (·.1))

def runPly (s : State) (acc : Tx × List Out) (p : Nat) : Tx × List Out :=
  let r := (plyRule s p).push s.clock (plyFramesFor p s.out) (tabGet acc.1.port p {})
  let bs := sentBeacons s r.2
  ({ acc.1 with
      port := tabPut acc.1.port p r.1
      beacons := if bs.isEmpty then acc.1.beacons else tabMod acc.1.beacons p [] (fun l => (bs ++ l).take 64) },
    acc.2 ++ r.2.map (sentPly s p))

def runPeer (s : State) (acc : Tx × List Out) (p : Nat) : Tx × List Out :=
  let r := (peerRule s).push s.clock (peerFramesFor p s.out) (tabGet acc.1.peer p {})
  ({ acc.1 with peer := tabPut acc.1.peer p r.1 }, acc.2 ++ r.2.map (sentPeer s p))

/-- What the transmitters do by now: their lines, and what left. -/
def txRun (s : State) : Tx × List Out :=
  (peerLines s).foldl (runPeer s) ((plyLines s).foldl (runPly s) (s.tx, []))

def transmit (s : State) : State := { s with tx := (txRun s).1, out := s.out ++ (txRun s).2 }

/-- A port starts over: what waited is gone, and so are its beacons. -/
def clearTx (p : Nat) (s : State) : State :=
  { s with tx := { s.tx with port := tabDel s.tx.port p, beacons := tabDel s.tx.beacons p } }

end Sys2Proof.Machine
end

