-- ==== Sys2Proof/Machine/Reset.lean ====
section
/-! DEFINITION. What a reset of each reach does to the state (Table 19-1, R478 to R480, R491, R506). -/
namespace Sys2Proof.Machine

/-- A CAN controller in a reset of any reach: OFF, its FIFO and buffers emptied (Table 18-4). -/
def CanCtl.reset (c : CanCtl) : CanCtl :=
  { c with st := 0, tec := 0, recN := 0, fifo := [], lostMark := false, counting := false, goOff := false, restart := false,
           safety := none, txb := Vector.replicate 3 {} }

/-- Lanes and per-tick engines return to their initial state, and the outputs take their PARKED states (R506). A pair member is DETACHED from here on (notes/assumptions/33.md). -/
def resetEngines (s : State) : State :=
  { s with
    trans := []
    tx := {}
    sys := { s.sys with bist := 0, blk := [] }
    can := s.can.map CanCtl.reset
    lanes := { pcie := s.lanes.pcie }
    clk := { s.clk with out := s.clk.out.map (fun o => { o with runFrom := none, stopAt := none, align := none }) }
    gfe := Vector.replicate 4 {}
    lpe := {}
    bsd := {}
    adc := {}
    mod := {}
    plk := {}
    recd := { stream := s.recd.stream.map (fun r => { run := if r.run = 0 then 0 else 1, missed := r.missed }) }
    rdn := { s.rdn with pp := Vector.replicate 8 {}, lane := Vector.replicate 2 {}, hbOut := false, snap := none, fwd := none,
                        rmap := none, role := if s.rdn.role = 0 then 0 else 4, joinState := 0, buf := [], shadow := none,
                        syncTicks := 0, swapAt := none, capture := false }
    spu := { s.spu with sweepRes := [], guardRes := [], prestart := 0, sweeps := [], sw := [], clearBy := none } }

/-- The fields that outlive a reset of reach SYSTEM or FULL before a pattern is in force again: the confirmed safety set
(R379), the tamper fields, which hold in SHELF until step 2 loads the option record again (R4, R518), and the option fields as loaded
(R483). -/
def keptPar (t : Tab Wire) : Tab Wire :=
  t.filter (fun e => idUnit e.1 == 11 || idUnit e.1 == 16 || (idUnit e.1 == 15 && decide (idField e.1 < 0x10)))

def Held.level (h : Held) : Nat := h.lr.reactApplied
/-- DEVICE_REACTION: the highest applied reaction of level 4 or above. -/
def deviceReaction (s : State) : Nat :=
  s.spu.held.foldl (fun m h => if 4 ≤ h.level then max m h.level else m) 0

/-- A reset of reach SYSTEM or FULL ends every held fault but those of the safety set, and each end is logged (R256, Table 8-5). -/
def clearByReset (s : State) : State :=
  (s.spu.held.filter (fun h => !codeIsSafety h.lr.code)).foldl (fun s h =>
    let t := { s with spu := { s.spu with held := s.spu.held.erase h } }
    logRec (stampRec t { h.lr with cleared := true, firstOut := false, reactDevice := deviceReaction t }) t) s

/-- Everything a SYSTEM reset takes back; the keeper, MRAM, QSPI and what lies outside the device stay. -/
def resetSystem (s : State) : State :=
  let s := resetEngines s
  { s with
    recd := {}
    blockCause := none
    can := Vector.replicate 4 {}
    lanes := {}
    clk := { xmOk := s.clk.xmOk, xsOk := s.clk.xsOk }
    alm := {}
    hst := {}
    rdn := { pdig := {}, failAt := s.rdn.failAt, hb := s.rdn.hb }
    spu := { held := s.spu.held.filter (fun h => codeIsSafety h.lr.code), logSeq := s.spu.logSeq, log := s.spu.log,
             foCur := s.spu.foCur, foPrev := s.spu.foPrev, blockNLow := s.spu.blockNLow, wireLow := s.spu.wireLow,
             highSince := s.spu.highSince }
    sfi := { inForce := s.sfi.inForce, firstCause := s.sfi.firstCause, setConfirmed := s.sfi.setConfirmed,
             confirmedCrc := s.sfi.confirmedCrc, crcEff := s.sfi.crcEff, ember := s.sfi.ember, emberLeft := s.sfi.emberLeft,
             supplyAge := s.sfi.supplyAge, mon := s.sfi.mon, xmLost := s.sfi.xmLost }
    sys := { s.sys with inForce := false, staging := [], verified := none, bist := 0, blk := [], revert := false,
                        targetClock := none, bistPart := 8, succeeded := false, lastOk := s.sys.succeeded }
    par := keptPar s.par
    pend := [] }

/-- The first release step of a reach (Table 19-1). -/
def firstStep : Nat → Nat
  | 1 => 1 | 2 => 2 | _ => 7

/-- The wider of two reaches; 0 is none. -/
def wider (a b : Nat) : Nat := if a = 0 then b else if b = 0 then a else min a b

/-- A start that has not succeeded fails at a FULL or SYSTEM reset; if a trial pattern is in force, the trial ends and the
next start uses the previous pattern (R494, R495). -/
def failStart (s : State) : State :=
  if s.sys.step = 0 || s.sys.succeeded || s.sys.abandoned || !s.sys.trial then s
  else { s with sys := { s.sys with trial := false, trialLeft := 0, cur := 1 - s.sys.cur } }

/-- Assert a reset of reach 1 FULL, 2 SYSTEM or 3 ENGINE from source row `src` of Table 19-2. `held`: the source stays
asserted until it is released. While a release sequence runs, R480 decides from the reset's first step; while other resets are still
asserted, the widest reach holds (R479). -/
def assertReset (reach src cause : Nat) (held : Bool) (s : State) : State :=
  let f := firstStep reach
  let sys := s.sys
  let restart := !decide (sys.step < 9) || decide (f ≤ sys.step) || (sys.step == 0)
  let widest := if sys.asserted.isEmpty then reach else wider sys.reach reach
  let asserted := if held then sys.asserted ++ [src] else sys.asserted
  let s := if reach ≤ 2 then setDev .boot cause (resetSystem (clearByReset (failStart s))) else resetEngines s
  let s := if reach = 1 then { s with clk := { s.clk with xmOk := false } } else s
  { s with sys := { s.sys with
      asserted := asserted
      cause := if restart && widest == reach then reach * 256 + src else sys.cause
      reach := if restart then widest else sys.reach
      step := if !restart then sys.step else if asserted.isEmpty then firstStep widest else 0
      stepAt := if restart then s.clock else sys.stepAt
      stepBefore := if restart then 0 else sys.stepBefore
      startClock := if reach ≤ 2 then s.clock else sys.startClock
      holdFrom := if restart then 0 else if held then f else sys.holdFrom } }

/-- A reset that is still asserted holds the step in progress (R480). -/
def Sys.stepHeld (y : Sys) : Bool := y.holdFrom != 0 && decide (y.holdFrom ≤ y.step)

/-- Source `src` releases its reset: the sequence starts from the first step of the widest reach that was asserted, or goes on past
the step at which it was held (R479, R480). -/
def releaseReset (src : Nat) (s : State) : State :=
  let left := s.sys.asserted.erase src
  { s with sys := { s.sys with
      asserted := left
      step := if left.isEmpty && s.sys.step = 0 then firstStep s.sys.reach else s.sys.step
      stepAt := if left.isEmpty && (s.sys.step = 0 || s.sys.stepHeld) then s.clock else s.sys.stepAt
      stepBefore := if left.isEmpty && (s.sys.step = 0 || s.sys.stepHeld) then 0 else s.sys.stepBefore
      startClock := if left.isEmpty && s.sys.step = 0 && s.sys.reach ≤ 2 then s.clock else s.sys.startClock
      holdFrom := if left.isEmpty then 0 else s.sys.holdFrom } }

end Sys2Proof.Machine
end

