-- ==== Sys2Proof/Machine/Protection.lean ====
section
/-! DEFINITION. Faults and reactions (spec/08_switch_protection.md R241 to R263): raising, escalating, applying, clearing, the
STATE frames that carry a reaction, and the BLOCK_N wire. -/
namespace Sys2Proof.Machine

/-! Coverage. -/

/-- Does the applied reaction of a held fault cover channel c (R252)? -/
def Held.covers (h : Held) (c : Nat) : Bool :=
  decide (4 ≤ h.level) || (decide (2 ≤ h.level) && h.cover.contains c)

/-- A code of Table 8-5 that TEL STATUS reports. -/
def telCode (code : Nat) : Bool := decide (0x1001 ≤ code) && decide (code ≤ 0x1015)

/-- The fault is in the MOD's and SPU's state for tick n and covers channel c: at once, in a pair from the first tick at least 1.0 µs after
its decision, a satellite's from the first tick whose snapshot contains a frame that reports it (R345). One in a clearing attempt has ended
(R257). -/
def inModState (s : State) (n : Int) (c : Nat) (h : Held) : Bool :=
  h.covers c && h.trying.isNone && (!s.pairEn ||
    (if telCode h.lr.code then (match h.entered with | some k => decide (k ≤ n) | none => false)
     else decide ((h.time + 1000 * nsecQ : Nat) ≤ s.tickAt n)))

/-- REACTION of a channel (Table 8-10). -/
def chanReaction (s : State) (c : Nat) : Nat :=
  s.spu.held.foldl (fun m h => if h.covers c then max m h.level else m) 0

def groupOf (s : State) (c : Nat) : Nat := s.pn 4 c 1
/-- Every channel whose PGROUP equals that of a channel in `cs` (R243). -/
def groupChans (s : State) (cs : List Nat) : List Nat :=
  let gs := cs.map (groupOf s)
  (List.range 256).filter (fun c => gs.contains (groupOf s c))

/-- The safe level a set FAULT_IN latch gives channel c: 1 both off, 2 H on, 3 L on; the lowest pin wins (R186, R187). -/
def faultInLevel (s : State) (c : Nat) : Option Nat :=
  ((List.range 4).findSome? (fun i =>
    let f := s.pn 3 c 8 / 4 ^ i % 4
    if s.mod.latch.getLsbD i && f != 0 then some f else none))

/-- The same in the MOD's state at tick instant `tn`: in a pair a latch enters it 1.0 µs after its decision (R345). -/
def faultInLevelAt (s : State) (tn : Int) (c : Nat) : Option Nat :=
  (List.range 4).findSome? (fun i =>
    let f := s.pn 3 c 8 / 4 ^ i % 4
    if s.mod.latch.getLsbD i && f != 0 && (!s.pairEn || decide ((s.mod.latchAt.getD i 0 + 1000 * nsecQ : Nat) ≤ tn)) then some f
    else none)

/-- The STATE code a reaction or a safe level owes channel c (R187, R244); none when neither covers it. A LEG_OPEN in an automatic
clearing attempt has ended for the channel (R257). -/
def dueCode (s : State) (c : Nat) : Option Nat :=
  let lv := s.spu.held.filter (fun h => h.covers c && h.trying.isNone)
  let dev := deviceReaction s
  if lv.any (fun h => h.level == 2 || h.level == 3) || dev == 6 then some 0
  else if 4 ≤ dev then
    (if s.pn 4 c 2 = 1 then (match s.pn 4 c 3 with | 1 => some 2 | 2 => some 3 | _ => some 0) else some 0)
  else match faultInLevel s c with
    | some 1 => some 0 | some 2 => some 2 | some 3 => some 3 | _ => none

/-- The EXEC of a clearing record before the dispatch of its window: beyond every time (R257). -/
def notYet : Nat := 2 ^ 80

/-! STATE frames (R220, R245). -/

/-- The port has declared symbol lock, so STATE frames leave (R220, R228). -/
def linkSends : LinkSt → Bool
  | .hello => true | .config => true | .delay => true | .replica => true | .ready => true | .refused => true | _ => false

def posServed (q : Port) (j : Nat) : Bool := q.positions == 0 || q.positions.testBit j

/-- A member that is JOINING or DETACHED sends STATE under the partner's last SEQ (R335). -/
def stateSeqOf (s : State) (p : Nat) : Nat :=
  if s.rdn.role = 3 || s.rdn.role = 4 then s.rdn.pdig.stateSeq.getD p 0 else (s.port p).seqState

def mute (s : State) : Bool := s.rdn.role == 3 || s.rdn.role == 4

/-- A STATE frame. A member that is JOINING or DETACHED sends no RELEASE: it only keeps what the position would have (R335). -/
def sendState (imm : Bool) (eff : Nat) (codes : List Nat) (p : Nat) (s : State) : State :=
  let n := stateSeqOf s p
  let t := s.modPort p (fun q => { q with
      seqState := if mute s then q.seqState else (q.seqState + 1) % 65536
      code := (List.range 4).map (fun j => if codes.getD j 15 = 15 then q.code.getD j 0 else codes.getD j 15)
      eff := (List.range 4).map (fun j => if codes.getD j 15 = 1 then eff else q.eff.getD j 0) })
  if mute s && codes.contains 1 then t else t.emit (.plink p (.state n imm (exCount eff) codes))

/-- The codes a port's immediate frame carries when the device passes from `old` to `s`: those newly due (R245, R244). A safe level
that ends outside RUN gives way to BLOCK, for nothing is released there. -/
def newCodes (old s : State) (p : Nat) : List Nat :=
  (List.range 4).map (fun j =>
    if !posServed (s.port p) j then 15
    else match dueCode s (4 * p + j), dueCode old (4 * p + j) with
      | some k, o => if o = some k then 15 else k
      | none, some _ => if s.dev = .run || (s.port p).code.getD j 0 ≤ 1 then 15 else 0
      | none, none => 15)

def portsUp (s : State) : List Nat := (s.plk.port.filter (fun e => linkSends e.2.st)).map (·.1)

/-- One immediate STATE frame on each port with a newly covered position (R245 item 2). -/
def immediateStates (old s : State) : State :=
  (portsUp s).foldl (fun s p =>
    let codes := newCodes old s p
    if codes.any (· != 15) then sendState true s.nowStep codes p s else s) s

/-- The ports that pass their channels on: a refused one, or one in training, stays in BLOCK (R19, R230). -/
def portsReady (s : State) : List Nat := (s.plk.port.filter (fun e => e.2.st == .ready)).map (·.1)

/-- A timed RELEASE for the listed channels, on each READY port that serves one of them (R220, R188, R259). -/
def sendRelease (cs : List Nat) (eff : Nat) (s : State) : State :=
  (portsReady s).foldl (fun s p =>
    let codes := (List.range 4).map (fun j => if cs.contains (4 * p + j) && posServed (s.port p) j then 1 else 15)
    if codes.any (· != 15) then sendState false eff codes p s else s) s

/-- t_n + W + L_cmd in steps. -/
def winStart (s : State) (n : Int) : Nat := ((s.tickAt n + s.alm.phaseW + s.alm.lcmd) / stepQ).toNat

/-- R245 items 1 and 3 for a set of channels: unreleased records go, and the channels wait to rejoin with carry zero. -/
def discardChans (cs : List Nat) (s : State) : State :=
  { s with mod := { s.mod with
      unrel := s.mod.unrel.filter (fun e => !cs.contains e.ch)
      ch := s.mod.ch.map (fun e => if cs.contains e.1 then (e.1, { e.2 with wait := true, carry := 0 }) else e) } }

/-- Channels that FAULT_SAFE ties to pin i. -/
def safeChans (s : State) (i : Nat) : List Nat := (List.range 256).filter (fun c => s.pn 3 c 8 / 4 ^ i % 4 != 0)

/-- FAULT_IN latch i sets: safe levels leave at once, unreleased records go (R187 items 1 and 2). -/
def setLatch (i time : Nat) (s : State) : State :=
  if s.mod.latch.getLsbD i then s
  else immediateStates s (discardChans (safeChans s i) { s with mod := { s.mod with
    latch := s.mod.latch ||| BitVec.ofNat 4 (2 ^ i), latchAt := s.mod.latchAt.set i time } })

/-! Peers and the pair. -/

/-- Originate a GLOBAL_BLOCK event: two GB frames, back to back, on every peer port and pair lane (R355). -/
def originateGb (s : State) : State :=
  let ports := peerPortsReady s ++ (pairLanesUp s).map (· + 8)
  let g := s.rdn.gseq
  let s := { s with rdn := { s.rdn with gseq := (g + 1) % 65536 } }
  sendPeer (ports ++ ports) (.gb (nodeId s) g s.nowStep) s

/-- The partner is synchronised (R342). -/
def synchronised (s : State) : Bool :=
  (s.rdn.role == 1 && s.rdn.partnerRole == 2) || (s.rdn.role == 2 && s.rdn.partnerRole == 1)

/-- Faults for which a synchronised member withdraws (R342). -/
def withdrawCode (c : Nat) : Bool :=
  [0x7001, 0x7002, 0x7003, 0x7004, 0x7008, 0x4101, 0x4201, 0x4301].contains c

/-! Leaving RUN. -/

/-- The first blocking cause since the last tick instant stays the one BLOCKED_BY names (R26). -/
def noteCause (code detail : Nat) (s : State) : State :=
  { s with blockCause := some (s.blockCause.getD (code, detail)) }

/-- A blocking cause: out of RUN at once, every unreleased record gone, a BIST abandoned (R24, R508, Table 1-4). `op` is what the
record of the transition names (Table 15-2), `code` and `detail` what BLOCKED_BY names. -/
def blockWith (op code detail : Nat) (s : State) : State :=
  let s := noteCause code detail s
  let s := discardChans (List.range 256) { s with sys := { s.sys with bist := if s.sys.bist = 1 then 0 else s.sys.bist } }
  if s.dev = .run then setDev .blocked op s else s

def blockNow (code detail : Nat) (s : State) : State := blockWith code code detail s

/-- BLOCK frames for every position still released, when the device leaves RUN without a reaction (BLOCK command). -/
def blockFrames (s : State) : State :=
  (portsUp s).foldl (fun s p =>
    let codes := (List.range 4).map (fun j => if (s.port p).code.getD j 0 = 1 then 0 else 15)
    if codes.any (· != 15) then sendState true s.nowStep codes p s else s) s

/-! Raising. -/

def sameFault (code kind index : Nat) (h : Held) : Bool :=
  h.lr.code == code && h.lr.kind == kind && h.lr.index == index

def isHeld (code kind index : Nat) (s : State) : Bool := s.spu.held.any (sameFault code kind index)
def heldCode (code : Nat) (s : State) : Bool := s.spu.held.any (fun h => h.lr.code == code)

/-- The configured reaction of a code (R263). -/
def cfgReact (s : State) (code : Nat) : Nat :=
  if codeIsSafety code then codeDefault code else s.pn 4 (0xF00 + code / 4096) (code % 4096)

/-- R253: REPEAT of the held record increments, saturating; the record is written again with the same LOG_SEQ (R268). -/
def repeatFault (code kind index : Nat) (s : State) : State :=
  let bump := fun (r : LogRec) => { r with reps := min (r.reps + 1) 65535 }
  match s.spu.held.find? (sameFault code kind index) with
  | none => s
  | some h =>
    let r := bump h.lr
    let s := { s with spu := { s.spu with
      held := s.spu.held.map (fun h => if sameFault code kind index h then { h with lr := r, ok := false } else h)
      log := s.spu.log.map (fun x => if x.seq = r.seq && x.code = code then r else x)
      foCur := s.spu.foCur.map (fun x => if x.seq = r.seq then r else x) } }
    setEventAll (holdRec r s)

/-- The decisions of the window at `time`, with a new one (R254). -/
def decisionsAt (time : Nat) (scope : List Nat) (s : State) : List (Nat × List Nat) :=
  (time, scope) :: s.spu.decisions.filter (fun d => decide (time < d.1 + s.ptn 4 0x400 1))

/-- R254: the applied reaction of a LEG_OPEN decision, the channels it covers, and the decisions of the window with it. -/
def escalate (s : State) (scope : List Nat) : Nat × List Nat × List (Nat × List Nat) :=
  let ds := decisionsAt s.now scope s
  let gn := s.pn 4 0x400 2
  let dn := s.pn 4 0x400 3
  if dn ≠ 0 && decide (dn ≤ ds.length) then (4, [], ds)
  else if gn ≠ 0 && decide (gn ≤ ds.length) then (3, groupChans s (ds.flatMap (·.2)), ds)
  else (2, scope, ds)

/-- Apply a record's reaction at the links (R245, R260): old is the state before it was held. -/
def applyLinks (old : State) (h : Held) (s : State) : State :=
  let lv := h.level
  if lv < 2 then s
  else
    let cs := if 4 ≤ lv then List.range 256 else h.cover
    let s := immediateStates old (discardChans cs s)
    let s := { s with spu := { s.spu with sweeps := s.spu.sweeps.map (fun w =>
      { w with hit := w.hit ++ (List.range 4).filter (fun j => cs.contains (4 * w.port + j)) }) } }
    if 4 ≤ lv then blockNow h.lr.code h.lr.seq s else s

/-- Apply a reaction this device decides: at the links, as a GLOBAL_BLOCK event, and to the partner (R246, R355). -/
def applyReaction (old : State) (h : Held) (s : State) : State :=
  let lv := h.level
  if lv < 2 then s
  else
    let s := applyLinks old h s
    let s := if 5 ≤ lv && h.lr.code != 0x3120 then originateGb s else s
    if s.pairEn && h.lr.code / 4096 != 1 then
      sendPair (.decide h.time h.lr.code h.lr.kind h.lr.index lv h.cover) s
    else s

/-- DATA0 and DATA1 of a fault record (Table 8-8, Table 13-6): a satellite code carries TEL STATUS and SAMPLE_TIME, those of the
last frame where no frame reported it; a comparator carries its sample; SIN_DEMAND carries its input in DATA1; GFE_MODE_REFUSED carries
the requested mode (R110), in DATA0 (DEDUCED, notes/assumptions/50.md). The table leaves the rest to each code, and no code states it: those words are free. -/
def recData (code index d0 d1 : Nat) (s : State) : (Nat × Nat) × State :=
  let comparator := (0x2100 ≤ code && code ≤ 0x211F) || (0x2140 ≤ code && code ≤ 0x216F)
  let t := s.tel index
  if 0x1000 ≤ code && code ≤ 0x101F then ((d0, d1), s)
  else if 0x1020 ≤ code && code ≤ 0x1FFF && t.seen then ((t.status.toNat, exCount t.sampleTime), s)
  else
    let f := s.freeWord
    let g := f.2.freeWord
    ((if comparator || code == 0x5109 then d0 else f.1.toNat, if code = 0x6002 then d1 else g.1.toNat), g.2)

/-- Hold a fault of a new record: the log, the decisions of the escalation window, the first-out list (R254, R268, R269). -/
def holdFault (h : Held) (decisions : List (Nat × List Nat)) (s : State) : State :=
  logRec h.lr { s with spu := { s.spu with
    held := s.spu.held ++ [h]
    decisions := decisions
    foCur := if h.lr.firstOut then s.spu.foCur ++ [h.lr] else s.spu.foCur } }

/-- Decide a fault with configured reaction `cfg` (R241, R253 to R255, R268, R269). A held fault of the same code and instance
only counts a repeat. A synchronised pair member withdraws for the faults of R342 instead of reacting. -/
def raiseWith (cfg code kind index d0 d1 : Nat) (scope : List Nat) (s : State) : State :=
  if isHeld code kind index s then repeatFault code kind index s
  else
    let esc := escalate s scope
    let applied := if cfg = 2 then esc.1 else cfg
    let cover := if applied = 2 then scope else if cfg = 2 && applied = 3 then esc.2.1
                 else if applied = 3 then groupChans s scope else []
    let d := recData code index d0 d1 s
    let s := d.2
    let r := stampRec s {
      code := code, kind := kind, index := index, data0 := d.1.1 % 2 ^ 32, data1 := d.1.2 % 2 ^ 32,
      reactCfg := cfg, reactApplied := applied, escalated := applied != cfg,
      reactDevice := max (deviceReaction s) (if 4 ≤ applied then applied else 0),
      firstOut := decide (s.spu.foCur.length < 16) }
    let h : Held := { lr := r, time := s.now, scope := scope, cover := cover }
    if withdrawCode code && synchronised s then
      assertReset 2 5 code false (logRec r { s with
        rdn := { s.rdn with hbOut := false }
        spu := { s.spu with foCur := if r.firstOut then s.spu.foCur ++ [r] else s.spu.foCur } })
    else
      let t := holdFault h (if cfg = 2 then esc.2.2 else s.spu.decisions) s
      applyReaction s h (fireFault code applied r.seq (s.now / cycQ * cycQ) t)

def raise (code kind index d0 d1 : Nat) (scope : List Nat) (s : State) : State :=
  raiseWith (cfgReact s code) code kind index d0 d1 scope s

/-- A fault of scope DEVICE without data. -/
def raiseDev (code kind index : Nat) (s : State) : State := raise code kind index 0 0 [] s

/-! Clearing. -/

/-- The switches of a channel that the satellite has brought to the levels `lv` by time t. -/
def Phys.settle (lv : Bool × Bool) (t : Nat) (p : Phys) : Phys :=
  { h := lv.1, l := lv.2, offH := if p.h && !lv.1 then some t else p.offH, offL := if p.l && !lv.2 then some t else p.offL }

/-- Channels that no reaction and no safe level covers any more: each stands at its levels until its first decision, with carry zero
(R188, R259). -/
def rejoinChans (freed : List Nat) (lv : Nat → Bool × Bool) (resume : Option Int) (s : State) : State :=
  let now := s.nowStep
  { s with
    mod := { s.mod with ch := s.mod.ch.map (fun e =>
      if freed.contains e.1 then
        (e.1, { e.2 with wait := true, carry := 0, resume := resume, base := lv e.1, ph := e.2.ph.settle (lv e.1) now })
      else e) }
    spu := { s.spu with sw := s.spu.sw.map (fun e => if freed.contains e.1 then (e.1, e.2.settle (lv e.1) now) else e) } }

/-- Take a fault out of the held ones and log its clear (R256). Channels no longer covered resume from window n + 1 with a
timed RELEASE while the device is in RUN; a guard code that changes leaves at once (R244, R259). -/
def clearHeld (auto : Bool) (h : Held) (s : State) : State :=
  let t := { s with spu := { s.spu with held := s.spu.held.filter (fun x => !(sameFault h.lr.code h.lr.kind h.lr.index x)) } }
  let r := stampRec t { h.lr with cleared := true, auto := auto, firstOut := false, reactDevice := deviceReaction t }
  let t := logRec r t
  if h.level < 2 then t
  else
    let n := t.tickNow
    let freed := (List.range 256).filter (fun c => (dueCode s c).isSome && (dueCode t c).isNone && h.covers c)
    let t := immediateStates s t
    if t.dev = .run then
      sendRelease freed (winStart t (n + 1)) (rejoinChans freed (fun _ => (false, false)) (some (n + 1)) t)
    else t

def clearWhere (auto : Bool) (f : Held → Bool) (s : State) : State :=
  (s.spu.held.filter f).foldl (fun s h => clearHeld auto h s) s

/-- The "Clears when" condition of a code and instance holds: a NOTE clears, a higher reaction may be cleared by command. -/
def condHolds (code kind index : Nat) (s : State) : State :=
  let s := { s with spu := { s.spu with
    held := s.spu.held.map (fun h => if sameFault code kind index h then { h with ok := true } else h) } }
  clearWhere false (fun h => sameFault code kind index h && h.level == 1) s

/-- The condition no longer holds. -/
def condFails (code kind index : Nat) (s : State) : State :=
  { s with spu := { s.spu with
    held := s.spu.held.map (fun h => if sameFault code kind index h then { h with ok := false } else h) } }

/-- As condHolds for every instance of a code. -/
def condHoldsCode (code : Nat) (s : State) : State :=
  let s := { s with spu := { s.spu with held := s.spu.held.map (fun h => if h.lr.code = code then { h with ok := true } else h) } }
  clearWhere false (fun h => h.lr.code == code && h.level == 1) s

/-- The condition of a fault that is evaluated every time holds or not: the run it belongs to (R253). -/
def markRun (code kind index : Nat) (cond : Bool) (s : State) : State :=
  let key := (code, kind * 4096 + index)
  { s with spu := { s.spu with runs :=
      if !cond then s.spu.runs.filter (· != key) else if s.spu.runs.contains key then s.spu.runs else key :: s.spu.runs } }

/-- R253: a fault evaluated every time is raised at the first evaluation of a run in which its condition holds. -/
def runRaise (code kind index d0 d1 : Nat) (scope : List Nat) (cond : Bool) (s : State) : State :=
  let on := s.spu.runs.contains (code, kind * 4096 + index)
  if cond then
    (if on then s
     else raise code kind index d0 d1 scope { s with spu := { s.spu with runs := (code, kind * 4096 + index) :: s.spu.runs } })
  else { s with spu := { s.spu with runs := s.spu.runs.filter (· != (code, kind * 4096 + index)) } }

/-! Faults of one instant (R255). -/

/-- A fault that the work of an instant has found. -/
def dueFault (code kind index d0 : Nat) (s : State) : State :=
  { s with spu := { s.spu with due := s.spu.due ++ [(code, kind, index, d0)] } }

/-- As runRaise, at the end of the instant. -/
def dueRun (code kind index : Nat) (cond : Bool) (s : State) : State :=
  let on := s.spu.runs.contains (code, kind * 4096 + index)
  let s := markRun code kind index cond s
  if cond && !on then dueFault code kind index 0 s else s

/-- Insert by code, KIND and index. -/
def dueInsert (x : Nat × Nat × Nat × Nat) : List (Nat × Nat × Nat × Nat) → List (Nat × Nat × Nat × Nat)
  | [] => [x]
  | y :: r =>
    let key := fun (z : Nat × Nat × Nat × Nat) => z.1 * 2 ^ 32 + z.2.1 * 2 ^ 24 + z.2.2.1
    if key x < key y then x :: y :: r else y :: dueInsert x r

/-- The work of one instant, then the faults it has found, by code and by instance. -/
def inOrder (f : State → State) (s : State) : State :=
  let t := f { s with spu := { s.spu with due := [] } }
  (t.spu.due.foldl (fun l x => dueInsert x l) []).foldl (fun s d => raise d.1 d.2.1 d.2.2.1 d.2.2.2 0 [] s)
    { t with spu := { t.spu with due := [] } }

/-! BLOCK_N (R260). -/

/-- BLOCKN_IDLE in force: the loaded record's, or the keeper's copy while the record is not loaded; without a copy the wire is
driven (R484). -/
def idleReleased (s : State) : Bool :=
  if 3 ≤ s.sys.step then s.sys.opt.idle == 1 else s.sys.keepIdle == some 1

/-- The device is in ARMED, RUN or BLOCKED with its engines out of reset: the states outside R22. -/
def State.awake (s : State) : Bool := s.dev.live && s.sys.step == 9

/-- The engines of the tick run: the device is in a state with a schedule, and no lost FPLL or TPLL has stopped them (R448). -/
def enginesRun (s : State) : Bool := s.awake && !heldCode 0x7004 s

/-- This device drives the wire low now. -/
def drivesBlockN (s : State) : Bool :=
  s.dev.powered && ((!s.awake && !idleReleased s) ||
    s.spu.held.any (fun h => decide (5 ≤ h.level) && h.lr.code != 0x3120) || s.spu.pulseEnd.isSome)

/-- BLOCK_N low that another device drives. -/
def seenLow (s : State) : Bool := s.spu.wireLow && !drivesBlockN s && s.spu.quietEnd.isNone

/-- What a low from outside does in ARMED, RUN and BLOCKED, at its fall, at the end of the quiet time and at the entry to ARMED (R261).
BLOCKED_BY names it by 1 and its LOG_SEQ (Table 14-9). -/
def remoteBlock (s : State) : State :=
  if !(s.awake && seenLow s) then s
  else
    let seq := match s.spu.held.find? (sameFault 0x7007 0 0) with | some h => h.lr.seq | none => s.spu.logSeq % 2 ^ 32
    originateGb (raiseDev 0x7007 0 0 (noteCause 1 seq s))

/-- SDCLK[g] (R271, R272): an OUT group drives its clock in ARMED, RUN and BLOCKED under a pattern that sets it to OUT, and holds the pin
low otherwise. -/
def sdclkPin (s : State) (g : Nat) : SdClk :=
  if s.pn 7 (0x100 + g) 1 ≠ 1 then .input
  else if s.dev.live && s.sys.inForce && s.bsd.patOut.getLsbD g then .clock (s.alm.origin / stepQ) (s.pn 7 (0x100 + g) 2 * 20)
  else .low

/-- The end of a command: the pins follow the state. BLOCK_N is driven as R260 says and its quiet time starts when this device
lets go; SAFE_BLOCK_N and SOUT are low in the states of R22; PAIR_HB_OUT carries its square wave in a pair member whose engines
run (R332); SDCLK follows R272. -/
def settle (s : State) : State :=
  let d := drivesBlockN s
  let awake := s.awake
  { s with
    spu := { s.spu with
      blockNLow := d
      quietEnd := if s.spu.blockNLow && !d then some (s.now + 3000 * nsecQ) else s.spu.quietEnd }
    bsd := { s.bsd with sdclk := Vector.ofFn (fun (g : Fin 6) => sdclkPin s g) }
    rdn := { s.rdn with hbOut := s.pairEn && enginesRun s }
    sfi := { s.sfi with
      safeHigh := s.sfi.safeHigh && awake
      sout := if awake then s.sfi.sout else s.sfi.sout.map (fun o => { o with level := false }) } }

/-- The timed conditions of "Clears when" and how long they must hold, in clock steps (R256): 1 ms or 1 s. -/
def timedCond (s : State) (code index : Nat) : Option (Bool × Nat) :=
  let ms := 16000000
  let lane := tabGet s.lanes.lane index {}
  if code = 0x7004 then some (s.clk.fpll == .locked && s.clk.tpll == .locked, ms)
  else if code = 0x7301 then some (s.clk.xmOk, ms)
  else if code = 0x7302 then some (s.clk.xsOk, 1000 * ms)
  else if code = 0x7303 then some (s.clk.cpll == .locked, ms)
  else if code = 0x7305 then some (vget s.clk.refOk 0 false, 1000 * ms)
  else if code = 0x7306 then some (vget s.clk.refOk 1 false, 1000 * ms)
  else if code = 0x3103 then some (s.rdn.hb, ms)
  else if code = 0x3201 then some (lane.sync && !lane.los && !lane.lol, ms)
  else if code = 0x3202 then some (vget s.lanes.lock index false, ms)
  else if code = 0x7602 then some (s.pkg.railOk.testBit index, ms)
  else none

def sinceKey (h : Held) : Nat := h.lr.code * 4096 + h.lr.index

/-- From the end of this command each timed condition that holds goes on holding, or begins to. -/
def watch (s : State) : State :=
  { s with since := s.spu.held.filterMap (fun h => match timedCond s h.lr.code h.lr.index with
      | some (true, _) => some (sinceKey h, tabGet s.since (sinceKey h) s.clock)
      | _ => none) }

/-- The outcome of a command: the transmitters take the frames it handed over, and the pins follow. -/
def done (s : State) : Host.Outcome State Fault Refusal := .next (settle (watch (transmit s)))

/-! Scopes. -/

/-- The positions one port serves, or one hop of it (R242). -/
def portScope (s : State) (p : Nat) : List Nat :=
  ((List.range 4).filter (fun j => (s.port p).positions.testBit j)).map (fun j => 4 * p + j)
def hopScope (s : State) (p h : Nat) : List Nat :=
  match (s.port p).sats.find? (fun a => a.hop == h) with
  | some a => (List.range a.chans).map (fun j => 4 * p + a.first + j)
  | none => []

/-- The channels a comparator's ROUTE names (R250). -/
def routeScope (s : State) (inst : Nat) : List Nat :=
  let c := s.pn 4 inst 1
  if c = noneV then [] else ((List.range (s.pn 4 inst 2)).map (c + ·)).filter (· < 256)

/-- The scope of a fault by its KIND and INDEX (R242, Tables 8-5, 8-6, 8-8). -/
def scopeOf (s : State) (kind index : Nat) : List Nat :=
  match kind with
  | 1 => [index] | 2 => portScope s index | 3 => hopScope s (index / 4) (index % 4)
  | 7 => routeScope s (0x100 + index) | 8 => routeScope s (0x140 + index) | 9 => safeChans s index | _ => []

end Sys2Proof.Machine
end

