-- ==== Sys2Proof/Machine/Access.lean ====
section
/-! DEFINITION. What every host message passes through before its command acts: attachment, session, version, rights
(spec/14_host_partitions.md R385 to R409, Tables 14-1, 14-2 and 14-9). -/
namespace Sys2Proof.Machine

/-! Status codes of Table 14-9. -/
def stNoSession : Nat := 0x01
def stVersion : Nat := 0x02
def stUnknown : Nat := 0x03
def stBadLength : Nat := 0x04
def stTooLong : Nat := 0x05
def stPrivilege : Nat := 0x10
def stNoToken : Nat := 0x11
def stTokenHeld : Nat := 0x12
def stNotActive : Nat := 0x13
def stBadId : Nat := 0x20
def stRange : Nat := 0x21
def stConflict : Nat := 0x22
def stWrongState : Nat := 0x23
def stBadTime : Nat := 0x24
def stProfile : Nat := 0x25
def stSourceActive : Nat := 0x40
def stBlockedBy : Nat := 0x41

/-! Privileges (Table 14-1). -/
def pvObserve : Nat := 0
def pvOperate : Nat := 1
def pvConfigure : Nat := 2
def pvTime : Nat := 3
def pvSafety : Nat := 4
def pvService : Nat := 5

def privOf (s : State) (p : Nat) : Nat := s.pn 17 p 3
def hasPriv (s : State) (p b : Nat) : Bool := (privOf s p).testBit b
def holdsToken (s : State) (p : Nat) : Bool := s.hst.token == p

/-- The firmware, or the recovery monitor, runs: it has started at step 5 of the release order, and no lost CPLL halts the cluster
(R448, R481). -/
def firmwareRuns (s : State) : Bool := s.dev.powered && decide (6 ≤ s.sys.step) && !s.sys.noFw && s.clk.cpll != .lost

/-- The attachments the device state leaves (R389): PCIe while its link is up, UDP not in BOOT and in PARKED on the wake lane only; in
FALLBACK partitions with OBSERVE and SERVICE only. -/
def attached (s : State) (p : Nat) : Bool :=
  let a := s.pn 17 p 1
  firmwareRuns s &&
    (match a with
     | 1 => s.lanes.pcie && s.dev != .parked
     | 2 => true
     | 3 => s.dev != .boot && (s.dev != .parked || s.pn 17 p 2 == s.pn 14 0x200 1)
     | _ => false) &&
    (s.dev != .fallback || ((s.pn 17 p 3).testBit 0 && (s.pn 17 p 3).testBit 5))

/-- A partition with a register window: PCIe while its link is up, or HSPI (R385, R386, R388). -/
def hasWindow (s : State) (p : Nat) : Bool :=
  s.dev.powered && ((s.pn 17 p 1 == 1 && s.lanes.pcie) || s.pn 17 p 1 == 2)

/-- A member of a pair that is not ACTIVE refuses writes and state commands (R337, R394). -/
def notActive (s : State) : Bool := s.pairEn && s.rdn.role != 1

/-- The right a command needs. -/
inductive Right where
  | observe
  | priv (b : Nat)
  | token
  | tokenOr (b : Nat)
deriving DecidableEq, Repr

/-- The refusal a missing right gives (R393): NO_TOKEN names the holder, PRIVILEGE the privilege bits needed. -/
def rightRefusal (s : State) (p : Nat) : Right → Option (Nat × Nat)
  | .observe => none
  | .priv b => if hasPriv s p b then none else some (stPrivilege, 2 ^ b)
  | .token => if holdsToken s p then none else some (stNoToken, s.hst.token)
  | .tokenOr b => if holdsToken s p || hasPriv s p b then none else some (stNoToken, s.hst.token)

/-- Opcodes the recovery monitor answers in FALLBACK (R23, R389). -/
def fallbackOp (op : Nat) : Bool :=
  [0x0001, 0x0002, 0x0003, 0x0004, 0x0207, 0x0301, 0x0302, 0x0501, 0x0502, 0x0503, 0x0610, 0x0611, 0x0612].contains op

/-- A START, RESUME or BIST_RUN of partition p executes and waits for its answer (R406). -/
def waits (s : State) (p : Nat) : Bool :=
  s.trans.any (fun t => t.part == p && (t.kind == 1 || t.kind == 3)) || s.sys.bistPart == p

/-- The message a command's row stands for may execute now: none of the partition is executing, and a parked one has the row's
opcode, is not held, and is first of those not held in the order of doorbells (R407). A row that no doorbell brought stands for
the whole exchange. -/
def mayRun (p op : Nat) (s : State) : Bool :=
  attached s p && !waits s p &&
    (match (s.hp p).msg with
     | none => true
     | some m => m.opcode == op && !(s.hp p).held && s.hst.order.find? (fun q => !(s.hp q).held) == some p)

/-- The message of partition p starts to execute: it leaves the order of doorbells, renews the lease (R392, R407), and, where no
doorbell brought it, stands for a message of the agreed version and TAG 0. -/
def takeMsg (p op : Nat) (s : State) : State :=
  let s := { s with hst := { s.hst with order := s.hst.order.erase p } }
  s.modHp p (fun h => { h with
    lastMsg := s.now, reqBusy := true
    msg := some (h.msg.getD { maj := h.version / 256, min := h.version % 256, opcode := op, tag := 0, payload := [] }) })

/-- Session, version and opcode checks (R401), then the body. `since` is the version that introduced the opcode. -/
def inSession (p op since : Nat) (body : State → State) (s : State) : State :=
  if !mayRun p op s then s
  else
    let s := takeMsg p op s
    let h := s.hp p
    let m := h.msg.getD { maj := 0, min := 0, opcode := op, tag := 0, payload := [] }
    if !h.session then refuse p stNoSession 0 0 s
    else if m.maj * 256 + m.min ≠ h.version then refuse p stVersion h.version 0 s
    else if h.version < since then refuse p stUnknown op 0 s
    else if s.dev = .fallback && !fallbackOp op then refuse p stUnknown op 0 s
    else body s

/-- A command of Table 14-8: the checks above, its right, the pair's role for state commands and writes (`acts`), its body. -/
def hostCmd (p op since : Nat) (right : Right) (acts : Bool) (body : State → State) (s : State) : State :=
  inSession p op since (fun s =>
    if acts && notActive s then refuse p stNotActive s.rdn.role 0 s
    else match rightRefusal s p right with
      | some (st, d) => refuse p st d 0 s
      | none => body s) s

/-- MAX_MSG of a partition's attachment (R398). -/
def maxMsg (s : State) (p : Nat) : Nat := if s.pn 17 p 1 = 3 then 1456 else 4096

/-- A request of `n` payload words that fits MAX_MSG (R398). -/
def sized (p n : Nat) (body : State → State) (s : State) : State :=
  if maxMsg s p < 16 + 4 * n then refuse p stBadLength (4 * n) (maxMsg s p) s else body s

def ok (p : Nat) (ws : List Word) (s : State) : State := respond p 0 ws false s

/-- A response that is not paged and must fit MAX_MSG. -/
def reply (p : Nat) (ws : List Word) (s : State) : State :=
  if maxMsg s p < 16 + 4 * ws.length then refuse p stTooLong (16 + 4 * ws.length) (maxMsg s p) s else ok p ws s

def w2 (n : Nat) : List Word := [BitVec.ofNat 32 n, BitVec.ofNat 32 (n / 2 ^ 32)]
def wI (i : Int) : List Word := w2 (BitVec.ofInt 64 i).toNat

/-- The tick instant at which an accepted LIVE write acts: the next one; in a pair at least two ticks later (R98, R138, R403). -/
def applyTick (s : State) : Int := s.tickNow + (if s.pairEn then 2 else 1)

/-- Rights that only the ACTIVE member of a pair accepts: the token, CONFIGURE and TIME (R337). -/
def Right.acts : Right → Bool
  | .observe => false
  | .priv b => b == pvConfigure || b == pvTime
  | .token => true
  | .tokenOr _ => true

/-- A field whose write is an operation with a row of its own (FORCE, FAULT_CLEAR, ALT_RESET and their like): PARAM_WRITE of that
one entry. -/
def fieldCmd (p : Nat) (right : Right) (body : State → State) (s : State) : State :=
  hostCmd p 0x0302 0x300 right right.acts (fun s =>
    if s.dev = .fallback then refuse p stWrongState (devCode s.dev) 0 s else body s) s

def accepted (p : Nat) (s : State) : State := ok p (wI (applyTick s)) s

/-! The operator token (R391, R392, R65). -/

/-- The active sends each accepted write to its partner with its effective tick (R98, Table 12-3). -/
def forwardWrite (tick : Int) (es : List (Nat × Wire)) (s : State) : State :=
  if s.pairEn && s.rdn.role == 1 && !es.isEmpty then sendPair (.write tick es) s else s

/-- WRITE entries that stand for LAUNCH_PLACE and LAUNCH_CANCEL carry their opcodes as IDs, and one of ID 1 names the launch entry whose
values follow (DEDUCED, notes/assumptions/39.md). -/
def wrPlace : Nat := 0x0404
def wrCancel : Nat := 0x0405
def wrEntry : Nat := 1

/-- Cancel the ARM, START, PARK and COMMIT entries of a partition, each with its record (R65), in a pair on both members. -/
def cancelLaunches (p : Nat) (s : State) : State :=
  let gone := s.alm.launch.filter (fun e => e.2.part == p && [0, 1, 2, 4].contains e.2.action)
  let s := forwardWrite s.tickNow (gone.map (fun e => (wrCancel, BitVec.ofNat 64 e.1))) s
  gone.foldl (fun s e => logEvent 7 0 e.1 e.2.action p s)
    { s with alm := { s.alm with launch := s.alm.launch.filter (fun e => !(e.2.part == p && [0, 1, 2, 4].contains e.2.action)) } }

/-- The token passes to `new` (15 none) for a cause of Table 15-2. -/
def moveToken (new cause : Nat) (s : State) : State :=
  let old := s.hst.token
  if old = new then s
  else
    let s := { s with hst := { s.hst with token := new, tokenChanges := sat32 s.hst.tokenChanges, tokenAt := s.now } }
    let s := logEvent 2 0 0 (old * 256 + new) cause s
    let s := if old < 8 then cancelLaunches old (setIrq 2 old s) else s
    if new < 8 then setIrq 2 new s else s

def dropToken (p cause : Nat) (s : State) : State := if s.hst.token = p then moveToken 15 cause s else s

/-- A field whose write is a command: what may refuse it (status and details), and its effect. -/
structure Op where
  check : State → Option (Nat × Nat × Nat)
  act : State → State

/-- Command fields that both members of a pair carry out at the effective tick (R138, R246, Table 12-3 WRITE). -/
def mirrored (id : Nat) : Bool := [1, 2, 3, 4, 7, 9].contains (idUnit id)

/-- ALT_RESET of an instance or a slot puts the primary back at a tick instant (R101, R159). -/
def atInstant (id : Nat) : Bool := (idUnit id == 1 && idField id == 0x12) || (idUnit id == 2 && idField id == 6 && decide (idInst id < 64))

/-- Carry out an accepted command field: at once or at the next tick instant, in a pair at the effective tick by both members. -/
def runOp (id val : Nat) (o : Op) (s : State) : State :=
  if atInstant id || (s.pairEn && mirrored id) then
    forwardWrite (applyTick s) [(id, BitVec.ofNat 64 val)]
      { s with pend := s.pend ++ [{ id := id, val := BitVec.ofNat 64 val, tick := applyTick s }] }
  else o.act s

/-- The name FAULT_CLEAR gives a fault (Table 8-9). -/
def faultName (h : Held) : Nat := h.lr.code * 65536 + h.lr.kind % 16 * 4096 + h.lr.index % 4096
def idFaultClear : Nat := mkId 4 0x400 0x30

/-- Held faults that a name means: one, or every one. -/
def namedFaults (s : State) (name : Nat) : List Held :=
  s.spu.held.filter (fun h => name == max32 || faultName h == name)

/-- Codes that FAULT_CLEAR clears without a further condition (Tables 8-5 and 12-12). -/
def freeClear (code : Nat) : Bool :=
  [0x1001, 0x1002, 0x1011, 0x1012, 0x1013, 0x1015, 0x3120, 0x5401, 0x7407].contains code

/-- Does the condition of a held fault's clear hold now? -/
def clearable (s : State) (h : Held) : Bool :=
  let c := h.lr.code
  if [0x4101, 0x4301, 0x5201].contains c then s.dev != .run
  else if c = 0x7007 then !s.spu.wireLow && decide (s.spu.highSince + 1000000 * nsecQ ≤ s.now)
  else if c = 0x7001 || c = 0x7002 then false
  else freeClear c || h.ok

/-- The clears of a FAULT_CLEAR whose conditions hold as it takes effect: at once, or in a pair at the effective tick by both members
(R259). -/
def clearNamed (name : Nat) (s : State) : State :=
  (namedFaults s name).foldl (fun s h => if codeIsSafety h.lr.code || !clearable s h then s else clearHeld false h s) s
def finishClear (h : Held) (s : State) : State :=
  runOp idFaultClear (faultName h) { check := fun _ => none, act := clearNamed (faultName h) } s

/-- The row of such a field: PARAM_WRITE of that one entry (R403). -/
def opCmd (p : Nat) (right : Right) (id val : Nat) (o : Op) (s : State) : State :=
  fieldCmd p right (fun s => match o.check s with
    | some (st, d0, d1) => refuse p st d0 d1 s
    | none => accepted p (runOp id val o s)) s

def wrongState (s : State) : Option (Nat × Nat × Nat) := some (stWrongState, devCode s.dev, 0)

end Sys2Proof.Machine
end

