-- ==== Sys2Proof/Machine/Modulator.lean ====
section
/-! DEFINITION. The modulator (spec/06_modulator.md): carriers and update points, pulses, dead time, DIRECT changes, force bits,
the both-on clamp, and the records of one execute window. All instants are TB[0] counts of 62.5 ps (R170). -/
namespace Sys2Proof.Machine

/-! Carriers (R172, R173). -/

/-- The first start origin + k P at or after t. -/
def ceilStart (origin period t : Int) : Int := t + (origin - t) % period

/-- The first period start of a carrier at or after t, with the period it opens. -/
def carNext (c : Car) (t : Int) : Int × Nat :=
  match c.old with
  | none => (ceilStart c.origin c.period t, c.period)
  | some (p0, o0) =>
    let s := ceilStart o0 p0 t
    if s < c.origin then (s, p0) else (ceilStart c.origin c.period (max t c.origin), c.period)

/-- The period in progress at t. -/
def carPeriodAt (c : Car) (t : Int) : Nat := match c.old with | some (p0, _) => if t < c.origin then p0 else c.period | none => c.period

/-- A channel's first period start at or after t under a PHASE (R174). -/
def chNext (c : Car) (phase : Nat) (t : Int) : Nat := ((carNext c (t - phase)).1 + phase).toNat

/-- The EDGE and LIVE fields a channel's decisions use, in steps. -/
structure ChPar where
  phase : Nat
  upd : Nat
  dt : Nat
  minp : Nat
  carry : Bool
deriving DecidableEq, Repr

/-- The exact product of a binary32 value with a count, rounded to an integer, ties to even (R170). -/
def mulRound (d : Nat) (n : Nat) : Int :=
  match fToQ fmt32 d with
  | some (num, den) => if num < 0 then -(divEven (num.natAbs * n) den : Int) else divEven (num.natAbs * n) den
  | none => 0

/-- A DUTY value clamped to 0 to 1, and whether it was outside (R165). -/
def clampDuty (d : Nat) : Nat × Bool :=
  if fLt fmt32 d 0 then (0, true) else if fLt fmt32 0x3F800000 d then (0x3F800000, true) else (d, false)

/-- A mode event: instant, target state 0 both off, 1 H, 2 L, 3 both on, DEADTIME in force, DIRECT. -/
structure ModeEv where
  t : Nat
  tgt : Nat
  dt : Nat
  direct : Bool := false
deriving DecidableEq, Repr

/-- The width in force for a pulse: R176's we from w. -/
def effWidth (w n lim : Int) : Int :=
  if 0 < w && w < lim then 0 else if 0 < n - w && n - w < lim then n else w

/-- The events without the turn-off of the pulse in progress. -/
def dropOff (ch : Chan) (evs : List ModeEv) : List ModeEv :=
  match ch.per with | some (_, some o, _) => evs.filter (fun e => !(e.tgt == 2 && e.t == o)) | _ => evs

/-- R176: the pulse computed at a period start. A pulse that a shortened transitional period (R174) leaves unfinished ends with it. -/
def pulseAt (u n : Nat) (req : Req) (cp : ChPar) (b : Nat) (ch : Chan) (evs : List ModeEv) : Chan × List ModeEv :=
  let unfinished := match ch.per with | some (_, some o, _) => decide (u ≤ o) | _ => false
  let evs := if unfinished then dropOff ch evs else evs
  match req with
  | .off => ({ ch with per := none, full := false }, evs ++ [⟨u, 0, cp.dt, false⟩])
  | .val d =>
    let w0 := mulRound (clampDuty d.toNat).1 n
    let w := clampI 0 n (if cp.carry then w0 + ch.carry else w0)
    let we := effWidth w n (cp.dt + cp.minp)
    let ch := { ch with
      suppressed := if we = w then ch.suppressed else sat32 ch.suppressed
      carry := if cp.carry then w - we else 0 }
    if we = 0 then ({ ch with per := some (u, none, n), full := false }, evs ++ [⟨u, 2, cp.dt, false⟩])
    else if we = n then ({ ch with per := some (u, none, n), full := true }, evs ++ [⟨u, 1, cp.dt, false⟩])
    else
      let off := u + we.toNat
      ({ ch with per := some (u, some off, n), full := false },
        evs ++ (⟨u, 1, cp.dt, false⟩ : ModeEv) :: (if off < b then [⟨off, 2, cp.dt, false⟩] else []))

/-- R177: the load at a mid-period update point. -/
def midAt (t : Nat) (req : Req) (cp : ChPar) (b : Nat) (ch : Chan) (evs : List ModeEv) : Chan × List ModeEv :=
  match req, ch.per with
  | .val d, some (u, off, n) =>
    if ch.full || (match off with | some o => decide (t < o) | none => false) then
      let wr := mulRound (clampDuty d.toNat).1 n
      let w := max wr (max ((n / 2 : Nat) : Int) (cp.dt + cp.minp : Nat))
      let evs := dropOff ch evs
      if (n : Int) - w < (cp.dt + cp.minp : Nat) then
        ({ ch with per := some (u, none, n), full := true, suppressed := sat32 ch.suppressed,
                   carry := if cp.carry then ch.carry + (wr - n) else ch.carry }, evs)
      else
        let o := u + w.toNat
        ({ ch with per := some (u, some o, n), full := false,
                   carry := if cp.carry then ch.carry + (wr - w) else ch.carry },
          if o < b then evs ++ [⟨o, 2, cp.dt, false⟩] else evs)
    else (ch, evs)
  | _, _ => (ch, evs)

/-- What a window's planning yields. -/
structure Plan where
  ch : Chan
  evs : List ModeEv := []
  first : Option Nat := none
  promoted : Bool := false
deriving DecidableEq, Repr

/-- The request a decision at t uses: that of the tick, or of the previous tick when the reload instant lies in the fabric
cycle of W (R167, R168); a gate 0 acts without waiting (R166). -/
def reqAt (a t : Nat) (cur prev : Req) : Req :=
  match cur with
  | .off => .off
  | .val v => if t < a + 20 then prev else .val v

/-- A waiting channel that rejoins its mode at a mid-period update point takes the state of the pulse in progress (R188). -/
def rejoinAt (t : Nat) (cp : ChPar) (st : Plan) (r : Chan × List ModeEv) : Chan × List ModeEv :=
  match st.ch.wait && st.first.isNone, r.1.per with
  | true, some (_, off, _) =>
    let on := r.1.full || (match off with | some o => decide (t < o) | none => false)
    (r.1, r.2 ++ [⟨t, if on then 1 else 2, cp.dt, false⟩])
  | _, _ => r

/-- The first update points at or after a of a channel that has none planned: the next period start, and with UPDATE MID the middle of
the period in progress (R175). -/
def firstPoints (car : Car) (a : Nat) (upd : Nat) (ch : Chan) : Chan :=
  match ch.nxt with
  | some _ => ch
  | none =>
    let nxt := chNext car ch.phase a
    let n := carPeriodAt car ((a : Int) - ch.phase)
    let half := ((carNext car ((a : Int) - ch.phase - n / 2)).1 + ch.phase + n / 2).toNat
    { ch with nxt := some nxt, mid := if upd = 1 && decide (half < nxt) then some half else none }

/-- The update points of a CARRIER channel in [a, b), in order (R174 to R177, R195). `pend` are the EDGE values that take
effect at the channel's next update point. -/
def carLoop (car : Car) (a b : Nat) (cur prev : Req) (pend : Option ChPar) : Nat → ChPar → Plan → Plan
  | 0, _, st => st
  | fuel + 1, cp, st =>
    let nxt := st.ch.nxt.getD (chNext car st.ch.phase a)
    let isMid := match st.ch.mid with | some m => decide (m < nxt) | none => false
    let t := if isMid then st.ch.mid.getD nxt else nxt
    if b ≤ t then { st with ch := { st.ch with nxt := some nxt } }
    else
      let cp := pend.getD cp
      let req := reqAt a t cur prev
      let n : Nat := if isMid then (match st.ch.per with | some (_, _, n) => n | none => carPeriodAt car ((t : Int) - st.ch.phase))
        else (carNext car ((t : Int) - st.ch.phase)).2
      let pe := if isMid then rejoinAt t cp st (midAt t req cp b { st.ch with mid := none } st.evs) else pulseAt t n req cp b st.ch st.evs
      let ch := pe.1
      let next := if cp.phase ≠ ch.phase then chNext car cp.phase (t + n / 2)
                  else if isMid then nxt else chNext car ch.phase (t + 1)
      let mid : Option Nat := if isMid then none else if cp.upd = 1 && decide (t + n / 2 < next) then some (t + n / 2) else none
      carLoop car a b cur prev none fuel cp
        { st with
          ch := { ch with nxt := some next, mid := mid, phase := cp.phase }
          evs := pe.2
          first := some (st.first.getD t)
          promoted := st.promoted || pend.isSome }

/-- A gate 0, or no request: both off from the start of the window (R166). The update points go on (R175). -/
def gateOff (a dt : Nat) (ch : Chan) : Plan :=
  { ch := { ch with per := none, full := false }, evs := [⟨a, 0, dt, false⟩], first := some a }

def planCarrier (car : Car) (a b : Nat) (cur prev : Req) (cp : ChPar) (pend : Option ChPar) (ch : Chan) : Plan :=
  let ch := firstPoints car a cp.upd ch
  let start : Plan := match cur with
    | .off => gateOff a cp.dt ch
    | .val d =>
      let clamped := (clampDuty d.toNat).2
      { ch := if clamped then { ch with dutyClamps := sat32 ch.dutyClamps } else ch
        evs := match ch.per with
          | some (_, some o, _) => if a ≤ o && o < b then [⟨o, 2, cp.dt, false⟩] else []
          | _ => [] }
  carLoop car a b cur prev pend 1200 cp start

/-- R180: a DIRECT request that is no number below 4. -/
def directBadVal (v : Word) : Bool := fIsNaN fmt32 v.toNat || fLe fmt32 0x40800000 v.toNat

/-- R180: the decoding of a DIRECT request. -/
def planDirect (a tickN dt : Nat) (cur : Req) (ch : Chan) : Plan :=
  match cur with
  | .off => gateOff a dt ch
  | .val v =>
    if directBadVal v then { ch := ch }
    else if fLt fmt32 v.toNat 0 then { ch := ch }
    else match fToQ fmt32 v.toNat with
      | some (num, den) =>
        let st := num.toNat / den
        let fr := divEven ((num.toNat - st * den) * tickN) den
        let t := a + min fr (tickN - 1)
        { ch := ch, evs := [⟨t, st, dt, true⟩], first := some t }
      | none => { ch := ch }

/-! From the mode's target states to switch levels (R178, R180, R181). -/

def insEv (e : ModeEv) : List ModeEv → List ModeEv
  | [] => [e]
  | x :: r => if x.t ≤ e.t then x :: insEv e r else e :: x :: r
def sortEvs (l : List ModeEv) : List ModeEv := l.foldl (fun acc e => insEv e acc) []

/-- The turn-ons of `p` that fall due before t, earliest first: each with its instant and switch (H true). -/
def dueOns (t : Nat) (p : Phys) : List (Nat × Bool) :=
  let h := match p.onH with | some u => if u < t then [(u, true)] else [] | none => []
  let l := match p.onL with | some u => if u < t then [(u, false)] else [] | none => []
  match h, l with
  | [(u, x)], [(v, y)] => if u ≤ v then [(u, x), (v, y)] else [(v, y), (u, x)]
  | _, _ => h ++ l

def Phys.turnOn (p : Phys) (sw : Bool) : Phys := if sw then { p with h := true, onH := none } else { p with l := true, onL := none }

/-- Wanted levels at t: turn-offs at once, turn-ons no earlier than `onAt` of the switch. -/
def Phys.want (p : Phys) (t : Nat) (h l : Bool) (onAt : Bool → Nat) : Phys :=
  let p := if h then p else { p with h := false, onH := none, offH := if p.h then some t else p.offH }
  let p := if l then p else { p with l := false, onL := none, offL := if p.l then some t else p.offL }
  let p := if h && !p.h && p.onH.isNone then { p with onH := some (onAt true) } else p
  if l && !p.l && p.onL.isNone then { p with onL := some (onAt false) } else p

structure LineSt where
  p : Phys
  out : List (Nat × Bool × Bool × Nat) := []
  suppressed : Nat := 0
deriving DecidableEq, Repr

def LineSt.flush (s : LineSt) (t dt : Nat) : LineSt :=
  (dueOns t s.p).foldl (fun s e =>
    let p := s.p.turnOn e.2
    { s with p := p, out := s.out ++ [(e.1, p.h, p.l, dt)] }) s

/-- The execute time of a change's turn-ons: DEADTIME after it for state 1 or 2, with it for DIRECT state 3 (R178, R180). -/
def ModeEv.onAt (e : ModeEv) : Nat := if e.tgt = 3 then e.t else e.t + e.dt

/-- A DIRECT change turns on a switch whose last turn-off lies less than DEADTIME + MIN_PULSE before that turn-on (R181). `act` are the
channel's switches as commanded up to the change, the both-on clamp with them; a change from state 3 turns its switch on again. -/
def directSoon (minp : Nat) (p act : Phys) (e : ModeEv) : Bool :=
  let soon := fun (off : Option Nat) => match off with | some o => decide (e.onAt < o + e.dt + minp) | none => false
  let again := p.h && p.l && e.tgt != 3
  ((e.tgt == 1 || e.tgt == 3) && ((!p.h && p.onH.isNone) || again) && soon act.offH)
    || ((e.tgt == 2 || e.tgt == 3) && ((!p.l && p.onL.isNone) || again) && soon act.offL)

/-- One mode event: H on at a + DT, L off at a (R178); a DIRECT turn-on too soon after its switch's last turn-off is not
executed (R181). `act` gives the switches commanded just before an instant, from the line so far. -/
def LineSt.event (minp : Nat) (act : List (Nat × Bool × Bool × Nat) → Nat → Phys) (s : LineSt) (e : ModeEv) : LineSt :=
  let s := s.flush e.t e.dt
  if e.direct && directSoon minp s.p (act s.out e.t) e then { s with suppressed := s.suppressed + 1 }
  else
    let p := if e.tgt = 3 then { s.p with h := true, l := true, onH := none, onL := none }
      else (if s.p.h && s.p.l then { s.p with h := false, l := false, onH := none, onL := none } else s.p).want e.t (e.tgt == 1) (e.tgt == 2) (fun _ => e.onAt)
    { s with p := p, out := s.out ++ [(e.t, p.h, p.l, e.dt)] }

/-! Overlays, clamp and dead-time guard (R178, R179, R184, R185). -/

structure OutSt where
  p : Phys
  edges : List (Nat × Bool × Bool) := []
  clampRun : Bool := false
  clamps : List (Nat × Option Nat) := []
deriving DecidableEq, Repr

def OutSt.flush (s : OutSt) (t : Nat) : OutSt :=
  (dueOns t s.p).foldl (fun s e => { s with p := s.p.turnOn e.2, edges := s.edges ++ [(e.1, e.2, true)] }) s

/-- What covers a channel in a window: nothing, a reaction (off), or a safe level. -/
inductive Cover where
  | free
  | level (h l : Bool)
deriving DecidableEq, Repr

/-- The command at t by R184 and R185: before its first decision a waiting channel stands at `base`. `mode` is the mode's level with the DEADTIME in force, `force` the four FORCE bits with
their writer. -/
def outAt (cover : Cover) (waitTo : Option Nat) (base : Bool × Bool) (mode : Bool × Bool × Nat) (force : Nat × Option Nat) (holder : Option Nat)
    (s : OutSt) (t : Nat) : OutSt :=
  let s := s.flush t
  let dt := mode.2.2
  let waiting := match waitTo with | some f => decide (t < f) | none => false
  let tg : Bool × Bool := match cover with
    | .level h l => (h, l)
    | .free =>
      let m := if waiting then base else (mode.1, mode.2.1)
      (if force.1.testBit 3 then force.1.testBit 2 else m.1, if force.1.testBit 1 then force.1.testBit 0 else m.2)
  let both := tg.1 && tg.2
  let forced := (force.1.testBit 3 && force.1.testBit 2) || (force.1.testBit 1 && force.1.testBit 0)
  let s := { s with
    clampRun := both
    clamps := if both && !s.clampRun then s.clamps ++ [(t, if forced then force.2 else holder)] else s.clamps }
  let h := tg.1 && !both
  let l := tg.2 && !both
  let s := { s with edges := s.edges ++ (if s.p.h && !h then [(t, true, false)] else []) ++
    (if s.p.l && !l then [(t, false, false)] else []) }
  let p0 := { s.p with onH := none, onL := none }
  let p := p0.want t h l (fun sw =>
    let off := if sw then (if s.p.l && !l then some t else s.p.offL) else (if s.p.h && !h then some t else s.p.offH)
    match off with | some o => max t (o + dt) | none => t)
  { s with p := p }.flush (t + 1)

def insNat (t : Nat) : List Nat → List Nat
  | [] => [t]
  | x :: r => if x = t then x :: r else if x < t then x :: insNat t r else t :: x :: r

/-- The output of one channel over [a, b) from the mode's line. -/
def outWindow (a b : Nat) (cover : Cover) (ch : Chan) (forcePar : Nat) (holder : Option Nat) : OutSt :=
  let waitTo := if ch.wait then some (ch.first.getD b) else none
  let pts := (ch.line.map (·.1)) ++ (match ch.first with | some f => [f] | none => []) ++
    ch.forceOld.map (·.1)
  let pts := (pts.filter (fun t => a ≤ t && t < b)).foldl (fun l t => insNat t l) [a]
  let modeAt := fun (t : Nat) => ch.line.foldl (fun m e => if e.1 ≤ t then (e.2.1, e.2.2.1, e.2.2.2) else m) ch.line0
  let forceAt := fun (t : Nat) => match ch.forceOld.find? (fun e => decide (t < e.1)) with
    | some (_, v, by_) => (v, by_)
    | none => (forcePar, ch.forceBy)
  (pts.foldl (fun s t => outAt cover waitTo ch.base (modeAt t) (forceAt t) holder s t)
    { p := ch.ph0, clampRun := ch.clampRun0 }).flush b

/-! One window of one channel. -/

def modeOf (s : State) (c : Nat) : Nat := s.pn 3 (0x200 + c / 4) 1
def chParOf (s : State) (c : Nat) (held : List Pend) : ChPar :=
  let get := fun (f : Nat) => match (held.filter (fun e => e.id == mkId 3 c f)).getLast? with
    | some e => e.val
    | none => s.wire (mkId 3 c f)
  { phase := (get 2).toInt.toNat / stepQ, upd := lo32 (get 3), dt := (get 4).toInt.toNat / stepQ, minp := (get 5).toInt.toNat / stepQ
    carry := lo32 (get 6) == 1 }

/-- A lower DEADTIME waits until the satellite has it (R218). -/
def deadtimeWaits (s : State) (e : Pend) : Bool :=
  idUnit e.id == 3 && idField e.id == 4 && decide (idInst e.id < 256) && decide (e.val.toInt < (s.wire e.id).toInt) &&
    (s.port (idInst e.id / 4)).reqs.any (fun r => r.use == 4 && r.addr == 0x0100 + 0x40 * (idInst e.id % 4))

/-- Pending EDGE values of channel c that may be promoted at tick n. -/
def chanPend (s : State) (c : Nat) (n : Int) : List Pend :=
  s.pend.filter (fun e => idUnit e.id == 3 && idInst e.id == c && (2 ≤ idField e.id && idField e.id ≤ 5) && decide (e.tick ≤ n)
    && !deadtimeWaits s e)

def curReq (s : State) (key : Nat) : Req := tabGet s.lpe.req key .off

/-- The insertion instants' outcome for a string cell: the target state, none when the carder gives it no decision. -/
structure CellDec where
  t : Nat
  ins : Bool
deriving DecidableEq, Repr

/-- Plan channel c for window [a, b) of tick n. -/
def planChan (s : State) (n : Int) (a b : Nat) (cell : Option CellDec) (c : Nat) : Plan :=
  let ch := s.chan c
  let cp := chParOf s c []
  match modeOf s c with
  | 1 =>
    let pend := chanPend s c n
    planCarrier (tabGet s.mod.car (s.pn 3 c 1) {}) a b (curReq s c) (ch.prevReq.getD .off) cp
      (if pend.isEmpty then none else some (chParOf s c pend)) ch
  | 2 => match cell with
    | some d => { ch := ch, evs := [⟨d.t, if d.ins then 1 else 2, cp.dt, false⟩], first := some d.t }
    | none => gateOff a cp.dt ch
  | 3 => planDirect a (s.alm.period / stepQ) cp.dt (curReq s c) ch
  | _ => gateOff a cp.dt ch

/-- A reaction or a safe level covers the channel throughout the window of tick n (R184 rules 1 and 2). In a pair a decision
enters the state of both members only from the first tick at least 1.0 µs after it (R345). -/
def coverOf (s : State) (n : Int) (c : Nat) : Cover :=
  let tn := s.tickAt n
  let now := s.spu.held.any (inModState s n c)
  let later := match (s.chan c).resume with | some k => decide (n < k) | none => false
  if now || later then .level false false
  else match faultInLevelAt s tn c with
    | some 1 => .level false false
    | some 2 => .level true false
    | some 3 => .level false true
    | _ => .free

/-- Plan and run channel c over the window: the new channel and its switch edges (instant, H, on). -/
def runChan (s : State) (n : Int) (a b : Nat) (cell : Option CellDec) (c : Nat) : Chan × List (Nat × Bool × Bool) × Plan :=
  let old := s.chan c
  let pl := planChan s n a b cell c
  let cover := coverOf s n c
  let minp := (chParOf s c []).minp
  let dt0 := (chParOf s c []).dt
  let evs := sortEvs pl.evs
  let evs := if old.wait then evs.filter (fun e => decide (pl.first.getD b ≤ e.t)) else evs
  let ml0 : Phys := if old.wait then { old.ph with h := old.base.1, l := old.base.2, onH := none, onL := none } else old.ml
  let dl := old.forceOld.filter (fun e => decide (a < e.1))
  let ch := { pl.ch with
    line0 := (ml0.h, ml0.l, dt0), first := pl.first, ph0 := old.ph, clampRun0 := old.clampRun, forceOld := dl, wait0 := old.wait }
  let holder := if s.hst.token = 15 then none else some s.hst.token
  let act := fun (line : List (Nat × Bool × Bool × Nat)) (t : Nat) =>
    if cover == .free then (outWindow a t cover { ch with line := line } (s.pn 3 c 7) holder).p else ml0
  let ln := (evs.foldl (LineSt.event minp act) { p := ml0 }).flush b dt0
  let ch := { ch with ml := ln.p, line := ln.out, suppressed := min (pl.ch.suppressed + ln.suppressed) max32 }
  let o := outWindow a b cover ch (s.pn 3 c 7) holder
  let covered := cover != .free
  let ch := { ch with
    ph := o.p, clampRun := o.clampRun, clampLog := o.clamps, clamps := min (ch.clamps + o.clamps.length) max32
    covered := covered
    base := match cover with | .level h l => (h, l) | .free => ch.base
    wait := covered || (old.wait && pl.first.isNone)
    carry := if covered then 0 else ch.carry
    resume := match ch.resume with | some k => if k ≤ n then none else some k | none => none
    prevReq := some (curReq s c) }
  (ch, o.edges, pl)

/-- Charge clamped intervals (R185). -/
def chargeClamps (l : List (Nat × Option Nat)) (m : Modr) : Modr :=
  l.foldl (fun m e => match e.2 with
    | some p => { m with clampsHp := vmod m.clampsHp p sat32 }
    | none => { m with clampsNone := sat32 m.clampsNone }) m

/-- Take back the charges of intervals that no longer begin (a FORCE write recomputes records, R183). -/
def unchargeClamps (l : List (Nat × Option Nat)) (m : Modr) : Modr :=
  l.foldl (fun m e => match e.2 with
    | some p => { m with clampsHp := vmod m.clampsHp p (· - 1) }
    | none => { m with clampsNone := m.clampsNone - 1 }) m

/-- The records of a channel's edges: EDGE_ID counts every record formed (Table 7-6); release is the later of E − L_cmd and the
end of dispatch (R169). -/
def formEdges (lcmd dispatch : Nat) (c : Nat) (fclr : Bool) (es : List (Nat × Bool × Bool)) (id0 : Nat) : List Edge :=
  (es.foldl (fun (st : List Edge × Nat × Bool) e =>
    let clr := st.2.2 && e.2.2
    (st.1 ++ [{ ch := c, high := e.2.1, on := e.2.2, fclr := clr, id := st.2.1 % 4096, exec := e.1,
                release := max (e.1 - lcmd) dispatch }], st.2.1 + 1, st.2.2 && !e.2.2)) ([], id0, fclr)).1

/-- Hand-over order of R169. -/
def edgeBefore (x y : Edge) : Bool :=
  let k := fun (e : Edge) => [e.release, e.exec, if e.on then 1 else 0, e.ch, if e.high then 1 else 0]
  decide (k x ≤ k y)
def insEdge (e : Edge) : List Edge → List Edge
  | [] => [e]
  | x :: r => if edgeBefore x e then x :: insEdge e r else e :: x :: r
def sortEdges (l : List Edge) : List Edge := l.foldl (fun acc e => insEdge e acc) []

/-! The SPU's check of every turn-on record (R248). -/

/-- The record of the switches after one edge record. -/
def Phys.apply (p : Phys) (e : Edge) : Phys :=
  if e.on then (if e.high then { p with h := true } else { p with l := true })
  else (if e.high then { p with h := false, offH := some e.exec } else { p with l := false, offL := some e.exec })

/-- May this record be released: a turn-on needs the opposite switch commanded off, and off for the channel's DEADTIME. -/
def spuAllows (dt : Nat) (p : Phys) (e : Edge) : Bool :=
  !e.on ||
    (!(if e.high then p.l else p.h) &&
      (match (if e.high then p.offL else p.offH) with | some o => decide (o + dt ≤ e.exec) | none => true))

/-- Check records in order of execute time: those withheld raise SPU_INTERLOCK for their channel. -/
def spuCheck (s : State) (es : List Edge) : List Edge × Tab Phys × List Nat :=
  es.foldl (fun (st : List Edge × Tab Phys × List Nat) e =>
    let p := tabGet st.2.1 e.ch {}
    if spuAllows (s.ptn 3 e.ch 4 / stepQ) p e then (st.1 ++ [e], tabPut st.2.1 e.ch (p.apply e), st.2.2)
    else (st.1, st.2.1, if st.2.2.contains e.ch then st.2.2 else st.2.2 ++ [e.ch])) ([], s.spu.sw, [])

/-! Steps of the MOD. -/

/-- Channels the MOD looks after: those of a group in a mode, those with a force bit set, and those it has ever commanded. -/
def modChans (s : State) : List Nat :=
  (List.range 256).filter (fun c => modeOf s c != 0 || s.pn 3 c 7 != 0 || (tabGet? s.mod.ch c).isSome)

/-- Entry to RUN (R25, R171): every channel at both off, every carry zero, no cell inserted, EDGE_ID from 0. A transitional period
that a change of PHASE opened before the entry stands (R174). -/
def modRunEntry (n : Int) (s : State) : State :=
  { s with
    mod := { s.mod with
      ch := (modChans s).map (fun c => (c, { tabGet s.mod.ch c {} with
        ph := {}, ph0 := {}, ml := {}, line := [], per := none, full := false
        mid := (tabGet s.mod.ch c {}).mid.filter (fun t => decide (winStart s n ≤ t))
        nxt := (tabGet s.mod.ch c {}).nxt.filter (fun t => decide (winStart s n ≤ t)), carry := 0, edgeId := 0
        prevReq := none, wait := false, wait0 := false, resume := none, first := none
        forceOld := [], clampRun := false, clampRun0 := false, clampLog := [], phase := s.ptn 3 c 2 / stepQ }))
      str := s.mod.str.map (fun t => { t with dir := 1, inserted := 0, prevLevel := none, ranked := [] })
      ins := [], cellChange := [], unrel := [], win := none }
    spu := { s.spu with sw := [] } }

/-- R173: a PERIOD that takes effect at tick n applies from the first period start, under the period in force, whose reload
instant lies after t_n + W. -/
def changePeriod (s : State) (n : Int) (k : Nat) (newP : Nat) : State :=
  let c := tabGet s.mod.car k {}
  let w := winStart s n
  let b := (carNext c ((w : Int) + 1)).1.toNat
  -- A change that is still to come leaves the period in force until B.
  let inForce := if w < c.origin then c.old.getD (c.period, c.origin) else (c.period, c.origin)
  { s with mod := { s.mod with car := tabPut s.mod.car k { period := newP, origin := b, old := some inForce } } }

/-- Entry to ARMED from PARKED: each carrier starts afresh from ORIGIN with the PERIOD in effect (R172, R173). -/
def startCarriers (s : State) : State :=
  { s with mod := { s.mod with
      ch := s.mod.ch.map (fun e => (e.1, { e.2 with nxt := none, mid := none }))
      car := (List.range 32).map (fun k =>
      (k, ({ period := s.ptn 3 (0x100 + k) 1 / stepQ,
             origin := s.pn 3 (0x100 + k) 2 * 16000000000 + s.ptn 3 (0x100 + k) 3 / stepQ } : Car))) } }

/-- Outside RUN a CARRIER channel has update points and no pulses: the first one of `c` in [a, b), with the period it falls in
(R174, R175, R195). -/
def restUpdate (s : State) (c a b : Nat) : Option (Nat × Nat) :=
  let ch := s.chan c
  let p := chParOf s c []
  let car := tabGet s.mod.car (s.pn 3 c 1) {}
  let own := ch.nxt.filter (fun t => decide (a ≤ t))
  let nxt := own.getD (chNext car p.phase a)
  let n := (carNext car ((nxt : Int) - p.phase)).2
  let half := (carNext car ((a : Int) - p.phase - n / 2)).1 + p.phase + n / 2
  let mid : Option Nat := if p.upd = 1 then (if own.isSome then ch.mid.filter (fun t => decide (a ≤ t)) else some half.toNat) else none
  match mid with
  | some m => if m < nxt then (if m < b then some (m, n) else none) else if nxt < b then some (nxt, n) else none
  | none => if nxt < b then some (nxt, n) else none

/-- What an update point at t outside RUN leaves of a channel whose new values are `p` (R174). -/
def restMove (car : Car) (t n old : Nat) (p : ChPar) (ch : Chan) : Chan :=
  if p.phase = old then { ch with nxt := ch.nxt.filter (fun u => decide (t < u)), mid := none }
  else
    let next := chNext car p.phase (t + n / 2)
    { ch with nxt := some next, mid := if p.upd = 1 && decide (t + n / 2 < next) then some (t + n / 2) else none }

/-! Status (R196). -/

/-- STATE of a channel (Table 6-5). -/
def chanStat (s : State) (c : Nat) (x : Chan) : ChanStat :=
  { st := bitN x.ph.h 0 + bitN x.ph.l 1 + bitN (s.dev == .run && (s.pn 3 c 7 / 8 % 2 == 1 || s.pn 3 c 7 / 2 % 2 == 1)) 2
      + bitN (faultInLevel s c).isSome 3 + bitN x.clampRun 4
    suppressed := x.suppressed, clamps := x.clamps, carry := x.carry, dutyClamps := x.dutyClamps }

/-- The snapshot at the end of dispatch. -/
def modSnap (s : State) : State :=
  let latched := (List.range 256).filter (fun c => (tabGet? s.mod.ch c).isSome || (faultInLevel s c).isSome)
  { s with mod := { s.mod with snap :=
    { ch := latched.map (fun c => (c, chanStat s c (s.chan c))), origin := s.mod.car.map (fun e => (e.1, e.2.origin)), str := s.mod.str
      latch := s.mod.latch, clampsHp := s.mod.clampsHp, clampsNone := s.mod.clampsNone } } }

/-- Hand over the records whose release instant has come: each goes to its port in hand-over order (R169, R213). Positions that no
satellite serves are unused (R198). -/
def releaseEdges (s : State) : State :=
  let now := s.nowStep
  let rel := s.mod.unrel.filter (fun e => decide (e.release ≤ now))
  let s := { s with mod := { s.mod with unrel := s.mod.unrel.filter (fun e => !decide (e.release ≤ now)) } }
  (rel.filter (fun e => posServed (s.port (e.ch / 4)) (e.ch % 4))).foldl (fun s e =>
    s.modPort (e.ch / 4) (fun q => { q with edges := q.edges ++ [e] })) s

/-- EDGE_RECORD_RELEASE: every record whose release instant has come is handed to PLK (R169). -/
def execEdgeRecordRelease (dt : Nat) (s : State) : Host.Outcome State Fault Refusal := done (releaseEdges (s.begin dt))

end Sys2Proof.Machine
end

