-- ==== Sys2Proof/Machine/Signals.lean ====
section
/-! DEFINITION. The signal space (spec/05_loop_engine.md R133, R135, R157): numbers, types, values and valid flags. -/
namespace Sys2Proof.Machine

inductive SigTy where
  | real | int
deriving DecidableEq, Repr

/-- The type of a block output (Table 5-4): o1 of the selectors and o3 of PLLQ are integers. -/
def outTy (type o : Nat) : SigTy :=
  if (type = 9 || type = 10) && o = 1 then .int else if type = 13 && o = 3 then .int else .real

/-- How many outputs a block type has (Table 5-4). -/
def outCount (type : Nat) : Nat := if type = 0 then 0 else if type = 13 then 4 else if type = 12 then 3 else if type = 9 || type = 10 || type = 11 then 2 else 1

/-- Block field p of block b of slot s, read through a view of the fields (R161). -/
def blkF (w : Nat → Wire) (s b p : Nat) : Nat := lo32 (w (mkId 2 s (0x400 + 0x20 * b + p)))

/-- The type of signal n, none for an unassigned number (Table 5-1). TAP and DELAY pass on the type of their input; `fuel` bounds
that chain, and a cycle of them carries the zeros it starts from, which are real (DEDUCED, notes/assumptions/133.md). -/
def sigTy (w : Nat → Wire) : Nat → Nat → Option SigTy
  | 0, _ => some .real
  | fuel + 1, n =>
    if n ≤ 1 then some .real
    else if 0x100 ≤ n && n ≤ 0x11F then some .real
    else if 0x140 ≤ n && n ≤ 0x16F then some .real
    else if 0x200 ≤ n && n < 0x280 then
      let i := n % 32
      if i ≤ 15 then some .real else if i ≤ 18 then some .int else none
    else if 0x400 ≤ n && n ≤ 0x4FF then some .real
    else if 0x1000 ≤ n && n ≤ 0x1FFF then some .real
    else if 0x2000 ≤ n && n < 0x4000 then
      let s := (n - 0x2000) / 0x80
      let r := (n - 0x2000) % 0x80
      let b := r / 4
      let o := r % 4
      if 24 ≤ b then none
      else
        let ty := blkF w s b 0
        if outCount ty ≤ o then none
        else if ty = 15 || ty = 16 then
          let i := blkF w s b 1
          if i = noneV then some .real else if i / 4 * 4 = n then some .real else sigTy w fuel i
        else some (outTy ty o)
    else none

/-- More than the 64 × 24 blocks that a chain of TAP and DELAY can have. -/
def chainMax : Nat := 1600
def sigKnown (w : Nat → Wire) (n : Nat) : Bool := (sigTy w chainMax n).isSome

def one32 : Word := 0x3F800000

/-- Field j of a telemetry snapshot with its SAMPLE_TIME. -/
def telItem (s : State) (c j : Nat) : Option (F32 × Nat) := tabGet? (s.tel c).snap j

/-- The value of signal n in the tick in hand (Table 5-1). -/
def sigVal (s : State) (n : Nat) : Word :=
  if n = 0 then 0
  else if n = 1 then one32
  else if n < 0x200 then (tabGet s.lpe.latched n (0, true)).1
  else if n < 0x280 then (s.gfi ((n - 0x200) / 32)).sig.getD (n % 32) 0
  else if 0x400 ≤ n && n ≤ 0x4FF then BitVec.ofNat 32 (s.pn 2 0x200 (n - 0x400))
  else if 0x1000 ≤ n && n ≤ 0x1FFF then ((telItem s ((n - 0x1000) / 16) (n % 16)).map (·.1)).getD 0
  else if 0x2000 ≤ n && n < 0x4000 then
    (tabGet s.lpe.blk (32 * ((n - 0x2000) / 0x80) + (n - 0x2000) % 0x80 / 4) {}).out.getD (n % 4) 0
  else 0

/-- F of the tick in hand, in steps. -/
def freezeStep (s : State) : Nat := ((s.tickAt s.alm.tick + s.freezeQ) / stepQ).toNat

/-- At F of the tick in hand every telemetry item's flag is fixed: it is no older than TEL_AGE_MAX ticks (R157, Table 5-7). -/
def fixTel (s : State) : State :=
  let f := freezeStep s
  let age := s.pn 2 0x100 1 * (s.alm.period / stepQ)
  { s with plk := { s.plk with tel := s.plk.tel.map (fun e => (e.1, { e.2 with
      flags := e.2.snap.foldl (fun m i => if i.1 < 16 && decide (f ≤ i.2.2 + age) then m ||| 2 ^ i.1 else m) 0 })) } }

/-- A telemetry item's flag. -/
def telValid (s : State) (c j : Nat) : Bool := (s.tel c).flags.testBit j

/-- The valid flag of signal n fixed at F (R157). -/
def sigValid (s : State) (n : Nat) : Bool :=
  if 0x100 ≤ n && n < 0x200 then (tabGet s.lpe.latched n (0, true)).2
  else if 0x1000 ≤ n && n ≤ 0x1FFF then telValid s ((n - 0x1000) / 16) (n % 16)
  else true

/-- Integer signals are turned to a count; a real one is nonzero unless it is a zero of either sign (R154). -/
def sigNonzero (s : State) (n : Nat) : Bool :=
  let v := (sigVal s n).toNat
  match sigTy s.wire chainMax n with
  | some .int => v != 0
  | _ => v % 2 ^ 31 != 0

end Sys2Proof.Machine
end

