-- ==== Sys2Proof/Machine/Loop.lean ====
section
/-! DEFINITION. The loop engine (spec/05_loop_engine.md): descriptor checks and compilation, the block library, the tick, sinks and
gates, and lost inputs. -/
namespace Sys2Proof.Machine

/-! Descriptors (R133 to R141, R149, R152, R165). `w` is a view of the candidate fields. -/

def slotF (w : Nat → Wire) (s f : Nat) : Nat := lo32 (w (mkId 2 s f))
def blkType (w : Nat → Wire) (s b : Nat) : Nat := blkF w s b 0
def blkIns (w : Nat → Wire) (s b : Nat) : List Nat := (List.range 8).map (fun i => blkF w s b (1 + i))
def blkPar (w : Nat → Wire) (s b i : Nat) : Nat := blkF w s b (9 + i)

/-- The block whose output a signal is: slot, block, output. -/
def producer (n : Nat) : Option (Nat × Nat × Nat) :=
  if 0x2000 ≤ n && n < 0x4000 then some ((n - 0x2000) / 0x80, (n - 0x2000) % 0x80 / 4, n % 4) else none

def enabledSlots (w : Nat → Wire) : List Nat := (List.range 64).filter (fun s => slotF w s 1 == 1)
/-- Blocks of the enabled slots in increasing (s, b). -/
def liveBlocks (w : Nat → Wire) : List (Nat × Nat) :=
  (enabledSlots w).flatMap (fun s => ((List.range 24).filter (fun b => blkType w s b != 0)).map (fun b => (s, b)))

def connected (w : Nat → Wire) (s b : Nat) : List Nat := (blkIns w s b).filter (· != noneV)

/-- Table 5-3. -/
def blkCost (type conn : Nat) : Nat :=
  match type with
  | 1 => 4 | 7 => 4 | 2 => 6 | 8 => 6 | 5 => 8 | 3 => 10 | 14 => 10 | 6 => 12
  | 9 => 6 + 2 * conn | 10 => 6 + 2 * conn | 11 => 12 | 12 => 12 | 13 => 24 | 15 => 3 | 16 => 3 | 4 => 14 | _ => 0

/-- A refusal: status and its two details. -/
structure Ref where
  status : Nat
  d0 : Nat
  d1 : Nat
deriving DecidableEq, Repr

def firstRef {α : Type} (l : List α) (f : α → Option Ref) : Option Ref := l.findSome? f

/-- T_s in seconds (R143) of the view. -/
def tickSec (w : Nat → Wire) : Int × Nat := ((w (mkId 6 0 0x10)).toInt, secQn)
def qOf32 (b : Nat) : Int × Nat := (fToQ fmt32 b).getD (0, 1)
def qMul (x y : Int × Nat) : Int × Nat := (x.1 * y.1, x.2 * y.2)
def qLt (x y : Int × Nat) : Bool := decide (x.1 * y.2 < y.1 * x.2)
def qLe (x y : Int × Nat) : Bool := !qLt y x

/-- Limits of a block's parameters (Table 5-4 and the refusals after its equations). -/
def parOk (w : Nat → Wire) (s b : Nat) : Bool :=
  let p := fun i => qOf32 (blkPar w s b i)
  let t := tickSec w
  let nat := fun (i lo hi : Nat) => match fToQ fmt32 (blkPar w s b i) with
    | some (n, d) => decide (n % d = 0) && decide ((lo : Int) ≤ n / d) && decide (n / d ≤ (hi : Int))
    | none => false
  match blkType w s b with
  | 2 => [0, 1, 2, 3].all (fun i => qLe (p i) (1, 1) && qLe (-1, 1) (p i) && decide ((p i).1 % (p i).2 = 0))
  | 4 => nat 0 1 50 && qLe (0, 1) (p 3) && qLe (p 3) (1, 10) && qLt (qMul (qMul (p 0) (p 1)) (qMul (4, 1) t)) (1, 1)
  | 5 => qLe (qMul (2, 1) t) (p 2)
  | 8 => qLt (0, 1) (p 0) && qLt (0, 1) (p 1)
  | 9 => (List.range 8).all (fun i => qLe (0, 1) (p i))
  | 10 => (List.range 8).all (fun i => qLe (0, 1) (p i))
  | 13 => qLt (0, 1) (p 5) && qLe (qMul (qMul (p 4) (p 2)) t) (1, 4) && qLe (qMul (qMul (qMul (p 3) (-1, 1)) (p 2)) t) (1, 4)
  | 14 => nat 0 0 15
  | 15 => nat 0 1 64
  | _ => true

def checkBlock (w : Nat → Wire) (s b : Nat) : Option Ref :=
  let ty := blkType w s b
  let ins := (List.range 8).map (fun i => (i, blkF w s b (1 + i)))
  match firstRef (ins.filter (fun e => e.2 != noneV)) (fun e =>
      match sigTy w chainMax e.2 with
      | none => some ⟨0x30, mkId 2 s (0x400 + 0x20 * b + 1 + e.1), e.2⟩
      | some .int => if ty = 15 || ty = 16 then none else some ⟨0x31, mkId 2 s (0x400 + 0x20 * b + 1 + e.1), e.2⟩
      | some .real => none) with
  | some r => some r
  | none =>
    if (ty = 9 || ty = 10) && (connected w s b).length < 2 then some ⟨0x34, s, b⟩
    else if !parOk w s b then some ⟨0x21, mkId 2 s (0x400 + 0x20 * b), 0⟩
    else none

/-- The selectors that block (s, b), a PI, feeds with its output 0. -/
def fedBy (w : Nat → Wire) (s b : Nat) : List (Nat × Nat) :=
  (liveBlocks w).filter (fun e => (blkType w e.1 e.2 == 9 || blkType w e.1 e.2 == 10) &&
    (connected w e.1 e.2).contains (0x2000 + 0x80 * s + 4 * b))

/-- R149: a PI feeds at most one selector, of a higher index in its own slot. -/
def checkPi (w : Nat → Wire) (s b : Nat) : Option Ref :=
  match (fedBy w s b).find? (fun e => e.1 != s || decide (e.2 ≤ b)) with
  | some e => some ⟨0x34, e.1, e.2⟩
  | none => if 1 < (fedBy w s b).length then some ⟨0x34, s, b⟩ else none

structure Sink where
  slot : Nat
  j : Nat
  kind : Nat
  target : Nat
  width : Nat
  src : Nat
deriving DecidableEq, Repr

def sinksOf (w : Nat → Wire) (s : Nat) : List Sink :=
  ((List.range 8).map (fun j => (⟨s, j, slotF w s (0x20 + 4 * j), slotF w s (0x21 + 4 * j), slotF w s (0x22 + 4 * j),
    slotF w s (0x23 + 4 * j)⟩ : Sink))).filter (·.kind != 0)

/-- Targets of a sink as numbers: channels, 256 + string, 512 + 4 GFI + field. -/
def Sink.keys (k : Sink) : List Nat :=
  if k.kind = 1 || k.kind = 3 then (List.range k.width).map (k.target + ·)
  else if k.kind = 2 then [256 + k.target] else [512 + 4 * k.target + (k.kind - 4)]

def checkSink (w : Nat → Wire) (k : Sink) : Option Ref :=
  let mw := if k.kind = 1 || k.kind = 3 then 12 else 1
  let fid := fun f => mkId 2 k.slot (f + 4 * k.j)
  if 7 < k.kind then some ⟨0x21, fid 0x20, 0⟩
  else if mw < k.width then some ⟨0x21, fid 0x22, 0⟩
  else if k.src = noneV then some ⟨0x30, fid 0x23, k.src⟩
  else match firstRef ((List.range k.width).map (k.src + ·)) (fun n => match sigTy w chainMax n with
      | none => some ⟨0x30, fid 0x23, n⟩
      | some .int => some ⟨0x31, fid 0x23, n⟩
      | some .real => none) with
    | some r => some r
    | none =>
      if k.kind = 1 || k.kind = 3 then
        if 256 < k.target + k.width then some ⟨0x21, fid 0x21, 0⟩
        else if k.keys.any (fun c => lo32 (w (mkId 3 (0x200 + c / 4) 1)) != k.kind) then some ⟨0x36, k.slot, k.j⟩ else none
      else if k.kind = 2 then
        if 7 < k.target || lo32 (w (mkId 3 (0x300 + k.target) 1)) ≠ 1 then some ⟨0x36, k.slot, k.j⟩ else none
      else if 3 < k.target then some ⟨0x21, fid 0x21, 0⟩ else none

/-- R152: no two sinks of enabled slots name one target. -/
def sinkClash : List Sink → Option Ref
  | [] => none
  | k :: r => match r.find? (fun x => x.keys.any k.keys.contains) with
    | some x => some ⟨0x35, x.slot, x.j⟩
    | none => sinkClash r

def gateOk (w : Nat → Wire) (g : Nat) : Bool := g == noneV || (0x10000 ≤ g && g ≤ 0x10003) || (g ≤ 0xFFFF && sigKnown w g)

def altPairs (w : Nat → Wire) (s : Nat) : List (Nat × Nat) :=
  ((List.range 4).map (fun a => (slotF w s (0x10 + 2 * a), slotF w s (0x11 + 2 * a)))).filter (fun e => e.1 != noneV && e.2 != noneV)

def checkSlot (w : Nat → Wire) (s : Nat) : Option Ref :=
  let g := slotF w s 3
  if !gateOk w g then some ⟨0x30, mkId 2 s 3, g⟩
  else match firstRef ((List.range 8).map (0x10 + ·)) (fun f =>
      let n := slotF w s f
      if n = noneV || sigKnown w n then none else some ⟨0x30, mkId 2 s f, n⟩) with
    | some r => some r
    | none => firstRef (sinksOf w s) (checkSink w)

/-- Blocks a block waits for in the same tick: a DELAY gives an older value and waits for none (R134). -/
def deps (w : Nat → Wire) (live : List (Nat × Nat)) (s b : Nat) : List (Nat × Nat) :=
  if blkType w s b = 15 then []
  else ((connected w s b).filterMap (fun n => (producer n).map (fun p => (p.1, p.2.1)))).filter live.contains

/-- R139 step 2: repeatedly the first block whose producers are all placed. -/
def orderBlocks (w : Nat → Wire) (live : List (Nat × Nat)) : Nat → List (Nat × Nat) → List (Nat × Nat) → List (Nat × Nat) × List (Nat × Nat)
  | 0, done, rest => (done, rest)
  | fuel + 1, done, rest =>
    match rest.find? (fun e => (deps w live e.1 e.2).all done.contains) with
    | some e => orderBlocks w live fuel (done ++ [e]) (rest.filter (· != e))
    | none => (done, rest)

/-- A placed block: its end and its processor. -/
structure Placed where
  blk : Nat × Nat
  fin : Nat
  proc : Nat
deriving DecidableEq, Repr

/-- R139 step 3: the earliest start over the sixteen processors, ties to the lower index. -/
def place (w : Nat → Wire) (live : List (Nat × Nat)) (st : List Nat × List Placed) (e : Nat × Nat) : List Nat × List Placed :=
  let ds := (deps w live e.1 e.2).filterMap (fun d => st.2.find? (fun p => p.blk == d))
  let start := fun (p : Nat) => ds.foldl (fun m d => max m (d.fin + if d.proc = p then 0 else 2)) (st.1.getD p 0)
  let best := (List.range 16).foldl (fun (m : Nat × Nat) p => if start p < m.1 then (start p, p) else m) (start 0, 0)
  let fin := best.1 + blkCost (blkType w e.1 e.2) (connected w e.1 e.2).length
  (st.1.set best.2 fin, st.2 ++ [⟨e, fin, best.2⟩])

/-- Processor and end of every block of an order of evaluation. -/
def placeAll (w : Nat → Wire) (order : List (Nat × Nat)) : List Placed :=
  (order.foldl (place w (liveBlocks w)) (List.replicate 16 0, [])).2

/-- Compile the enabled slots: the order of evaluation and L_cyc, or the refusal (R139). -/
def compileLpe (w : Nat → Wire) : Except Ref (List (Nat × Nat) × Nat) :=
  let live := liveBlocks w
  match firstRef live (fun e => checkBlock w e.1 e.2) with
  | some r => .error r
  | none => match firstRef (live.filter (fun e => blkType w e.1 e.2 == 3)) (fun e => checkPi w e.1 e.2) with
    | some r => .error r
    | none => match firstRef (enabledSlots w) (checkSlot w) with
      | some r => .error r
      | none => match sinkClash ((enabledSlots w).flatMap (sinksOf w)) with
        | some r => .error r
        | none =>
          let o := orderBlocks w live live.length [] live
          match o.2 with
          | e :: _ => .error ⟨0x32, e.1, e.2⟩
          | [] => .ok (o.1, ((placeAll w o.1).map (·.fin)).foldl max 0)

/-! Block arithmetic (R142 to R144). -/

def a32 (x y : Nat) : Nat := fAdd fmt32 x y
def s32 (x y : Nat) : Nat := fSub fmt32 x y
def m32 (x y : Nat) : Nat := fMul fmt32 x y
def fma32 (x y z : Nat) : Nat := fFma fmt32 x y z
def clamp32 (x lo hi : Nat) : Nat := fMin fmt32 (fMax fmt32 x lo) hi
def of32 (q : Int × Nat) : Nat := fOfQ fmt32 q.1 q.2
def half32 : Nat := 0x3F000000

/-- CD, CT and ST of R144. -/
def cd32 : Nat := roundQ fmt32 false (2 * piFix) (2 ^ fracBits * 2 ^ 32)
def st32 (k : Nat) : Nat := fSinTurn fmt32 k 1024
def ct32 (k : Nat) : Nat := fCosTurn fmt32 k 1024
def sin32 (phi : Nat) : Nat :=
  let k := phi / 2 ^ 22
  let d := m32 (fOfInt fmt32 (phi % 2 ^ 22 : Nat)) cd32
  let h := m32 (m32 half32 d) d
  fma32 (ct32 k) d (fma32 (s32 0 (st32 k)) h (st32 k))
def cos32 (phi : Nat) : Nat :=
  let k := phi / 2 ^ 22
  let d := m32 (fOfInt fmt32 (phi % 2 ^ 22 : Nat)) cd32
  let h := m32 (m32 half32 d) d
  fma32 (s32 0 (st32 k)) d (fma32 (s32 0 (ct32 k)) h (ct32 k))

def c23 : Nat := fOfQ fmt32 2 3
/-- √(num/den) rounded once. -/
def cr3 : Nat := sqrtQ fmt32 1 3
def cs2 : Nat := sqrtQ fmt32 3 4

/-- 2π h F_BASE T_s ZETA as a rational over 2^200, and R of the resonator. -/
def presR (h f z : Int × Nat) (t : Int × Nat) : Int :=
  let x := qMul (qMul (qMul h f) z) t
  expFix (-(2 * (piFix : Int) * x.1)) (2 ^ fracBits * x.2)
def presRC (h f z t : Int × Nat) : Nat :=
  let a := qMul (qMul h f) t
  let v := fixMul (presR h f z t) (cosTurnFix a.1 a.2)
  roundQ fmt32 (v < 0) v.natAbs (2 ^ fracBits)
def presRS (h f z t : Int × Nat) : Nat :=
  let a := qMul (qMul h f) t
  let v := fixMul (presR h f z t) (sinTurnFix a.1 a.2)
  roundQ fmt32 (v < 0) v.natAbs (2 ^ fracBits)

/-- floor of a binary32 as an integer; none for NaN and infinity. -/
def floor32 (x : Nat) : Option Int := (fToQ fmt32 x).map (fun q => Int.fdiv q.1 q.2)

def wN (l : List Word) (i : Nat) : Nat := (l.getD i 0).toNat
def w32 (n : Nat) : Word := BitVec.ofNat 32 n

/-- The table values a LUT block reads. -/
def lutOf (w : Nat → Wire) (t f : Nat) : Nat := lo32 (w (mkId 2 (0x300 + t) f))

def evalLut (w : Nat → Wire) (t u : Nat) : Nat :=
  let n := lutOf w t 0x42
  let inv := let q := qOf32 (lutOf w t 0x41); if q.1 ≤ 0 then 0 else fOfQ fmt32 q.2 q.1.toNat
  let x := m32 (s32 u (lutOf w t 0x40)) inv
  if fIsNaN fmt32 x then x
  else
    let i : Nat := match floor32 x with
      | some k => (clampI 0 (n - 2 : Nat) k).toNat
      | none => if x < fmt32.signBit then n - 2 else 0
    let f := clamp32 (s32 x (fOfInt fmt32 i)) 0 0x3F800000
    fma32 f (s32 (lutOf w t (i + 1)) (lutOf w t i)) (lutOf w t i)

/-- The winner of a selector over its connected inputs: value and input index (R148). -/
def selectWin (max_ : Bool) (ins : List (Nat × Nat)) : Nat × Nat :=
  match ins with
  | [] => (0, 0)
  | e :: r => r.foldl (fun m x => if (if max_ then fLt fmt32 m.1 x.2 else fLt fmt32 x.2 m.1) then (x.2, x.1) else m) (e.2, e.1)

/-- Initial states (R155). -/
def blkInit (w : Nat → Wire) (s b : Nat) : Blk :=
  match blkType w s b with
  | 3 => { st := [w32 (blkPar w s b 6)] }
  | 15 => { st := List.replicate (((floor32 (blkPar w s b 0)).getD 1).toNat) 0 }
  | _ => { st := [0, 0] }

/-- One block in one tick: inputs u (0 where not connected), its parameters, T_s, its state (R142 to R146). DELAY puts out its
oldest entry; its input is stored by `pushDelay`. -/
def evalBlk (w : Nat → Wire) (s b : Nat) (u : Nat → Nat) (x : Blk) : Blk :=
  let p := fun i => blkPar w s b i
  let q := fun i => qOf32 (blkPar w s b i)
  let t := tickSec w
  let st := fun i => wN x.st i
  let conn := fun i => blkF w s b (1 + i) != noneV
  let out1 := fun (y : Nat) (ss : List Nat) => ({ st := ss.map w32, out := [w32 y, 0, 0, 0] } : Blk)
  match blkType w s b with
  | 1 => out1 (m32 (p 0) (u 0)) []
  | 2 => out1 (a32 (a32 (a32 (m32 (p 0) (u 0)) (m32 (p 1) (u 1))) (m32 (p 2) (u 2))) (m32 (p 3) (u 3))) []
  | 3 =>
    let yu := fma32 (p 0) (u 0) (st 0)
    let g := m32 (of32 (qMul (q 1) t)) (u 0)
    let stop := (fLe fmt32 (p 5) yu && fLt fmt32 0 g) || (fLe fmt32 yu (p 4) && fLt fmt32 g 0)
    let xi := clamp32 (if stop then st 0 else a32 (st 0) g) (p 2) (p 3)
    out1 (clamp32 (fma32 (p 0) (u 0) xi) (p 4) (p 5)) [xi]
  | 4 =>
    let rc := presRC (q 0) (q 1) (q 3) t
    let rs := presRS (q 0) (q 1) (q 3) t
    let tt := m32 rs (st 0)
    let a1 := fma32 rc (st 0) (s32 0 (m32 rs (st 1)))
    let bb := fma32 rc (st 1) tt
    let a := fma32 (of32 (qMul (q 2) t)) (u 0) a1
    out1 (clamp32 a (s32 0 (p 4)) (p 4)) [a, bb]
  | 5 =>
    -- Tustin of K (1 + s T1) / (1 + s T2)
    let k := q 0
    let add := fun (x y : Int × Nat) => ((x.1 * y.2 + y.1 * x.2, x.2 * y.2) : Int × Nat)
    let dbl := fun (x : Int × Nat) => ((2 * x.1, x.2) : Int × Nat)
    let neg := fun (x : Int × Nat) => ((-x.1, x.2) : Int × Nat)
    let den := add t (dbl (q 2))
    let byDen := fun (x : Int × Nat) => if den.1 ≤ 0 then 0 else of32 (x.1 * den.2, x.2 * den.1.toNat)
    let b0 := byDen (qMul k (add t (dbl (q 1))))
    let b1 := byDen (qMul k (add t (neg (dbl (q 1)))))
    let a1 := byDen (add t (neg (dbl (q 2))))
    let y := fma32 b0 (u 0) (st 0)
    out1 y [fma32 b1 (u 0) (s32 0 (m32 a1 y))]
  | 6 =>
    let y := fma32 (p 0) (u 0) (st 0)
    let z1 := fma32 (p 1) (u 0) (fma32 (s32 0 (p 3)) y (st 1))
    out1 y [z1, fma32 (p 2) (u 0) (s32 0 (m32 (p 4) y))]
  | 7 => out1 (fMin fmt32 (fMax fmt32 (u 0) (if conn 1 then u 1 else p 0)) (if conn 2 then u 2 else p 1)) []
  | 8 =>
    let up := of32 (qMul (q 0) t)
    let dn := of32 (qMul (q 1) t)
    let y := a32 (st 0) (fMin fmt32 (fMax fmt32 (s32 (u 0) (st 0)) (s32 0 dn)) up)
    out1 y [y]
  | 9 =>
    let r := selectWin false (((List.range 8).filter conn).map (fun i => (i, u i)))
    { st := [], out := [w32 r.1, w32 r.2, 0, 0] }
  | 10 =>
    let r := selectWin true (((List.range 8).filter conn).map (fun i => (i, u i)))
    { st := [], out := [w32 r.1, w32 r.2, 0, 0] }
  | 11 =>
    let al := m32 (s32 (u 0) (m32 half32 (a32 (u 1) (u 2)))) c23
    let be := m32 (s32 (u 1) (u 2)) cr3
    { st := [], out := [w32 (fma32 al (u 3) (m32 be (u 4))), w32 (fma32 be (u 3) (s32 0 (m32 al (u 4)))), 0, 0] }
  | 12 =>
    let al := fma32 (u 0) (u 2) (s32 0 (m32 (u 1) (u 3)))
    let be := fma32 (u 0) (u 3) (m32 (u 1) (u 2))
    { st := [], out := [w32 al, w32 (fma32 cs2 be (s32 0 (m32 half32 al))),
                        w32 (fma32 (s32 0 cs2) be (s32 0 (m32 half32 al))), 0] }
  | 13 =>
    let phi := st 0
    let co := cos32 phi
    let si := sin32 phi
    let m := fSqrt fmt32 (fma32 (u 0) (u 0) (m32 (u 1) (u 1)))
    let e := if fLe fmt32 (p 5) m then fDiv fmt32 (fma32 (u 1) co (s32 0 (m32 (u 0) si))) m else 0
    let om := clamp32 (fma32 (of32 (qMul (q 1) t)) e (st 1)) (p 3) (p 4)
    let y := clamp32 (fma32 (p 0) e om) (p 3) (p 4)
    let kt := of32 (qMul (qMul (q 2) t) (2 ^ 32, 1))
    let step := (fToIntScaled fmt32 0 (m32 y kt)).getD 0
    { st := [w32 phi + BitVec.ofInt 32 step, w32 om], out := [w32 y, w32 co, w32 si, w32 phi] }
  | 14 => out1 (evalLut w (((floor32 (p 0)).getD 0).toNat % 16) (u 0)) []
  | 15 => { x with out := [x.st.getLastD 0, 0, 0, 0] }
  | 16 => out1 (u 0) []
  | _ => {}

/-- DELAY takes in u0 of the tick. -/
def pushDelay (u : Nat) (x : Blk) : Blk := { x with st := (w32 u :: x.st).take x.st.length }

/-- No NaN and no infinity in a real output or state (R145). -/
def blkFinite (w : Nat → Wire) (s b : Nat) (x : Blk) : Bool :=
  let ty := blkType w s b
  if ty = 15 || ty = 16 then (match sigTy w chainMax (blkF w s b 1) with
    | some .int => true
    | _ => x.out.all (fun o => fIsFinite fmt32 o.toNat))
  else
    (List.range (outCount ty)).all (fun o => outTy ty o == .int || fIsFinite fmt32 (wN x.out o)) &&
    (if ty = 13 then fIsFinite fmt32 (wN x.st 1) else x.st.all (fun o => fIsFinite fmt32 o.toNat))

/-! One tick of all slots. -/

/-- The clamp of a losing PI integrator (R148). -/
def loserClamp (max_ : Bool) (y m lim xi : Nat) : Nat :=
  if max_ then fMin fmt32 (fMax fmt32 xi (s32 y m)) lim else fMax fmt32 (fMin fmt32 xi (a32 y m)) lim

def clampLosers (w : Nat → Wire) (s b : Nat) (out : List Word) (t : Tab Blk) : Tab Blk :=
  let max_ := blkType w s b == 10
  (List.range 8).foldl (fun t j =>
    let n := blkF w s b (1 + j)
    if n = noneV || j = wN out 1 then t
    else match producer n with
      | some (s', b', 0) =>
        if s' = s && blkType w s b' = 3 then
          tabMod t (32 * s + b') {} (fun x => { x with
            st := [w32 (loserClamp max_ (wN out 0) (blkPar w s b j) (blkPar w s b' (if max_ then 3 else 2)) (wN x.st 0))] })
        else t
      | _ => t) t

/-- What one evaluation carries: blocks so far, and the slots in which a NaN or an infinity arose: no output that the block reads was one
already (R145). -/
structure LpeRun where
  blk : Tab Blk
  bad : List Nat
deriving DecidableEq, Repr

/-- The value a block of slot s reads under number n. -/
def readIn (inp : Nat → Nat → Word) (t : Tab Blk) (s n : Nat) : Nat :=
  if n = noneV then 0
  else match producer n with
    | some (s', b', o) => wN (tabGet t (32 * s' + b') {}).out o
    | none => (inp s n).toNat

/-- The outputs a block reads are numbers: what it puts out is its own. -/
def readsFinite (w : Nat → Wire) (t : Tab Blk) (s b : Nat) : Bool :=
  (connected w s b).all (fun n => match producer n with
    | some (s', b', o) => sigTy w chainMax n == some .int || fIsFinite fmt32 (wN (tabGet t (32 * s' + b') {}).out o)
    | none => true)

/-- Evaluate the schedule with the slots `bad` silent (every output zero, R145) and the slots `zero` at their initial states
(R154, R155). -/
def lpePass (w : Nat → Wire) (inp : Nat → Nat → Word) (sched : List (Nat × Nat)) (old : Tab Blk) (bad zero : List Nat) : LpeRun :=
  let t0 : Tab Blk := sched.foldl (fun t e =>
    let k := 32 * e.1 + e.2
    let x := if zero.contains e.1 then blkInit w e.1 e.2 else (tabGet? old k).getD (blkInit w e.1 e.2)
    -- DELAY outputs are those of older ticks, whoever reads them first
    tabPut t k (if bad.contains e.1 then { x with out := [0, 0, 0, 0] }
                else if blkType w e.1 e.2 = 15 then evalBlk w e.1 e.2 (fun _ => 0) x else { x with out := [0, 0, 0, 0] })) old
  let r := sched.foldl (fun (r : LpeRun) e =>
    if bad.contains e.1 then r
    else
      let k := 32 * e.1 + e.2
      let y := evalBlk w e.1 e.2 (fun i => readIn inp r.blk e.1 (blkF w e.1 e.2 (1 + i))) (tabGet r.blk k {})
      let t := tabPut r.blk k y
      let t := if blkType w e.1 e.2 = 9 || blkType w e.1 e.2 = 10 then clampLosers w e.1 e.2 y.out t else t
      { blk := t, bad := if blkFinite w e.1 e.2 y || !readsFinite w r.blk e.1 e.2 then r.bad else e.1 :: r.bad }) { blk := t0, bad := bad }
  { r with blk := sched.foldl (fun t e =>
      if bad.contains e.1 || blkType w e.1 e.2 ≠ 15 then t
      else tabMod t (32 * e.1 + e.2) {} (pushDelay (readIn inp t e.1 (blkF w e.1 e.2 1)))) r.blk }

/-! Lost inputs (R157 to R160), shared with the GFE. -/

structure LossOut where
  l : Loss
  val : List Word
  held : Bool := false
  loss : Bool := false
  switched : Bool := false
deriving DecidableEq, Repr

/-- One tick of one input in RUN: `ok` and `val` of the source in use, `alt` the valid value of its alternate (R158). -/
def lossStep (pol th : Nat) (ok : Bool) (val : List Word) (alt : Option (List Word)) (l : Loss) : LossOut :=
  let due := l.doomed == 1
  let d := l.doomed - 1
  if ok then
    { l := { l with cnt := 0, last := val, lost := false,
                    doomed := if l.cnt ≠ 0 && pol = 2 && l.cnt < th then th - l.cnt else d }
      val := val, loss := due }
  else if l.cnt < th then { l := { l with cnt := l.cnt + 1, doomed := d }, val := l.last, held := true, loss := due || l.lost }
  else match pol, l.alt, alt with
    | 1, false, some v => { l := { l with cnt := 0, alt := true, last := v, doomed := d }, val := v, loss := due, switched := true }
    | _, _, _ => { l := { l with cnt := l.cnt + 1, lost := true, doomed := d }, val := l.last, held := true, loss := true }

/-- A switched input goes back to its primary, whose losses count afresh (R159). -/
def Loss.primary (l : Loss) : Loss := if l.alt then { l with alt := false, cnt := 0, lost := false, doomed := 0 } else l

/-- Signals that can lose their flag: AIN, SDIN and telemetry (Table 5-7). -/
def tracked (n : Nat) : Bool := (0x100 ≤ n && n < 0x200) || (0x1000 ≤ n && n < 0x2000)

/-- The measured inputs of a slot: of its blocks, of its sinks and its gate (R154). -/
def slotInputs (w : Nat → Wire) (s : Nat) : List Nat :=
  let bs := (List.range 24).filter (fun b => blkType w s b != 0)
  let l := bs.flatMap (connected w s) ++ (sinksOf w s).flatMap (fun k => (List.range k.width).map (k.src + ·)) ++ [slotF w s 3]
  (l.filter tracked).eraseDups

def State.slot (s : State) (k : Nat) : Slot := tabGet s.lpe.slot k {}
def State.modSlot (s : State) (k : Nat) (f : Slot → Slot) : State := { s with lpe := { s.lpe with slot := tabMod s.lpe.slot k {} f } }
/-- KIND of a loop slot. -/
def kSlot : Nat := 5

/-- The alternate of input n of a slot. -/
def altOf (w : Nat → Wire) (s n : Nat) : Option Nat := ((altPairs w s).find? (fun e => e.1 == n)).map (·.2)

/-- The raw source of input n: its alternate once switched. -/
def srcOf (w : Nat → Wire) (s n : Nat) (l : Loss) : Nat := if l.alt then (altOf w s n).getD n else n

/-- A fault that a tick's schedule has found: code and DATA0. -/
structure SlotFault where
  code : Nat
  d0 : Nat

/-- The inputs of slot k at F (R158): in RUN held, lost and switched ones, with the faults they raise; outside RUN nothing is counted and a
loss ends with the first valid value (R160). -/
def slotLoss (k : Nat) (s : State) : State × List SlotFault :=
  let w := s.wire
  let run := s.dev == .run
  let rs := (slotInputs w k).map (fun n =>
    let l := tabGet (s.slot k).inp n {}
    let l := { l with priNow := sigValid s n }
    let src := srcOf w k n l
    let ok := sigValid s src
    let alt := (altOf w k n).bind (fun a => if sigValid s a then some [sigVal s a] else none)
    let r : LossOut := if run then lossStep (s.pn 2 k 4) (s.pn 2 k 5) ok [sigVal s src] alt l
      else { l := { l with cnt := 0, doomed := 0, lost := l.lost && !ok, last := if ok then [sigVal s src] else l.last }, val := [], held := !ok }
    (n, l.cnt, r))
  let entries := if run then (rs.filter (fun e => e.2.1 == 0 && e.2.2.held)).length else 0
  let s := s.modSlot k (fun t => { t with
    inp := rs.foldl (fun m e => tabPut m e.1 e.2.2.l) t.inp
    holdCount := min (t.holdCount + entries) max32 })
  let held := rs.any (fun e => e.2.2.held)
  let loss := rs.any (fun e => e.2.2.loss)
  let d := fun (f : LossOut → Bool) => ((rs.find? (fun e => f e.2.2)).map (·.1)).getD 0
  let fresh := fun (code : Nat) (b : Bool) => b && !s.spu.runs.contains (code, kSlot * 4096 + k)
  let fs := (if fresh 0x5202 (held && run) then [⟨0x5202, d (·.held)⟩] else []) ++ (if fresh 0x5203 loss then [⟨0x5203, d (·.loss)⟩] else [])
    ++ (rs.filter (fun e => e.2.2.switched)).map (fun e => ⟨0x5204, e.1⟩)
  let s := markRun 0x5203 kSlot k loss (markRun 0x5202 kSlot k (held && run) s)
  (if held then condFails 0x5203 kSlot k (condFails 0x5202 kSlot k s) else condHolds 0x5203 kSlot k (condHolds 0x5202 kSlot k s), fs)

/-- What slot k reads under a measured number: the source in use, the last valid value while held (R158, R159). -/
def slotIn (s : State) (k n : Nat) : Word :=
  if tracked n then
    let l := tabGet (s.slot k).inp n {}
    if s.dev ≠ .run || l.cnt = 0 then sigVal s (srcOf s.wire k n l) else l.last.headD 0
  else sigVal s n

/-- Slot STATE (Table 5-8). -/
def slotState (s : State) (k : Nat) : Nat :=
  let t := s.slot k
  if s.dev ≠ .run then (if (slotInputs s.wire k).any (fun n => !sigValid s n) then 4 else 5)
  else if isHeld 0x5203 kSlot k s then 4
  else if t.inp.any (fun e => e.2.cnt != 0) then 2
  else if t.inp.any (fun e => e.2.alt) then 3
  else if t.ran then 1 else 5

/-- A slot's gate (R154), given the blocks' outputs; a measured gate is read as any input is. -/
def gateIs1 (s : State) (outEn : Nat → Bool) (t : Tab Blk) (k : Nat) : Bool :=
  let g := slotF s.wire k 3
  if g = noneV then true
  else if 0x10000 ≤ g then outEn (g - 0x10000)
  else if tracked g then (slotIn s k g).toNat % 2 ^ 31 != 0
  else sigNonzero { s with lpe := { s.lpe with blk := t } } g

/-- The slots on which the value of each block depends in the same tick, as a mask, along an order of evaluation. -/
def slotMasks (w : Nat → Wire) (sched : List (Nat × Nat)) : Tab Nat :=
  sched.foldl (fun t e => tabPut t (32 * e.1 + e.2)
    ((deps w sched e.1 e.2).foldl (fun m d => m ||| tabGet t (32 * d.1 + d.2) 0) (2 ^ e.1))) []

/-- The slots on which the gate of slot k depends. -/
def gateMask (w : Nat → Wire) (masks : Tab Nat) (k : Nat) : Nat :=
  match producer (slotF w k 3) with
  | some (s', b', _) => tabGet masks (32 * s' + b') 0
  | none => 0

/-- Passes until every gate is judged and no further slot is silent: results do not depend on the order of blocks (R140). `open_` are the
slots whose gates are not judged yet; a gate is judged once every slot it depends on is, and gates that depend on one another are judged
together, by the values their slots have when they run (DESIGN CHOICE, notes/assumptions/134.md). -/
def lpeFix (s : State) (w : Nat → Wire) (outEn : Nat → Bool) (masks : Tab Nat) : Nat → List Nat → List Nat → List Nat → LpeRun × List Nat
  | 0, bad, zero, _ => (lpePass w (slotIn s) s.lpe.sched s.lpe.blk bad zero, zero)
  | fuel + 1, bad, zero, open_ =>
    let r := lpePass w (slotIn s) s.lpe.sched s.lpe.blk bad zero
    let new := r.bad.filter (fun k => !bad.contains k && !open_.contains k)
    let ready := open_.filter (fun k => open_.all (fun j => !(gateMask w masks k).testBit j))
    let now := if ready.isEmpty then open_ else ready
    if !new.isEmpty then lpeFix s w outEn masks fuel (bad ++ new.eraseDups) zero open_
    else if open_.isEmpty then (r, zero)
    else lpeFix s w outEn masks fuel bad (zero ++ now.filter (fun k => !gateIs1 s outEn r.blk k)) (open_.filter (fun k => !now.contains k))

/-- The range of the GFE field a sink replaces (R153): P_SET, Q_SET, V_SET, F_SET of instance k. -/
def gfeRange (s : State) (k f : Nat) : F64 × F64 :=
  let r := fun (n : Int) (d : Nat) => (BitVec.ofNat 64 (fOfQ fmt64 n d) : F64)
  if f ≤ 1 then (r (-3) 2, r 3 2) else if f = 2 then (r 8 10, r 12 10)
  else (s.wire (mkId 1 k 0xC), s.wire (mkId 1 k 0xD))

/-- A sink's requests (R152, R153, R166); the number counts the GFE values clamped. -/
def runSink (open_ : Bool) (acc : State × Nat) (k : Sink) : State × Nat :=
  let s := acc.1
  let val := fun (n : Nat) => match producer n with
    | some _ => sigVal s n
    | none => slotIn s k.slot n
  if k.kind = 1 || k.kind = 3 then
    ({ s with lpe := { s.lpe with req := (List.range k.width).foldl (fun m i =>
        tabPut m (k.target + i) (if open_ then .val (val (k.src + i)) else .off)) s.lpe.req } }, acc.2)
  else if k.kind = 2 then
    ({ s with lpe := { s.lpe with req := tabPut s.lpe.req (256 + k.target) (if open_ then .val (val k.src) else .off) } }, acc.2)
  else if open_ then
    let f := k.kind - 4
    let v := fConvert fmt32 fmt64 (val k.src).toNat
    let r := gfeRange s k.target f
    let c := fMin fmt64 (fMax fmt64 v r.1.toNat) r.2.toNat
    (s.modGfi k.target (fun g => { g with ovr := g.ovr.set f (some (BitVec.ofNat 64 c)) }), if c = v then acc.2 else acc.2 + 1)
  else (s, acc.2)

/-- The slots' results after a tick: sinks and their faults (R145, R152 to R155). -/
def finishSlot (bad zero : List Nat) (acc : State × List (Nat × SlotFault)) (k : Nat) : State × List (Nat × SlotFault) :=
  let s := acc.1
  let off := zero.contains k
  let isBad := bad.contains k
  let fresh := fun (code : Nat) (b : Bool) => b && !s.spu.runs.contains (code, kSlot * 4096 + k)
  let r := (sinksOf s.wire k).foldl (runSink (!off && !isBad)) (s, 0)
  let hit := decide (0 < r.2)
  let fs := (if fresh 0x5201 isBad then [(k, ⟨0x5201, 0⟩)] else []) ++ (if fresh 0x5205 hit then [(k, ⟨0x5205, 0⟩)] else [])
  let s := markRun 0x5205 kSlot k hit (markRun 0x5201 kSlot k isBad r.1)
  let s := if hit then s else condHolds 0x5205 kSlot k s
  (s.modSlot k (fun t => { t with ran := !off, sinkClamps := min (t.sinkClamps + r.2) max32 }), acc.2 ++ fs)

/-- Faults of one instant are raised by code, then by instance (R255). -/
def raiseInOrder (fs : List (Nat × SlotFault)) (s : State) : State :=
  [0x5201, 0x5202, 0x5203, 0x5204, 0x5205].foldl (fun s c =>
    (fs.filter (fun f => f.2.code == c)).foldl (fun s f => raise c kSlot f.1 f.2.d0 0 [] s) s) s

/-- OUT_EN of an instance (R108): its mode in the tick is not IDLE. -/
def outEn (s : State) (k : Nat) : Bool := (s.gfi k).mode != .idle && s.pn 1 k 1 == 1

/-- The LPE in one tick of ARMED, RUN or BLOCKED (R155): outside RUN every slot runs as though its gate were 0. -/
def lpeTick (s : State) : State :=
  let w := s.wire
  let en := enabledSlots w
  let s := { s with lpe := { s.lpe with req := [] } }
  let s := { s with gfe := s.gfe.map (fun g => { g with ovr := [none, none, none, none] }) }
  let i := en.foldl (fun (acc : State × List (Nat × SlotFault)) k =>
    let r := slotLoss k acc.1
    (r.1, acc.2 ++ r.2.map (fun f => (k, f)))) (s, [])
  let s := i.1
  let block := en.filter (fun k => (producer (slotF w k 3)).isSome)
  let zero := if s.dev = .run then en.filter (fun k => !block.contains k && !gateIs1 s (outEn s) s.lpe.blk k) else en
  let masks := if block.isEmpty then [] else slotMasks w s.lpe.sched
  let r := lpeFix s w (outEn s) masks 130 [] zero (if s.dev = .run then block else [])
  let bad := r.1.bad
  -- a silent slot keeps the states it had; a held slot returns to its initial ones
  let keep := s.lpe.sched.foldl (fun t e =>
    let k := 32 * e.1 + e.2
    let y := tabGet t k {}
    if r.2.contains e.1 then tabPut t k { (blkInit w e.1 e.2) with out := y.out }
    else if bad.contains e.1 then tabPut t k { st := ((tabGet? s.lpe.blk k).getD (blkInit w e.1 e.2)).st, out := [0, 0, 0, 0] }
    else t) r.1.blk
  let t := en.foldl (finishSlot bad r.2) ({ s with lpe := { s.lpe with blk := keep } }, i.2)
  let u := raiseInOrder t.2 t.1
  en.foldl (fun s k => s.modSlot k (fun x => { x with state := slotState { s with dev := t.1.dev } k })) u

/-- INPUT_INVALID of START and RESUME (R160): the first enabled slot with a gate and an invalid input. -/
def inputInvalid (s : State) : Option (Nat × Nat) :=
  (enabledSlots s.wire).findSome? (fun k =>
    if s.pn 2 k 3 = noneV then none
    else ((slotInputs s.wire k).find? (fun n => !sigValid s n)).map (fun n => (k, n)))

/-- E_L for a schedule (R141), in 2^-16 ns from the tick instant. -/
def schedStartQ (w : Nat → Wire) (freezeQ : Nat) : Nat :=
  freezeQ + 100 * nsecQ * ((List.range 4).filter (fun k => lo32 (w (mkId 1 k 1)) == 1)).length

end Sys2Proof.Machine
end

