-- ==== Sys2Proof/Machine/Bitstream.lean ====
section
/-! DEFINITION. Bitstream inputs (spec/09_bitstream_inputs.md): the decimation chain bit by bit, its sample on the tick grid, the
group delay, the fast comparator, resets and detectors. -/
namespace Sys2Proof.Machine

def sd (s : State) (n : Nat) : SdIn := tabGet s.bsd.inp n {}
def modSd (n : Nat) (f : SdIn → SdIn) (s : State) : State := { s with bsd := { s.bsd with inp := tabMod s.bsd.inp n {} f } }
def modGrp (g : Nat) (f : SdGrp → SdGrp) (s : State) : State := { s with bsd := { s.bsd with grp := vmod s.bsd.grp g f } }
/-- KIND of a BSD comparator (Table 8-8). -/
def kSd : Nat := 8

/-! Timing (R271, R276, R280, R281), through a view of the fields. Rationals are (numerator, denominator), in steps. -/

def bsF (w : Nat → Wire) (i f : Nat) : Nat := lo32 (w (mkId 7 i f))
def qAdd (x y : Int × Nat) : Int × Nat := (x.1 * y.2 + y.1 * x.2, x.2 * y.2)

/-- T_mod: CLK_DIV × 1.25 ns, or the period of the nominal CLK_FREQ. -/
def tMod (w : Nat → Wire) (n : Nat) : Int × Nat :=
  let g := 0x100 + n / 8
  if bsF w g 1 = 1 then ((bsF w g 2 * 20 : Nat), 1)
  else let q := qOf32 (bsF w g 3); if q.1 ≤ 0 then (1, 1) else ((16000 * q.2 : Nat), q.1.toNat)
def decR (w : Nat → Wire) (n : Nat) : Nat := bsF w n 3
def ordN (w : Nat → Wire) (n : Nat) : Nat := bsF w n 2
def tDec (w : Nat → Wire) (n : Nat) : Int × Nat := qMul (tMod w n) (decR w n, 1)
def minPh (w : Nat → Wire) (n : Nat) : Bool := bsF w n 4 == 1

/-- The group is OUT and T_tick a whole multiple of T_d: the residue is the same in every tick (R281). -/
def gdExact (w : Nat → Wire) (n : Nat) : Bool :=
  let td := tDec w n
  bsF w (0x100 + n / 8) 1 == 1 && decide (0 < td.1) && ((w (mkId 6 0 0x10)).toInt / stepQ * td.2) % td.1 == 0

/-- r of R281: exact, or T_d/256. -/
def residue (w : Nat → Wire) (n : Nat) : Int × Nat :=
  let td := tDec w n
  if gdExact w n then
    let t := td.1
    let u := (t - 1600 % t) % t
    (128 * u - 128 * u / t * t, 128)
  else (td.1, td.2 * 256)

/-- τ_g in steps, exact (Table 9-2). -/
def groupDelay (w : Nat → Wire) (n : Nat) : Int × Nat :=
  let td := tDec w n
  let ext : Int × Nat := ((w (mkId 7 n 7)).toInt, stepQ)
  let sinc := qMul (tMod w n) ((ordN w n * (decR w n - 1) : Nat), 2)
  let comp := qMul td (if minPh w n then (if ordN w n = 3 then (3, 1) else (7, 2)) else (63, 2))
  let res := qAdd (1600, 1) (qAdd (residue w n) (qMul td (if minPh w n then (2, 1) else (15, 2))))
  qAdd ext (qAdd sinc (qAdd comp res))

/-- GROUP_DELAY: rounded to nearest steps. -/
def groupDelaySteps (w : Nat → Wire) (n : Nat) : Int :=
  let g := groupDelay w n
  if g.1 < 0 then -(divEven g.1.natAbs g.2 : Int) else divEven g.1.natAbs g.2

/-- SPAN in steps, rounded up (R290). -/
def spanSteps (w : Nat → Wire) (n : Nat) : Nat :=
  let q := qMul (tMod w n) (((ordN w n + 80) * decR w n : Nat), 1)
  (q.1.toNat + q.2 - 1) / q.2

/-- The age of a signal at the tick instant, in 2^-16 ns (R91, R156): a BSD chain's delay, zero for an ADC input. R91 says nothing of a
source that is neither; its delay is zero too (DESIGN CHOICE, notes/assumptions/130.md). -/
def signalAge (w : Nat → Wire) (n : Nat) : Nat :=
  if 0x140 ≤ n && n ≤ 0x16F then (groupDelaySteps w (n - 0x140)).toNat * stepQ else 0

/-! Transport delay of a slot. -/

/-- Largest hold of the channels or string of a MOD sink, from the window's centre to the effect's, in 2^-16 ns (R156, R164). -/
def holdMod (s : State) (k : Sink) : Nat :=
  let t := s.alm.period
  if k.kind = 1 then
    (k.keys.map (fun c =>
      let p := s.ptn 3 (0x100 + s.pn 3 c 1) 1
      if s.pn 3 c 3 = 0 then p / 2 + t / 2 else p / 4 + t / 2)).foldl max 0
  else if k.kind = 2 then s.ptn 3 (0x300 + k.target) 9
  else t / 2

/-- TRANSPORT of a slot in ns (R156, R543). -/
def transportOf (s : State) (k : Nat) : Nat :=
  let w := s.wire
  let t := s.alm.period
  let age := ((slotInputs w k).map (fun n => if 0x1000 ≤ n && n ≤ 0x1FFF then s.pn 2 0x100 1 * t else signalAge w n)).foldl max 0
  let base := age + s.alm.phaseW + s.alm.lcmd + t / 2
  let q := ((sinksOf w k).map (fun j => if j.kind ≤ 3 then base + holdMod s j else base + t)).foldl max 0
  (q + 65535) / 65536

/-! The chain, bit by bit. -/

def mod38 (x : Int) : Nat := (x % 2 ^ 38).toNat
def sgn38 (x : Nat) : Int := if x < 2 ^ 37 then x else (x : Int) - 2 ^ 38

/-- One bit through the integrators: each adds the one before it (R276). -/
def integrate (n : Nat) (x : Int) (l : List Nat) : List Nat :=
  ((List.range n).foldl (fun (a : Int × List Nat) i =>
    let v := mod38 ((l.getD i 0 : Int) + a.1)
    ((v : Int), a.2 ++ [v])) (x, [])).2

/-- The combs at a block's end: their differences, and the registers after them. -/
def combs (n : Nat) (x : Nat) (l : List Nat) : Int × List Nat :=
  let r := (List.range n).foldl (fun (a : Nat × List Nat) i => (mod38 ((a.1 : Int) - (l.getD i 0 : Int)), a.2 ++ [a.1])) (x, [])
  (sgn38 r.1, r.2)

/-- An integer over a natural number, rounded half to even. -/
def divHalf (x : Int) (d : Nat) : Int := if x < 0 then -(divEven x.natAbs d : Int) else divEven x.natAbs d

def roundShift (x : Int) (k : Nat) : Int := divHalf x (2 ^ k)

/-- The decimation setting that selects the compensator's coefficients (R277): ORDER, PHASE_OPT, DEC_R. -/
def compSetting (w : Nat → Wire) (n : Nat) : Nat := (ordN w n * 2 + bsF w n 4) * 1024 + decR w n

def lim23 : Int := 2 ^ 23 - 1

/-- The limits R277 sets on 64 coefficients and their shift, for R^N = rn: 24-bit integers, and a DC gain from ones density to y (units of
2^-23) within 2^-20 of 1. -/
def compOk (rn : Nat) (cs : List Int) (k : Nat) : Bool :=
  cs.all (fun c => decide (-(2 ^ 23) ≤ c) && decide (c < 2 ^ 23)) &&
    decide (((cs.foldl (· + ·) (0 : Int)) * rn - 2 ^ (23 + k)).natAbs ≤ 2 ^ (3 + k))

/-- A shift and a single coefficient within those limits. -/
def compPlain (rn : Nat) : List Int × Nat :=
  let k := Nat.log2 rn - 1
  ([((divEven (2 ^ (23 + k)) rn : Nat) : Int)], k)

/-- The coefficients in use and K (R277): the table's, scaled by 1/R^N. A table whose values break R277's limits is no table of this
hardware, and stands for one that keeps them. -/
def compCoeff (w : Nat → Wire) (n : Nat) : List Int × Nat :=
  let rn := decR w n ^ ordN w n
  let st := compSetting w n
  let cs := (List.range 64).map (fun i => divHalf (Config.compTable (ordN w n * 2 + bsF w n 4) i * 2 ^ Config.compPlaces st) rn)
  if compOk rn cs (Config.compShift st) then (cs, Config.compShift st) else compPlain rn

/-- R277: the compensator over the 64 newest S. -/
def compensate (ck : List Int × Nat) (ss : List Int) : Int :=
  roundShift ((List.range 64).foldl (fun a i => a + ck.1.getD i 0 * ss.getD i 0) 0) ck.2

/-- The limits R278 sets on the taps of one phase: 18-bit integers, either signed, that sum to exactly 2^17. -/
def tapsOk (h : List Int) : Bool :=
  h.all (fun c => decide (-(2 ^ 17) ≤ c) && decide (c < 2 ^ 17)) && decide (h.foldl (· + ·) 0 = 2 ^ 17)

/-- The sixteen taps of a phase (R278); free taps that break its limits stand for taps that keep them. -/
def resampTaps (opt p : Nat) : List Int :=
  let h := (List.range 16).map (Config.resampTap (opt * 128 + p))
  if tapsOk h then h else [2 ^ 16, 2 ^ 16]

/-- One sampled bit of an input at step t; `ends`: it is the last of its block. -/
def feedBit (w : Nat → Wire) (n t : Nat) (b ends : Bool) (x : SdIn) : SdIn :=
  let run := if b == x.last then x.run + 1 else 1
  let x := { x with
    integ := integrate (ordN w n) (if b then 1 else -1) x.integ
    bits := if ends then 0 else x.bits + 1
    last := b, run := run, runMax := min (max x.runMax run) max32
    stuck := decide (bsF w n 8 ≤ run)
    badAt := if decide (bsF w n 8 ≤ run) then some t else x.badAt }
  if !ends then x
  else
    let c := combs (ordN w n) (x.integ.getLastD 0) x.comb
    let ss := (c.1 :: x.ss).take 64
    let y0 := compensate (compCoeff w n) ss
    let y := clampI (-lim23) lim23 y0
    { x with
      comb := c.2, ss := ss, blocks := x.blocks + 1
      ys := (y :: x.ys).take 80, taus := (t :: x.taus).take 80
      satN := if y = y0 then x.satN else sat32 x.satN }

def clearChain (t : Nat) (x : SdIn) : SdIn :=
  { x with integ := [0, 0, 0, 0], comb := [0, 0, 0, 0], bits := 0, blocks := 0, ss := [], ys := [], taus := [], resetAt := some t }

/-- Does the bit on the edge at t end a block: after R bits; in an OUT group on the edges at t_origin + k T_d (R276, R282). -/
def endsBlock (s : State) (w : Nat → Wire) (n t : Nat) (x : SdIn) : Bool :=
  if bsF w (0x100 + n / 8) 1 = 1 then
    let tm := bsF w (0x100 + n / 8) 2 * 20
    decide (((t - s.alm.origin / stepQ) / max tm 1) % max (decR w n) 1 = 0)
  else decide (decR w n ≤ x.bits + 1)

/-! The fast path (R284, R285). -/

/-- Three moving sums of length r over a bit list, newest first: the fast outputs. -/
def movSum (r : Nat) (l : List Int) : List Int := (List.range l.length).map (fun i => sumL ((l.drop i).take r))
where sumL (l : List Int) : Int := l.foldl (· + ·) 0

/-- The last `k` fast outputs for bits given oldest first. -/
def fastOutputs (r k : Nat) (bits : List Bool) : List Int :=
  let x : List Int := bits.reverse.map (fun b => if b then 1 else -1)
  (movSum r (movSum r (movSum r x))).take k

/-- A bound in raw units: (v − OFFSET) / SCALE × FAST_R³, rounded once, ties to even. -/
def rawBound (num : Int × Nat) (off scale : Int × Nat) (full : Nat) : Int :=
  let a := qAdd num (-off.1, off.2)
  let n : Int := a.1 * scale.2 * full
  let d : Int := (a.2 : Int) * scale.1
  if d = 0 then 0
  else
    let neg := decide (n < 0) != decide (d < 0)
    let v : Nat := divEven n.natAbs d.natAbs
    if neg then -(v : Int) else v

/-- A band's four raw bounds: outer and inner, low before high (R284, R301). -/
def rawBand (lo hi hyst : Nat) (off scale : Int × Nat) (full : Nat) : (Int × Int) × (Int × Int) :=
  let b := fun (q : Int × Nat) => rawBound q off scale full
  let l := qOf32 lo
  let h := qOf32 hi
  let y := qOf32 hyst
  let o := (b l, b h)
  let i := (b (qAdd l y), b (qAdd h (-y.1, y.2)))
  ((min o.1 o.2, max o.1 o.2), (min i.1 i.2, max i.1 i.2))

def fastBand (s : State) (n : Nat) : (Int × Int) × (Int × Int) :=
  let r := s.pn 7 n 0x11
  rawBand (s.pn 7 n 0x12) (s.pn 7 n 0x13) (s.pn 7 n 0x14) (qOf32 (s.pn 7 n 6)) (qOf32 (s.pn 7 n 5)) (r * r * r)

def inBand (b : Int × Int) (v : Int) : Bool := decide (b.1 ≤ v) && decide (v ≤ b.2)

/-- One more bit into the fast filter, and its comparator (R284, R285): the counts of consecutive outputs, and the decision they make. -/
def feedFast (n : Nat) (b : Bool) (s : State) : State :=
  let x := sd s n
  let r := s.pn 7 n 0x11
  let hist := (b :: x.fast).take 94
  let v := (fastOutputs r 1 (hist.take (3 * (r - 1) + 1)).reverse).headD 0
  let band := fastBand s n
  let en := s.pn 7 n 0x10 == 1
  let out := en && !inBand band.1 v
  let inn := en && inBand band.2 v
  let x := { x with fast := hist, nOut := if out then min 4 (x.nOut + 1) else 0, nIn := if inn then min 4 (x.nIn + 1) else 0 }
  let s := modSd n (fun _ => x) s
  let k := s.pn 7 n 0x15
  if out && !x.fastOut && decide (k ≤ x.nOut) then
    raise (0x2140 + n) kSd n (BitVec.ofInt 32 v).toNat 0 (routeScope s (0x140 + n)) (modSd n (fun x => { x with fastOut := true }) s)
  else if inn && x.fastOut && decide (k ≤ x.nIn) then
    condHolds (0x2140 + n) kSd n (modSd n (fun x => { x with fastOut := false }) s)
  else s

/-- One edge of a group's clock: a reset that is due at a rising one (R287), then, on the edge CLK_EDGE selects, the bit of every enabled
input (R273, R276). The fast filter takes each bit once: those that BSD_FAST_DECISION brought, it has. -/
def feedEdge (s : State) (e : SdEdge) : State :=
  let w := s.wire
  let due := e.rising && (match (vget s.bsd.grp e.group {}).resetDue with | some t => decide (t ≤ e.t) | none => false)
  let sampled := (bsF w (0x100 + e.group) 4 == 1) != e.rising
  let s := if e.rising then modGrp e.group (fun g => { g with noClk := false, resetDue := if due then none else g.resetDue }) s else s
  (List.range 8).foldl (fun s i =>
    let n := 8 * e.group + i
    if 48 ≤ n || s.pn 7 n 1 = 0 then s
    else
      let s := if due then modSd n (clearChain e.t) s else s
      if !sampled then s
      else
        let b := e.bits.getLsbD i
        let s := modSd n (fun x => feedBit w n e.t b (endsBlock s w n e.t x) x) s
        if (sd s n).ahead = 0 then feedFast n b s else modSd n (fun x => { x with ahead := x.ahead - 1 }) s) s

/-! The sample of a tick (R278, R290). -/

/-- T_d for u: exact for OUT, the mean of the last 64 blocks for IN (R274); the nominal one before two blocks have ended. -/
def tdFor (w : Nat → Wire) (n : Nat) (x : SdIn) : Int × Nat :=
  if bsF w (0x100 + n / 8) 1 = 1 then tDec w n
  else
    let k := min 64 (x.taus.length - 1)
    if k = 0 then tDec w n else (((x.taus.headD 0 - x.taus.getD k 0 : Nat) : Int), k)

/-- j (blocks back from the newest) and p at tick instant t (steps). -/
def resamplePoint (w : Nat → Wire) (n t : Nat) (x : SdIn) : Nat × Nat :=
  let tr := t - 1600
  let back := (x.taus.takeWhile (fun a => decide (tr < a))).length
  let td := tdFor w n x
  let num : Int := ((tr : Int) - (x.taus.getD back 0 : Int)) * 128 * td.2
  (back, if td.1 ≤ 0 then 0 else min 127 (Int.fdiv num td.1).toNat)

/-- z_n and the SDIN value for block `back` and phase p. -/
def resample (w : Nat → Wire) (n back p : Nat) (x : SdIn) : Word :=
  let h := resampTaps (bsF w n 4) p
  let acc := (List.range 16).foldl (fun a i => a + h.getD i 0 * x.ys.getD (back + i) 0) 0
  let z := roundShift acc 17
  w32 (fma32 (of32 (z, 2 ^ 23)) (bsF w n 5) (bsF w n 6))

/-- R290: no detector active and no reset within SPAN before the tick instant. -/
def sdFlag (s : State) (w : Nat → Wire) (n t : Nat) (x : SdIn) : Bool :=
  let within := fun (o : Option Nat) => match o with | some a => decide (t < a + spanSteps w n) | none => false
  !(x.stuck || (vget s.bsd.grp (n / 8) {}).noClk || within x.badAt || within x.resetAt)

/-- Deliver every enabled input for the tick instant at step t: the own j and p, or those forwarded by the active for IN groups
(R291), whose block counts are matched. -/
def deliverSd (fwd : List (Nat × Int × Nat × Bool)) (t : Nat) (s : State) : State :=
  let w := s.wire
  ((List.range 48).filter (fun n => s.pn 7 n 1 = 1)).foldl (fun s n =>
    let x := sd s n
    let own := resamplePoint w n t x
    let f := if bsF w (0x100 + n / 8) 1 = 1 then none else fwd.find? (fun e => e.1 == n)
    let bp := match f with
      | some (_, j, p, _) => (((x.blocks : Int) - j).toNat, p)
      | none => own
    let flag := match fwd.find? (fun e => e.1 == n) with | some e => e.2.2.2 | none => sdFlag s w n t x
    modSd n (fun x => { x with
      val := resample w n bp.1 bp.2 x, phase := bp.2, ok := flag
      badAt := if x.stuck || (vget s.bsd.grp (n / 8) {}).noClk then some t else x.badAt }) s) s

/-- Inputs that feed the sampled edges of the last tick, and the device states in which the BSD runs (R272). -/
def feedEdges (es : List SdEdge) (s : State) : State := if s.dev.live then es.foldl feedEdge s else s

/-- BSD_FAST_DECISION: the bits of an input, oldest first, sampled since those the fast filter has; their outputs decide out or in (R285).
The edges that TICK_INSTANT brings later for the same bits feed the decimation chain alone. -/
def execBsdFastDecision (dt : Nat) (n : Fin 48) (bits : List Bool) (s : State) : Host.Outcome State Fault Refusal :=
  let s := s.begin dt
  if !s.dev.live || s.pn 7 n 1 = 0 then done s
  else done (bits.foldl (fun s b => feedFast n b (modSd n (fun x => { x with ahead := x.ahead + 1 }) s)) s)

/-! Detectors (R289). -/

/-- BSD_MISSING_CLOCK: no rising edge of SDCLK[g] for 4 × T_mod. -/
def execBsdMissingClock (dt : Nat) (g : Fin 6) (s : State) : Host.Outcome State Fault Refusal :=
  let s := s.begin dt
  if s.dev.live then done (modGrp g (fun x => { x with noClk := true }) s) else done s

/-- SDCLK_RETURN: a rising edge of SDCLK[g]: the missing-clock detector of its inputs becomes inactive. -/
def execSdclkReturn (dt : Nat) (g : Fin 6) (s : State) : Host.Outcome State Fault Refusal :=
  let s := s.begin dt
  if (vget s.bsd.grp g {}).noClk then
    let t := s.nowStep
    let s := (List.range 8).foldl (fun s i => modSd (8 * g + i) (fun x => { x with badAt := some t }) s) s
    done (modGrp g (fun x => { x with noClk := false }) s)
  else done s

/-- BSD_STUCK_STREAM: SDIN[n] has held one bit value for STUCK_N clock periods. -/
def execBsdStuckStream (dt : Nat) (n : Fin 48) (s : State) : Host.Outcome State Fault Refusal :=
  let s := s.begin dt
  if s.dev.live && s.pn 7 n 1 = 1 then
    done (modSd n (fun x => { x with stuck := true, badAt := some s.nowStep, run := max x.run (s.pn 7 n 8),
                                      runMax := min (max x.runMax (s.pn 7 n 8)) max32 }) s)
  else done s

/-! Joint reset (R287, R288). -/

/-- Arm the reset of every IN group with SYNC_EN for its first edge at least 25 ns (400 steps) from now; two requests that resolve
to one edge make one reset and count once. -/
def armReset (s : State) : State :=
  let gs := (List.range 6).filter (fun g => s.pn 7 (0x100 + g) 1 = 0 && s.pn 7 (0x100 + g) 5 = 1)
  let fresh := gs.any (fun g => (vget s.bsd.grp g {}).resetDue.isNone) || gs.isEmpty
  let s := gs.foldl (fun s g => modGrp g (fun x => { x with resetDue := some (x.resetDue.getD (s.nowStep + 400)) }) s) s
  if fresh then { s with bsd := { s.bsd with syncCount := sat32 s.bsd.syncCount } } else s

/-- A decimator reset by command: in ARMED and BLOCKED (R288). -/
def opDecReset : Op where
  check s := if s.dev = .armed || s.dev = .blocked then none else wrongState s
  act s := armReset s

/-- DEC_RESET by the token holder. -/
def execDecReset (dt : Nat) (p : Fin 8) (s : State) : Host.Outcome State Fault Refusal :=
  done (opCmd p .token (mkId 7 0x200 1) 1 opDecReset (s.begin dt))

/-- At each entry to ARMED the chain's histories are cleared and the fast comparators' counts restart (R282, R285). -/
def bsdEnterArmed (s : State) : State :=
  let t := s.nowStep
  { s with bsd := { s.bsd with
      inp := s.bsd.inp.map (fun e => (e.1, { clearChain t e.2 with run := 0, stuck := false, ahead := 0, nOut := 0, nIn := 0 }))
      grp := s.bsd.grp.map (fun g => { g with resetDue := none }) } }

/-- FLAGS of an input (Table 9-6). -/
def sdFlags (s : State) (n : Nat) : Nat :=
  let x := sd s n
  let w := s.wire
  let settling := match x.resetAt with | some a => decide (s.nowStep < a + spanSteps w n) | none => false
  (if x.ok then 1 else 0) + (if x.stuck then 2 else 0) + (if (vget s.bsd.grp (n / 8) {}).noClk then 4 else 0)
    + (if settling then 8 else 0) + (if x.fastOut then 16 else 0) + (if gdExact w n then 32 else 0)

/-- T_D_MEAS of an IN group: the mean period of the last 64 decimation blocks of its lowest input in use, in steps (R274). -/
def tDMeas (s : State) (g : Nat) : Nat :=
  if s.pn 7 (0x100 + g) 1 = 1 then 0
  else match ((List.range 8).map (8 * g + ·)).find? (fun n => s.pn 7 n 1 == 1) with
    | some n =>
      let ts := (sd s n).taus
      if ts.length < 65 then 0 else divEven (ts.headD 0 - ts.getD 64 0) 64
    | none => 0

/-- The snapshot of the BSD's status at F (R293): of the inputs in use; the others show zero. -/
def bsdSnap (s : State) : State :=
  let w := s.wire
  let one := fun (n : Nat) =>
    let x := sd s n
    (n, ({ flags := sdFlags s n, delay := groupDelaySteps w n, phase := x.phase, sat := x.satN
           runMax := min x.runMax max32 } : SdStat))
  { s with bsd := { s.bsd with snap :=
    { inp := ((List.range 48).filter (fun n => s.pn 7 n 1 = 1)).map one, tD := (List.range 6).map (fun g => tDMeas s g), syncCount := s.bsd.syncCount
      syncIgnored := s.bsd.syncIgnored } } }

end Sys2Proof.Machine
end

