-- ==== Sys2Proof/Machine/Adc.lean ====
section
/-! DEFINITION. On-chip converters (spec/10_analog_inputs.md): conversions, window comparators, freeze and plausibility, the tagged
queue and latest values, and background calibration. -/
namespace Sys2Proof.Machine

def ain (s : State) (n : Nat) : AdcIn := tabGet s.adc.inp n {}
def modAin (n : Nat) (f : AdcIn → AdcIn) (s : State) : State := { s with adc := { s.adc with inp := tabMod s.adc.inp n {} f } }
def sliceOf (s : State) (i : Nat) : Slice := tabGet s.adc.slice i {}
def modSlice (i : Nat) (f : Slice → Slice) (s : State) : State := { s with adc := { s.adc with slice := tabMod s.adc.slice i {} f } }
/-- KIND of an ADC comparator (Table 8-8). -/
def kAdc : Nat := 7

def ainMode (s : State) (n : Nat) : Nat := s.pn 8 n 1
def bank (pos : Nat) : List Nat := [pos, pos + 8, pos + 16, pos + 24]
/-- The tick input of a position (R296). -/
def tickInput (s : State) (pos : Nat) : Option Nat := (bank pos).find? (fun n => decide (2 ≤ ainMode s n))
def scanInputs (s : State) (pos : Nat) : List Nat := (bank pos).filter (fun n => ainMode s n % 2 == 1)

/-- The corrected code (R295). -/
def codeOf (s : State) (slice : Nat) (raw : Int) : Int :=
  let c := (sliceOf s slice).corr.getD (Config.adcOffset slice, Config.adcGain slice)
  clampI (-32768) 32767 (roundShift ((raw - c.1) * c.2) 30)

/-- AIN[n] in signal units (R295). -/
def ainValue (s : State) (n : Nat) (code : Int) : Word := w32 (fma32 (fOfInt fmt32 code) (s.pn 8 n 2) (s.pn 8 n 3))

/-- The comparator's bounds as codes (R301). -/
def winBand (s : State) (n : Nat) : (Int × Int) × (Int × Int) :=
  rawBand (s.pn 8 n 5) (s.pn 8 n 6) (s.pn 8 n 7) (qOf32 (s.pn 8 n 3)) (qOf32 (s.pn 8 n 2)) 1
def plausBand (s : State) (n : Nat) : Int × Int :=
  (rawBand (s.pn 8 n 10) (s.pn 8 n 11) 0 (qOf32 (s.pn 8 n 3)) (qOf32 (s.pn 8 n 2)) 1).1

/-! The tagged queue (R307). -/

def tqFill (s : State) : Nat := s.adc.tq.length

/-- Below half full, ADC_TQ_LOST may clear. -/
def tqCheck (s : State) : State := if tqFill s < 512 then condHolds 0x2182 0 0 s else condFails 0x2182 0 0 s

/-- An entry in its place: entries of one sample instant stand in order of their inputs. -/
def tqInsert (e : BitVec 64) : List (BitVec 64) → List (BitVec 64)
  | [] => [e]
  | x :: r => if x.toNat % 2 ^ 32 = e.toNat % 2 ^ 32 && decide (e.toNat / 2 ^ 59 < x.toNat / 2 ^ 59) then e :: x :: r else x :: tqInsert e r

def tqPush (e : BitVec 64) (s : State) : State :=
  if tqFill s < 1024 then
    let e := if s.adc.lostMark then e ||| BitVec.ofNat 64 (2 ^ 51) else e
    tqCheck { s with adc := { s.adc with tq := tqInsert e s.adc.tq, tqTick := s.adc.tqTick ++ [s.alm.tick], lostMark := false } }
  else raise 0x2182 0 0 0 0 [] { s with adc := { s.adc with tqLost := sat32 s.adc.tqLost, lostMark := true } }

/-- The 64-bit word of Table 10-2 for a conversion; LOST is added as it is stored. -/
def tqEntry (n ps : Nat) (tick out valid : Bool) (code : Int) (time : Nat) : BitVec 64 :=
  let bit := fun (b : Bool) (i : Nat) => if b then 2 ^ i else 0
  BitVec.ofNat 64 (n * 2 ^ 59 + ps * 2 ^ 55 + bit tick 54 + bit out 53 + bit valid 52 +
    (BitVec.ofInt 16 code).toNat * 2 ^ 32 + time % 2 ^ 32)

/-- Does QUEUE_MODE admit the conversion? -/
def tqAdmits (mode : Nat) (tick out : Bool) : Bool :=
  match mode with | 1 => tick | 2 => true | 3 => out | _ => false

/-! A conversion (R297 to R307). -/

/-- The freeze run after a code (R305). -/
def freezeRun (code : Int) (x : AdcIn) : AdcIn :=
  if x.frzN ≠ 0 && decide ((code - x.frz).natAbs ≤ 1) then { x with frzN := x.frzN + 1 } else { x with frz := code, frzN := 1 }

def frozen (s : State) (n : Nat) (x : AdcIn) : Bool := decide (s.pn 8 n 9 ≤ x.frzN)

/-- Comparator counts after a code, and whether it decides out or in (R302). -/
def comparator (s : State) (n : Nat) (code : Int) (x : AdcIn) : AdcIn × Bool × Bool :=
  if s.pn 8 n 4 = 0 then ({ x with nOut := 0, nIn := 0 }, false, false)
  else
    let b := winBand s n
    let o := if inBand b.1 code then 0 else min (x.nOut + 1) 4
    let i := if inBand b.2 code then min (x.nIn + 1) 4 else 0
    let k := s.pn 8 n 8
    let goesOut := !x.isOut && decide (k ≤ o)
    let goesIn := x.isOut && decide (k ≤ i)
    ({ x with nOut := o, nIn := i, isOut := (x.isOut || goesOut) && !goesIn, outCount := if goesOut then sat32 x.outCount else x.outCount },
      goesOut, goesIn)

/-- One conversion of input n by physical slice ps, sampled at step t of TB[0]. -/
def convert (n ps : Nat) (raw : Int) (tick : Bool) (t : Nat) (s : State) : State :=
  let code := codeOf s ps raw
  let x := freezeRun code { ain s n with code := code }
  let c := comparator s n code x
  let fz := frozen s n c.1
  let impl := !inBand (plausBand s n) code
  let sat := s.pn 8 n 12 == 1 && (code == 32767 || code == -32768)
  let tickOk := !fz && !impl && !sat
  let valid := if tick then tickOk else !fz
  let out := !inBand (winBand s n).1 code
  let e := tqEntry n ps tick out valid code (t / 20)
  let lvHi := (if valid then 2 ^ 31 else 0) + (if out then 2 ^ 30 else 0) + n * 2 ^ 25 + ps * 2 ^ 21 + (BitVec.ofInt 16 code).toNat
  let s := modAin n (fun _ => { c.1 with
    lv := BitVec.ofNat 64 (lvHi * 2 ^ 32 + t / 20 % 2 ^ 32)
    tick := if tick then code else c.1.tick
    tickOk := if tick then tickOk else c.1.tickOk
    tickPs := if tick then ps else c.1.tickPs
    implaus := impl, valid := valid }) s
  let s := if tqAdmits (s.pn 8 n 13) tick out then tqPush e s else s
  let s := if c.2.1 then raise (0x2100 + n) kAdc n (BitVec.ofInt 32 code).toNat 0 (routeScope s (0x100 + n)) s else s
  let s := if c.2.2 then condHolds (0x2100 + n) kAdc n s else s
  let blind := fz && s.pn 8 n 4 == 1
  let s := runRaise 0x2184 kAdc n 0 0 [] blind s
  if fz then s else condHolds 0x2184 kAdc n s

/-- The input a position converts in a slot, and the scan pointer after it (R297). -/
def slotInput (s : State) (pos slot : Nat) : Option (Nat × Bool) :=
  match slot, tickInput s pos with
  | 0, some n => some (n, true)
  | _, _ =>
    let l := scanInputs s pos
    let last := s.adc.ptr.getD pos pos
    match l.find? (fun n => decide (last < n)) with
    | some n => some (n, false)
    | none => (l.head?).map (fun n => (n, false))

/-- The tick whose slot a conversion that ends now was sampled in: its corrected code is there 125 ns after the slot's start (Table 10-1),
for the last slots of a tick only in the next one. None: that time has not come. -/
def slotTick (s : State) (slot : Nat) : Option Int :=
  let ready : Nat := slot * (100 * nsecQ) + 125 * nsecQ
  if ready ≤ s.phaseQ then some s.alm.tick
  else if s.alm.period < ready && decide ((ready : Int) ≤ s.now - s.tickAt (s.alm.tick - 1)) then some (s.alm.tick - 1)
  else none

/-- ADC_CONVERSION: the slice serving a position ends the conversion it sampled in a 100 ns slot of the tick, one conversion per slot; a
shadow takes the same sample (R297, R299). -/
def execAdcConversion (dt : Nat) (pos : Fin 8) (slot : Nat) (raw : Int) (shadow : Option Int) (s : State) :
    Host.Outcome State Fault Refusal :=
  let s := s.begin dt
  let slots := s.alm.period / (100 * nsecQ)
  let taken := fun (k : Int) => match s.adc.slots.getD pos none with | some (m, j) => k = m - 1 || (k = m && slot < j) | none => false
  if !s.dev.live || decide (slots ≤ slot) then done s
  else match slotInput s pos slot, slotTick s slot with
    | some (n, tick), some k =>
      if taken k then done s
      else
      let ps := s.adc.phys.getD pos 0
      let t := (s.tickAt k / stepQ).toNat + slot * 1600
      let s := { s with adc := { s.adc with slots := s.adc.slots.set pos (some (k, slot + 1)) } }
      let s := if tick then s else { s with adc := { s.adc with ptr := s.adc.ptr.set pos n } }
      let s := match shadow with
        | some r =>
          if s.adc.shadowing && decide (s.adc.stepNo % 8 = pos.val) then
            { s with adc := { s.adc with shSum := s.adc.shSum + (codeOf s s.adc.free r - codeOf s ps raw), shN := s.adc.shN + 1 } }
          else s
        | none => s
      done (convert n ps raw tick t s)
    | _, _ => done s

/-! Background calibration (R299, R300). -/

def retiredStop (s : State) : Bool := s.adc.retired != 0

/-- The interval between rotation steps, 12.5 ms of TB[0], in 2^-16 ns. -/
def stepEvery : Nat := 12500000 * nsecQ

/-- Tick n's instant is the first at or after a whole multiple of 12.5 ms (R299). -/
def stepDue (s : State) (n : Int) : Bool := decide (s.tickAt (n - 1) / (stepEvery : Int) < s.tickAt n / (stepEvery : Int)) || decide (s.tickAt n % (stepEvery : Int) = 0)

/-- The next step lies at most 1 ms ahead: it falls at the first tick instant at or after the next multiple of 12.5 ms. -/
def stepNear (s : State) : Bool :=
  let m : Int := ((s.now / stepEvery + 1) * stepEvery : Nat)
  let o : Int := s.alm.origin
  let at_ := m + (o - m) % (max s.alm.period 1 : Nat)
  decide (at_ ≤ s.now + (1000000 * nsecQ : Nat))

/-- ADC_SHADOW_START: from 1 ms before a step a free slice that passed shadows the position's slice. -/
def execAdcShadowStart (dt : Nat) (s : State) : Host.Outcome State Fault Refusal :=
  let s := s.begin dt
  if s.dev.live && !retiredStop s && (sliceOf s s.adc.free).passed && stepNear s && !s.adc.shadowing then
    done { s with adc := { s.adc with shadowing := true, shSum := 0, shN := 0 } }
  else done s

/-- ADC_CAL_STEP: at the step's tick instant a free slice that passed takes its position, whatever its shadow showed. -/
def execAdcCalStep (dt : Nat) (s : State) : Host.Outcome State Fault Refusal :=
  let s := s.begin dt
  let n := s.alm.tick
  if !s.dev.live || retiredStop s || !stepDue s n || s.adc.stepTick = some n then done s
  else
    let pos := s.adc.stepNo % 8
    let f := s.adc.free
    let s := { s with adc := { s.adc with stepTick := some n } }
    if !(sliceOf s f).passed then
      done { s with adc := { s.adc with stepNo := s.adc.stepNo + 1, shadowing := false } }
    else
      let old := s.adc.phys.getD pos 0
      let shown := s.adc.shadowing && s.adc.shN != 0
      let drift := s.adc.shadowing && decide ((s.pn 8 0x200 3 * s.adc.shN : Int) < s.adc.shSum.natAbs)
      let s := { s with adc := { s.adc with
        phys := s.adc.phys.set pos f, free := old, steps := sat32 s.adc.steps, stepNo := s.adc.stepNo + 1, shadowing := false } }
      let s := modSlice old (fun x => { x with passed := false }) s
      if drift then done (raise 0x2180 0 pos old 0 [] s)
      else if shown then done (condHolds 0x2180 0 pos s)
      else done s

/-- ADC_CAL_DONE: the free slice's new corrections and its three corrected residuals in LSB; the check passes within ±2 LSB, and
three consecutive failures retire the slice. -/
def execAdcCalDone (dt : Nat) (ofs gain : Int) (res : List Int) (s : State) : Host.Outcome State Fault Refusal :=
  let s := s.begin dt
  if !s.dev.live || retiredStop s || res.length ≠ 3 then done s
  else
    let f := s.adc.free
    let pass := res.all (fun r => decide (r.natAbs ≤ 2))
    let s := modSlice f (fun x => { corr := some (ofs, gain), passed := pass, fails := if pass then 0 else x.fails + 1 }) s
    if 3 ≤ (sliceOf s f).fails then
      done (raise 0x2181 0 0 f 0 [] { s with adc := { s.adc with retired := 2 ^ f, shadowing := false } })
    else done s

/-! Host reads (R308, R309). -/

/-- A TQ_LO read: the owner latches the oldest entry; others, and a queue routed to a stream queue, read EMPTY. -/
def execTqLoRead (dt : Nat) (p : Fin 8) (s : State) : Host.Outcome State Fault Refusal :=
  let s := s.begin dt
  if !hasWindow s p then done s
  else if s.pn 8 0x200 1 ≠ 0 || s.pn 8 0x200 2 ≠ p then done (s.emit (.read p 0))
  else match s.adc.tq with
    | e :: _ => done ((s.modHp p (fun h => { h with tqHold := some e })).emit (.read p (e.truncate 32)))
    | [] => done ((s.modHp p (fun h => { h with tqHold := some (BitVec.ofNat 64 (0x00040000 * 2 ^ 32)) })).emit (.read p 0))

/-- A TQ_HI read: the held high word, and the entry leaves the queue. -/
def execTqHiRead (dt : Nat) (p : Fin 8) (s : State) : Host.Outcome State Fault Refusal :=
  let s := s.begin dt
  if !hasWindow s p then done s
  else if s.pn 8 0x200 1 ≠ 0 || s.pn 8 0x200 2 ≠ p then done (s.emit (.read p 0x00040000))
  else match (s.hp p).tqHold with
    | some e =>
      let s := s.modHp p (fun h => { h with tqHold := none })
      let hi : Word := (e >>> 32).truncate 32
      let empty := hi == 0x00040000
      let s := if empty then s else { s with adc := { s.adc with tq := s.adc.tq.drop 1, tqTick := s.adc.tqTick.drop 1 } }
      done ((tqCheck s).emit (.read p hi))
    | none => done (s.emit (.read p 0x00040000))

/-- A LV_LO read: TIME, and the pair goes into the partition's own holding register. -/
def execLvLoRead (dt : Nat) (p : Fin 8) (n : Fin 32) (s : State) : Host.Outcome State Fault Refusal :=
  let s := s.begin dt
  if !hasWindow s p then done s
  else
    let lv := (ain s n).lv
    done ((s.modHp p (fun h => { h with lvSnap := tabPut (tabPut h.lvSnap 0 (lv.truncate 32)) 1 ((lv >>> 32).truncate 32) })).emit
      (.read p (lv.truncate 32)))

/-- A change of TQ_OWNER or TQ_ROUTE empties the holding register (R308). -/
def tqOwnerChanged (s : State) : State := { s with hst := { s.hst with hp := s.hst.hp.map (fun h => { h with tqHold := none }) } }

/-- REVISIT in ns (R298), 0 for an input that is not scanned. -/
def revisit (s : State) (n : Nat) : Nat :=
  let pos := n % 8
  let k := (scanInputs s pos).length
  let g := s.alm.period % (100 * nsecQ)
  if ainMode s n % 2 = 1 then ((k + (if (tickInput s pos).isSome then 1 else 0)) * 100 * nsecQ + g + nsecQ - 1) / nsecQ else 0

/-- Runs and counts start afresh at each entry to ARMED (R305). -/
def adcEnterArmed (s : State) : State :=
  { s with adc := { s.adc with
      inp := s.adc.inp.map (fun e => (e.1, { e.2 with frzN := 0, nOut := 0, nIn := 0 }))
      slots := List.replicate 8 none, stepTick := none } }

/-- The check of R311 in a member that is not active: own tick codes against the forwarded ones. -/
def pairCompare (fwd : List (Nat × Int × Bool × Nat)) (s : State) : State :=
  fwd.foldl (fun s e =>
    let far := decide (s.pn 8 0x200 4 < ((ain s e.1).tick - e.2.1).natAbs)
    let s := modAin e.1 (fun x => { x with pairBad := if far then x.pairBad + 1 else 0, pairGood := if far then 0 else x.pairGood + 1 }) s
    let n := s.pn 8 0x200 5
    let bad := decide (n ≤ (ain s e.1).pairBad)
    let s := runRaise 0x2183 kAdc e.1 0 0 [] bad (if bad then { s with rdn := { s.rdn with perAdc := sat32 s.rdn.perAdc } } else s)
    if n ≤ (ain s e.1).pairGood then condHolds 0x2183 kAdc e.1 s else s) s

/-- FLAGS of an input (Table 10-5). -/
def ainFlags (s : State) (n : Nat) : Nat :=
  let x := ain s n
  (if x.valid then 1 else 0) + (if frozen s n x then 2 else 0) + (if x.implaus then 4 else 0) + (if x.isOut then 8 else 0)
    + (if 0 < x.pairBad then 16 else 0)

end Sys2Proof.Machine
end

