-- ==== Sys2Proof/Machine/Almanac.lean ====
section
/-! DEFINITION. The Almanac (spec/02_almanac_time.md): acquisition, leap, servo and holdover of the four timebases, PPS and
pulses, the PTP instances, and the time read blocks. Phases inside a timebase are in 2^-56 ns, offsets in 2^-16 ns. -/
namespace Sys2Proof.Machine

/-- SRC of TB[k]; a pair member that is not ACTIVE takes TB[0] from its partner (R336). -/
def tbSrc (s : State) (k : Nat) : Nat := if k == 0 && s.pairEn && s.rdn.role != 1 then 8 else s.pn 6 k 1
def lockThresh (s : State) (k : Nat) : Int := s.pt 6 k 3
def offAlarm (s : State) (k : Nat) : Int := s.pt 6 k 8
/-- KIND of a timebase in a record (Table 8-8). -/
def kTb : Nat := 6

/-- 2^-16 ns to 2^-56 ns. -/
def fine (q : Int) : Int := q * 2 ^ 40

/-- The capture of all four timebases in one fabric cycle, at 62.5 ps (R57). -/
def planes (s : State) : List Nat := (List.range 4).map (fun k => s.nowK k / stepQ * stepQ)
def stampNow (s : State) : State := { s with alm := { s.alm with stamp := planes s } }

/-- The applied rate correction, in 2^-40 (R46). -/
def Tb.rate (b : Tb) : Int := b.rateE + (if b.slewLeft = 0 then 0 else b.slew)

/-- Record the rate in force from now on, keeping what HOLD_AVG can reach back to (at most 1,000 s, R47). -/
def Tb.mark (b : Tb) : Tb :=
  let lo := b.acc - 1000 * secQn * 2 ^ 40
  let old := b.hist.filter (fun e => decide (lo ≤ e.1))
  { b with hist := (b.acc, b.rate) :: old ++ (b.hist.drop old.length).take 1 }

/-- The mean rate correction from reading `lo` on (R47): phase added by corrections over elapsed reading, in 2^-40. -/
def meanRate (lo : Nat) : Nat → List (Nat × Int) → Int × Nat
  | _, [] => (0, 0)
  | t, (a, r) :: rest =>
    let a' := max a lo
    let w : Nat := t - a'
    if a ≤ lo then (r * w, w)
    else let m := meanRate lo a' rest; (m.1 + r * w, m.2 + w)

def Tb.heldRate (b : Tb) (avg : Nat) : Int :=
  let m := meanRate (b.acc - avg * 2 ^ 40) b.acc b.hist
  if m.2 = 0 then b.rate else Int.fdiv m.1 m.2

/-- SLEW_MAX in 2^-40 (its unit is ppm). -/
def slewMax (s : State) (k : Nat) : Int :=
  match fToQ fmt32 (s.pn 6 k 2) with
  | some (n, d) => if d = 0 then 0 else Int.fdiv (n * 2 ^ 40) (d * 1000000)
  | none => 0

/-- The servo at one source update with offset o (R46). -/
def servo (tc : Nat) (smax : Int) (o : Int) (b : Tb) : Tb :=
  let tu : Nat := b.acc - b.lastUpd
  let num : Int := if b.fresh then 0 else fine (o - b.off) - b.slewSum
  let den : Nat := max (max tu (tc * 2 ^ 40)) 1
  let step : Int := Int.fdiv (num * 2 ^ 40 * 2 + den) (2 * den)
  let sv : Int := if o < 0 then smax else if 0 < o then -smax else 0
  let want : Int := b.rateE - step
  -- R_E stops where the applied correction would pass ±200 ppm
  let re : Int := if b.rateE < want then max b.rateE (min want (ppm200 - sv)) else min b.rateE (max want (-ppm200 - sv))
  let sv' : Int := clampI (-ppm200) ppm200 (re + sv) - re
  { b with
    rateE := re
    slew := sv'
    slewLeft := (fine o).natAbs
    slewSum := 0
    off := o
    lastUpd := b.acc
    fresh := false }.mark

def sumI (l : List Int) : Int := l.foldl (· + ·) 0
def maxI (l : List Int) : Int := l.foldl max (l.headD 0)
def minI (l : List Int) : Int := l.foldl min (l.headD 0)

/-- The mean of a measurement list, exact and rounded once, ties to even (R41). -/
def meanEven (l : List Int) : Int :=
  let t := sumI l
  if t < 0 then -(divEven t.natAbs l.length : Int) else divEven t.natAbs l.length

/-- TB[k] may leap in the present device state (R44). -/
def mayLeap (s : State) (k : Nat) : Bool := k != 0 || s.dev == .boot || s.dev == .parked || s.dev == .fallback

/-- What the leap adds beyond the mean: on PPS_IN the whole seconds to those written to PPS_TOD (R61). -/
def leapExtra (s : State) (k : Nat) (mean : Int) : Int :=
  let r : Int := ((s.tb k).acc : Int) - fine mean
  let whole : Int := (((r / 2 ^ 40).toNat + secQn / 2) / secQn : Nat)
  if tbSrc s k == 5 && s.alm.todSet then ((s.pn 6 4 0x45 : Int) - whole) * secQn else 0

/-- The one leap: `mean` leaves the timebase in one fabric cycle, with the log records of R41. A leap whose result would lie outside the
times of R35 is not taken (R37; DEDUCED, notes/assumptions/112.md). -/
def leap (k : Nat) (mean : Int) (s : State) : State :=
  let b := s.tb k
  let r : Int := (b.acc : Int) - fine mean
  let extra := leapExtra s k mean
  let iv := satInt (extra - mean)
  if r + fine extra < 0 || fine (2 ^ 64 * secQn) ≤ r + fine extra then s else
  let s := s.modTb k (fun b => { b with
    acc := (r + fine extra).toNat
    st := .slewing, leapt := true, leaps := min (b.leaps + 1) 255
    rateE := 0, slew := 0, slewLeft := 0, slewSum := 0, fresh := true, meas := [], below := 0
    hist := [((r + fine extra).toNat, 0)], lastUpd := (r + fine extra).toNat, slewAt := (r + fine extra).toNat })
  let w := (BitVec.ofInt 64 iv).toNat
  let s := logEvent 5 kTb k (w % 2 ^ 32) (w / 2 ^ 32) s
  (List.range 4).foldl (fun s j => logEvent 6 kTb j (secOf (s.nowK j)) (nsOf (s.nowK j)) s) s

/-- The offset faults of Table 2-3 after an update. -/
def offsetFaults (k : Nat) (o : Int) (s : State) : State :=
  let a : Int := o.natAbs
  let s := if (s.tb k).leapt then runRaise 0x4111 kTb k 0 0 [] (decide (offAlarm s k < a)) s else s
  if a < lockThresh s k then condHolds 0x4113 kTb k (condHolds 0x4111 kTb k s) else condFails 0x4113 kTb k (condFails 0x4111 kTb k s)

/-- Push a measurement and leap once ACQ_COUNT consecutive ones lie within LOCK_THRESH (R41). -/
def acquire (k : Nat) (o : Int) (s : State) : State :=
  let n := s.pn 6 k 9
  let ms := (o :: (s.tb k).meas).take n
  let s := offsetFaults k o (s.modTb k (fun b => { b with meas := ms, off := o, lastUpd := b.acc, slewSum := 0 }))
  if ms.length = n && decide (maxI ms - minI ms ≤ lockThresh s k) then leap k (meanEven ms) s else s

/-- The timebase states whose entry starts the servo with d_k at 0: a return from HOLDOVER, and STEERING (R46). -/
def freshEntry (old new : TbSt) : Bool := new != old && (old == .holdover || new == .steering)

/-- A source measurement of TB[k] (R41, R44, R46, R48). -/
def sourceUpdate (k : Nat) (o : Int) (s : State) : State :=
  if tbSrc s k = 0 then s
  else
    let s := condHolds 0x4112 kTb k (condHolds 0x4110 kTb k s)
    let tc := s.ptn 6 k 4
    let b := s.tb k
    let st0 := b.st
    -- a returning source, and the first one
    let st := match st0 with
      | .holdover => if b.holdSteer then TbSt.steering else .slewing
      | .free => if b.leapt then .slewing else if mayLeap s k then .acquiring else .steering
      | .acquiring => if mayLeap s k then .acquiring else .steering
      | x => x
    let entered := st != st0
    let s := s.modTb k (fun b => { b with
      st := st, fresh := b.fresh || freshEntry st0 st
      slewAt := if entered && (st == .slewing || st == .steering) then b.acc else b.slewAt })
    match st with
    | .acquiring => acquire k o s
    | .steering =>
      if mayLeap s k then
        if (s.tb k).meas.isEmpty && decide ((o.natAbs : Int) ≤ lockThresh s k) then
          offsetFaults k o (s.modTb k (fun b => { servo tc (slewMax s k) o b with st := .locked, leapt := true, below := 16 }))
        else acquire k o (s.modTb k (fun b => { b with slew := 0, slewLeft := 0 }.mark))
      else offsetFaults k o (s.modTb k (fun b => servo tc (slewMax s k) o { b with meas := [] }))
    | _ =>
      let s := s.modTb k (fun b => servo tc (slewMax s k) o b)
      let below := if decide ((o.natAbs : Int) < lockThresh s k) then min ((s.tb k).below + 1) 16 else 0
      offsetFaults k o (s.modTb k (fun b => { b with
        below := below
        st := if below = 16 then .locked else .slewing
        slewAt := if below < 16 && st0 == .locked then b.acc else b.slewAt }))

/-- An update of TB[k], and of TB[0] when it follows TB[k] through the planes (Table 2-1, R57). -/
def updateThrough (k : Nat) (o : Int) (s : State) : State :=
  let d : Int := (s.nowK k : Int) - s.now
  let s := sourceUpdate k (satInt o) s
  if k ≠ 0 && tbSrc s 0 = k then sourceUpdate 0 (satInt (o - d)) s else s

/-- The PPS_TOD written for an edge is used up by the leaps of that edge (R61). -/
def usePpsTod (before : State) (s : State) : State :=
  if (List.range 4).any (fun k => tbSrc before k == 5 && !(before.tb k).leapt && (s.tb k).leapt && (s.tb k).below == 0)
  then { s with alm := { s.alm with todSet := false } } else s

/-- A change of SRC never causes a leap (R43); LOCAL gives no correction and reads FREE (Tables 2-1, 2-2). -/
def srcChanged (k : Nat) (s : State) : State :=
  s.modTb k (fun b =>
    let b := { b with meas := [], below := 0 }
    if tbSrc s k = 0 then { b with st := .free, rateE := 0, slew := 0, slewLeft := 0, slewSum := 0 }.mark
    else if b.st = .acquiring then { b with st := .free } else b)

/-- At entry to ARMED: a TB[0] in acquisition has no leap any more and steers (R44). -/
def steerTb0 (s : State) : State :=
  s.modTb 0 (fun b =>
    if b.st = .acquiring || b.st = .steering then
      { b with st := .steering, meas := [], fresh := b.fresh || b.st == .acquiring, slewAt := if b.st = .steering then b.slewAt else b.acc }
    else b)

/-- Back to ACQUIRING (R43). -/
def reAcquire (k : Nat) (s : State) : State :=
  s.modTb k (fun b => { b with st := .acquiring, leapt := false, meas := [], below := 0, fresh := true, slew := 0,
                               slewLeft := 0, slewSum := 0 }.mark)

/-! Commands. -/

/-- TIMEBASE_SOURCE_UPDATE: a measured offset of TB[k] against its source. A TB[0] that follows PTP1 to PTP3 is measured by its
own timebase's updates, and an input REF_x that is not OK gives no measurements (R445). -/
def execTimebaseSourceUpdate (dt : Nat) (k : Fin 4) (offset : Int) (s : State) : Host.Outcome State Fault Refusal :=
  let s := s.begin dt
  let src := tbSrc s k
  if !s.alm.running || (k.val = 0 && (1 ≤ src && src ≤ 3)) then done s
  else
    let ref := src = 6 || src = 7
    let s := if ref && s.pn 13 0x200 (src - 5) = 3 then stampNow s else s
    if ref && !(s.pn 13 0x200 (src - 5) != 0 && vget s.clk.refOk (src - 6) false) then done s
    else done (usePpsTod s (updateThrough k.val offset s))

/-- The nominal interval between the updates of TB[k]'s source, in 2^-16 ns: Sync of its PTP instance, or a pulse per second. HOST, PEER and
a rate reference give none (R47; DEDUCED, notes/assumptions/113.md). -/
def updInterval (s : State) (k : Nat) : Option Nat :=
  let sync := fun (j : Nat) => (let n := s.ps 6 j 0x28
    if n < 0 then secQn / 2 ^ n.natAbs else secQn * 2 ^ n.natAbs)
  match tbSrc s k with
  | 4 => some (sync k)
  | 5 => some secQn
  | n => if k = 0 && 1 ≤ n && n ≤ 3 then (if tbSrc s n = 4 then some (sync n) else if tbSrc s n = 5 then some secQn else none) else none

/-- HOLD_ENTRY consecutive updates are missing: so many intervals have passed since the last one (R47, Table 2-4). -/
def updatesMissing (s : State) (k : Nat) : Bool :=
  match updInterval s k with
  | some i => decide (s.pn 6 k 5 * i * 2 ^ 40 ≤ (s.tb k).acc - (s.tb k).lastUpd)
  | none => true

/-- HOLDOVER_ENTRY: HOLD_ENTRY consecutive updates of TB[k] are missing (R47). The HOLD_AVG window ends at this entry, and the mean rate is
rounded down to 2^-40 (DESIGN CHOICE, notes/assumptions/114.md). -/
def execHoldoverEntry (dt : Nat) (k : Fin 4) (s : State) : Host.Outcome State Fault Refusal :=
  let s := s.begin dt
  let b := s.tb k
  if !s.alm.running || !updatesMissing s k then done s
  else match b.st with
    | .acquiring =>
      done (raiseDev 0x4110 kTb k (s.modTb k (fun b => { b with st := .free, rateE := 0, slew := 0, slewLeft := 0, meas := [] }.mark)))
    | .locked | .slewing | .steering =>
      let h := b.heldRate (s.ptn 6 k 6)
      done (raiseDev 0x4110 kTb k (s.modTb k (fun b => { b with
        st := .holdover, holdSteer := b.st == TbSt.steering, holdAt := b.acc, below := 0, meas := [], fresh := true
        rateE := clampI (-ppm200) ppm200 h, slew := 0, slewLeft := 0, slewSum := 0 }.mark)))
    | _ => done s

/-- TB_HOLDOVER_LONG: HOLDOVER has lasted HOLD_MAX (Table 2-3). -/
def execTbHoldoverLong (dt : Nat) (k : Fin 4) (s : State) : Host.Outcome State Fault Refusal :=
  let s := s.begin dt
  let b := s.tb k
  if b.st = .holdover && decide (s.pn 6 k 7 * secQn * 2 ^ 40 ≤ b.acc - b.holdAt) then done (raiseDev 0x4112 kTb k s) else done s

/-- TB_SLEW_LAG: 10 × SERVO_TC of SLEWING or STEERING have passed with the offset above OFFSET_ALARM (Table 2-3). -/
def execTbSlewLag (dt : Nat) (s : State) : Host.Outcome State Fault Refusal :=
  let s := s.begin dt
  let b := s.tb 0
  if (b.st = .slewing || b.st = .steering) && decide (10 * s.ptn 6 0 4 * 2 ^ 40 ≤ b.acc - b.slewAt)
      && decide (offAlarm s 0 < (b.off.natAbs : Int)) then done (raiseDev 0x4113 kTb 0 s) else done s

/-- SLEW_PART_END: the slew part has added −o_k and returns to zero until the next update (R46). -/
def execSlewPartEnd (dt : Nat) (k : Fin 4) (s : State) : Host.Outcome State Fault Refusal :=
  let s := s.begin dt
  if (s.tb k).slewLeft = 0 && decide ((s.tb k).slew ≠ 0) then done (s.modTb k (fun b => { b with slew := 0 }.mark)) else done s

/-- PPS_OUT pulses in this state of its timebase (R60); a pattern must be in force (R22). -/
def ppsRuns (s : State) : Bool :=
  let b := s.tb (s.pn 6 4 0x40)
  let own := match b.st with
    | .locked => true | .slewing => true | .holdover => b.leapt | _ => false
  s.sys.inForce && s.alm.running && ((own && b.leapt) || s.pn 6 4 0x43 == 1)

/-- The configuration of the next pulse: its pending width and offset are taken in (class EDGE, Table 2-8). -/
def ppsNext (s : State) : State :=
  let mine := fun (e : Pend) => e.id == mkId 6 4 0x41 || e.id == mkId 6 4 0x42
  { s with par := (s.pend.filter mine).foldl (fun (t : Tab Wire) (e : Pend) => tabPut t e.id e.val) s.par
           pend := s.pend.filter (fun e => !mine e) }

/-- PPS_OUT_EDGE: the rise in the step that reaches a whole second plus PPS_OUT_OFFSET of the selected timebase, or the fall PPS_OUT_WIDTH
after it. -/
def execPpsOutEdge (dt : Nat) (rise : Bool) (s : State) : Host.Outcome State Fault Refusal :=
  let s := s.begin dt
  if rise then
    let n := ppsNext s
    let k := n.pn 6 4 0x40
    if ppsRuns s && !s.alm.ppsOut && n.strikes k secQn (n.pt 6 4 0x42) then
      done ({ n with alm := { n.alm with ppsOut := true, ppsEnd := (k, n.nowK k + n.ptn 6 4 0x41) } }.emit (.pin 0 true s.now))
    else done s
  else if s.alm.ppsOut && decide (s.alm.ppsEnd.2 ≤ s.nowK s.alm.ppsEnd.1) then
    done ({ s with alm := { s.alm with ppsOut := false } }.emit (.pin 0 false s.now))
  else done s

/-- R61: the offset a PPS edge gives TB[k]. -/
def ppsOffset (s : State) (k : Nat) : Int :=
  let r : Int := (s.nowK k : Int) - s.pt 6 4 0x44
  r - Int.fdiv (2 * r + secQn) (2 * secQn) * secQn

/-- PPS_IN_EDGE: timestamped (R57); the selected edge measures every timebase whose source is PPS_IN (R61). No field selects the edge: the
model takes the rising one (DESIGN CHOICE, notes/assumptions/115.md). -/
def execPpsInEdge (dt : Nat) (rise : Bool) (s : State) : Host.Outcome State Fault Refusal :=
  let s := s.begin dt
  if !s.alm.running then done s
  else
    let s := stampNow s
    if rise then
      let offs := (List.range 4).map (ppsOffset s)
      done (usePpsTod s ((List.range 4).foldl (fun s k => if tbSrc s k = 5 then updateThrough k (offs.getD k 0) s else s) s))
    else done s

/-- PULSE_END: the falling edge of a launched PULSE (R63). -/
def execPulseEnd (dt : Nat) (pin : Fin 4) (s : State) : Host.Outcome State Fault Refusal :=
  let s := s.begin dt
  let ended := match s.alm.pulses.find? (fun x => x.1 == pin.val) with
    | some (_, k, t) => decide (t ≤ s.nowK k)
    | none => true
  if s.alm.trigOut / 2 ^ pin.val % 2 = 1 && ended then
    done ({ s with alm := { s.alm with trigOut := s.alm.trigOut - 2 ^ pin.val
                                       pulses := s.alm.pulses.filter (fun x => x.1 != pin.val) } }.emit (.pin (pin + 1) false s.now))
  else done s

/-! PTP (R52 to R58). -/

/-- Lane stamps referred to the ball (R58). -/
def laneRate (s : State) (lane : Nat) : Nat := s.pn 14 lane 2
def rxStamp (s : State) (k lane : Nat) : Int := s.nowK k - Config.laneLatency false lane (laneRate s lane) - s.pt 6 (0x100 + lane) 0x32
def txStamp (s : State) (k lane : Nat) : Int := s.nowK k + Config.laneLatency true lane (laneRate s lane) + s.pt 6 (0x100 + lane) 0x31

def ptpOf (s : State) (k : Nat) : Ptp := vget s.alm.ptp (k - 1) {}
def modPtp (k : Nat) (f : Ptp → Ptp) (s : State) : State := { s with alm := { s.alm with ptp := vmod s.alm.ptp (k - 1) f } }
/-- The lanes of an instance; an ordinary clock has one port, the lane of lowest index, a boundary clock has all (R52). -/
def ptpLanes (s : State) (k : Nat) : List Nat :=
  let l := (List.range 64).filter (fun n => s.pn 6 (0x100 + n) 0x30 == k)
  if s.pn 6 k 0x25 = 2 then l else l.take 1
def ptpRuns (s : State) (k lane : Nat) : Bool :=
  s.alm.running && decide (1 ≤ k) && s.pn 6 k 0x20 == 1 && (ptpLanes s k).contains lane

/-- clockIdentity of an instance: the identity record's value with the instance number as its last octet (R56). -/
def clockIdentity (k : Nat) : Nat := Config.clockId.toNat / 256 * 256 + k

/-- What a message that leaves a lane carries besides its time (R52, R55, R56). A one-step Sync or Pdelay_Resp over UDP has no checksum. -/
def ptpHead (s : State) (k lane : Nat) (kind : PtpKind) (ds : Option PtpDs) : PtpHead :=
  let udp := s.pn 6 k 0x23 == 1
  { identity := clockIdentity k, portNumber := lane + 1, domain := s.pn 6 k 0x22, udp := udp, vlan := s.pn 6 k 0x29, ds := ds
    noChecksum := udp && s.pn 6 k 0x24 == 1 && (kind == .sync || kind == .pdelayResp) }
def sendPtp (k lane : Nat) (kind : PtpKind) (time : Int) (s : State) : State := s.emit (.ptp lane kind time (ptpHead s k lane kind none))

/-! The default BMCA (R52): the data set comparison and the state decision of IEEE 1588-2019, 9.3 (PRESUMED, notes/assumptions/116.md). -/

/-- The instance's own data set; a slave-only clock has class 255. -/
def ownDs (s : State) (k : Nat) : PtpDs :=
  { priority1 := s.pn 6 k 0x26, priority2 := s.pn 6 k 0x27, clockClass := if s.pn 6 k 0x25 = 0 then 255 else 248
    identity := clockIdentity k, sender := clockIdentity k }

/-- The order of two data sets received on lanes `la` and `lb`: -1 or 1 where the first or the second is better by its clock, -2 or 2 by
topology, 0 for the same. -/
def cmpDs (a : PtpDs) (la : Nat) (b : PtpDs) (lb : Nat) : Int :=
  let lex := fun (l : List (Nat × Nat)) => (l.find? (fun e => e.1 != e.2)).map (fun e => decide (e.1 < e.2))
  if a.identity = b.identity then
    match lex [(a.steps, b.steps), (a.sender, b.sender), (a.senderPort, b.senderPort), (la, lb)] with
    | some true => -2 | some false => 2 | none => 0
  else
    match lex [(a.priority1, b.priority1), (a.clockClass, b.clockClass), (a.accuracy, b.accuracy), (a.variance, b.variance),
        (a.priority2, b.priority2), (a.identity, b.identity)] with
    | some true => -1 | some false => 1 | none => 0

/-- The Announce interval of a profile: 2 s in the default profiles, 1 s in those of the power utilities. -/
def announceQ (s : State) (k : Nat) : Nat := if s.pn 6 k 0x21 < 2 then 2 * secQn else secQn

/-- Masters that count: heard twice within four intervals, the last time within three. -/
def ptpQualified (s : State) (k : Nat) : List PtpForeign :=
  let i := announceQ s k
  let now := s.nowK k
  (ptpOf s k).foreign.filter (fun f =>
    (ptpLanes s k).contains f.lane && decide (now ≤ f.last + 3 * i) && (match f.prev with | some t => decide (f.last ≤ t + 4 * i) | none => false))

def betterOf (a b : PtpForeign) : PtpForeign := if cmpDs b.ds b.lane a.ds a.lane < 0 then b else a
def bestOf (l : List PtpForeign) : Option PtpForeign :=
  match l with | [] => none | a :: r => some (r.foldl betterOf a)

/-- The state decision: the slave port, and the ports that are PASSIVE; the others are MASTER, in a slave-only clock LISTENING. -/
def bmca (k : Nat) (s : State) : State :=
  let all := ptpQualified s k
  let own := ownDs s k
  match bestOf all with
  | none => modPtp k (fun p => { p with slaveLane := none, passive := [] }) s
  | some best =>
    let ours := cmpDs own 0 best.ds best.lane < 0
    let slave := if ours then none else some best.lane
    let passive := if ours then [] else (ptpLanes s k).filter (fun n => n != best.lane &&
      (match bestOf (all.filter (fun f => f.lane == n)) with
       | some e => cmpDs best.ds best.lane e.ds e.lane == -2
       | none => false))
    modPtp k (fun p => { p with slaveLane := slave, passive := passive }) s

/-- An Announce of a master on a lane (R52). -/
def hearAnnounce (k lane : Nat) (ds : PtpDs) (s : State) : State :=
  let now := s.nowK k
  let same := fun (f : PtpForeign) => f.lane == lane && f.ds.sender == ds.sender && f.ds.senderPort == ds.senderPort
  if ds.sender = clockIdentity k || 255 ≤ ds.steps then s
  else
    let old := (ptpOf s k).foreign.find? same
    bmca k (modPtp k (fun p => { p with
      foreign := p.foreign.filter (fun f => !same f) ++ [{ lane := lane, ds := ds, last := now, prev := old.map (·.last) }] }) s)

/-- A port that is MASTER: no slave port, not PASSIVE, and its clock no slave-only one. -/
def ptpMaster (s : State) (k lane : Nat) : Bool :=
  let p := ptpOf s k
  s.pn 6 k 0x25 != 0 && p.slaveLane != some lane && !p.passive.contains lane

/-- The data set an Announce of this clock carries: its parent's one step further on, or its own. -/
def announceDs (s : State) (k lane : Nat) : PtpDs :=
  let d := match bestOf (ptpQualified s k), (ptpOf s k).slaveLane with
    | some b, some _ => { b.ds with steps := b.ds.steps + 1 }
    | _, _ => ownDs s k
  { d with sender := clockIdentity k, senderPort := lane + 1 }

/-- t2 − t1 of a Sync less the mean path delay is the offset (IEEE 1588-2019 as R52 adopts it); it acts while SRC is PTP. -/
def ptpOffset (k : Nat) (ms : Int) (s : State) : State :=
  let s := modPtp k (fun p => { p with ms := some ms }) s
  match (ptpOf s k).delay with
  | some d => if tbSrc s k = 4 then updateThrough k (ms - d) s else s
  | none => s

/-- A received PTP message: timestamped, then handled by the lane's instance; other domains and sdoIds are discarded (R53). -/
def ptpReceive (lane : Nat) (m : PtpMsg) (s : State) : State :=
  let k := s.pn 6 (0x100 + lane) 0x30
  if !ptpRuns s k lane then s
  else
    let s := stampNow s
    if m.majorSdoId ≠ 0 || m.minorSdoId ≠ 0 || m.domain ≠ s.pn 6 k 0x22 then s
    else
      let rx := rxStamp s k lane
      let p := ptpOf s k
      let slave := p.slaveLane == some lane
      let p2p := s.pn 6 k 0x21 != 0
      match m.kind with
      | .announce => hearAnnounce k lane m.ds s
      | .sync =>
        if !slave then s
        else if m.twoStep then (modPtp k (fun p => { p with syncRx := some (m.seq, rx - m.corr) }) s)
        else (ptpOffset k (rx - m.time - m.corr) s)
      | .followUp =>
        (match p.syncRx with
        | some (q, r) => if slave && q = m.seq then (ptpOffset k (r - m.time - m.corr) (modPtp k (fun p => { p with syncRx := none }) s))
                         else s
        | none => s)
      | .delayReq => if p2p || !ptpMaster s k lane then s else sendPtp k lane .delayResp rx s
      | .delayResp =>
        (match p.reqTx, p.ms with
        | some (q, t3), some ms =>
          if slave && !p2p && q = m.seq then
            (modPtp k (fun p => { p with delay := some (Int.fdiv (ms + (m.time - t3 - m.corr)) 2), reqTx := none }) s)
          else s
        | _, _ => s)
      | .pdelayReq =>
        if !p2p then s
        else if s.pn 6 k 0x24 = 1 then sendPtp k lane .pdelayResp (txStamp s k lane - rx) s
        else sendPtp k lane .pdelayRespFollowUp (txStamp s k lane) (sendPtp k lane .pdelayResp rx s)
      | .pdelayResp =>
        (match p.reqTx with
        | some (q, t1) =>
          if !p2p || q ≠ m.seq then s
          else if m.twoStep then (modPtp k (fun p => { p with respT2 := some (q, rx, m.time + m.corr) }) s)
          else (modPtp k (fun p => { p with delay := some (Int.fdiv (rx - t1 - m.corr) 2), reqTx := none }) s)
        | none => s)
      | .pdelayRespFollowUp =>
        (match p.reqTx, p.respT2 with
        | some (q, t1), some (q2, t4, t2) =>
          if p2p && q = m.seq && q2 = m.seq then
            (modPtp k (fun p => { p with delay := some (Int.fdiv (t4 - t1 - (m.time - t2) - m.corr) 2), reqTx := none,
                                              respT2 := none }) s)
          else s
        | _, _ => s)
      | .managementGet => sendPtp k lane .managementGet (txStamp s k lane) s

def execPtpMessageRx (dt : Nat) (lane : Fin 64) (m : PtpMsg) (s : State) : Host.Outcome State Fault Refusal :=
  done (ptpReceive lane m (s.begin dt))

/-- PTP_MESSAGE_DUE: instance k + 1 sends an event or Announce message on a lane (R52, R55). -/
def execPtpMessageDue (dt : Nat) (k : Fin 3) (lane : Fin 64) (m : PtpKind) (s : State) : Host.Outcome State Fault Refusal :=
  let s := s.begin dt
  let k := k.val + 1
  if !ptpRuns s k lane then done s
  else
    let s := bmca k (stampNow s)
    let tx := txStamp s k lane
    let p := ptpOf s k
    let slave := p.slaveLane == some lane.val
    let master := ptpMaster s k lane
    let p2p := s.pn 6 k 0x21 != 0
    match m with
    | .sync =>
      if !master then done s
      else if s.pn 6 k 0x24 = 1 then done (sendPtp k lane .sync tx s)
      else done (sendPtp k lane .followUp tx (sendPtp k lane .sync 0 s))
    | .announce => if master then done (s.emit (.ptp lane .announce tx (ptpHead s k lane .announce (some (announceDs s k lane))))) else done s
    | .delayReq =>
      if slave && !p2p then
        done (modPtp k (fun p => { p with seq := (p.seq + 1) % 65536, reqTx := some (p.seq, tx) }) s |> sendPtp k lane .delayReq tx)
      else done s
    | .pdelayReq =>
      if p2p then
        done (modPtp k (fun p => { p with seq := (p.seq + 1) % 65536, reqTx := some (p.seq, tx), respT2 := none }) s |>
          sendPtp k lane .pdelayReq tx)
      else done s
    | _ => done s

/-! Reading time (R66, Table 2-7). -/

def tbCode : TbSt → Nat
  | .free => 0 | .acquiring => 1 | .locked => 2 | .holdover => 3 | .slewing => 4 | .steering => 5

def satS32 (i : Int) : Word := BitVec.ofInt 32 (clampI (-2147483648) 2147483647 i)

/-- The eight words of TB[k]'s read block. -/
def timeWords (s : State) (k : Nat) : List Word :=
  let b := s.tb k
  let q := b.q
  let tick := (BitVec.ofInt 64 s.tickNow).toNat
  let w := fun (n : Nat) => BitVec.ofNat 32 n
  [w (tbCode b.st * 2 ^ 28 + (if s.alm.coarse then 2 ^ 27 else 0) + tbSrc s k % 8 * 2 ^ 24 + b.leaps * 2 ^ 16 + fracOf q),
   w (nsOf q), w (secOf q), w (secOf q / 2 ^ 32), BitVec.ofInt 32 b.rate, satS32 (Int.fdiv b.off 256),
   if k = 0 then w tick else 0, if k = 0 then w (tick / 2 ^ 32) else 0]

/-- TIME_STAT_READ: the read takes the snapshot of the whole block into the partition's holding register (R66). -/
def execTimeStatRead (dt : Nat) (p : Fin 8) (k : Fin 4) (s : State) : Host.Outcome State Fault Refusal :=
  let s := s.begin dt
  if !hasWindow s p then done s
  else
    let ws := timeWords s k
    done ((s.modHp p (fun h => { h with timeSnap := tabPut h.timeSnap k ws })).emit (.read p (ws.headD 0)))

end Sys2Proof.Machine
end

