-- ==== Sys2Proof/Machine/PlynLink.lean ====
section
/-! DEFINITION. PlynLink ports (spec/07_plynlink.md): training, frames, delay filters, the lead-time budget, CFG and DIAG requests,
telemetry; and the pre-start diagnostics that run over it (spec/08_switch_protection.md R264 to R267). -/
namespace Sys2Proof.Machine

/-- The edge record of Table 7-6. Below version 2.1 EDGE_ID and FCLR are 0 (Table 7-12). -/
def edgeRecord (version : Nat) (e : Edge) : BitVec 64 :=
  let v21 := decide (0x21 ≤ version)
  BitVec.ofNat 64 (e.ch % 4 * 2 ^ 62 + (if e.high then 2 ^ 61 else 0) + (if e.on then 2 ^ 60 else 0)
    + (if v21 && e.fclr then 2 ^ 59 else 0) + (if v21 then e.id % 4096 * 2 ^ 44 else 0) + exCount e.exec)

/-! Formation, repetition and beacons. -/

/-- The formation instant at which a record is framed: the first at or after its hand-over, in units of 250 ns. -/
def formAt (e : Edge) : Nat := (e.release + 3999) / 4000

/-- The records of one port in frames of at most four that share their formation instant (R213). -/
def framesOf (l : List Edge) : List (List Edge) :=
  l.foldl (fun acc e => match acc.getLast? with
    | some f => if f.length < 4 && f.all (fun x => formAt x == formAt e) then acc.dropLast ++ [f ++ [e]] else acc ++ [[e]]
    | none => [[e]]) []

/-- Does the member send EDGE frames on the port? Not while it is JOINING or DETACHED (Table 12-1), nor on a port that is not READY
(R19, R228 step 1). -/
def sendsEdges (s : State) (p : Nat) : Bool := !mute s && (s.port p).st == .ready

/-- The frames of one port, each with the next EDGE SEQ (R213). Where none may leave, the numbers pass all the same: they stay
those of the partner (R219). -/
def formFrames (p : Nat) (s : State) : State :=
  (framesOf (s.port p).edges).foldl (fun s es =>
    let q := s.port p
    let t := s.modPort p (fun q => { q with seqEdge := (q.seqEdge + 1) % 65536 })
    if sendsEdges s p then t.emit (.plink p (.edge q.seqEdge (es.map (edgeRecord q.version)))) else t)
    (s.modPort p (fun q => { q with edges := [] }))

/-- EDGE_FRAME_FORMATION: at each multiple of 250 ns of TB[0] every port's handed-over records are framed (R213). At another
instant only time passes. -/
def execEdgeFrameFormation (dt : Nat) (s : State) : Host.Outcome State Fault Refusal :=
  let s := s.begin dt
  if !s.strikes 0 (250 * nsecQ) 0 then done s
  else done (((s.plk.port.filter (fun e => !e.2.edges.isEmpty)).map (·.1)).foldl (fun s p => formFrames p s) s)

/-- One port's repetition: BLOCK and safe levels immediate, RELEASE timed, one frame per EFF in force (R220); NO_CHANGE while
JOINING or DETACHED (R335). -/
def repeatState (p : Nat) (s : State) : State :=
  let q := s.port p
  if mute s then sendState false s.nowStep [15, 15, 15, 15] p s
  else
    let imm := (List.range 4).map (fun j => if q.code.getD j 0 = 1 then 15 else q.code.getD j 0)
    let s := if imm.any (· != 15) then sendState true s.nowStep imm p s else s
    let effs := ((List.range 4).filter (fun j => q.code.getD j 0 = 1)).foldl (fun l j => insNat (q.eff.getD j 0) l) []
    effs.foldl (fun s e => sendState false e
      ((List.range 4).map (fun j => if q.code.getD j 0 = 1 && q.eff.getD j 0 = e then 1 else 15)) p s) s

/-- STATE_REPEAT: at each multiple of 10 µs of TB[0], from symbol lock on (R220). -/
def execStateRepeat (dt : Nat) (s : State) : Host.Outcome State Fault Refusal :=
  let s := s.begin dt
  if !s.strikes 0 (10000 * nsecQ) 0 then done s
  else done ((portsUp s).foldl (fun s p => repeatState p s) s)

/-- BEACON_DUE: at each whole microsecond of TB[0] a beacon, whose TX_TIME the serialiser inserts as it leaves; DREQ_HOP cycles
through the discovered hops (R207, R210). -/
def execBeaconDue (dt : Nat) (p : Fin 64) (s : State) : Host.Outcome State Fault Refusal :=
  let s := s.begin dt
  let q := s.port p
  if !linkSends q.st || !s.strikes 0 (1000 * nsecQ) 0 then done s
  else
    let n := q.sats.length
    let dreq := if n = 0 then none else some (q.dreqHop % n)
    let s := s.modPort p (fun q => { q with
      seqBeacon := (q.seqBeacon + 1) % 65536
      dreqHop := if n = 0 then 0 else (q.dreqHop + 1) % n })
    done (s.emit (.plink p (.beacon q.seqBeacon 0 dreq
      (q.delay.toList.map (fun d => if d.valid then some d.value else none)))))

/-! Delay and budget (R210, R231). -/

/-- The mean of 16 doubled measurements, rounded to a step, ties to even. -/
def meanDelay (l : List (Int × Nat)) : Nat :=
  let sum := l.foldl (fun a e => a + e.1) 0
  if sum < 0 then 0 else divEven sum.toNat 32

/-- One measurement, as 2 d: the new filter, whether DELAY was updated, and whether the filter restarted (R210). -/
def Delay.measure (f : Delay) (d2 : Int) (corr : Nat) : Delay × Bool × Bool :=
  let m := (d2, corr)
  if f.valid && decide (128 < (d2 - 2 * f.value).natAbs) then
    let rej := m :: f.rej
    if rej.length < 16 then ({ f with rej := rej }, false, false)
    else ({ f with value := meanDelay rej, acc := rej, rej := [] }, true, true)
  else
    let acc := (m :: f.acc).take 16
    let ok := decide (acc.length = 16)
    ({ f with acc := acc, rej := [], valid := f.valid || ok, value := if ok then meanDelay acc else f.value }, ok, false)

/-- H(h) of R231, in steps. -/
def hopExtra (q : Port) (h : Nat) : Nat :=
  ((vget q.delay h {}).acc.foldl (fun m e => max m e.2) (1920 * h))

/-- max over the discovered hops of DELAY[h] + H(h). -/
def worstHop (q : Port) : Nat := (q.sats.map (fun a => (vget q.delay a.hop {}).value + hopExtra q a.hop)).foldl max 0

/-- B(p) in steps. -/
def portBudget (s : State) (p : Nat) : Nat := 2400 + (4000 + 264 * charStep s p) + worstHop (s.port p) + 3200

/-- BLOCK_LAT(p) in steps (R247). -/
def blockLat (s : State) (p : Nat) : Nat := 4000 + 24 * charStep s p + worstHop (s.port p) + 1600

/-- Whole nanoseconds of a count of steps, rounded up, and down (R543). -/
def nsUp (st : Nat) : Nat := (st + 15) / 16
def nsDown (st : Int) : Int := Int.fdiv st 16

def lcmdSteps (s : State) : Nat := s.alm.lcmd / stepQ

def setBudget (p : Nat) (s : State) : State :=
  let b := portBudget s p
  s.modPort p (fun q => { q with budget := nsUp b, slack := nsDown ((lcmdSteps s : Int) - b) })

/-- R231: the budget again at every update of a DELAY; in ARMED and RUN an excess raises PORT_BUDGET_LOST, once a run (R253). -/
def recheckBudget (p : Nat) (s : State) : State :=
  let s := setBudget p s
  if (s.port p).st ≠ .ready then s
  else
    let short := decide (lcmdSteps s < portBudget s p)
    let s := if short then condFails 0x3002 2 p s else condHolds 0x3002 2 p s
    if s.dev = .armed || s.dev = .run then runRaise 0x3002 2 p (s.port p).budget 0 (portScope s p) short s else s

/-! CFG and DIAG requests (R225). -/

/-- In a pair only the active sends requests (R225), but for those with which every member trains its own link (R228, R349 step 4;
DEDUCED, notes/assumptions/119.md). -/
def mayRequest (s : State) (p : Nat) : Bool := !s.pairEn || s.rdn.role == 1 || (s.port p).st != .ready

/-- Send waiting requests of a port while their satellite has fewer than four outstanding. -/
def pumpReqs (p : Nat) (s : State) : State :=
  if !mayRequest s p then s
  else
    (s.port p).reqs.foldl (fun s r =>
      let q := s.port p
      if r.sent || decide (4 ≤ (q.reqs.filter (fun x => x.hop == r.hop && x.sent)).length) then s
      else
        (s.modPort p (fun q => { q with
          reqs := q.reqs.map (fun x => if x.diag == r.diag && x.seq == r.seq then { x with sent := true, at_ := s.now } else x) })).emit
          (.plink p (.cfg r.diag r.seq r.hop r.op r.addr r.data))) s

/-- Queue a request under the next SEQ of its type. -/
def addReq (p hop : Nat) (diag : Bool) (op addr data use : Nat) (s : State) : State :=
  s.modPort p (fun q =>
    let n := if diag then q.seqDiag else q.seqCfg
    { q with
      reqs := q.reqs ++ [{ hop := hop, seq := n, diag := diag, op := op, addr := addr, data := data, use := use }]
      seqDiag := if diag then (n + 1) % 65536 else q.seqDiag
      seqCfg := if diag then q.seqCfg else (n + 1) % 65536 })

def writeReg (p hop addr data use : Nat) (s : State) : State := addReq p hop false 2 addr data use s

/-! Pre-start diagnostics. -/

def sweepOf (s : State) (p hop : Nat) : Option Sweep := s.spu.sweeps.find? (fun w => w.port == p && w.hop == hop)
def setSweep (w : Sweep) (s : State) : State :=
  { s with spu := { s.spu with sweeps := s.spu.sweeps.map (fun x => if x.port == w.port && x.hop == w.hop then w else x) } }

def chOf (w : Sweep) : Nat := 4 * w.port + w.pos

/-- I_TEST in units of 10 µA: SWEEP_I is binary32 in mA. -/
def sweepI (s : State) : Nat := (mulRound (s.pn 4 0x400 0x12) 100).toNat
def sweepT (s : State) : Nat := s.ptn 4 0x400 0x13 / 65536000

/-- Send CFG SWEEP: TEST 1 RAIL or 2 LOAD (R265). -/
def sendSweep (w : Sweep) (test : Nat) (s : State) : State :=
  addReq w.port w.hop false 5 w.pos (test * 2 ^ 24 + sweepI s % 4096 * 2 ^ 12 + sweepT s % 4096) 2 s

def setSweepRes (c r : Nat) (s : State) : State := { s with spu := { s.spu with sweepRes := tabPut s.spu.sweepRes c r } }
def setGuardRes (c r : Nat) (s : State) : State := { s with spu := { s.spu with guardRes := tabPut s.spu.guardRes c r } }

/-- A SWEEP_RES with its code (R266). -/
def sweepResult (c r : Nat) (s : State) : State :=
  let s := setSweepRes c r s
  let code := match r with | 2 => some 0x1020 | 3 => some 0x1021 | 4 => some 0x1022 | 6 => some 0x1023 | _ => none
  match code with
  | some k => raise k 1 c 0 0 [c] s
  | none => if r = 1 then [0x1020, 0x1021, 0x1022, 0x1023].foldl (fun s k => condHolds k 1 c s) s else s

/-- R266: classify a swept channel from R_P, R_N and R_LOAD in ohms. A test that ABORTED measured nothing. -/
def classify (s : State) (railAborted : Bool) (rail load : Word) : Nat :=
  let rp := rail.toNat / 65536
  let rn_ := rail.toNat % 65536
  let rl := load.toNat / 65536
  let below := fun (r : Nat) => fLt fmt32 (fOfInt fmt32 r) (s.pn 4 0x400 0x14)
  let above := fLt fmt32 (s.pn 4 0x400 0x15) (fOfQ fmt32 rl 1000)
  let loadAborted := load.toNat / 4 % 4 == 3
  if !railAborted && below rp then 2 else if !railAborted && below rn_ then 3 else if !loadAborted && above then 4
  else if railAborted || loadAborted then 5 else 1

/-- The position the sweep of a satellite takes next, from `pos` on: groups in OFF mode are not swept. -/
def nextPos (s : State) (p hop pos : Nat) : Option Nat :=
  match (s.port p).sats.find? (fun a => a.hop == hop) with
  | some a => ((List.range a.chans).map (a.first + ·)).find? (fun j => decide (pos ≤ j) && modeOf s (4 * p + j) != 0)
  | none => none

/-- The guard position the self-test of a satellite takes next. -/
def nextGuard (s : State) (p hop pos : Nat) : Option Nat :=
  match (s.port p).sats.find? (fun a => a.hop == hop) with
  | some a => ((List.range a.chans).map (a.first + ·)).find? (fun j => decide (pos ≤ j) && s.pn 4 (4 * p + j) 2 == 1)
  | none => none

/-- The diagnostics end when every satellite is done: PRESTART 2 passed or 3 failed (R264, R266). -/
def endPrestart (s : State) : State :=
  if s.spu.prestart = 1 && s.spu.sweeps.all (fun w => w.step == 6) then
    let strict := s.pn 4 0x400 0x11 == 1
    let gstrict := s.pn 4 0x400 0x21 == 1
    let bad := s.spu.sweepRes.any (fun e => e.2 == 2 || e.2 == 3 || e.2 == 4 || e.2 == 6 || (e.2 == 5 && strict)) ||
      s.spu.guardRes.any (fun e => e.2 == 2 || (e.2 == 3 && gstrict))
    { s with spu := { s.spu with prestart := if bad then 3 else 2, sweeps := [] } }
  else s

/-- The next step of one satellite after the sweep: the self-test of its guard positions from `pos` on. -/
def goGuard (w : Sweep) (pos : Nat) (s : State) : State :=
  match (if s.pn 4 0x400 0x20 = 1 then nextGuard s w.port w.hop pos else none) with
  | some j =>
    let c := 4 * w.port + j
    if (s.port w.port).version < 0x31 then
      -- R229: below version 3.1 a guard channel cannot be self-tested.
      let s := raise 0x1031 1 c 0 0 [c] (setGuardRes c 3 s)
      setSweep { w with pos := j, step := 7 } s
    else setSweep { w with pos := j, step := 4 } (addReq w.port w.hop false 6 j 0xF 3 s)
  | none => endPrestart (setSweep { w with step := 6 } s)

/-- Past guard positions that cannot be tested (at most four per satellite). -/
def goGuards (p hop : Nat) : Nat → Nat → State → State
  | 0, _, s => s
  | fuel + 1, pos, s =>
    match sweepOf s p hop with
    | some w =>
      let s := goGuard w pos s
      match sweepOf s p hop with
      | some w' => if w'.step = 7 then goGuards p hop fuel (w'.pos + 1) s else s
      | none => s
    | none => s

/-- Sweep of a satellite from position `pos` on, at most four of them: one that a reaction has covered gets no test (Table 8-4). -/
def goSweepN (p hop : Nat) : Nat → Nat → State → State
  | 0, _, s => goGuards p hop 5 0 s
  | fuel + 1, pos, s =>
    match sweepOf s p hop with
    | some w =>
      match (if s.pn 4 0x400 0x10 = 1 then nextPos s p hop pos else none) with
      | some j =>
        if w.hit.contains j then goSweepN p hop fuel (j + 1) (sweepResult (4 * p + j) 6 s)
        else sendSweep { w with pos := j } 1 (setSweep { w with pos := j, step := 0, aborted := false } s)
      | none => goGuards p hop 5 0 s
    | none => s
def goSweep (p hop pos : Nat) (s : State) : State := goSweepN p hop 4 pos s

/-- The diagnostics of a satellite whose link is gone: no result for the positions still to come (R266). -/
def endSweep (w : Sweep) (s : State) : State :=
  let left := fun (pos : Nat) (f : Nat → Bool) => match (s.port w.port).sats.find? (fun a => a.hop == w.hop) with
    | some a => ((List.range a.chans).map (a.first + ·)).filter (fun j => decide (pos ≤ j) && f j)
    | none => []
  let sw := if w.step ≤ 3 && s.pn 4 0x400 0x10 = 1 then left w.pos (fun j => modeOf s (4 * w.port + j) != 0) else []
  let gd := if w.step ≤ 5 && s.pn 4 0x400 0x20 = 1 then left (if w.step ≤ 3 then 0 else w.pos) (fun j => s.pn 4 (4 * w.port + j) 2 == 1) else []
  let s := sw.foldl (fun s j => sweepResult (4 * w.port + j) 6 s) s
  let s := gd.foldl (fun s j => raise 0x1030 1 (4 * w.port + j) 0 0 [4 * w.port + j] (setGuardRes (4 * w.port + j) 2 s)) s
  setSweep { w with step := 6 } s
def endSweeps (p : Nat) (s : State) : State :=
  endPrestart ((s.spu.sweeps.filter (fun w => w.port == p && decide (w.step < 6))).foldl (fun s w => endSweep w s) s)

/-- Start the diagnostics on the listed ports; all satellites run in parallel (R264, R265). -/
def startPrestart (ps : List Nat) (s : State) : State :=
  let ws := ps.flatMap (fun p => if (s.port p).st = .ready then (s.port p).sats.map (fun a => ({ port := p, hop := a.hop, pos := 0 } : Sweep)) else [])
  let cs := ps.flatMap (fun p => (List.range 4).map (4 * p + ·))
  let s := { s with spu := { s.spu with
    prestart := 1, sweeps := s.spu.sweeps.filter (fun w => !ps.contains w.port) ++ ws
    sweepRes := s.spu.sweepRes.filter (fun e => !cs.contains e.1), guardRes := s.spu.guardRes.filter (fun e => !cs.contains e.1) } }
  let s := ws.foldl (fun s w => goSweep w.port w.hop 0 s) s
  endPrestart (ps.foldl (fun s p => pumpReqs p s) s)

/-- Ports in use. -/
def enabledPorts (s : State) : List Nat := (List.range 64).filter (fun p => s.pn 5 p 1 = 1)

/-- Every enabled port is READY, refused, or has failed to train once (R264, R489). -/
def portsSettled (s : State) : Bool :=
  (enabledPorts s).all (fun p => (s.port p).st == .ready || (s.port p).st == .refused || (s.port p).failedOnce)

/-- In ARMED the diagnostics start once every port has settled, and again on a port that becomes READY later (R264). A joiner
takes its partner's results while that is in RUN or BLOCKED (R349). -/
def maybePrestart (p : Nat) (s : State) : State :=
  if s.dev ≠ .armed || s.rdn.role = 3 then s
  else if s.spu.prestart = 0 then (if portsSettled s then startPrestart (enabledPorts s) s else s)
  else if (s.port p).st = .ready then startPrestart [p] s
  else s

/-- Run the diagnostics again from the start, at RESUME and at PRESTART_RUN, once every enabled port has settled (R264). -/
def restartPrestart (s : State) : State :=
  maybePrestart 0 { s with
    spu := { s.spu with prestart := 0, sweeps := [] }
    plk := { s.plk with port := s.plk.port.map (fun e => (e.1, { e.2 with reqs := e.2.reqs.filter (fun r => r.use != 2 && r.use != 3) })) } }

/-- The answer to a FAULT_CLEAR for a satellite's latched fault: cleared, or refused with SOURCE_ACTIVE; the host's response
follows when no satellite's answer is missing (R259, Table 14-9). -/
def clearAnswered (c : Nat) (ok : Bool) (s : State) : State :=
  let hs := s.spu.held.filter (fun h => h.clearing && h.lr.kind == 1 && h.lr.index == c)
  let s := { s with spu := { s.spu with held := s.spu.held.map (fun h =>
    if h.clearing && h.lr.kind == 1 && h.lr.index == c then { h with clearing := false } else h) } }
  let s := if ok then hs.foldl (fun s h => finishClear h s) s else s
  match s.spu.clearBy with
  | none => s
  | some (p, bad) =>
    let bad := match bad, hs with | none, h :: _ => if ok then none else some (h.lr.code, h.lr.index) | b, _ => b
    if s.spu.held.any (·.clearing) then { s with spu := { s.spu with clearBy := some (p, bad) } }
    else
      let s := { s with spu := { s.spu with clearBy := none } }
      match bad with
      | none => accepted p s
      | some (code, i) => refuse p stSourceActive code i s

/-- The requests of a port go, with its training: those of a FAULT_CLEAR get no answer any more, and a sweep no result. A lower
DEADTIME that waits for its satellite is asked again after the training (R218). -/
def dropReqs (p : Nat) (s : State) : State :=
  let rs := (s.port p).reqs.filter (fun r => r.use == 1)
  let s := endSweeps p (s.modPort p (fun q => { q with
    reqs := (q.reqs.filter (fun r => r.use == 4)).map (fun r => { r with sent := false, tries := 0 }) }))
  rs.foldl (fun s r => ((List.range 4).filter (fun j => r.data.testBit j)).foldl (fun s j => clearAnswered (4 * p + j) false s) s) s

/-! Training (R228, R229). -/

def chClear (p : Nat) (s : State) : State := (List.range 4).foldl (fun s j => s.modTel (4 * p + j) (fun _ => {})) s

/-- The HALT fields of a port (Table 7-15). -/
def portHalt (p : Nat) (id : Nat) : Bool := idUnit id == 5 && idInst id == p && [1, 2, 3, 4, 6, 7, 8, 13].contains (idField id)

/-! The analogue front end of a lane (spec/16_serial_lanes.md R426, R428). -/

def lane (s : State) (n : Nat) : Lane := tabGet s.lanes.lane n {}
def modLane (n : Nat) (f : Lane → Lane) (s : State) : State :=
  { s with lanes := { s.lanes with lane := tabMod s.lanes.lane n {} f } }
def lf (w : Nat → Wire) (n f : Nat) : Nat := lo32 (w (mkId 14 n f))

/-- RX_EQ, EQ_AUTO, TX_SWING and TX_DEEMPH take their pending values (R426). -/
def promoteFront (n : Nat) (s : State) : State :=
  promoteWhere (fun e => idUnit e.id == 14 && idInst e.id == n && decide (3 ≤ idField e.id) && decide (idField e.id ≤ 6)) s

/-- The equaliser in use: the setting of the widest eye, `eq`, or RX_EQ (R428). -/
def eqSetting (s : State) (n eq : Nat) : Nat := if lf s.wire n 4 = 1 then eq else (mulRound (lf s.wire n 3) 1).toNat

/-- A retraining of a lane in L0: pending analogue fields apply, and the equaliser is set anew; which eye is the widest stays open
(R426, R428). -/
def retrainFront (n : Nat) (s : State) : State :=
  if (lane s n).pst ≠ 0 then s
  else
    let f := (promoteFront n s).freeWord
    modLane n (fun x => { x with eqEff := eqSetting f.2 n (f.1.toNat % 16) }) f.2

/-- Step 1: the port sends only /I/ and /X/; its counters start at 0 (R205), but while the peer's link to the port is READY they are
those of the peer: STATE SEQ as its DIG names it, EDGE SEQ as both count it, and CFG and DIAG SEQ as the join took them over (R219;
DEDUCED, notes/assumptions/120.md). A pending HALT field of the port whose tick has come applies now (R239). -/
def startTraining (p : Nat) (s : State) : State :=
  let s := clearTx p (dropReqs p s)
  let mine := s.pend.filter (fun e => portHalt p e.id && decide (e.tick ≤ s.tickNow))
  let s : State := { s with par := mine.foldl (fun (t : Tab Wire) (e : Pend) => tabPut t e.id e.val) s.par
                            pend := s.pend.filter (fun e => !mine.contains e) }
  if s.pn 5 p 1 = 0 then s.modPort p (fun q => { q with st := .off })
  else if s.pn 14 p 8 ≠ 0 then s.modPort p (fun q => { q with st := .down })
  else
    let peer := s.pairEn && s.rdn.pdig.ready.getLsbD p
    let asked := (s.port p).reqs
    let seq := if peer then s.rdn.pdig.stateSeq.getD p 0 else 0
    asked.foldl (fun s r => writeReg p r.hop r.addr r.data 4 s) (chClear p (s.modPort p (fun q =>
      { discards := q.discards, retries := q.retries, xIns := q.xIns, xDel := q.xDel
        st := .lock, trainAt := s.now, failedOnce := q.failedOnce, seqState := seq
        seqEdge := if peer then q.seqEdge else 0, seqCfg := if peer then q.seqCfg else 0, seqDiag := if peer then q.seqDiag else 0 })))

/-- SYMBOL_LOCK: from here STATE BLOCK and beacons leave, and HELLO is broadcast (R219, R220, R228 steps 3 and 4). -/
def execSymbolLock (dt : Nat) (p : Fin 64) (s : State) : Host.Outcome State Fault Refusal :=
  let s := s.begin dt
  if (s.port p).st ≠ .lock then done s
  else
    let s := s.modPort p (fun q => { q with st := .hello, sats := [], helloAt := s.now, lastRx := [s.now, s.now, s.now, s.now] })
    let s := repeatState p s
    let q := s.port p
    done ((s.modPort p (fun q => { q with seqCfg := (q.seqCfg + 1) % 65536 })).emit
      (.plink p (.cfg false q.seqCfg 7 1 0 (s.pn 5 p 4 * 2 ^ 24 + 0x20 * 2 ^ 16))))

def portRefused (p code : Nat) (s : State) : State :=
  let s := (dropReqs p s).modPort p (fun q => { q with st := .refused })
  let s := raise code 2 p (s.port p).budget 0 (portScope s p) s
  maybePrestart p s

/-- Version and chain of the satellites that answered (R229): the agreed version, or the fault that refuses the port. -/
def agree (s : State) (p : Nat) (sats : List Sat) : Except Nat Nat :=
  let own := s.pn 5 p 4
  let v := sats.foldl (fun m a => min m a.verMax) own
  let lo := sats.foldl (fun m a => max m a.verMin) 0
  let hops : Nat := sats.length
  let total : Nat := sats.foldl (fun n a => n + a.chans) 0
  if sats.isEmpty then .error 0x3004
  else if v < lo then .error 0x3003
  else if hops ≠ s.pn 5 p 3 || !(List.range hops).all (fun h => sats.any (fun a => a.hop == h)) || decide (4 < total) ||
      ((s.pn 5 p 2 == 1 || decide (1 < hops)) && decide (v < 0x30)) then .error 0x3004
  else .ok v

/-- The DEADTIME a satellite gets in training: that of the channel, or a lower one that waits (R218). -/
def lowestDeadtime (s : State) (c : Nat) : Nat :=
  (s.pend.filter (fun e => e.id == mkId 3 c 4)).foldl (fun m e => min m e.val.toInt.toNat) (s.ptn 3 c 4)

/-- Satellite registers written in training: AGREED first, then the others of Table 7-14 that the port's fields set. -/
def trainWrites (p : Nat) (a : Sat) (v : Nat) (s : State) : State :=
  let ns := fun (f : Nat) => s.ptn 5 p f / nsecQ
  let s := writeReg p a.hop 0x000C v 0 s
  let s := writeReg p a.hop 0x0010 (ns 6) 0 s
  let s := writeReg p a.hop 0x0014 (ns 7) 0 s
  let s := writeReg p a.hop 0x0018 (ns 8) 0 s
  let s := writeReg p a.hop 0x002C (s.pn 5 p 13) 0 s
  (List.range a.chans).foldl (fun s j =>
    writeReg p a.hop (0x0100 + 0x40 * (a.first + j)) (lowestDeadtime s (4 * p + a.first + j) / stepQ) 0 s) s

/-- HELLO_WINDOW_END: 100 µs after HELLO (R228 steps 5 and 6). -/
def execHelloWindowEnd (dt : Nat) (p : Fin 64) (s : State) : Host.Outcome State Fault Refusal :=
  let s := s.begin dt
  let q := s.port p
  if q.st ≠ .hello || s.now < q.helloAt + 100000 * nsecQ then done s
  else match agree s p q.sats with
    | .error code => done (portRefused p code s)
    | .ok v =>
      let pos := q.sats.foldl (fun m a => (List.range a.chans).foldl (fun m j => m ||| 2 ^ (a.first + j)) m) 0
      let s := s.modPort p (fun q => { q with st := .config, version := v, positions := pos })
      done (pumpReqs p (q.sats.foldl (fun s a => trainWrites p a v s) s))

/-- TEL_LEAD in steps (R223). -/
def telLead (s : State) (p : Nat) : Nat :=
  let q := s.port p
  let far := q.sats.foldl (fun m a => max m (vget q.delay a.hop {}).value) 0
  far + 1920 * q.sats.length + 252 * charStep s p + 8000

/-- With every delay known, TEL_ORIGIN and TEL_PERIOD are written: the count of a tick instant less TEL_LEAD (R223). -/
def startTel (p : Nat) (s : State) : State :=
  let lead := telLead s p
  let per := s.alm.period / stepQ
  let n := s.tickNow + 2 + ((lead / (max per 1) : Nat) : Int)
  let origin := (s.tickAt n / stepQ).toNat - lead
  let s := s.modPort p (fun q => { q with st := .replica, telOrigin := origin, telLead := lead })
  pumpReqs p ((s.port p).sats.foldl (fun s a =>
    let s := writeReg p a.hop 0x0024 (exCount origin % 2 ^ 32) 5 s
    let s := writeReg p a.hop 0x0028 (exCount origin / 2 ^ 32) 5 s
    writeReg p a.hop 0x0020 per 5 s) s)

/-- The served positions all report REPLICA_OK and the delays are valid: the budget decides (R228 steps 8 and 9, R231). -/
def tryReady (p : Nat) (s : State) : State :=
  let q := s.port p
  if q.st = .replica && (portScope s p).all (fun c => (s.tel c).seen && (s.tel c).status.getLsbD 20) then
    let s := setBudget p s
    if lcmdSteps s < portBudget s p then portRefused p 0x3001 s
    else
      let s := s.modPort p (fun q => { q with st := .ready })
      let s := [0x3001, 0x3003, 0x3004, 0x3005, 0x3010].foldl (fun s k => condHolds k 2 p s) s
      let s := if (s.port p).version < 0x31 then s else (portScope s p).foldl (fun s c => condHolds 0x1031 1 c s) s
      let s := if s.pairEn && s.dev = .run then
          { s with mod := { s.mod with relNext := s.mod.relNext ++ portScope s p } } else s
      maybePrestart p s
  else s

/-- A valid upstream frame from a hop: supervision restarts and LINK_SUPERVISION may clear (Table 7-17). The filler that the receiver
has deleted and inserted since the frame before is counted; how much that is, the manual leaves to the clocks of both ends
(notes/assumptions/118.md). -/
def frameFrom (p hop : Nat) (s : State) : State :=
  condHolds 0x3011 3 (4 * p + hop) (s.modPort p (fun q => { q with
    lastRx := q.lastRx.set hop s.now
    xIns := satAdd32 q.xIns (Config.filler true p s.clock), xDel := satAdd32 q.xDel (Config.filler false p s.clock) }))

/-- A reply to a beacon: a delay measurement of the hop (R210), then the budget (R231). -/
def beaconReply (p : Fin 64) (hop : Fin 4) (bseq tTurn : Nat) (corrDn corrUp : Int) (s : State) : State :=
  let q := s.port p
  if !linkSends q.st then s
  else
    let s := frameFrom p hop s
    match (tabGet s.tx.beacons p []).find? (fun e => e.1 == bseq) with
    | none => s
    | some (_, tx) =>
      let d2 : Int := (s.nowStep : Int) - tx - tTurn - corrDn - corrUp + s.pt 5 p 5 / stepQ
      let m := (vget q.delay hop {}).measure d2 corrDn.toNat
      let s := s.modPort p (fun q => { q with delay := vmod q.delay hop (fun _ => m.1) })
      let s := if m.2.2 then
          condHolds 0x3014 3 (4 * p + hop) (raise 0x3014 3 (4 * p + hop) m.1.value 0 (hopScope s p hop) s) else s
      let s := if m.2.1 then recheckBudget p s else s
      let q := s.port p
      if q.st = .delay && q.sats.all (fun a => (vget q.delay a.hop {}).valid) then startTel p s else s

def execBeaconReplyRx (dt : Nat) (p : Fin 64) (hop : Fin 4) (bseq tTurn : Nat) (corrDn corrUp : Int) (s : State) :
    Host.Outcome State Fault Refusal :=
  done (beaconReply p hop bseq tTurn corrDn corrUp (s.begin dt))

/-! Telemetry (R223, R224) and the satellite codes of Table 8-5. -/

/-- The time nearest below now whose execute count is `e` (R38). -/
def timeOfCount (now e : Nat) : Nat := now - (exCount now + 2 ^ 44 - e % 2 ^ 44) % 2 ^ 44

/-- The items of a frame: raw values in increasing j, converted as fma(raw, scale, offset) (R224). -/
def convItems (s : State) (c : Nat) (version : Nat) (mask : BitVec 16) (items : List (BitVec 16)) : List (Nat × F32) :=
  let js := (List.range 16).filter (fun j => mask.getLsbD j && (decide (j < 8) || decide (0x31 ≤ version)))
  (js.zip items).map (fun e => (e.1, BitVec.ofNat 32 (fFma fmt32 (fOfInt fmt32 e.2.toInt)
    (s.pn 5 (0x100 + c) (0x20 + e.1)) (s.pn 5 (0x100 + c) (0x30 + e.1)))))

/-- A level of STATUS: raised at the first frame of a run that shows it, its clearing condition met by a frame without it. -/
def satLevel (code c : Nat) (scope : List Nat) (kind index : Nat) (st t : Nat) (cond : Bool) (s : State) : State :=
  let s := runRaise code kind index st t scope cond s
  let _ := c
  if cond then s else condHolds code kind index s

/-- An event bit of STATUS. -/
def satEvent (code c st t : Nat) (cond : Bool) (s : State) : State :=
  if cond then raise code 1 c st t [c] s else if code = 0x1010 then condHolds code 1 c s else s

/-- R257: a frame sampled after the clearing record shows the latch clear, or LEG_OPEN is applied again. -/
def confirmClear (c t : Nat) (faultBit : Bool) (s : State) : State :=
  (s.spu.held.filter (fun h => h.lr.kind == 1 && h.lr.index == c && (match h.trying with | some e => decide (e < t) | none => false))).foldl
    (fun s h =>
      if faultBit then
        let t := { s with spu := { s.spu with held := s.spu.held.map (fun x =>
          if sameFault h.lr.code 1 c x then { x with trying := none } else x) } }
        immediateStates s (discardChans [c] (repeatFault h.lr.code 1 c t))
      else clearHeld true h s) s

/-- STATUS of one accepted frame. -/
def applyStatus (p pos : Nat) (t : Nat) (st : Word) (old : Option Word) (s : State) : State :=
  let c := 4 * p + pos
  let b := fun i => st.getLsbD i
  let hop := ((s.port p).sats.find? (fun a => decide (a.first ≤ pos) && decide (pos < a.first + a.chans))).map (·.hop) |>.getD 0
  let n := st.toNat
  let tl := exCount t % 2 ^ 32
  let testing := decide (1 ≤ s.sfi.testPhase) && decide (s.sfi.testPhase ≤ 3)
  let s := confirmClear c t (b 31) s
  let s := runRaise 0x1001 1 c n tl [c] (b 30) s
  let s := runRaise 0x1002 1 c n tl [c] (b 29) s
  let s := if testing then s else
    let s := satLevel 0x1003 c [c] 1 c n tl (b 31 && b 28) s
    let s := satLevel 0x1004 c [c] 1 c n tl (b 31 && b 27) s
    satLevel 0x1005 c [c] 1 c n tl (b 31 && b 26) s
  let s := satLevel 0x1006 c (hopScope s p hop) 3 (4 * p + hop) n tl (b 25) s
  let s := satEvent 0x1010 c n tl (b 24) s
  let s := satEvent 0x1011 c n tl (b 23) s
  let s := satEvent 0x1012 c n tl (b 22) s
  let s := satEvent 0x1013 c n tl (b 21) s
  let was := match old with | some o => o.getLsbD 20 | none => false
  let s := if was && !b 20 && (s.dev = .armed || s.dev = .run) then
      raise 0x1014 3 (4 * p + hop) n tl (hopScope s p hop) s
    else if b 20 then condHolds 0x1014 3 (4 * p + hop) s else s
  let q := s.port p
  runRaise 0x1015 1 c n tl [c] (b 19 && s.dev = .run && q.code.getD pos 0 = 1 && decide (q.eff.getD pos 0 ≤ t)) s

/-- TEL_RX: convert, keep for its tick if scheduled, map STATUS, and see whether the port is ready (R223, R224, R228). -/
def execTelRx (dt : Nat) (p : Fin 64) (pos : Fin 4) (sampleTime : Nat) (status : Word) (mask : BitVec 16)
    (items : List (BitVec 16)) (s : State) : Host.Outcome State Fault Refusal :=
  let s := s.begin dt
  let q := s.port p
  if !linkSends q.st || !q.positions.testBit pos then done s
  else
    let c := 4 * p.val + pos.val
    let t := timeOfCount s.nowStep sampleTime
    let old := s.tel c
    let conv := convItems s c q.version mask items
    let per := s.alm.period / stepQ
    let sched := decide (q.telOrigin ≤ t) && per != 0 && (t - q.telOrigin) % per == 0
    let serves : Int := Int.fdiv (((t + q.telLead) * stepQ : Nat) - (s.alm.origin : Int)) (max s.alm.period 1)
    let s := s.modTel c (fun x => { x with
      status := status, sampleTime := t, seen := true
      wait := if sched && decide (s.tickNow < serves) then x.wait.filter (fun w => w.1 != serves) ++ [(serves, conv, t)] else x.wait
      waitSt := if sched && decide (s.tickNow < serves) then x.waitSt.filter (fun w => w.1 != serves) ++ [(serves, status)] else x.waitSt })
    let hop := (q.sats.find? (fun a => decide (a.first ≤ pos.val) && decide (pos.val < a.first + a.chans))).map (·.hop) |>.getD 0
    let s := frameFrom p hop s
    let s := applyStatus p pos t status (if old.seen then some old.status else none) s
    done (tryReady p s)

/-- R223: freeze for tick n the frames that serve it and were accepted before its instant. `use c`: the pair's intersection of
receipt maps holds the frame (R341). -/
def freezeTel (n : Int) (use : Nat → Bool) (s : State) : State :=
  { s with plk := { s.plk with tel := s.plk.tel.map (fun e =>
      let x := e.2
      let snap := match x.wait.find? (fun w => w.1 == n) with
        | some w => if use e.1 then w.2.1.foldl (fun m it => tabPut m it.1 (it.2, w.2.2)) x.items else x.items
        | none => x.items
      (e.1, { x with items := snap, snap := snap, wait := x.wait.filter (fun w => decide (n < w.1))
                     waitSt := x.waitSt.filter (fun w => decide (n < w.1)) })) } }

/-- A frame's STATUS reports a code of Table 8-5 (Table 7-10). -/
def statusReports (code : Nat) (st : Word) : Bool :=
  let b := fun i => st.getLsbD i
  if code = 0x1001 then b 30 else if code = 0x1002 then b 29
  else if code = 0x1003 then b 31 && b 28 else if code = 0x1004 then b 31 && b 27 else if code = 0x1005 then b 31 && b 26
  else if code = 0x1006 then b 25 else if code = 0x1010 then b 24 else if code = 0x1011 then b 23 else if code = 0x1012 then b 22
  else if code = 0x1013 then b 21 else if code = 0x1014 then !b 20 else if code = 0x1015 then b 19 else false

/-- The snapshot of tick n takes in the satellite faults that its frames report (R345): before freezeTel, with the same frames. -/
def enterReported (n : Int) (use : Nat → Bool) (s : State) : State :=
  let shows := fun (code c : Nat) => use c && (s.tel c).waitSt.any (fun w => w.1 == n && statusReports code w.2)
  { s with spu := { s.spu with held := s.spu.held.map (fun h =>
      if telCode h.lr.code && h.entered.isNone && h.scope.any (shows h.lr.code) then { h with entered := some n } else h) } }

/-- The receipt map of tick n: positions whose scheduled frame for n has been accepted (R341). -/
def receiptMap (s : State) (n : Int) : BitVec 256 :=
  s.plk.tel.foldl (fun m e => if e.2.wait.any (fun w => w.1 == n) then m ||| BitVec.ofNat 256 (2 ^ e.1) else m) 0

/-! Responses, retries and supervision. -/

/-- SUP_TIMEOUT_EFF (R226). Its floor may be no whole number of nanoseconds; R543 names no direction for it, and it is reported as it
is, in 2^-16 ns, and not rounded (DESIGN CHOICE, notes/assumptions/121.md). -/
def supEffQ (s : State) (p : Nat) : Nat :=
  max (s.ptn 5 p 11) ((s.pn 5 p 9 + 1) * s.ptn 5 p 10 + s.alm.period)

/-- R227: LINK_CFG_FAIL and LINK_SUPERVISION of one hop within one SUP_TIMEOUT_EFF form one record, in every place that holds it: the
code raised first, with the more severe of the two configured reactions. -/
def raiseLink (code other p hop cfg : Nat) (s : State) : State :=
  let ix := 4 * p + hop
  match s.spu.held.find? (fun h => sameFault other 3 ix h && decide (s.now ≤ h.time + supEffQ s p)) with
  | some h =>
    if cfg ≤ h.level then repeatFault other 3 ix s
    else
      let cover := if cfg = 2 then h.scope else if cfg = 3 then groupChans s h.scope else []
      let r := { h.lr with reactCfg := max cfg h.lr.reactCfg, reactApplied := cfg
                           reactDevice := max (deviceReaction s) (if 4 ≤ cfg then cfg else 0) }
      let h' := { h with lr := r, cover := cover }
      let t := { s with spu := { s.spu with held := s.spu.held.map (fun x => if sameFault other 3 ix x then h' else x) } }
      applyReaction s h' (repeatFault other 3 ix t)
  | none => raiseWith cfg code 3 ix 0 0 (hopScope s p hop) s

/-- LINK_DOWN and LINK_SUPERVISION are NOTE in a pair while the peer's link to the port is READY (Table 7-17), as the DIG frame of the
last completed tick says (R342). -/
def linkReact (s : State) (code p : Nat) : Nat :=
  if s.pairEn && s.rdn.pdig.ready.getLsbD p && decide (s.tickNow - 1 ≤ s.rdn.pdig.tick) then 1 else cfgReact s code

/-- LINK_SUPERVISION: nothing valid from the hop within SUP_TIMEOUT_EFF (R226). -/
def execLinkSupervision (dt : Nat) (p : Fin 64) (hop : Fin 4) (s : State) : Host.Outcome State Fault Refusal :=
  let s := s.begin dt
  let q := s.port p
  if q.st = .ready && q.sats.any (fun a => a.hop == hop.val) && decide (q.lastRx.getD hop 0 + supEffQ s p ≤ s.now) then
    done (raiseLink 0x3011 0x3012 p hop (linkReact s 0x3011 p) s)
  else done s

/-- Signal or lock lost on the lane of a port in use (Table 7-17): the port is DOWN until its lane returns. -/
def linkDown (p : Nat) (s : State) : State :=
  if (s.port p).st = .off then s
  else
    let s := if s.dev = .armed || s.dev = .run then
        raiseWith (linkReact s 0x3010 p) 0x3010 2 p 0 0 (portScope s p) s else s
    clearTx p ((dropReqs p s).modPort p (fun q => { q with st := .down, failAt := s.now, edges := [] }))

/-- TRAIN_TIMEOUT: not READY within TRAIN_TIMEOUT (R228). -/
def execTrainTimeout (dt : Nat) (p : Fin 64) (s : State) : Host.Outcome State Fault Refusal :=
  let s := s.begin dt
  let q := s.port p
  if q.st = .off || q.st = .ready || q.st = .refused || q.st = .down || s.now < q.trainAt + s.ptn 5 p 12 then done s
  else
    let s := clearTx p ((dropReqs p s).modPort p (fun q => { q with st := .down, failAt := s.now, failedOnce := true }))
    done (maybePrestart p (raise 0x3005 2 p 0 0 (portScope s p) s))

/-- TRAIN_RESTART: 100 ms after a failure, from step 1 (R228). -/
def execTrainRestart (dt : Nat) (p : Fin 64) (s : State) : Host.Outcome State Fault Refusal :=
  let s := s.begin dt
  if (s.port p).st = .down && decide ((s.port p).failAt + 100000000 * nsecQ ≤ s.now) && (s.dev.live || s.dev = .boot) then done (startTraining p (retrainFront p s)) else done s

/-- FRAME_DISCARDED: counted; more than 16 in 1 ms raise LINK_CRC (R204, Table 7-17). -/
def execFrameDiscarded (dt : Nat) (p : Fin 64) (s : State) : Host.Outcome State Fault Refusal :=
  let s := s.begin dt
  let ts := s.now :: ((s.port p).discardTimes.filter (fun t => decide (s.now < t + 1000000 * nsecQ)))
  let s := s.modPort p (fun q => { q with discards := sat32 q.discards, discardTimes := ts.take 64 })
  done (runRaise 0x3013 2 p ts.length 0 (portScope s p) (decide (16 < ts.length)) (condFails 0x3013 2 p s))

/-- A self-test result (R267). -/
def guardResult (w : Sweep) (word : Word) (s : State) : State :=
  let c := chOf w
  let pass := word.toNat / 2 ^ 28 = 15
  let s := setGuardRes c (if pass then 1 else 2) s
  let s := if pass then condHolds 0x1030 1 c s else raise 0x1030 1 c word.toNat 0 [c] s
  goGuards w.port w.hop 5 (w.pos + 1) s

/-- The result of a sweep or self-test read (R265 steps 3 and 6). -/
def diagResult (w : Sweep) (words : List Word) (s : State) : State :=
  match w.step with
  | 1 =>
    let rail := words.getD (2 * w.pos) 0
    let st := words.getD (2 * w.pos + 1) 0
    let w := { w with rail := rail, step := 2, aborted := st.toNat % 4 == 3 }
    sendSweep w 2 (setSweep w s)
  | 3 =>
    let load := words.getD (2 * w.pos + 1) 0
    let r := classify s w.aborted w.rail load
    goSweep w.port w.hop (w.pos + 1) (sweepResult (chOf w) r s)
  | 5 => guardResult w (words.getD w.pos 0) s
  | _ => s

/-- No result after RETRY (R266): NO_RESPONSE, and on to the next position. -/
def sweepNoResponse (w : Sweep) (s : State) : State :=
  if w.step ≤ 3 then goSweep w.port w.hop (w.pos + 1) (sweepResult (chOf w) 6 s)
  else
    let s := raise 0x1030 1 (chOf w) 0 0 [chOf w] (setGuardRes (chOf w) 2 s)
    goGuards w.port w.hop 5 (w.pos + 1) s

/-- A reaction during the diagnostics ends the sweep of the positions it covers with NO_RESPONSE, and the sweep goes on with the
others (Table 8-4). -/
def abortSweeps (s : State) : State :=
  endPrestart ((s.spu.sweeps.filter (fun w => decide (w.step ≤ 3) && w.hit.contains w.pos)).foldl (fun s w =>
    pumpReqs w.port (goSweep w.port w.hop w.pos (s.modPort w.port (fun q => { q with
      reqs := q.reqs.filter (fun r => !(r.use == 2 && r.hop == w.hop)) })))) s)

/-- An answer within the diagnostics: the result of a read, the start of a test, or its refusal. -/
def sweepAnswered (w : Sweep) (diag : Bool) (status : Nat) (words : List Word) (s : State) : State :=
  if diag then diagResult w words s
  else if status == 0 then setSweep { w with askedAt := s.now } s
  else sweepNoResponse w s

/-- The satellite has a lower DEADTIME, which may take effect from here: in a pair at both members at one tick (R218, R138). -/
def deadtimeWritten (c : Nat) (s : State) : State :=
  let id := mkId 3 c 4
  if !s.pairEn then s
  else
    let k := s.tickNow + 2
    let mine := s.pend.filter (fun e => e.id == id)
    let s := { s with pend := s.pend.map (fun e => if e.id = id then { e with tick := k } else e) }
    mine.foldl (fun s e => sendPair (.write k [(id, e.val)]) s) s

/-- CFG_RESPONSE_RX: the request is done; what it was for goes on (R225, R228, R236, R259, R265). -/
def execCfgResponseRx (dt : Nat) (p : Fin 64) (diag : Bool) (hop : Fin 4) (seq op status addr : Nat) (data : Word)
    (words : List Word) (s : State) : Host.Outcome State Fault Refusal :=
  let s := abortSweeps (s.begin dt)
  let q := s.port p
  if !linkSends q.st then done s
  else if !diag && op == 1 then
    -- An answer to HELLO (R228 step 4).
    let d := data.toNat
    let a : Sat := { hop := d / 256 % 256, verMax := d / 2 ^ 24, verMin := d / 2 ^ 16 % 256, first := d / 16 % 16, chans := d % 16 }
    if q.st = .hello then
      done (condHolds 0x3012 3 (4 * p + a.hop) (frameFrom p a.hop (s.modPort p (fun q => { q with
        sats := (q.sats.filter (fun x => x.hop != a.hop)) ++ [a] }))))
    else done s
  else
    match q.reqs.find? (fun r => r.diag == diag && r.seq == seq && r.sent && r.hop == hop.val) with
    | none => done (frameFrom p hop s)
    | some r =>
      let s := frameFrom p hop s
      let s := s.modPort p (fun q => { q with reqs := q.reqs.filter (fun x => !(x.diag == diag && x.seq == seq)) })
      let s := condHolds 0x3012 3 (4 * p + hop) s
      let s := match r.use with
        | 0 => if (s.port p).st = .config && !(s.port p).reqs.any (fun x => x.use == 0) then
                 s.modPort p (fun q => { q with st := .delay }) else s
        | 1 => ((List.range 4).filter (fun j => r.data.testBit j)).foldl (fun s j => clearAnswered (4 * p + j) (status == 0) s) s
        | 2 => match sweepOf s p hop with
          | some w => sweepAnswered w diag status words s
          | none => s
        | 3 => match sweepOf s p hop with
          | some w => sweepAnswered w diag status words s
          | none => s
        | 4 => deadtimeWritten (4 * p + (r.addr - 0x0100) / 0x40) s
        | _ => s
      let _ := addr
      done (endPrestart (pumpReqs p s))

/-- CFG_RETRY: resent with its SEQ after each RETRY_INT without an answer, up to RETRY times, then LINK_CFG_FAIL (R205, R225,
Table 7-17). A DEADTIME that must reach its satellite first is asked again (R218; DEDUCED, notes/assumptions/122.md). -/
def execCfgRetry (dt : Nat) (p : Fin 64) (diag : Bool) (hop : Fin 4) (seq : Nat) (s : State) : Host.Outcome State Fault Refusal :=
  let s := s.begin dt
  match (s.port p).reqs.find? (fun r => r.diag == diag && r.seq == seq && r.sent && r.hop == hop.val) with
  | none => done s
  | some r =>
    let mine := fun (x : CfgReq) => x.diag == diag && x.seq == seq
    if s.now < r.at_ + s.ptn 5 p 10 then done s
    else if r.tries < s.pn 5 p 9 then
      done ((s.modPort p (fun q => { q with
        retries := sat32 q.retries
        reqs := q.reqs.map (fun x => if mine x then { x with tries := x.tries + 1, at_ := s.now } else x) })).emit
        (.plink p (.cfg r.diag r.seq r.hop r.op r.addr r.data)))
    else
      let s := if r.use = 0 then s
               else if r.use = 4 then s.modPort p (fun q => { q with
                 reqs := q.reqs.map (fun x => if mine x then { x with sent := false, tries := 0 } else x) })
               else s.modPort p (fun q => { q with reqs := q.reqs.filter (fun x => !mine x) })
      let s := raiseLink 0x3012 0x3011 p hop (cfgReact s 0x3012) s
      let s := match r.use with
        | 1 => ((List.range 4).filter (fun j => r.data.testBit j)).foldl (fun s j => clearAnswered (4 * p + j) false s) s
        | 2 => match sweepOf s p hop with | some w => sweepNoResponse w s | none => s
        | 3 => match sweepOf s p hop with | some w => sweepNoResponse w s | none => s
        | _ => s
      done (endPrestart (pumpReqs p s))

/-- The wait of a step of the diagnostics, from the satellite's answer on: 2 x SWEEP_T + 100 µs, or 200 µs for a self-test. -/
def sweepWait (s : State) (step : Nat) : Nat := if step = 4 then 200000 * nsecQ else 2 * s.ptn 4 0x400 0x13 + 100000 * nsecQ

/-- PRESTART_SWEEP_STEP: the wait is over; the result is read (R265, R267). -/
def execPrestartSweepStep (dt : Nat) (p : Fin 64) (hop : Fin 4) (s : State) : Host.Outcome State Fault Refusal :=
  let s := abortSweeps (s.begin dt)
  match sweepOf s p hop with
  | none => done s
  | some w =>
    if (s.port p).reqs.any (fun r => r.hop == hop.val && (r.use == 2 || r.use == 3)) || s.now < w.askedAt + sweepWait s w.step then done s
    else
      let read := fun (base n use : Nat) (st : Nat) (s : State) =>
        done (pumpReqs p (addReq p hop true 0x10 base n use (setSweep { w with step := st } s)))
      match w.step with
      | 0 => read 0x1000 8 2 1 s
      | 2 => read 0x1000 8 2 3 s
      | 4 => read 0x1020 4 3 5 s
      | _ => done s

end Sys2Proof.Machine
end

