-- ==== Sys2Proof/Machine/Island.lean ====
section
/-! DEFINITION. The safety island (spec/13_safety.md): demands and the Safe Gate Block, safe inputs and outputs, safety
connections, the confirmed set, ember mode. Its times are clock steps of 62.5 ps. -/
namespace Sys2Proof.Machine

def modSfi (f : Sfi → Sfi) (s : State) : State := { s with sfi := f s.sfi }
def sin (s : State) (i : Nat) : Sin := vget s.sfi.sin i {}
def modSin (i : Nat) (f : Sin → Sin) (s : State) : State := modSfi (fun x => { x with sin := vmod x.sin i f }) s
def sout (s : State) (j : Nat) : Sout := vget s.sfi.sout j {}
def modSout (j : Nat) (f : Sout → Sout) (s : State) : State := modSfi (fun x => { x with sout := vmod x.sout j f }) s
def sc (s : State) (k : Nat) : Sc := vget s.sfi.sc k {}
def modSc (k : Nat) (f : Sc → Sc) (s : State) : State := modSfi (fun x => { x with sc := vmod x.sc k f }) s
def sf (s : State) (i f : Nat) : Nat := s.pn 11 i f
/-- A T field of the set in clock steps. -/
def sfT (s : State) (i f : Nat) : Nat := s.ptn 11 i f / stepQ

def steps100us : Nat := 1600000
def stepsSec : Nat := 16000000000

/-- T_EMBER clamped to 1 to 96 h (R380). -/
def emberT (s : State) : Nat := min (max (sf s 0x300 2) 3600) 345600
def emberEn (s : State) : Bool := sf s 0x300 1 == 1

/-! The safety set (R377). -/

/-- IDs of its fields, increasing. -/
def safetyIds : List Nat :=
  (List.range 8).flatMap (fun i => (List.range 5).map (fun f => mkId 11 i (1 + f)))
    ++ (List.range 8).flatMap (fun j => (List.range 4).map (fun f => mkId 11 (0x100 + j) (1 + f)))
    ++ (List.range 4).flatMap (fun k => (List.range 9).map (fun f => mkId 11 (0x200 + k) (1 + f)))
    ++ (List.range 7).map (fun f => mkId 11 0x300 (1 + f))

/-- A field of the set with a T wire type is sent in 8 bytes. -/
def wide (id : Nat) : Bool := match rowOf id with | some r => r.ty == .t || r.ty == .b64 || r.ty == .u64 | none => false

/-- Effective values, and the set with the pending values in. -/
def pendView (s : State) (id : Nat) : Wire :=
  match (s.pend.filter (fun e => e.id == id)).getLast? with | some e => e.val | none => s.wire id

def setCrc (w : Nat → Wire) : Nat :=
  (crc32c (safetyIds.flatMap (fun id => bytesBE 4 id ++ (if wide id then bytesBE 8 (w id).toNat else bytesBE 4 (lo32 (w id)))))).toNat

def safetyPend (s : State) : Bool := s.pend.any (fun e => idUnit e.id == 11)
def crcPending (s : State) : Nat := setCrc (pendView s)

/-- The pending set becomes effective (R379). -/
def confirmSet (s : State) : State :=
  let c := crcPending s
  let s := promoteWhere (fun e => idUnit e.id == 11) s
  modSfi (fun x => { x with setConfirmed := true, confirmedCrc := some c, crcEff := c
                            emberLeft := if x.ember then x.emberLeft else emberT s }) s

/-! Demands and causes (R364, R367, Table 13-6). -/

/-- A demand or a diagnostic result for the decision of the safety cycle: code, DATA1, channels. -/
def detect (code d1 : Nat) (cs : List Nat) (s : State) : State :=
  modSfi (fun x => { x with detected := x.detected ++ [(code, d1, cs)] }) s

def emberCode (c : Nat) : Bool := c == 0x6031 || c == 0x6032 || c == 0x6033 || c == 0x6035

/-- A connection in use, and one that can demand. -/
def scOn (s : State) (k : Nat) : Bool := sf s (0x200 + k) 1 == 1
def scDemands (s : State) (k : Nat) : Bool := scOn s k && sf s (0x200 + k) 6 == 1

/-- A cause of class EMBER is present (R380, R381). -/
def emberCause (s : State) : Bool :=
  (List.range 8).any (fun i => sf s i 1 != 1 && sf s i 1 != 0 && (sin s i).pulseFail) ||
    (List.range 8).any (fun j => sf s (0x100 + j) 1 != 1 && (sout s j).bad) || s.sfi.xmLost ||
    decide (sf s 0x300 6 < s.sfi.supplyAge)

/-- A demand is present (R367): an input, a connection that is timed out or does not permit, an ember count that has expired under a cause
that has not gone (R381). -/
def demandPresent (s : State) : Bool :=
  (List.range 8).any (fun i => sf s i 1 == 1 && (sin s i).demand) ||
    (List.range 4).any (fun k => scDemands s k && (sc s k).st != 0 && ((sc s k).st == 3 || !(sc s k).runPermit)) ||
    (s.sfi.ember && s.sfi.emberLeft == 0 && emberCause s)

/-- A cause of class SAFE_BLOCK is present: a diagnostic that lasts until a reset, a readback, a discrepancy, a pulse, a feedback that has
not followed, the peer. -/
def causePresent (s : State) : Bool :=
  !s.sfi.latched.isEmpty || s.sfi.outBad ||
    (List.range 8).any (fun i => (sin s i).discHeld || (sf s i 1 == 1 && (sin s i).pulseFail) || (sf s i 1 == 3 && (sin s i).demand)) ||
    (List.range 8).any (fun j => sf s (0x100 + j) 1 == 1 && (sout s j).bad) ||
    (heldCode 0x6020 s && s.sfi.mon)

/-- Start ember mode (R380). -/
def startEmber (s : State) : State := modSfi (fun x => { x with ember := true }) s

/-- After the test every position gets CFG FAULT_CLEAR (R236, R366). -/
def clearPositions (s : State) : State :=
  (s.plk.port.filter (fun e => e.2.st == .ready)).foldl (fun s e =>
    pumpReqs e.1 (e.2.sats.foldl (fun s a =>
      addReq e.1 a.hop false 4 0 ((List.range a.chans).foldl (fun m j => m + 2 ^ (a.first + j)) 0) 5 s) s)) s

/-- Decide one detection: an EMBER fault starts ember mode, or is only held while SAFE_BLOCK_N is low, or demands where EMBER_EN is
0; everything else demands (R364, R380). -/
def decideOne (e : Nat × Nat × List Nat) (s : State) : State :=
  let (code, d1, cs) := e
  let kind := if code = 0x6007 then 1 else 0
  let ix := if code = 0x6007 then cs.headD 0 else 0
  if emberCode code && (emberEn s || !s.sfi.safeHigh) then
    let s := raiseWith 1 code kind ix 0 d1 cs s
    if s.sfi.safeHigh then startEmber s else s
  else
    let testing := decide (1 ≤ s.sfi.testPhase) && decide (s.sfi.testPhase ≤ 3)
    let s := modSfi (fun x => { x with
      firstCause := if x.inForce then x.firstCause else code
      forceAt := if x.inForce then x.forceAt else s.clock
      inForce := true, safeHigh := false
      testPhase := if x.testPhase = 4 then 4 else 0, resetTest := false }) s
    raiseWith 6 code kind ix 0 d1 cs (if testing then clearPositions s else s)

def insDet (e : Nat × Nat × List Nat) : List (Nat × Nat × List Nat) → List (Nat × Nat × List Nat)
  | [] => [e]
  | x :: r => if e.1 < x.1 then e :: x :: r else x :: insDet e r

/-- Decide what was detected, lower codes first, so that FIRST_CAUSE takes the lower (Table 13-3). -/
def decideAll (s : State) : State :=
  let ds := s.sfi.detected.foldl (fun l e => insDet e l) []
  ds.foldl (fun s e => decideOne e s) (modSfi (fun x => { x with detected := [] }) s)

/-- A detection that demands is waiting. -/
def demandWaiting (s : State) : Bool := s.sfi.detected.any (fun e => !(emberCode e.1 && (emberEn s || !s.sfi.safeHigh)))

/-! Raising SAFE_BLOCK_N (R366). -/

def servedPositions (s : State) : List Nat :=
  (s.plk.port.filter (fun e => e.2.st == .ready)).flatMap (fun e =>
    ((List.range 4).filter (fun j => e.2.positions.testBit j)).map (fun j => 4 * e.1 + j))

/-- Both UVLO_H and UVLO_L of a position read `v` in its last STATUS. -/
def uvloBoth (s : State) (c : Nat) (v : Bool) : Bool :=
  (s.tel c).status.getLsbD 28 == v && (s.tel c).status.getLsbD 27 == v

/-- Conditions 1 to 4 of R366. A pulse can be passed only by an output that is high. -/
def mayRaise (s : State) : Bool :=
  s.awake && !s.sfi.inForce && s.sfi.setConfirmed && !safetyPend s && !demandPresent s && !causePresent s &&
    !s.spu.held.any (fun h => h.level == 6) && (emberEn s || !s.spu.held.any (fun h => emberCode h.lr.code)) &&
    (List.range 4).all (fun k => !scDemands s k || ((sc s k).st == 2 && (sc s k).runPermit)) &&
    (List.range 8).all (fun j => !(sout s j).level || (sout s j).passed) &&
    (List.range 8).all (fun i => sf s i 5 == noneV || sf s i 1 == 0 || (sin s i).pulseOk)

/-- SAFE_BLOCK_N rises; an ember cause that is still present starts ember mode (R380). -/
def raiseSafe (s : State) : State :=
  let s := modSfi (fun x => { x with safeHigh := true }) s
  if emberCause s && emberEn s && !s.sfi.ember then startEmber s else s

def startTest (s : State) : State := modSfi (fun x => { x with testPhase := 1, testAt := s.clock, testBad := [], safeHigh := true }) s

/-- R366 in one cycle: the test first, when it is asked for. -/
def raiseStep (s : State) : State :=
  if s.sfi.safeHigh || (1 ≤ s.sfi.testPhase && s.sfi.testPhase ≤ 3) || !mayRaise s then s
  else if sf s 0x300 4 = 1 && s.sfi.testPhase ≠ 4 then startTest s
  else raiseSafe s

/-! Reset (R367, R381). -/

/-- 0x6007 is the only thing that stands in the way: the reset waits for a passing test (Table 13-6). -/
def needsTest (s : State) : Bool := heldCode 0x6007 s && s.sfi.testPhase != 4

/-- The accepted reset: every held 0x6xxx fault is cleared, SAFE_BLOCK_N rises, BLOCK_N is released. -/
def acceptReset (s : State) : State :=
  let s := modSfi (fun x => { x with inForce := false, firstCause := 0, resetReq := false, resetTest := false }) s
  let s := clearWhere false (fun h => codeIsSafety h.lr.code) s
  let s := if emberCause s then s else modSfi (fun x => { x with ember := false, emberLeft := emberT s }) s
  if s.awake then raiseSafe s else s

/-- A reset request in the safety cycle. -/
def resetStep (s : State) : State :=
  if !s.sfi.resetReq then s
  else
    let s := modSfi (fun x => { x with resetReq := false }) s
    if demandWaiting s || demandPresent s || causePresent s || !s.sfi.setConfirmed || safetyPend s
        || (!emberEn s && emberCause s) || (!s.sfi.inForce && emberCause s) then logOpen 0 0 0x6000 0 s
    else if needsTest s then
      (if s.awake then modSfi (fun x => { x with resetTest := true }) (startTest s) else logOpen 0 0 0x6000 0 s)
    else acceptReset s

/-! Inputs (R369, R370). -/

/-- The pulse window of the source of input i closes, or closed last and is not judged yet, at this time. -/
def windowEnd (s : State) (i : Nat) : Option Nat :=
  let j := sf s i 5
  if j < 8 then (sout s j).pulseEnd.map (· + steps100us) else none

/-- The pulse window of the source of input i is open at time t. -/
def windowOpen (s : State) (i t : Nat) : Bool := (windowEnd s i).any (fun e => decide (t < e))

/-- A DEMAND input that has been low for FILTER by time t demands (R369); lows inside a pulse window do not count, and the filter starts
afresh when it closes (R370). -/
def sinFilter (i t : Nat) (s : State) : State :=
  let x := sin s i
  let start := max x.since ((windowEnd s i).getD 0)
  if sf s i 1 = 1 && !x.level && !x.demand && !windowOpen s i t && decide (start + sfT s i 2 ≤ t) then
    detect 0x6002 i [] (modSin i (fun x => { x with demand := true }) s)
  else s

/-- The partner of a DEMAND input, whichever of the two names the other. -/
def pairOf (s : State) (i : Nat) : Option Nat :=
  if sf s i 3 < 8 then some (sf s i 3) else (List.range 8).find? (fun k => sf s k 3 == i)

/-- The two inputs of a pair as they stand at time t: since when they differ, and a held discrepancy ends when both have been low together
(R369). -/
def pairTrack (i t : Nat) (s : State) : State :=
  match pairOf s i with
  | none => s
  | some k =>
    let a := (sin s i).level
    let b := (sin s k).level
    let f := fun (x : Sin) => { x with
      discSince := if a = b then none else some (x.discSince.getD t)
      discHeld := x.discHeld && (a || b) }
    modSin i f (modSin k f s)

/-- One edge of an input at clock step t. A RESET input that was high for 0.1 to 5 s and falls requests a reset. -/
def sinEdge (i t : Nat) (v : Bool) (s : State) : State :=
  let x := sin s i
  let d := t - x.since
  let s := if sf s i 1 = 2 && x.level && !v && decide (stepsSec / 10 ≤ d) && decide (d ≤ 5 * stepsSec) then
      modSfi (fun y => { y with resetReq := true }) s else s
  let s := if v then sinFilter i t s else s
  let s := modSin i (fun x => { x with
    level := v, since := if x.level = v then x.since else t, sawLow := x.sawLow || !v, demand := x.demand && !(v && sf s i 1 == 1) }) s
  if sf s i 1 = 1 then pairTrack i t s else s

/-- The state of input i at the cycle: demand, discrepancy, feedback. -/
def sinCycle (i : Nat) (s : State) : State :=
  let func := sf s i 1
  if func = 1 then
    let s := pairTrack i s.clock (sinFilter i s.clock s)
    match pairOf s i, (sin s i).discSince with
    | some k, some t =>
      if decide (t + sfT s i 4 < s.clock) && !(sin s i).discHeld && !(sin s k).discHeld then
        detect 0x6008 i [] (modSin i (fun x => { x with discHeld := true }) s) else s
    | _, _ => s
  else if func = 3 then
    let s := modSin i (fun x => { x with fbSince := if x.level = s.sfi.safeHigh then none else some (x.fbSince.getD s.clock) }) s
    match (sin s i).fbSince with
    | some t => if t + sfT s 0x300 5 ≤ s.clock && !(sin s i).demand then
        detect 0x6002 (0x100 + i) [] (modSin i (fun x => { x with demand := true }) s) else s
    | none => modSin i (fun x => { x with demand := false }) s
  else s

/-- A closed window: the input read low in it and reads high again, or the check failed (R370). -/
def pulseCheck (j close : Nat) (s : State) : State :=
  (List.range 8).foldl (fun s i =>
    if sf s i 5 ≠ j || sf s i 1 = 0 then s
    else
      let s := modSin i (fun x => { x with since := if x.level then x.since else max x.since close }) s
      let x := sin s i
      if x.sawLow && x.level then modSin i (fun x => { x with pulseOk := true, pulseFail := false, sawLow := false }) s
      else
        let s := if x.pulseFail then s else detect (if sf s i 1 = 1 then 0x6009 else 0x6032) i [] s
        modSin i (fun x => { x with pulseFail := true, pulseOk := false, sawLow := false }) s) s

/-! Outputs (R371). -/

/-- A readback fault of output j. -/
def soutBad (j : Nat) (s : State) : State :=
  let s := if (sout s j).bad then s else detect (if sf s (0x100 + j) 1 = 1 then 0x600A else 0x6031) j [] s
  modSout j (fun o => { o with bad := true, passed := false }) s

/-- The level of output j at the ball: low in an off-pulse. -/
def soutBall (s : State) (j : Nat) : Bool := (sout s j).level && !(sout s j).pulseEnd.any (fun e => decide (s.clock < e))

/-- Output j in the cycle, read back as `back`: it must read low in its off-pulse, and as it is driven outside it. -/
def soutCycle (j : Nat) (back : Bool) (s : State) : State :=
  let o := sout s j
  match o.pulseEnd with
  | some e =>
    let s := if s.clock < e then modSout j (fun o => { o with sawLow := o.sawLow || !back }) s
             else if back then s else modSout j (fun o => { o with sawLow := false }) (soutBad j s)
    if s.clock < e + steps100us then s
    else
      let s := if (sout s j).sawLow then modSout j (fun o => { o with passed := true, bad := false }) s else soutBad j s
      modSout j (fun o => { o with pulseEnd := none, sawLow := false }) (pulseCheck j (e + steps100us) s)
  | none => if o.level != back then soutBad j s
            else if !o.level then modSout j (fun o => { o with bad := false }) s else s

/-- The level a role gives output j (R371, R372). -/
def soutLevel (s : State) (j : Nat) : Bool :=
  s.awake && (match sf s (0x100 + j) 1 with
    | 1 => s.sfi.safeHigh && !s.sfi.outBad
    | 2 => true
    | 3 => (sc s (sf s (0x100 + j) 4)).direct.getLsbD j
    | _ => false)

def driveSouts (s : State) : State :=
  (List.range 8).foldl (fun s j => let v := soutLevel s j; modSout j (fun o => { o with level := v, pulseEnd := if v then o.pulseEnd else none }) s) s

/-- SOUT_OFF_PULSE: once every OP_PERIOD a high output is pulsed low for OP_WIDTH, unless it would overlap another's pulse or the 100 µs
after it. -/
def execSoutOffPulse (dt : Nat) (j : Fin 8) (s : State) : Host.Outcome State Fault Refusal :=
  let s := s.begin dt
  let busy := (List.range 8).any (fun k => (sout s k).pulseEnd.any (fun e => decide (s.clock < e + steps100us)))
  let early := (sout s j).pulseAt.any (fun t => decide (s.clock < t + sfT s (0x100 + j) 3))
  if !(sout s j).level || busy || early then done s
  else
    let s := (List.range 8).foldl (fun s i =>
      if sf s i 5 = j.val then modSin i (fun x => { x with sawLow := !x.level }) (sinFilter i s.clock s) else s) s
    done (modSout j (fun o => { o with pulseEnd := some (s.clock + sfT s (0x100 + j) 2), pulseAt := some s.clock, sawLow := false }) s)

/-! Connections (R373 to R376). -/

def sinLevels (s : State) : Nat := (List.range 8).foldl (fun m i => if (sin s i).level then m + 2 ^ i else m) 0
def soutLevels (s : State) : Nat := (List.range 8).foldl (fun m j => if soutBall s j then m + 2 ^ j else m) 0

/-- Bytes 8 to 23 of a status SPDU. -/
def statusData (s : State) : List Byte :=
  let b8 := (if s.sfi.inForce then 1 else 0) + (if s.sfi.ember then 2 else 0) + (if s.sfi.setConfirmed then 4 else 0)
  bytesBE 1 b8 ++ bytesBE 1 (sinLevels s) ++ bytesBE 1 (soutLevels s) ++ [0] ++ bytesBE 2 s.sfi.firstCause ++ [0, 0]
    ++ bytesBE 4 s.sfi.emberLeft ++ bytesBE 4 s.sfi.crcEff

/-- Send the status SPDU of connection k: a datagram, or the island's frame of its CAN controller, which replaces one that has not
been sent (R373, R475). -/
def sendStatus (k : Nat) (s : State) : State :=
  let d := statusData s
  let body := bytesBE 4 (sf s (0x200 + k) 4) ++ bytesBE 4 (sc s k).seqOut ++ d
  let bytes := body ++ bytesBE 4 (crc32c body).toNat
  let s := modSc k (fun c => { c with seqOut := (c.seqOut + 1) % 2 ^ 32, lastData := d.take 4 }) s
  if sf s (0x200 + k) 2 = 0 then s.emit (.safety k bytes)
  else { s with can := vmod s.can (sf s (0x200 + k) 9) (fun c => { c with
    safety := some (bytes ++ List.replicate 4 0)
    txb := vmod c.txb 2 (fun b => { b with st := if b.st = 2 then 2 else 1 }) }) }

/-- Send on every connection whose bytes 8 to 11 have changed (R376). -/
def statusChanges (s : State) : State :=
  (List.range 4).foldl (fun s k =>
    if (sc s k).st != 0 && (sc s k).lastData != (statusData s).take 4 then sendStatus k s else s) s

/-- SC_STATUS_TX: every SC_TX_PERIOD (R376). -/
def execScStatusTx (dt : Nat) (k : Fin 4) (s : State) : Host.Outcome State Fault Refusal :=
  let s := s.begin dt
  if (sc s k).st = 0 || s.clock < (sc s k).txAt + sfT s (0x200 + k) 7 then done s
  else done (sendStatus k (modSc k (fun c => { c with txAt := s.clock }) s))

/-- A failed SCRC check; the one with which more than SC_CRC_MAX fall in 1 s raises 0x600B (R375, R253). -/
def scrcFail (k : Nat) (s : State) : State :=
  let ts := s.clock :: (sc s k).crcTimes.filter (fun t => decide (s.clock < t + stepsSec))
  let s := modSc k (fun c => { c with crcErr := sat32 c.crcErr, crcTimes := ts }) s
  if ts.length = sf s 0x300 7 + 1 then detect 0x600B k [] s else s

/-- R375 for one command SPDU. -/
def scReceive (k : Nat) (bs : List Byte) (s : State) : State :=
  let c := sc s k
  if c.st = 0 then s
  else if bs.length ≠ 20 || (crc32c (bs.take 16)).toNat ≠ ofBytesBE (bs.drop 16) then scrcFail k s
  else if ofBytesBE (bs.take 4) ≠ sf s (0x200 + k) 3 then detect 0x600C k [] s
  else
    let seq := ofBytesBE ((bs.drop 4).take 4)
    let d := match c.last with | none => 1 | some l => (seq + 2 ^ 32 - l) % 2 ^ 32
    if d < 1 || 16 < d then s
    else
      let cmd := bs.getD 8 0
      let permit := cmd.getLsbD 0
      let req := cmd.getLsbD 1
      let dem := scDemands s k
      let s := if dem && req && !c.resetReq && c.last.isSome then modSfi (fun x => { x with resetReq := true }) s else s
      let s := modSc k (fun c => { c with st := 2, last := some seq, wd := s.clock, runPermit := permit, resetReq := req
                                          direct := bs.getD 9 0, gaps := if d = 1 then c.gaps else sat32 c.gaps }) s
      if permit then s
      else if dem then (if c.runPermit || c.last.isNone then detect 0x6003 k [] s else s)
      else if c.runPermit || c.last.isNone then raiseWith 1 0x6003 0 0 0 k [] s else s

/-- SC_SPDU_RX. -/
def execScSpduRx (dt : Nat) (k : Fin 4) (bytes : List Byte) (s : State) : Host.Outcome State Fault Refusal :=
  done (scReceive k bytes (s.begin dt))

/-- SC_TIMEOUT: WD_TIME without an accepted SPDU. -/
def execScTimeout (dt : Nat) (k : Fin 4) (s : State) : Host.Outcome State Fault Refusal :=
  let s := s.begin dt
  let c := sc s k
  if (c.st != 1 && c.st != 2) || s.clock < c.wd + sfT s (0x200 + k) 5 then done s
  else
    let s := modSc k (fun c => { c with st := 3 }) s
    done (if scDemands s k then detect 0x6004 k [] s else raiseWith 1 0x6004 0 0 0 k [] s)

/-! The cycle (R362). -/

/-- SAFETY_CYCLE: inputs, outputs and diagnostics are evaluated; demands are decided, then a reset request, then the raising of
SAFE_BLOCK_N; the outputs follow. -/
def execSafetyCycle (dt : Nat) (x : SafeIn) (s : State) : Host.Outcome State Fault Refusal :=
  let s := s.begin dt
  if !s.dev.powered then done s
  else
    let s := x.edges.foldl (fun s e => sinEdge e.1 (s.clock - e.2.1) e.2.2 s) s
    let s := (List.range 8).foldl (fun s i => sinCycle i s) s
    let s := (List.range 8).foldl (fun s j => soutCycle j (x.souts.getLsbD j) s) s
    let bad := !s.sfi.safeHigh && x.back
    let s := if bad && !s.sfi.outBad then detect 0x6001 0 [] s else s
    let s := modSfi (fun y => { y with outBad := bad, mon := x.mon }) s
    let s := [(x.lockstep, 0x6010), (x.supply, 0x6012), (x.watchdog, 0x6014)].foldl (fun s e =>
      if e.1 && !s.sfi.latched.contains e.2 then
        detect e.2 0 [] (modSfi (fun y => { y with latched := y.latched ++ [e.2] }) s) else s) s
    let s := resetStep s
    let s := raiseStep (decideAll s)
    done (statusChanges (driveSouts s))

/-- SUPPLY_CUT_TEST_STEP (R366). -/
def execSupplyCutTestStep (dt : Nat) (s : State) : Host.Outcome State Fault Refusal :=
  let s := s.begin dt
  let ps := servedPositions s
  let ph := s.sfi.testPhase
  let bad := fun (v : Bool) => ps.filter (fun c => !uvloBoth s c v)
  let late := decide (s.sfi.testAt + sfT s 0x300 5 ≤ s.clock)
  let fail := fun (cs : List Nat) (s : State) =>
    clearPositions (cs.foldl (fun s c => detect 0x6007 0 [c] s)
      (modSfi (fun x => { x with testPhase := 5, safeHigh := false, resetTest := false }) s))
  if ph = 1 && (bad false).isEmpty then done (modSfi (fun x => { x with testPhase := 2, testAt := s.clock, safeHigh := false }) s)
  else if ph = 2 && (bad true).isEmpty then done (modSfi (fun x => { x with testPhase := 3, testAt := s.clock, safeHigh := true }) s)
  else if ph = 2 && late then done (fail (bad true) s)
  else if ph = 3 && (bad false).isEmpty then
    let s := clearPositions (condHolds 0x6035 0 0 (modSfi (fun x => { x with testPhase := 4, supplyAge := 0 }) s))
    done (if s.sfi.resetTest then acceptReset s else raiseSafe s)
  else if ph = 3 && late then done (fail (bad false) s)
  else done s

/-- ISLAND_CLOCK_CHECK: the RC clock against XM; `agrees` within ±5 % (Table 13-2). -/
def execIslandClockCheck (dt : Nat) (agrees : Bool) (s : State) : Host.Outcome State Fault Refusal :=
  let s := s.begin dt
  if !s.dev.powered then done s
  else if !s.clk.xmOk then
    done (modSfi (fun x => { x with xmLost := true }) (if s.sfi.xmLost then s else detect 0x6033 0 [] s))
  else
    let s := modSfi (fun x => { x with xmLost := false }) s
    if agrees || s.sfi.latched.contains 0x6011 then done s
    else done (detect 0x6011 0 [] (modSfi (fun x => { x with latched := x.latched ++ [0x6011] }) s))

/-- ISLAND_MEMORY_CHECK: the CRC of the ROM and of the confirmed set. -/
def execIslandMemoryCheck (dt : Nat) (good : Bool) (s : State) : Host.Outcome State Fault Refusal :=
  let s := s.begin dt
  if !s.dev.powered || good || s.sfi.latched.contains 0x6013 then done s
  else done (detect 0x6013 0 [] (modSfi (fun x => { x with latched := x.latched ++ [0x6013] }) s))

/-- SFI_PEER_DISAGREE: the SGB has been in force for 3 ms while SGB_MON reads high (R382). -/
def execSfiPeerDisagree (dt : Nat) (s : State) : Host.Outcome State Fault Refusal :=
  let s := s.begin dt
  if s.pairEn && s.sfi.inForce && s.sfi.mon && !heldCode 0x6020 s && decide (s.sfi.forceAt + 3 * 16000000 ≤ s.clock) then
    done (raiseWith 5 0x6020 0 0 0 0 [] s)
  else done s

/-- SUPPLY_TEST_OVERDUE. -/
def execSupplyTestOverdue (dt : Nat) (s : State) : Host.Outcome State Fault Refusal :=
  let s := s.begin dt
  if sf s 0x300 6 < s.sfi.supplyAge && !heldCode 0x6035 s && !s.sfi.detected.any (fun e => e.1 == 0x6035) then
    done (detect 0x6035 0 [] s) else done s

/-- EMBER_EXPIRED: EMBER_LEFT has reached 0 (R381). -/
def execEmberExpired (dt : Nat) (s : State) : Host.Outcome State Fault Refusal :=
  let s := s.begin dt
  if s.sfi.ember && s.sfi.emberLeft = 0 && !heldCode 0x6006 s && !s.sfi.detected.any (fun e => e.1 == 0x6006) then
    done (detect 0x6006 0 [] s) else done s

/-! The SAFETY partition (Table 13-5a). -/

def opSgbDemand : Op where
  check _ := none
  act s := detect 0x6005 0 [] s

/-- SGB_DEMAND: always accepted. -/
def execSgbDemand (dt : Nat) (p : Fin 8) (s : State) : Host.Outcome State Fault Refusal :=
  done (opCmd p (.priv pvSafety) (mkId 11 0x300 0x11) 1 opSgbDemand (s.begin dt))

def opSgbReset : Op where
  check s := if sf s 0x300 3 = 1 then none else wrongState s
  act s := modSfi (fun x => { x with resetReq := true }) s

/-- SGB_RESET: while RESET_HOST_EN is 1 (R367). -/
def execSgbReset (dt : Nat) (p : Fin 8) (s : State) : Host.Outcome State Fault Refusal :=
  done (opCmd p (.priv pvSafety) (mkId 11 0x300 0x12) 1 opSgbReset (s.begin dt))

def opSafeConfirm (v : Word) : Op where
  check s := if !safetyPend s then wrongState s else if v.toNat = crcPending s then none else some (0x46, crcPending s, v.toNat)
  act s := confirmSet s

/-- SAFE_CONFIRM (R379). -/
def execSafeConfirm (dt : Nat) (p : Fin 8) (v : Word) (s : State) : Host.Outcome State Fault Refusal :=
  done (opCmd p (.priv pvSafety) (mkId 11 0x300 0x10) v.toNat (opSafeConfirm v) (s.begin dt))

/-! Entry to ARMED and status. -/

/-- SAFE_BLOCK_N starts low, the test and the pulse checks are to be passed again, and every connection starts with its watchdog
running (R366, R375). -/
def sfiEnterArmed (s : State) : State :=
  let s := modSfi (fun x => { x with
    safeHigh := false, testPhase := 0, resetTest := false
    sin := x.sin.map (fun i => { i with pulseOk := false })
    sout := x.sout.map (fun o => { o with passed := false, pulseEnd := none, pulseAt := none }) }) s
  (List.range 4).foldl (fun s k => modSc k (fun c => { c with
    st := if scOn s k then 1 else 0, last := none, wd := s.clock, runPermit := false, resetReq := false, direct := 0, lastData := [], txAt := s.clock }) s) s

/-- Outside ARMED, RUN and BLOCKED no connection runs. -/
def sfiLeave (s : State) : State :=
  let s := modSfi (fun x => { x with safeHigh := false, testPhase := 0, resetTest := false }) s
  (List.range 4).foldl (fun s k => modSc k (fun c => { c with st := 0 }) s) s

/-- SGB_STATE (Table 13-7). -/
def sgbState (s : State) : Nat := if s.sfi.inForce then 1 else if s.sfi.ember && s.sfi.safeHigh then 2 else if s.sfi.safeHigh then 0 else 3

end Sys2Proof.Machine
end

