-- ==== Sys2Proof/Machine/Can.lean ====
section
/-! DEFINITION. CAN FD controllers (spec/18_can.md): transmit buffers, attempts, error states, filters, the receive FIFO, waking.
Where the chapter refers to ISO 11898-1:2015, the counts are those of that standard (notes/assumptions). -/
namespace Sys2Proof.Machine

def can (s : State) (n : Nat) : CanCtl := vget s.can n {}
def modCan (n : Nat) (f : CanCtl → CanCtl) (s : State) : State := { s with can := vmod s.can n f }
def cf (s : State) (n f : Nat) : Nat := s.pn 12 n f
def txb (s : State) (n b : Nat) : TxBuf := vget (can s n).txb b {}
def modTxb (n b : Nat) (f : TxBuf → TxBuf) (s : State) : State := modCan n (fun c => { c with txb := vmod c.txb b f }) s
def txId (n b : Nat) : Nat := 0x200 + 0x10 * n + b

/-! Running and OFF (R461, R462, R473). -/

/-- The controller runs in this state: MODE set by a pattern in force, in BOOT, ARMED, RUN and BLOCKED, and in PARKED with a wake filter. -/
def canWanted (s : State) (n : Nat) : Bool :=
  cf s n 1 != 0 && s.sys.inForce && s.sys.step == 9 && (s.dev == .boot || s.dev.live || (s.dev == .parked && cf s n 0x12 != noneV))

/-- HALT fields of a controller whose MODE is 0 (R476). -/
def promoteCan (n : Nat) (s : State) : State :=
  if cf s n 1 ≠ 0 then s
  else promoteWhere (fun e => idUnit e.id == 12 && idInst e.id == n &&
    (decide (2 ≤ idField e.id) && decide (idField e.id ≤ 13))) s

def canOff (n : Nat) (s : State) : State :=
  modCan n (fun c => { c with st := 0, goOff := false, restart := false, counting := false
                              txb := c.txb.map (fun b => if b.st = 2 then { b with st := 1 } else b) }) s

def canSending (s : State) (n : Nat) : Bool := (List.range 3).any (fun b => (txb s n b).st == 2)

/-- The controller follows MODE and the device state; a frame in progress ends first (Table 18-4). -/
def canRefresh (n : Nat) (s : State) : State :=
  let s := promoteCan n s
  let c := can s n
  if canWanted s n then
    (if c.st = 0 then modCan n (fun c => { c with st := 1, tec := 0, recN := 0 }) s else modCan n (fun c => { c with goOff := false }) s)
  else if c.st = 0 then s
  else if canSending s n then modCan n (fun c => { c with goOff := true }) s else canOff n s

def canRefreshAll (s : State) : State := (List.range 4).foldl (fun s n => canRefresh n s) s

/-- A change of clock source: every running controller ends its frame and restarts by bus integration (R461). -/
def canClockChange (s : State) : State :=
  canRefreshAll ((List.range 4).foldl (fun s n =>
    if (can s n).st = 0 then s
    else if canSending s n then modCan n (fun c => { c with restart := true }) s
    else modCan n (fun c => { c with st := if c.st = 4 then 4 else 1 }) s) s)

/-! Error states (R470). -/

/-- The state that TEC and REC give, with the faults of Table 18-7; at BUS_OFF every SENDING buffer returns to PENDING. -/
def canErrors (n : Nat) (s : State) : State :=
  let c := can s n
  if c.st = 0 || c.st = 1 || c.st = 4 then s
  else if 256 ≤ c.tec then
    let s := modCan n (fun c => { c with
      st := 4, tec := 255, counting := cf s n 0x10 == 1
      txb := c.txb.map (fun b => if b.st = 2 then { b with st := 1 } else b) }) s
    raiseDev (0x3310 + n) 0 0 s
  else if 128 ≤ c.tec || 128 ≤ c.recN then
    (if c.st = 3 then s else raiseDev (0x3300 + n) 0 0 (modCan n (fun c => { c with st := 3 }) s))
  else if c.st = 3 then condHolds (0x3300 + n) 0 0 (modCan n (fun c => { c with st := 2 }) s)
  else s

/-- CAN_BUS_INTEGRATION: 11 recessive bits. -/
def execCanBusIntegration (dt : Nat) (n : Fin 4) (s : State) : Host.Outcome State Fault Refusal :=
  let s := s.begin dt
  if (can s n).st ≠ 1 then done s
  else
    let s := modCan n (fun c => { c with st := 2 }) s
    done (canErrors n (if (can s n).tec < 128 && (can s n).recN < 128 then condHolds (0x3310 + n) 0 0 (condHolds (0x3300 + n) 0 0 s) else s))

/-- CAN_BUS_OFF_RECOVERED: 128 occurrences of 11 recessive bits, once the count has started (R471). -/
def execCanBusOffRecovered (dt : Nat) (n : Fin 4) (s : State) : Host.Outcome State Fault Refusal :=
  let s := s.begin dt
  if (can s n).st ≠ 4 || !(can s n).counting then done s
  else
    let s := modCan n (fun c => { c with st := 2, tec := 0, recN := 0, counting := false }) s
    done (condHolds (0x3300 + n) 0 0 (condHolds (0x3310 + n) 0 0 s))

/-! Transmit buffers (R466 to R469, R475). -/

/-- The controller's TXB[2] belongs to the island (R475). -/
def islandOwns (s : State) (n : Nat) : Bool :=
  (List.range 4).any (fun k => scOn s k && sf s (0x200 + k) 2 == 1 && sf s (0x200 + k) 9 == n)

def dlcLen (fdf : Bool) (d : Nat) : Nat :=
  if d ≤ 8 then d else if !fdf then 8 else [12, 16, 20, 24, 32, 48, 64].getD (d - 9) 64

/-- The frame a buffer holds; the island's status frame is DLC 13 with BRS when the data rate exceeds the nominal rate. -/
def bufFrame (s : State) (n b : Nat) : CanFrame :=
  match (can s n).safety, b with
  | some bytes, 2 =>
    let k := ((List.range 4).find? (fun k => scOn s k && sf s (0x200 + k) 2 == 1 && sf s (0x200 + k) 9 == n)).getD 0
    let a := sf s (0x200 + k) 8
    let q := fun (br t1 t2 : Nat) => br * (1 + t1 + t2)
    { ide := decide (2 ^ 31 ≤ a), id := if 2 ^ 31 ≤ a then a % 2 ^ 29 else a % 2 ^ 11 * 2 ^ 18, fdf := true, rtr := false, dlc := 13
      brs := decide (q (cf s n 7) (cf s n 8) (cf s n 9) < q (cf s n 3) (cf s n 4) (cf s n 5)), data := bytes }
  | _, _ =>
    let i := txId n b
    let f := s.pn 12 i 2
    let a := s.pn 12 i 1
    let d := s.pn 12 i 3
    let fdf := f.testBit 2
    { ide := decide (2 ^ 31 ≤ a), id := a % 2 ^ 29, fdf := fdf, brs := fdf && f.testBit 1, rtr := f.testBit 0, dlc := d
      data := ((List.range 16).flatMap (fun w => bytesBE 4 (s.pn 12 i (0x10 + w)))).take (if f.testBit 0 then 0 else dlcLen fdf d) }

/-- The arbitration field as a number: the lower wins the bus. -/
def arbKey (f : CanFrame) : Nat :=
  let hi := f.id / 2 ^ 18 % 2 ^ 11
  if f.ide then hi * 2 ^ 21 + 2 ^ 20 + 2 ^ 19 + f.id % 2 ^ 18 * 2 + (if f.rtr then 1 else 0)
  else hi * 2 ^ 21 + (if f.rtr then 2 ^ 20 else 0)

def pendingBufs (s : State) (n : Nat) : List Nat := (List.range 3).filter (fun b => (txb s n b).st == 1)

/-- R467. -/
def pickBuf (s : State) (n : Nat) : Option Nat :=
  let ps := pendingBufs s n
  if cf s n 14 = 1 then ps.head?
  else ps.foldl (fun m b => match m with
    | none => some b
    | some a => if arbKey (bufFrame s n b) < arbKey (bufFrame s n a) then some b else some a) none

/-- CAN_TX_START: the bus is free. The frame goes with ESI of an error-passive sender (R460). -/
def execCanTxStart (dt : Nat) (n : Fin 4) (s : State) : Host.Outcome State Fault Refusal :=
  let s := s.begin dt
  let c := can s n
  if !(c.st == 2 || c.st == 3) || cf s n 1 ≠ 1 || canSending s n then done s
  else match pickBuf s n with
    | none => done s
    | some b =>
      let f := bufFrame s n b
      done ((modTxb n b (fun x => { x with st := 2, sof := s.now }) (modCan n (fun c => { c with
        sending := if b = 2 then c.safety else none }) s)).emit (.can n f (f.fdf && c.st == 3)))

/-- What TX_REQ refuses (R466, R474, R475). -/
def opTxReq (n mask : Nat) : Op where
  check s :=
    if cf s n 1 = 2 then wrongState s
    else if mask.testBit 2 && islandOwns s n then some (0x45, mkId 12 n 0x14, 0)
    else match (List.range 3).find? (fun b => mask.testBit b &&
        ((s.pn 12 (txId n b) 2).testBit 2 && (cf s n 2 == 0 || (s.pn 12 (txId n b) 2).testBit 0))) with
      | some b => some (stConflict, mkId 12 (txId n b) 2, mkId 12 n (if cf s n 2 = 0 then 2 else 0x14))
      | none => none
  act s := (List.range 3).foldl (fun s b =>
    if mask.testBit b && (txb s n b).st != 1 && (txb s n b).st != 2 then modTxb n b (fun x => { x with st := 1, attempts := 0, abort := false }) s
    else s) s

def execTxReq (dt : Nat) (p : Fin 8) (n : Fin 4) (mask : BitVec 3) (s : State) : Host.Outcome State Fault Refusal :=
  done (opCmd p .token (mkId 12 n 0x14) mask.toNat (opTxReq n mask.toNat) (s.begin dt))

/-- TX_ABORT (R469): PENDING at once, SENDING at the end of its attempt. -/
def opTxAbort (n mask : Nat) : Op where
  check s := if mask.testBit 2 && islandOwns s n then some (0x45, mkId 12 n 0x15, 0) else none
  act s := (List.range 3).foldl (fun s b =>
    if !mask.testBit b then s
    else if (txb s n b).st = 1 then modTxb n b (fun x => { x with st := 5 }) s
    else if (txb s n b).st = 2 then modTxb n b (fun x => { x with abort := true }) s
    else s) s

def execTxAbort (dt : Nat) (p : Fin 8) (n : Fin 4) (mask : BitVec 3) (s : State) : Host.Outcome State Fault Refusal :=
  done (opCmd p .token (mkId 12 n 0x15) mask.toNat (opTxAbort n mask.toNat) (s.begin dt))

/-- CAN_RECOVER (R471). -/
def opCanRecover (n : Nat) : Op where
  check s := if (can s n).st = 4 then none else wrongState s
  act s := modCan n (fun c => { c with counting := true }) s

def execCanRecover (dt : Nat) (p : Fin 8) (n : Fin 4) (s : State) : Host.Outcome State Fault Refusal :=
  done (opCmd p .token (mkId 12 n 0x16) 1 (opCanRecover n) (s.begin dt))

/-- The counts of an attempt that ended in an error: TEC by 8, but for an ACK error of an error-passive transmitter that sees no
dominant bit in its flag, and a stuff error during arbitration (R470, Table 18-2). -/
def txTec (passive : Bool) : CanEnd → Nat
  | .ackError dominant => if passive && !dominant then 0 else 8
  | .stuffArb => 0
  | .bitError => 8 | .other => 8
  | .success => 0 | .arbitration => 0

/-- An attempt of buffer b has failed (R468, R469, R475). -/
def attemptFailed (n b : Nat) (s : State) : State :=
  let x := txb s n b
  let k := min (x.attempts + 1) 16
  let island := b == 2 && (can s n).safety.isSome
  if x.abort then modTxb n b (fun x => { x with st := 5, attempts := k, abort := false }) s
  else if !island && cf s n 15 < 16 && cf s n 15 + 1 ≤ x.attempts + 1 then
    raiseDev (0x3320 + n) 0 0 (modTxb n b (fun x => { x with st := 4, attempts := k }) s)
  else modTxb n b (fun x => { x with st := 1, attempts := k }) s

/-- After a frame: a MODE of OFF, or a change of clock source, takes effect (Table 18-4, R461). -/
def frameEnd (n : Nat) (s : State) : State :=
  let c := can s n
  if c.goOff then canRefresh n (canOff n s)
  else if c.restart then modCan n (fun c => { c with st := if c.st = 4 then 4 else 1, restart := false }) s
  else s

/-- CAN_TX_ATTEMPT_END: how the attempt of the SENDING buffer ends, and the delay measured for it (R464). -/
def execCanTxAttemptEnd (dt : Nat) (n : Fin 4) (e : CanEnd) (tdc : Nat) (s : State) : Host.Outcome State Fault Refusal :=
  let s := s.begin dt
  match (List.range 3).find? (fun b => (txb s n b).st == 2) with
  | none => done s
  | some b =>
    let c := can s n
    let f := bufFrame s n b
    let s := if cf s n 11 = 1 && f.fdf && f.brs then modCan n (fun c => { c with tdc := tdc }) s else s
    let s := match e with
      | .success =>
        let newer := b == 2 && c.safety.isSome && c.safety != c.sending
        let s := modTxb n b (fun x => { x with st := if newer then 1 else 3, abort := false }) (modCan n (fun c => { c with
          tec := c.tec - 1, safety := if b = 2 && !newer then none else c.safety }) s)
        condHolds (0x3320 + n) 0 0 s
      | .arbitration => modTxb n b (fun x => { x with st := if x.abort then 5 else 1, abort := false }) s
      | e =>
        let s := modCan n (fun c => { c with
          tec := c.tec + txTec (c.st == 3) e, bitErrs := if e = .bitError then sat32 c.bitErrs else c.bitErrs }) s
        attemptFailed n b s
    done (frameEnd n (canErrors n s))

/-! Receiving (R470, R472 to R475). -/

/-- CAN_RECEIVE_ERROR: REC by 1, or by 8 when a dominant bit follows the receiver's own error flag; not in LISTEN_ONLY. -/
def execCanReceiveError (dt : Nat) (n : Fin 4) (primary : Bool) (s : State) : Host.Outcome State Fault Refusal :=
  let s := s.begin dt
  let c := can s n
  if !(c.st == 2 || c.st == 3) || cf s n 1 ≠ 1 then done s
  else done (frameEnd n (canErrors n (modCan n (fun c => { c with recN := min (c.recN + if primary then 8 else 1) 135 }) s)))

def filterInst (n f : Nat) : Nat := 0x100 + 0x10 * n + f
def filterHits (s : State) (n : Nat) (fr : CanFrame) (f : Nat) : Bool :=
  let i := filterInst n f
  let id := s.pn 12 i 1
  s.pn 12 i 3 == 1 && (decide (2 ^ 31 ≤ id) == fr.ide) && Nat.land (Nat.xor fr.id (id % 2 ^ 29)) (s.pn 12 i 2) % 2 ^ 29 == 0

/-- The safety connection a frame belongs to (R475). -/
def islandFrame (s : State) (n : Nat) (fr : CanFrame) : Option Nat :=
  (List.range 4).find? (fun k =>
    let a := sf s (0x200 + k) 8
    scOn s k && sf s (0x200 + k) 2 == 1 && sf s (0x200 + k) 9 == n && fr.ide == decide (2 ^ 31 ≤ a) &&
      fr.id == (if 2 ^ 31 ≤ a then a % 2 ^ 29 else a % 2 ^ 11 * 2 ^ 18))

/-- Into the FIFO of 32 (R472). -/
def fifoPut (n : Nat) (x : CanRx) (s : State) : State :=
  let c := can s n
  if 32 ≤ c.fifo.length then
    raiseDev (0x3330 + n) 0 0 (condFails (0x3330 + n) 0 0 (modCan n (fun c => { c with rxLost := sat32 c.rxLost, lostMark := true }) s))
  else modCan n (fun c => { c with fifo := c.fifo ++ [{ x with lost := c.lostMark }], lostMark := false }) s

/-- A wake frame causes ARM, unless one is in progress (R473, Table 1-4). -/
def wakeArm (n : Nat) (fr : CanFrame) (s : State) : State :=
  let w := cf s n 0x12
  if s.dev = .parked && w < 16 && filterHits s n fr w && cf s n 0x13 = 1 && s.trans.isEmpty then
    { s with trans := [{ kind := 0, part := 8, tick := s.tickNow + 1 }] }
  else s

/-- CAN_FRAME_RX: a frame without error, whose SOF was sampled `age` steps ago. With FD_EN 0 a set FDF is a form error (R460). -/
def execCanFrameRx (dt : Nat) (n : Fin 4) (fr : CanFrame) (esi : Bool) (age : Nat) (s : State) : Host.Outcome State Fault Refusal :=
  let s := s.begin dt
  let c := can s n
  if !(c.st == 2 || c.st == 3) then done s
  else if fr.fdf && cf s n 2 = 0 then
    done (frameEnd n (if cf s n 1 = 1 then canErrors n (modCan n (fun c => { c with recN := min (c.recN + 1) 135 }) s) else s))
  else
    let s := if cf s n 1 ≠ 1 then s
      else if c.recN ≤ 127 then modCan n (fun c => { c with recN := c.recN - 1 }) s
      else let v := s.freeWord; modCan n (fun c => { c with recN := 119 + v.1.toNat % 9 }) v.2
    let s := canErrors n s
    match islandFrame s n fr with
    | some k => done (frameEnd n (if fr.fdf && fr.dlc = 11 then scReceive k fr.data s else if (sc s k).st = 0 then s else scrcFail k s))
    | none =>
      match (List.range 16).find? (filterHits s n fr) with
      | none => done (frameEnd n s)
      | some f =>
        let s := fifoPut n { time := s.now - age * stepQ, frame := fr, esi := esi, lost := false, filter := f } s
        done (frameEnd n (wakeArm n fr s))

/-- A transmit buffer returns to EMPTY when a field of it is written (Table 18-6). -/
def txbWritten (ids : List Nat) (s : State) : State :=
  (ids.filter (fun id => idUnit id == 12 && decide (0x200 ≤ idInst id))).foldl (fun s id =>
    modTxb ((idInst id - 0x200) / 16) (idInst id % 16) (fun _ => {}) s) s

/-- The packet of a received frame (Table 18-3). -/
def rxWords (x : CanRx) : List Word :=
  let f := x.frame
  let b := fun (v : Bool) (i : Nat) => if v then 2 ^ i else 0
  let q := x.time / cycQ * cycQ
  let words := fun (l : List Byte) => (List.range ((l.length + 3) / 4)).map (fun i =>
    BitVec.ofNat 32 (ofBytesBE (((l.drop (4 * i)).take 4) ++ List.replicate (4 - ((l.drop (4 * i)).take 4).length) 0)))
  [BitVec.ofNat 32 (secOf q), BitVec.ofNat 32 (nsOf q), BitVec.ofNat 32 (b f.ide 31 + f.id),
   BitVec.ofNat 32 (b f.fdf 31 + b f.brs 30 + b x.esi 29 + b f.rtr 28 + b x.lost 27 + x.filter * 256 + f.dlc)] ++ words f.data

end Sys2Proof.Machine
end

