-- ==== Sys2Proof/Machine/Clocks.lean ====
section
/-! DEFINITION. Clock synthesis (spec/17_clocks.md): references, PLLs, the eight outputs. -/
namespace Sys2Proof.Machine

def modClk (f : Clk → Clk) (s : State) : State := { s with clk := f s.clk }
def clkOut (s : State) (c : Nat) : ClkOut := vget s.clk.out c {}
def modOut (c : Nat) (f : ClkOut → ClkOut) (s : State) : State := modClk (fun k => { k with out := vmod k.out c f }) s

/-! Outputs (R450 to R453). Time is in clock steps for an output of source OPLL, in TB[0] steps for source TB0. -/

def srcTb (s : State) (c : Nat) : Bool := s.pn 13 c 3 == 1
def outNow (s : State) (c : Nat) : Nat := if srcTb s c then s.nowStep else s.clock

/-- The fractional word of the VCO with the steer in force: N in 2^-64. -/
def vcoWord (s : State) : Nat := ((s.clk.nInt * 2 ^ 24 + s.clk.nFrac : Nat) * (2 ^ 40 + s.clk.steer)).toNat

/-- The period of an output in steps, as a fraction: 640 DIV / N for OPLL, TB_PERIOD for TB0. -/
def outPeriod (s : State) (c : Nat) : Nat × Nat :=
  if srcTb s c then ((clkOut s c).per, 1) else (640 * (clkOut s c).div * 2 ^ 64, max (vcoWord s) 1)

def ceilDiv (a b : Nat) : Nat := (a + b - 1) / max b 1

/-- A whole number of steps that a cycle takes, rounded up. -/
def outCycle (s : State) (c : Nat) : Nat := let p := outPeriod s c; ceilDiv p.1 p.2

/-- The first rising edge at or after `t` of a run whose first edge was at `f`. -/
def nextEdge (f t : Nat) (p : Nat × Nat) : Nat :=
  if t ≤ f then f else f + ceilDiv (ceilDiv ((t - f) * p.2) p.1 * p.1) p.2

/-- The first edge of the TB0 grid t_origin + k TB_PERIOD at or after t (R450). -/
def gridEdge (s : State) (c t : Nat) : Nat :=
  let per := max (clkOut s c).per 1
  let o := s.alm.origin / stepQ
  if t ≤ o then o else o + (t - o + per - 1) / per * per

/-- The output may run: ENABLE in ARMED, RUN and BLOCKED, its source locked (R451, R452). -/
def outMayRun (s : State) (c : Nat) : Bool :=
  s.awake && s.pn 13 c 1 == 1 &&
    (if srcTb s c then s.clk.tpll == .locked else s.clk.opll == .locked && s.clk.xmOk)

def outRunning (s : State) (c : Nat) : Bool :=
  let o := clkOut s c
  (match o.stopAt with | some e => decide (outNow s c < e) | none => false) ||
    (match o.runFrom with | some f => decide (f ≤ outNow s c) | none => false)

/-- OUT_STATE (Table 17-8): 0 off, 1 running, 2 gated. -/
def outState (s : State) (c : Nat) : Nat :=
  if outRunning s c then 1 else if s.awake && s.pn 13 c 1 == 1 then 2 else 0

/-- Hold the output low from the end of its current cycle (R452). -/
def gateOut (c : Nat) (s : State) : State :=
  let o := clkOut s c
  match o.runFrom with
  | none => s
  | some f =>
    if f ≤ outNow s c then modOut c (fun o => { o with runFrom := none, stopAt := some (nextEdge f (outNow s c) (outPeriod s c)) }) s
    else modOut c (fun o => { o with runFrom := none }) s

/-- Let the output run again from `t`: one full cycle passes, and the first rising edge is the next one of the divider (R453);
on the aligned grid if SYNC_IN restarted the divider meanwhile (Table 17-5). Where the divider stands at `t` is a free value. -/
def startOut (c t : Nat) (s : State) : State :=
  let o := clkOut s c
  let cyc := outCycle s c
  if srcTb s c then modOut c (fun o => { o with runFrom := some (gridEdge s c (t + cyc)) }) s
  else match o.align with
    | some a => modOut c (fun o => { o with runFrom := some (nextEdge a (t + cyc) (outPeriod s c)), align := none }) s
    | none =>
      let v := s.freeWord
      modOut c (fun o => { o with runFrom := some (t + cyc + v.1.toNat % (cyc + 1)) }) v.2

def outHalt (c : Nat) (e : Pend) : Bool := idUnit e.id == 13 && idInst e.id == c && (idField e.id == 2 || idField e.id == 3)

/-- FORMAT and SRC of an output that is off or gated take their pending values (R458). -/
def promoteOut (c : Nat) (s : State) : State :=
  if outRunning s c || !s.pend.any (outHalt c) then s
  else modOut c (fun o => { o with runFrom := none, stopAt := none, align := none }) (promoteWhere (outHalt c) s)

/-- FORMAT and SRC of every output that is off or gated take their pending values. -/
def promoteOuts (s : State) : State := (List.range 8).foldl (fun s c => promoteOut c s) s

/-- The outputs follow what lets them run. -/
def refreshOuts (s : State) : State :=
  (List.range 8).foldl (fun s c =>
    let s := promoteOut c s
    let o := clkOut s c
    if outMayRun s c then (if o.runFrom.isNone then startOut c (max (outNow s c) (o.stopAt.getD 0)) s else s)
    else gateOut c s) s

/-- Source OPLL and now gated. -/
def gateOpll (s : State) : State := (List.range 8).foldl (fun s c => if srcTb s c then s else gateOut c s) s

/-- A write of N_INT, N_FRAC, DITHER_EN or DITHER_SEED has been accepted: the outputs of source OPLL are gated and the OPLL retunes
with the LFSR reloaded (R453, R455). -/
def retune (s : State) : State :=
  let s := gateOpll s
  modClk (fun k => { k with
    nInt := s.pn 13 0x100 1, nFrac := s.pn 13 0x100 2, dither := s.pn 13 0x100 3 == 1, seed := s.pn 13 0x100 4
    opll := if k.opll == .off then .off else .acquiring }) s

/-- A write that changes DIV or TB_PERIOD alone: the output is gated, the new value loaded at the gate, pending FORMAT and SRC with it,
and it resumes one full new cycle later (R453, R458). -/
def changeOut (c : Nat) (s : State) : State :=
  let ran := (clkOut s c).runFrom.isSome
  let s := gateOut c s
  let wait := (clkOut s c).stopAt.getD 0 - outNow s c
  let s := promoteWhere (outHalt c) s
  let gate := outNow s c + wait
  let s := modOut c (fun o => { o with stopAt := if wait = 0 then none else some gate }) s
  let s := modOut c (fun o => { o with div := s.pn 13 c 4, per := s.ptn 13 c 5 / stepQ }) s
  if !ran then s
  else if srcTb s c then modOut c (fun o => { o with runFrom := some (gridEdge s c (gate + outCycle s c)) }) s
  else modOut c (fun o => { o with runFrom := some (gate + outCycle s c) }) s

/-- DIV and TB_PERIOD of an output, and the set of the OPLL, as written and as in force. -/
def outDiffers (s : State) (c : Nat) : Bool := s.pn 13 c 4 != (clkOut s c).div || s.ptn 13 c 5 / stepQ != (clkOut s c).per
def opllDiffers (s : State) : Bool :=
  s.pn 13 0x100 1 != s.clk.nInt || s.pn 13 0x100 2 != s.clk.nFrac || (s.pn 13 0x100 3 == 1) != s.clk.dither || s.pn 13 0x100 4 != s.clk.seed

/-- CLK fields whose write acts from its acceptance, where it changes them (R453): `ids` have been set. -/
def clkWritten (ids : List Nat) (s : State) : State :=
  let clk := ids.filter (fun id => idUnit id == 13)
  let outs := (List.range 8).filter (fun c => clk.any (fun id => idInst id == c && (idField id == 4 || idField id == 5)) && outDiffers s c)
  let s := outs.foldl (fun s c => changeOut c s) s
  if clk.any (fun id => idInst id == 0x100 && idField id ≤ 4) && opllDiffers s then retune s else s

/-- The outputs and the OPLL take over what a pattern set. -/
def clkFollow (s : State) : State :=
  clkWritten (mkId 13 0x100 1 :: (List.range 8).map (fun c => mkId 13 c 4)) s

/-! PLLs (R447 to R449). Numbers: 0 CPLL, 1 FPLL, 2 TPLL, 3 OPLL, 4 + q LPLL[q]. -/

/-- The four PLLs as a device state runs them (Table 1-6). -/
def runPlls (c f t o : Bool) (s : State) : State :=
  let g := fun (on : Bool) (p : Pll) => if on then (if p == .off then .acquiring else p) else .off
  modClk (fun k => { k with cpll := g c k.cpll, fpll := g f k.fpll, tpll := g t k.tpll, opll := g o k.opll }) s

/-- LOL on every lane of a quad (R430): the owners raise their own link faults. -/
def setLol (n : Nat) (s : State) : State :=
  { s with lanes := { s.lanes with lane := tabMod s.lanes.lane n {} (fun x =>
    { x with lol := true, sync := false, badSince := some (x.badSince.getD s.clock) }) } }

/-- A PLL is declared unlocked (Table 17-3). -/
def pllLost (x : Nat) (s : State) : State :=
  if x = 0 && s.clk.cpll = .locked then raiseDev 0x7303 0 0 (modClk (fun k => { k with cpll := .lost }) s)
  else if x = 1 && s.clk.fpll = .locked then raise 0x7004 0 0 1 0 [] (modClk (fun k => { k with fpll := .lost }) s)
  else if x = 2 && s.clk.tpll = .locked then
    raise 0x7004 0 0 2 0 [] (refreshOuts (modClk (fun k => { k with tpll := .lost }) s))
  else if x = 3 && s.clk.opll = .locked then raiseDev 0x7304 0 0 (refreshOuts (modClk (fun k => { k with opll := .lost }) s))
  else s

/-- A PLL is declared locked. The TPLL's lock ends the 40 ns resolution of PARKED without a leap (R28, R449). -/
def pllLocked (x : Nat) (s : State) : State :=
  let up := fun (p : Pll) => if p == .off then .off else .locked
  if x = 0 then modClk (fun k => { k with cpll := up k.cpll }) s
  else if x = 1 then modClk (fun k => { k with fpll := up k.fpll }) s
  else if x = 2 then
    let s := modClk (fun k => { k with tpll := up k.tpll }) s
    refreshOuts (if s.clk.tpll = .locked then { s with alm := { s.alm with coarse := false, coarseRem := 0 } } else s)
  else if x = 3 then
    let s := modClk (fun k => { k with opll := up k.opll }) s
    if s.clk.opll = .locked then refreshOuts (condHolds 0x7304 0 0 s) else s
  else s

/-- XM_OK_RISING: the PLLs that run start their lock from it; in step 3 of a release they start (R481). -/
def execXmOkRising (dt : Nat) (s : State) : Host.Outcome State Fault Refusal :=
  let s := s.begin dt
  let s := if s.sys.step = 3 then runPlls true true true true s else s
  done (modClk (fun k => { k with
    xmOk := true
    cpll := if k.cpll == .lost then .acquiring else k.cpll, fpll := if k.fpll == .lost then .acquiring else k.fpll
    tpll := if k.tpll == .lost then .acquiring else k.tpll, opll := if k.opll == .lost then .acquiring else k.opll }) s)

/-- XS_OK_RISING. -/
def execXsOkRising (dt : Nat) (s : State) : Host.Outcome State Fault Refusal :=
  done (modClk (fun k => { k with xsOk := true }) (s.begin dt))

/-- XS_LOSS: the keeper counts on its RC tick (R446). -/
def execXsLoss (dt : Nat) (s : State) : Host.Outcome State Fault Refusal :=
  let s := modClk (fun k => { k with xsOk := false }) (s.begin dt)
  done (if s.dev.powered then raiseDev 0x7302 0 0 (condFails 0x7302 0 0 s) else s)

/-- REF_MEASURE: once per second, of an enabled input: `present` no edge missing, `ppm` in 2^-16 ppm (R445). -/
def execRefMeasure (dt : Nat) (x : Fin 2) (present : Bool) (ppm : Int) (s : State) : Host.Outcome State Fault Refusal :=
  let s := s.begin dt
  if s.pn 13 0x200 (1 + x) = 0 then done s
  else
    let ok := present && decide (ppm.natAbs ≤ 200 * 65536)
    let was := vget s.clk.refOk x false
    let s := modClk (fun k => { k with refOk := vmod k.refOk x (fun _ => ok), refPpm := vmod k.refPpm x (fun _ => ppm) }) s
    if was && !ok then done (raiseDev (0x7305 + x.val) 0 0 s)
    else if !ok then done (condFails (0x7305 + x.val) 0 0 s) else done s

/-! Commands and events on the outputs. -/

/-- VCO of 2.5 to 3.5 GHz, and every output of source OPLL within its format's limit (R450): the first ID outside. -/
def vcoOk (ni nf : Nat) : Bool := decide (100 * 2 ^ 24 ≤ ni * 2 ^ 24 + nf) && decide (ni * 2 ^ 24 + nf ≤ 140 * 2 ^ 24)

def fmtLimit (fmt : Nat) : Nat := if fmt = 0 then 125000000 else if fmt = 1 then 800000000 else 400000000

/-- An output's frequency under a view of the fields is within its format's limit. -/
def outFreqOk (w : Nat → Wire) (c : Nat) : Bool :=
  let f := fun i => lo32 (w (mkId 13 c i))
  let g := fun i => lo32 (w (mkId 13 0x100 i))
  let lim := fmtLimit (f 2)
  if f 3 = 0 then decide (25000000 * (g 1 * 2 ^ 24 + g 2) ≤ lim * f 4 * 2 ^ 24)
  else decide (secQn ≤ lim * (w (mkId 13 c 5)).toNat)

/-- The first CLK field of R450 out of its limits, under a view. -/
def clkCheck (w : Nat → Wire) : Option Nat :=
  if !vcoOk (lo32 (w (mkId 13 0x100 1))) (lo32 (w (mkId 13 0x100 2))) then some (mkId 13 0x100 1)
  else ((List.range 8).find? (fun c => !outFreqOk w c)).map (fun c => mkId 13 c 4)

def viewWith (s : State) (es : List (Nat × Wire)) (id : Nat) : Wire :=
  match es.find? (fun e => e.1 == id) with | some e => e.2 | none => s.wire id

/-- A write of CLK fields as one set. -/
def opClkSet (es : List (Nat × Wire)) : Op where
  check s :=
    match (List.range es.length).find? (fun i => match es[i]? with
      | some e => (match rowOf e.1 with
        | some r => (match r.rng with
          | .nat lo hi => decide (lo32 e.2 < lo) || decide (hi < lo32 e.2)
          | .even lo hi => decide (lo32 e.2 < lo) || decide (hi < lo32 e.2) || lo32 e.2 % 2 == 1
          | .time lo hi st => decide (e.2.toInt < lo) || decide (hi < e.2.toInt) || (st != 0 && e.2.toInt % st != 0)
          | _ => false)
        | none => true)
      | none => false) with
    | some i => some (stRange, (es.getD i (0, 0)).1, i)
    | none => (clkCheck (viewWith s es)).map (fun id => (stRange, id, 0))
  act s := clkWritten (es.map (·.1)) (es.foldl (fun s e => s.setPar e.1 e.2) s)

/-- OPLL_RETUNE: PARAM_WRITE of N_INT, N_FRAC, DITHER_EN and DITHER_SEED (R453). -/
def execOpllRetune (dt : Nat) (p : Fin 8) (ni nf dith seed : Word) (s : State) : Host.Outcome State Fault Refusal :=
  let e := fun (f : Nat) (v : Word) => (mkId 13 0x100 f, BitVec.ofNat 64 v.toNat)
  done (opCmd p .token (mkId 13 0x100 1) ni.toNat (opClkSet [e 1 ni, e 2 nf, e 3 dith, e 4 seed]) (s.begin dt))

/-- CLKOUT_DIV_CHANGE: PARAM_WRITE of DIV, or of TB_PERIOD, of one output (R453). -/
def execClkoutDivChange (dt : Nat) (p c : Fin 8) (tb : Bool) (v : Wire) (s : State) : Host.Outcome State Fault Refusal :=
  let id := mkId 13 c (if tb then 5 else 4)
  done (opCmd p .token id v.toNat (opClkSet [(id, v)]) (s.begin dt))

/-- OPLL_STEER: once per millisecond the fraction moves towards the steered timebase's rate correction, by at most 1 LSB per PFD
cycle (25,000 in a millisecond) and never beyond ±200 ppm (R454). -/
def execOpllSteer (dt : Nat) (s : State) : Host.Outcome State Fault Refusal :=
  let s := s.begin dt
  let k := s.pn 13 0x100 5
  let want : Int := if k = 0 then 0 else clampI (-ppm200) ppm200 (s.tb (k - 1)).rate
  let n : Nat := s.clk.nInt * 2 ^ 24 + s.clk.nFrac
  let step : Int := ((25000 * 2 ^ 40 / max n 1 : Nat) : Int)
  if s.clk.opll = .off || s.clk.steerAt.any (fun t => decide (s.clock < t + 16000000)) then done s
  else done (modClk (fun c => { c with steerAt := some s.clock, steer := c.steer + clampI (-step) step (want - c.steer) }) s)

/-- SYNC_IN_EDGE: a rising edge of at least 20 ns. In ARMED and BLOCKED every output of source OPLL with SYNC_EN ends its cycle and
has its first rising edge 200 ns and one full cycle after the edge (R456), and the IN groups with SYNC_EN reset their decimators
(R287). In RUN both blocks only count it. -/
def execSyncInEdge (dt width : Nat) (s : State) : Host.Outcome State Fault Refusal :=
  let s := s.begin dt
  if width < 320 then done s
  else if s.dev = .run then
    done { s with clk := { s.clk with syncIgnored := sat32 s.clk.syncIgnored }
                  bsd := { s.bsd with syncIgnored := sat32 s.bsd.syncIgnored } }
  else if s.dev = .armed || s.dev = .blocked then
    let s := armReset s
    done ((List.range 8).foldl (fun s c =>
      if srcTb s c || s.pn 13 c 6 = 0 then s
      else
        let first := s.clock + 3200 + outCycle s c
        if (clkOut s c).runFrom.isSome then modOut c (fun o => { o with runFrom := some first }) (gateOut c s)
        else modOut c (fun o => { o with align := some first }) s) s)
  else done s

/-- OPLL_VCO in Hz (Table 17-8). -/
def opllVco (s : State) : Nat := if s.clk.opll = .off then 0 else 25000000 * vcoWord s / 2 ^ 64

/-- LOCKS (Table 17-8). -/
def clkLocks (s : State) : Nat :=
  let b := fun (p : Bool) (i : Nat) => if p then 2 ^ i else 0
  b (s.clk.cpll == .locked) 0 + b (s.clk.fpll == .locked) 1 + b (s.clk.tpll == .locked) 2 + b (s.clk.opll == .locked) 3
    + b s.clk.xmOk 4 + b s.clk.xsOk 5 + b (s.pn 13 0x200 1 != 0 && vget s.clk.refOk 0 false) 6
    + b (s.pn 13 0x200 2 != 0 && vget s.clk.refOk 1 false) 7

/-- LOCK_A's density in per cent (Table 17-4): the PLLs of LOCK_A_MASK, with the quads in use. -/
def lockADensity (s : State) : Nat :=
  let m := s.pn 13 0x200 3
  let ps := [s.clk.cpll, s.clk.fpll, s.clk.tpll, s.clk.opll]
  let masked := (List.range 4).filterMap (fun i => if m.testBit i then ps[i]? else none)
  let wake := s.pn 14 0x200 1
  let quads := (List.range 16).filter (fun q => (List.range 4).any (fun i => (tabGet s.lanes.lane (4 * q + i) {}).pst != 2) ||
    (s.dev == .parked && q == (if wake = noneV then 0 else wake / 4)))
  let lp := !m.testBit 4 || quads.all (fun q => vget s.lanes.lock q false)
  let lpLost := m.testBit 4 && quads.any (fun q => vget s.lanes.lost q false)
  if !s.dev.powered || s.sys.step = 0 then 0
  else if !s.clk.xmOk || masked.contains .lost || lpLost then 10
  else if masked.all (· == .locked) && lp then 90 else 50

end Sys2Proof.Machine
end

