-- ==== Sys2Proof/Machine/Carder.lean ====
section
/-! DEFINITION. The cell carder (spec/06_modulator.md R189 to R194): the class of every cell, the ranking, and the insertion
changes of one tick. -/
namespace Sys2Proof.Machine

inductive CellClass where
  | held (ins : Bool) | blocked | stale | locked | free
deriving DecidableEq, Repr

/-- A reaction of LEG_OPEN or wider covers the cell in window n (R191), an automatic clearing attempt apart. -/
def reactionCovers (s : State) (n : Int) (c : Nat) : Bool :=
  s.spu.held.any (inModState s n c)
    || (match (s.chan c).resume with | some k => decide (n < k) | none => false)

def strPar (s : State) (g f : Nat) : Nat := s.pn 3 (0x300 + g) f
def vSignal (s : State) (g c : Nat) : Nat := 0x1000 + 16 * c + strPar s g 4

/-- The class of a cell at the insertion instant ts (R191). -/
def cellClass (s : State) (n : Int) (g ts c : Nat) : CellClass :=
  match s.pn 3 c 9 with
  | 1 => .held false
  | 2 => .held true
  | _ =>
    if reactionCovers s n c then .blocked
    else if !sigValid s (vSignal s g c) then .stale
    else match tabGet? s.mod.cellChange c with
      | some t => if decide (ts < t + s.ptn 3 c 4 / stepQ + s.ptn 3 c 5 / stepQ) then .locked else .free
      | none => .free

/-- round(v), ties to even, clamped to 0 to CELLS (R190). -/
def levelOf (v : Word) (cells : Nat) : Nat :=
  match fToIntScaled fmt32 0 v.toNat with
  | some i => (clampI 0 cells i).toNat
  | none => if v.toNat = fmt32.infBits then cells else 0

/-- Arm current with the sign that makes charging positive (R190). -/
def armCurrent (s : State) (g : Nat) : Nat :=
  let v := (sigVal s (strPar s g 5)).toNat
  if s.ps 3 (0x300 + g) 6 < 0 then fNeg fmt32 v else v

/-- The ranking key of a free cell; none stands for −∞ (R193). -/
def cellKey (dir : Int) (moving : Bool) (hyst v : Nat) (ins : Bool) : Option Nat :=
  let k := if dir < 0 then fNeg fmt32 v else v
  if ins then (if moving then some (fSub fmt32 k hyst) else none) else some k

/-- Lower key first, equal keys to the lower channel (R193). -/
def keyBefore (x y : Nat × Option Nat) : Bool :=
  match x.2, y.2 with
  | none, none => decide (x.1 ≤ y.1)
  | none, some _ => true
  | some _, none => false
  | some a, some b => fLt fmt32 a b || (!fLt fmt32 b a && decide (x.1 ≤ y.1))
def insKey (e : Nat × Option Nat) : List (Nat × Option Nat) → List (Nat × Option Nat)
  | [] => [e]
  | x :: r => if keyBefore x e then x :: insKey e r else e :: x :: r
def sortKeys (l : List (Nat × Option Nat)) : List (Nat × Option Nat) := l.foldl (fun acc e => insKey e acc) []

/-- The direction of the tick (R193). -/
def armDir (s : State) (g : Nat) (prev : Int) : Int :=
  let i := armCurrent s g
  let db := s.pn 3 (0x300 + g) 7
  if fLt fmt32 db i then 1 else if fLt fmt32 i (fNeg fmt32 db) then -1 else prev

/-- |i_arm| > I_DB (R193). -/
def armMoving (s : State) (g : Nat) : Bool := fLt fmt32 (s.pn 3 (0x300 + g) 7) (fAbs fmt32 (armCurrent s g))

/-- What the carder answers for one string in one tick: the string, each cell's decision, and the faults' inputs. -/
structure CardOut where
  str : Str
  cells : List (Nat × Option CellDec)
  stale : List Nat := []
  fresh : List Nat := []
  /-- Whether the level fell short; none without a LEVEL request. -/
  short : Option Bool := none
deriving DecidableEq, Repr

/-- One string in window [a, …) of tick n (R190 to R194). A gate 0 turns every cell off (R166); its cells keep their classes (R191). -/
def cardString (s : State) (n : Int) (a g : Nat) : CardOut :=
  let st := vget s.mod.str g {}
  let cells := strPar s g 3
  let c0 := strPar s g 2
  let cs := (List.range cells).map (c0 + ·)
  let ts := a + s.ptn 3 (0x300 + g) 9 / stepQ
  let dir := armDir s g st.dir
  let cl := cs.map (fun c => (c, cellClass s n g ts c))
  let stale := (cl.filter (fun e => e.2 == .stale)).map (·.1)
  let fresh := (cl.filter (fun e => sigValid s (vSignal s g e.1))).map (·.1)
  match tabGet s.lpe.req (256 + g) .off with
  | .off =>
    { str := { st with dir := dir, inserted := 0, avail := (cl.filter (fun e => e.2 == .free)).length, ranked := [] }
      cells := cs.map (fun c => (c, none)), stale := stale, fresh := fresh }
  | .val v =>
    let wasIn := fun (c : Nat) => tabGet s.mod.ins c false
    let free := (cl.filter (fun e => e.2 == .free)).map (·.1)
    let fixedIn := (cl.filter (fun e => e.2 == .held true || (e.2 == .locked && wasIn e.1))).length
    let lv := levelOf v cells
    let ne := min (max lv fixedIn) (fixedIn + free.length)
    let moving := armMoving s g
    let hyst := s.pn 3 (0x300 + g) 8
    let rank := (sortKeys (free.map (fun c => (c, cellKey dir moving hyst (sigVal s (vSignal s g c)).toNat (wasIn c))))).map (·.1)
    let chosen := rank.take (ne - fixedIn)
    let want := fun (e : Nat × CellClass) => match e.2 with
      | .held b => b
      | .locked => wasIn e.1
      | .free => chosen.contains e.1
      | _ => false
    let ds := cl.map (fun e => (e.1, if e.2 == .blocked then none else some ({ t := ts, ins := want e } : CellDec)))
    let nIn := (cl.filter want).length
    let changes := (cl.filter (fun e => e.2 != .blocked && want e != wasIn e.1)).length
    { str := { st with
        dir := dir, inserted := nIn, avail := free.length, ranked := rank, prevLevel := some (.val v)
        short := if ne = lv then st.short else sat32 st.short
        changes := min (st.changes + changes) max32 }
      cells := ds
      stale := stale
      fresh := fresh
      short := some (ne != lv) }

def strEnabled (s : State) (g : Nat) : Bool := strPar s g 1 == 1

/-- A held MOD_CELL_STALE clears in a tick without a dispatch as well, once its cell's voltage item is valid (Table 6-6). -/
def freshCells (s : State) : State :=
  (s.spu.held.filter (fun h => h.lr.code == 0x5301)).foldl (fun s h =>
    let c := h.lr.index
    match (List.range 8).find? (fun g => strEnabled s g && decide (strPar s g 2 ≤ c) && decide (c < strPar s g 2 + strPar s g 3)) with
    | some g => if sigValid s (vSignal s g c) then condHolds 0x5301 1 c (runRaise 0x5301 1 c 0 0 [] false s) else s
    | none => s) s

/-- All strings: their decisions, and the state after them with the string faults of Table 6-6. -/
def cardAll (s : State) (n : Int) (a : Nat) : List (Nat × Option CellDec) × State :=
  ((List.range 8).filter (strEnabled s)).foldl (fun (acc : List (Nat × Option CellDec) × State) g =>
    let s := acc.2
    let o := cardString s n a g
    let s := { s with mod := { s.mod with
      str := vmod s.mod.str g (fun _ => o.str)
      ins := o.cells.foldl (fun m e => match e.2 with
        | some d => if d.ins then tabPut m e.1 true else tabDel m e.1
        | none => tabDel m e.1) s.mod.ins
      cellChange := o.cells.foldl (fun m e => match e.2 with
        | some d => if d.ins != tabGet s.mod.ins e.1 false then tabPut m e.1 d.t else m
        | none => m) s.mod.cellChange } }
    let s := o.stale.foldl (fun s c => runRaise 0x5301 1 c 0 0 [c] true s) s
    let s := o.fresh.foldl (fun s c => condHolds 0x5301 1 c (runRaise 0x5301 1 c 0 0 [] false s)) s
    let s := match o.short with
      | some true => runRaise 0x5302 10 g 0 0 [] true s
      | some false => condHolds 0x5302 10 g (runRaise 0x5302 10 g 0 0 [] false s)
      | none => s
    (acc.1 ++ o.cells, s)) ([], s)

end Sys2Proof.Machine
end

