-- ==== Sys2Proof/Machine/Gfe.lean ====
section
/-! DEFINITION. The grid-forming engine (spec/03_grid_forming_engine.md, spec/04_grid_events.md): derived constants, the 29 steps of
one tick with the limit stage, the modes, the impedance observer, and the instance's faults. Numbers are binary64 patterns. -/
namespace Sys2Proof.Machine

def fa (x y : Nat) : Nat := fAdd fmt64 x y
def fs (x y : Nat) : Nat := fSub fmt64 x y
def fm (x y : Nat) : Nat := fMul fmt64 x y
def fd (x y : Nat) : Nat := fDiv fmt64 x y
def fsq (x : Nat) : Nat := fSqrt fmt64 x
def fmin (x y : Nat) : Nat := fMin fmt64 x y
def fmax (x y : Nat) : Nat := fMax fmt64 x y
def flt (x y : Nat) : Bool := fLt fmt64 x y
def fle (x y : Nat) : Bool := fLe fmt64 x y
def fneg (x : Nat) : Nat := fNeg fmt64 x
def fab (x : Nat) : Nat := fAbs fmt64 x
def f64 (n : Int) (d : Nat) : Nat := fOfQ fmt64 n d
def b64 (n : Nat) : F64 := BitVec.ofNat 64 n
def one : Nat := one64.toNat

/-- round64 as an angle increment modulo 2^64 (R81). -/
def round64 (x : Nat) : BitVec 64 := BitVec.ofInt 64 ((fToIntScaled fmt64 0 x).getD 0)

/-- 2π, √2 and the other constants of Tables 3-2 and 4-4, rounded once. -/
def c2pi : Nat := roundQ fmt64 false (2 * piFix) (2 ^ fracBits)
def cD64 : Nat := roundQ fmt64 false (2 * piFix) (2 ^ fracBits * 2 ^ 64)
def cS64 : Nat := sqrtQ fmt64 2 3
def cR2 : Nat := sqrtQ fmt64 2 1
def cR3 : Nat := sqrtQ fmt64 1 3
def cS2 : Nat := sqrtQ fmt64 3 4
def c23f : Nat := f64 2 3
def st64 (k : Nat) : Nat := fSinTurn fmt64 k 1024
def ct64 (k : Nat) : Nat := fCosTurn fmt64 k 1024

/-- sd and cd of R82. -/
def sdcd (phi : BitVec 64) : Nat × Nat :=
  let d := fm (f64 ((phi.toNat % 2 ^ 54 : Nat) : Int) 1) cD64
  let d2 := fm d d
  (fm d (fs one (fm d2 (fs (f64 1 6) (fm d2 (f64 1 120))))),
   fs one (fm d2 (fs (f64 1 2) (fm d2 (fs (f64 1 24) (fm d2 (f64 1 720)))))))
def sin64 (phi : BitVec 64) : Nat :=
  let k := phi.toNat / 2 ^ 54
  let c := sdcd phi
  fa (fm (st64 k) c.2) (fm (ct64 k) c.1)
def cos64 (phi : BitVec 64) : Nat :=
  let k := phi.toNat / 2 ^ 54
  let c := sdcd phi
  fs (fm (ct64 k) c.2) (fm (st64 k) c.1)

/-! Parameters and derived constants (R83, Tables 3-2 and 4-4). -/

def gp (s : State) (k f : Nat) : Nat := s.pd 1 k f
def q64 (b : Nat) : Int × Nat := (fToQ fmt64 b).getD (0, 1)
/-- A field times a power of ten, rounded once. -/
def si (b : Nat) (num den : Nat) : Nat := let q := q64 b; f64 (q.1 * num) (q.2 * den)
/-- Seconds of an interval in 2^-16 ns, exact. -/
def secsQ (q : Int) : Int × Nat := (q, secQn)
/-- F_NOM × t × 2^64, rounded once. -/
def kAngle (s : State) (k : Nat) (q : Int) : Nat :=
  let x := qMul (qMul (q64 (gp s k 2)) (secsQ q)) (2 ^ 64, 1)
  f64 x.1 x.2

def tS (s : State) : Nat := f64 s.alm.period secQn
def tauAdv (s : State) (k : Nat) : Int :=
  (s.alm.phaseW + s.alm.lcmd + s.alm.period / 2 : Nat) + s.pt 1 k 0xB
def fSetPu (s : State) (k : Nat) : Nat := fd (gp s k 0x33) (gp s k 2)
def fMinPu (s : State) (k : Nat) : Nat := fd (gp s k 0xC) (gp s k 2)
def fMaxPu (s : State) (k : Nat) : Nat := fd (gp s k 0xD) (gp s k 2)
/-- Ramp targets, with the GFE sinks' overrides of the previous tick (R153). -/
def target (s : State) (k i : Nat) : Nat :=
  let f := 0x30 + i
  match (s.gfi k).ovr.getD i none with
  | some v => if i = 3 then fd v.toNat (gp s k 2) else v.toNat
  | none => if i = 3 then fSetPu s k else gp s k f
def pStep (s : State) (k : Nat) : Nat := fm (gp s k 0x34) (tS s)
def qStep (s : State) (k : Nat) : Nat := fm (gp s k 0x35) (tS s)
def vStep (s : State) (k : Nat) : Nat := fm (gp s k 0x36) (tS s)
def fStep (s : State) (k : Nat) : Nat := fd (fm (gp s k 0x37) (tS s)) (gp s k 2)
def omB (s : State) (k : Nat) : Nat := fm c2pi (gp s k 2)
def omN (s : State) (k : Nat) : Nat := fm c2pi (gp s k 0x27)
def trkKp (s : State) (k : Nat) : Nat := fd (fm cR2 (omN s k)) (omB s k)
def trkKi (s : State) (k : Nat) : Nat := fd (fm (fm (omN s k) (omN s k)) (tS s)) (omB s k)
def vBase (s : State) (k : Nat) : Nat := fm (si (gp s k 4) 1000 1) cS64
def iBase (s : State) (k : Nat) : Nat := fm (fd (si (gp s k 3) 1000000 1) (si (gp s k 4) 1000 1)) cS64
def kV (s : State) (k : Nat) : Nat := fd (gp s k 7) (vBase s k)
def kI (s : State) (k : Nat) : Nat := fd (gp s k 8) (iBase s k)
def gP (s : State) (k : Nat) : Nat := fd one (gp s k 0x22)
def aSw (s : State) (k : Nat) : Nat := fd (tS s) (fm (f64 2 1) (gp s k 0x20))
def aQ (s : State) (k : Nat) : Nat := let t := si (gp s k 0x24) 1 1000; fd (tS s) (fa t (tS s))
def kLi (s : State) (k : Nat) : Nat := fd (fm (gp s k 0x44) (tS s)) (si (gp s k 0x45) 1 1000)
def omL : Nat := fm c2pi (f64 2 1)
def kL (s : State) (k : Nat) : Nat := fd (fm (fm (fm (f64 2 1) (gp s k 0x20)) omL) omL) (omB s k)
def n20 (s : State) : Nat := (20 * 1000000 * nsecQ + s.alm.period - 1) / max s.alm.period 1
/-- Sine of an angle in degrees, and degrees in radians, exact and rounded once. -/
def sinDeg (b : Nat) : Nat := let q := q64 b; fSinTurn fmt64 q.1 (q.2 * 360)
def radDeg (b : Nat) : Nat := let q := q64 b; f64 (q.1 * piFix) (q.2 * 180 * 2 ^ fracBits)
def vDead : Nat := f64 5 100
def vLive : Nat := f64 1 2
def kPr (s : State) (k : Nat) (q : Int) : Nat :=
  let x := qMul (qMul (q64 (gp s k 0x72)) (secsQ q)) (2 ^ 64, 1)
  f64 x.1 x.2
/-- SCR_PERIOD / T_tick to the nearest integer. -/
def nW (s : State) (k : Nat) : Nat :=
  let x := q64 (gp s k 0x73)
  divEven (x.1.toNat * secQn) (x.2 * max s.alm.period 1)

/-- The source triple in use, and MEAS_DELAY: the written value, or the source's own (R91). -/
def gfeSrc (s : State) (k : Nat) (cur : Bool) : Nat :=
  let l := if cur then (s.gfi k).lossI else (s.gfi k).lossV
  s.pn 1 k (if l.alt then (if cur then 0x11 else 0x10) else (if cur then 6 else 5))
/-- What the firmware sets MEAS_DELAY_V or MEAS_DELAY_I to for the source in use (R91). -/
def sourceDelay (s : State) (k : Nat) (cur : Bool) : Int :=
  let n := gfeSrc s k cur
  if n = noneV then 0 else signalAge s.wire n
/-- MEAS_DELAY_V or MEAS_DELAY_I: the written value, else the firmware's (R91). -/
def measDelay (s : State) (k : Nat) (cur : Bool) : Int :=
  match tabGet? s.par (mkId 1 k (if cur then 0xA else 9)) with
  | some v => v.toInt
  | none => sourceDelay s k cur
/-- A change of source ends a written MEAS_DELAY (R91). -/
def sourceChanged (k : Nat) (cur : Bool) (s : State) : State := { s with par := tabDel s.par (mkId 1 k (if cur then 0xA else 9)) }

def ramp (x t st : Nat) : Nat := fa x (fmin (fmax (fs t x) (fneg st)) st)

/-! The tick. -/

/-- What one tick's steps yield beside the state. -/
structure GfeTick where
  g : Gfi
  e : Nat := 0
  m : Nat := 0
  clamped : Bool := false
  vrDone : Bool := false
  scr : Option (Option (Nat × Nat)) := none
deriving DecidableEq, Repr

def xvNow (s : State) (k : Nat) (g : Gfi) : Nat := (g.xvS.map (·.toNat)).getD (gp s k 0x26)
def dNow (s : State) (k : Nat) (g : Gfi) : Nat := (g.dS.map (·.toNat)).getD (gp s k 0x21)

def modeCode : Mode → Nat
  | .idle => 0 | .energize => 1 | .sync => 2 | .form => 3 | .ride => 4 | .island => 5 | .stop => 6

def c32 (x : Nat) : Word := w32 (fConvert fmt64 fmt32 x)

/-- Signals of Table 3-3 in row order. -/
def gfeSignals (thOut phiI : BitVec 64) (al be vd vq idq iqq : Nat) (g : Gfi) : List Word :=
  let a := al
  let b := fa (fm (fneg (f64 1 2)) al) (fm cS2 be)
  let c := fs (fm (fneg (f64 1 2)) al) (fm cS2 be)
  [c32 a, c32 b, c32 c, c32 vd, c32 vq, c32 (cos64 thOut), c32 (sin64 thOut), c32 (cos64 phiI), c32 (sin64 phiI), c32 idq, c32 iqq,
   c32 g.pe.toNat, c32 g.qe.toNat, c32 g.omega.toNat, c32 g.omegaG.toNat, c32 g.emf.toNat,
   (thOut >>> 32).truncate 32, w32 (modeCode g.mode), 0]

/-- Measured values of steps 1 to 8 and 10. -/
structure Meas where
  va : Nat
  vb : Nat
  ia : Nat
  ib : Nat
  phiV : BitVec 64
  phiI : BitVec 64
  vd : Nat
  vq : Nat
  id_ : Nat
  iq : Nat
  m : Nat
deriving DecidableEq, Repr

def clarke (k : Nat) (x : List Word) : Nat × Nat :=
  let v := fun i => fm k (fConvert fmt32 fmt64 (wN x i))
  (fm (fs (v 0) (fm (f64 1 2) (fa (v 1) (v 2)))) c23f, fm (fs (v 1) (v 2)) cR3)
def park (al be : Nat) (phi : BitVec 64) : Nat × Nat :=
  (fa (fm al (cos64 phi)) (fm be (sin64 phi)), fs (fm be (cos64 phi)) (fm al (sin64 phi)))

def measure (s : State) (k : Nat) (g : Gfi) (v i : List Word) : Meas :=
  let ab := clarke (kV s k) v
  let cd := clarke (kI s k) i
  let phiV := g.theta - round64 (fm g.omega.toNat (kAngle s k (measDelay s k false)))
  let phiI := g.theta - round64 (fm g.omega.toNat (kAngle s k (measDelay s k true)))
  let vdq := park ab.1 ab.2 phiV
  let idq := park cd.1 cd.2 phiI
  { va := ab.1, vb := ab.2, ia := cd.1, ib := cd.2, phiV := phiV, phiI := phiI, vd := vdq.1, vq := vdq.2, id_ := idq.1, iq := idq.2
    m := fsq (fa (fm ab.1 ab.1) (fm ab.2 ab.2)) }

/-- Steps 7 to 14 and the RoCoF of R123; q_f is left as it is in RIDE. -/
def track (s : State) (k : Nat) (g : Gfi) (x : Meas) : Gfi × Nat :=
  let pe := fa (fm x.vd x.id_) (fm x.vq x.iq)
  let qe := fs (fm x.vq x.id_) (fm x.vd x.iq)
  let qf := if g.mode = .ride then g.qf.toNat else fa g.qf.toNat (fm (aQ s k) (fs qe g.qf.toNat))
  let e := if fle vDead x.m then fd (fs (fm x.vb (cos64 g.thetaG)) (fm x.va (sin64 g.thetaG))) x.m else 0
  let wi := fmin (fmax (fa g.wi.toNat (fm (trkKi s k) e)) (fMinPu s k)) (fMaxPu s k)
  let og := fmin (fmax (fa wi (fm (trkKp s k) e)) (fMinPu s k)) (fMaxPu s k)
  let krc := fd (gp s k 2) (tS s)
  let arc := fd (tS s) (f64 1 10)
  let r := fa g.rocof.toNat (fm arc (fs (fm (fs og g.omegaG.toNat) krc) g.rocof.toNat))
  ({ g with
    pe := b64 pe, qe := b64 qe, qf := b64 qf, mag := b64 x.m, wi := b64 wi, omegaG := b64 og, omegaGPrev := g.omegaG
    thetaG := g.thetaG + round64 (fm og (kAngle s k s.alm.period)), rocof := b64 r }, e)

/-- The IDLE hold (R107). DEDUCED: the angle that passes through zero is a cycle boundary here too (R87; notes/assumptions/63.md). -/
def idleHold (s : State) (k : Nat) (g : Gfi) (x : Meas) : Gfi :=
  let og := g.omegaG.toNat
  let thOut := g.theta + round64 (fm og (kAngle s k (tauAdv s k)))
  let thNext := g.thetaG + round64 (fm og (kAngle s k (measDelay s k false)))
  let g := { g with
    theta := thNext
    thetaOut := thOut, phiV := x.phiV, phiI := x.phiI
    omega := g.omegaG, fr := g.omegaG
    pr := 0, qr := 0, vr := 0, qf := 0, pCorr := 0, xf := 0, ui := 0, ysy := 0, eri := 0, er := 0
    rvE := b64 (gp s k 0x25), xvE := b64 (xvNow s k g), emf := 0
    im := b64 (fsq (fa (fm x.id_ x.id_) (fm x.iq x.iq)))
    hard := false, hold := false, probeOn := false, cycle := decide (thNext.toNat < g.theta.toNat)
    svr := 0, svi := 0, sir := 0, sii := 0, count := 0 }
  { g with sig := gfeSignals thOut x.phiI 0 0 0 0 x.id_ x.iq g }

/-- Steps 15 and 16 by mode (Table 4-1, R124, R125). -/
def setpoints (s : State) (k : Nat) (g : Gfi) (m : Nat) : Gfi :=
  let og := g.omegaG.toNat
  match g.mode with
  | .ride => g
  | .idle => g
  | _ =>
    let g := if g.mode = .stop then { g with pr := b64 (ramp g.pr.toNat 0 g.pSp.toNat), qr := b64 (ramp g.qr.toNat 0 g.qSp.toNat) }
      else { g with pr := b64 (ramp g.pr.toNat (target s k 0) (pStep s k)), qr := b64 (ramp g.qr.toNat (target s k 1) (qStep s k)) }
    match g.mode with
    | .energize => { g with vr := b64 (ramp g.vr.toNat (target s k 2) g.vEn.toNat), fr := b64 (ramp g.fr.toNat (target s k 3) (fStep s k)) }
    | .sync =>
      let vr := ramp g.vr.toNat (fmin (fmax m (f64 8 10)) (f64 12 10)) (vStep s k)
      let ds := g.delta.toNat
      let y := fmin (fmax (fa g.ysy.toNat (fm (fd (tS s) (f64 4 1)) ds)) (fneg c2pi)) c2pi
      let csf := fd one (fm c2pi (gp s k 2))
      let csl := fd one (gp s k 2)
      let c := fmin (fmax (fm (fa ds y) csf) (fneg csl)) csl
      { g with vr := b64 vr, ysy := b64 y, fr := b64 (ramp g.fr.toNat (fs og c) (fStep s k)) }
    | _ => { g with vr := b64 (ramp g.vr.toNat (target s k 2) (vStep s k)), fr := b64 (ramp g.fr.toNat (target s k 3) (fStep s k)) }

/-- Steps 21.1 to 21.4, or their replacement outside RIDE (R120). -/
def rideTerm (s : State) (k : Nat) (g : Gfi) (x : Meas) : Gfi :=
  if g.mode = .ride then
    let iqr := fs 0 (fmin (fm (gp s k 0x53) (fmax (fs g.vr.toNat x.m) 0)) (gp s k 0x40))
    let ep := fs x.iq iqr
    let eri := fmin (fmax (fa g.eri.toNat (fm (kLi s k) ep)) 0) (f64 1 2)
    { g with eri := b64 eri, er := b64 (fmin (fmax (fa eri (fm (gp s k 0x44) ep)) 0) (f64 1 2)) }
  else
    let eri := ramp g.eri.toNat 0 (vStep s k)
    { g with eri := b64 eri, er := b64 eri }

/-- The probe of one tick (R127): the reference with it, and the sums. -/
def probe (s : State) (k : Nat) (g : Gfi) (x : Meas) (al be : Nat) : Gfi × Nat × Nat :=
  let po := g.thetaPr + round64 (kPr s k (tauAdv s k))
  let pa := g.thetaPr - round64 (kPr s k (measDelay s k false))
  let pb := g.thetaPr - round64 (kPr s k (measDelay s k true))
  let ca := cos64 pa
  let sa := sin64 pa
  let cb := cos64 pb
  let sb := sin64 pb
  let amp := gp s k 0x71
  ({ g with
    svr := b64 (fa g.svr.toNat (fa (fm x.va ca) (fm x.vb sa))), svi := b64 (fa g.svi.toNat (fs (fm x.vb ca) (fm x.va sa)))
    sir := b64 (fa g.sir.toNat (fa (fm x.ia cb) (fm x.ib sb))), sii := b64 (fa g.sii.toNat (fs (fm x.ib cb) (fm x.ia sb)))
    thetaPr := g.thetaPr + round64 (kPr s k s.alm.period), count := g.count + 1 },
   fa al (fm amp (cos64 po)), fa be (fm amp (sin64 po)))

/-- The window closes (R128): none: invalid; some: SCR clamped to 1.2 to 50, and X_g. -/
def closeWindow (s : State) (k : Nat) (g : Gfi) : Option (Nat × Nat) :=
  let r := fun (x : F64) => x.toNat
  let den := fa (fm (r g.sir) (r g.sir)) (fm (r g.sii) (r g.sii))
  let zr := fd (fa (fm (r g.svr) (r g.sir)) (fm (r g.svi) (r g.sii))) den
  let zi := fd (fs (fm (r g.svi) (r g.sir)) (fm (r g.svr) (r g.sii))) den
  let xg := fm zi (fd (gp s k 2) (gp s k 0x72))
  let ok := fle (f64 2 1000) (fd (fsq den) (f64 (nW s k : Nat) 1)) && flt 0 xg && fle (f64 (-1) 100) zr
  if ok then some (fmin (fmax (fd one (fsq (fa (fm zr zr) (fm xg xg)))) (f64 12 10)) (f64 50 1), xg) else none

/-- Steps 15 to 29 in the modes other than IDLE. -/
def machine (s : State) (k : Nat) (g : Gfi) (x : Meas) : GfeTick :=
  let om0 := g.omega.toNat
  let og := g.omegaG.toNat
  let g := setpoints s k g x.m
  let vrDone := g.mode == .energize && fEq fmt64 g.vr.toNat (target s k 2)
  -- 17 to 20
  let pin := fa (fa g.pr.toNat (fm (gP s k) (fs g.fr.toNat om0))) g.pCorr.toNat
  let om1 := fa om0 (fm (aSw s k) (fs (fs pin g.pe.toNat) (fm (dNow s k g) (fs om0 og))))
  let om := fmin (fmax om1 (fMinPu s k)) (fMaxPu s k)
  let thNext := g.theta + round64 (fm om (kAngle s k s.alm.period))
  -- 21
  let g := rideTerm s k g x
  let em := fa (fa g.vr.toNat (fm (gp s k 0x23) (fs g.qr.toNat g.qf.toNat))) g.er.toNat
  -- 22
  let im := fsq (fa (fm x.id_ x.id_) (fm x.iq x.iq))
  let xx := fmax (fs im (gp s k 0x41)) 0
  let avi := fd (tS s) (f64 2 100)
  let xf := fmax xx (fs g.xf.toNat (fm avi g.xf.toNat))
  let xf := if flt xf (f64 1 (2 ^ 20)) then 0 else xf
  let xv := fa (xvNow s k g) (fm (gp s k 0x42) xf)
  let rv := fa (gp s k 0x25) (fm (fd (gp s k 0x42) (gp s k 0x43)) xf)
  -- 23, 24
  let vd0 := fa (fs em (fm rv x.id_)) (fm (fm xv om) x.iq)
  let vq0 := fs (fs 0 (fm rv x.iq)) (fm (fm xv om) x.id_)
  -- 25
  let dd := fs vd0 x.vd
  let dq := fs vq0 x.vq
  let h := fsq (fa (fm dd dd) (fm dq dq))
  let eI := fs (gp s k 0x40) im
  let u := fmax (fa g.ui.toNat (fm (gp s k 0x44) eI)) 0
  let hard := flt 0 h && flt u h
  let vd := if hard then fa x.vd (fm dd (fd u h)) else vd0
  let vq := if hard then fa x.vq (fm dq (fd u h)) else vq0
  let ui := fmin (fmax (fa g.ui.toNat (fm (kLi s k) eI)) 0) (if hard then f64 2 1 else fa h (f64 2 100))
  let dl := fm (f64 (thNext - g.thetaG - round64 (fm og (kAngle s k (measDelay s k false)))).toInt 1) cD64
  let hold := hard || g.mode == .ride
  let pc := if hold then fs (fs (fs g.pe.toNat g.pr.toNat) (fm (gP s k) (fs g.fr.toNat om))) (fm (kL s k) dl)
            else ramp g.pCorr.toNat 0 (pStep s k)
  -- 26, 27
  let thOut := g.theta + round64 (fm om (kAngle s k (tauAdv s k)))
  let c := cos64 thOut
  let sn := sin64 thOut
  let al := fs (fm vd c) (fm vq sn)
  let be := fa (fm vd sn) (fm vq c)
  let g := { g with
    omega := b64 om, emf := b64 em, im := b64 im, xf := b64 xf, xvE := b64 xv, rvE := b64 rv, ui := b64 ui, delta := b64 dl
    pCorr := b64 pc, hard := hard, hold := hold, thetaOut := thOut, phiV := x.phiV, phiI := x.phiI
    cycle := decide (thNext.toNat < g.theta.toNat) }
  -- the observer (R127 to R129)
  let rec_ := decide (g.mode ≠ .ride) && flt 0 g.eri.toNat
  let on := g.mode == .form && s.pn 1 k 0x70 == 1 && !hard && !flt 0 xf && !rec_
  let pr : Gfi × Nat × Nat := if on then probe s k g x al be else ({ g with svr := 0, svi := 0, sir := 0, sii := 0, count := 0 }, al, be)
  let g := { pr.1 with probeOn := on }
  let closes := on && decide (nW s k ≤ g.count)
  let scr := if closes then some (closeWindow s k g) else none
  let g := if closes then { g with svr := 0, svi := 0, sir := 0, sii := 0, count := 0 } else g
  let sigs := gfeSignals thOut x.phiI pr.2.1 pr.2.2 vd vq x.id_ x.iq g
  { g := { g with sig := sigs, theta := thNext }, m := x.m
    clamped := decide (om ≠ om1), vrDone := vrDone, scr := scr }

/-- R88: every state variable and output is a number. -/
def gfeFinite (g : Gfi) : Bool :=
  [g.omega, g.omegaG, g.wi, g.qf, g.pr, g.qr, g.vr, g.fr, g.pCorr, g.rvE, g.xvE, g.xf, g.ui, g.ysy, g.eri, g.er, g.delta, g.emf, g.pe,
   g.qe, g.mag, g.im, g.rocof, g.svr, g.svi, g.sir, g.sii].all (fun x => fIsFinite fmt64 x.toNat)
    && (g.sig.take 16).all (fun x => fIsFinite fmt32 x.toNat)

/-! Mode transitions (Tables 4-2 and 4-3, R103 to R111). -/

inductive ReqCls where
  | accept | hold | refuse | same
deriving DecidableEq, Repr

/-- Table 4-3: the row of a mode for a requested mode code. -/
def reqClass (m : Mode) (r : Nat) : ReqCls :=
  match m, r with
  | .idle, 0 => .same | .idle, 1 => .accept | .idle, 2 => .accept | .idle, 6 => .same | .idle, _ => .refuse
  | .energize, 0 => .accept | .energize, 1 => .same | .energize, 6 => .accept | .energize, _ => .refuse
  | .sync, 0 => .accept | .sync, 2 => .same | .sync, 3 => .hold | .sync, 5 => .hold | .sync, 6 => .accept | .sync, _ => .refuse
  | .form, 0 => .accept | .form, 2 => .accept | .form, 3 => .same | .form, 5 => .accept | .form, 6 => .accept | .form, _ => .refuse
  | .ride, 0 => .accept | .ride, 2 => .hold | .ride, 3 => .hold | .ride, 5 => .hold | .ride, 6 => .accept | .ride, _ => .refuse
  | .island, 0 => .accept | .island, 2 => .accept | .island, 3 => .accept | .island, 5 => .same | .island, 6 => .accept
  | .island, _ => .refuse
  | .stop, 0 => .accept | .stop, 6 => .same | .stop, _ => .refuse

def modeOfReq : Nat → Mode
  | 1 => .energize | 2 => .sync | 3 => .form | 5 => .island | 6 => .stop | _ => .idle

/-- t_n less the instant from which the mode is in force is at least the interval (R103); seconds as a rational. -/
def lasted (s : State) (g : Gfi) (n : Int) (iv : Int × Nat) : Bool := qLe iv (secsQ ((n - g.since) * s.alm.period))

/-- RIDE has lasted RIDE_T_MAX (R121). -/
def rideOver (s : State) (k : Nat) (n : Int) : Bool := (s.gfi k).mode == .ride && lasted s (s.gfi k) n (q64 (gp s k 0x52))
/-- m has been at or above RIDE_V_EXIT for N_20 ticks. -/
def rideEnds (s : State) (k : Nat) : Bool := (s.gfi k).mode == .ride && decide (n20 s ≤ (s.gfi k).exitCnt)
def energizeFails (s : State) (k : Nat) : Bool :=
  (s.gfi k).mode == .energize && (decide (n20 s ≤ (s.gfi k).lowCnt) || decide (n20 s * 5 ≤ (s.gfi k).hardCnt))
def stopEnds (s : State) (k : Nat) (n : Int) : Bool :=
  let g := s.gfi k
  let t := q64 (gp s k 0x64)
  g.mode == .stop && fEq fmt64 g.pr.toNat 0 && fEq fmt64 g.qr.toNat 0 && (fle g.im.toNat (f64 5 100) || lasted s g n (2 * t.1, t.2))

/-- Take a transition: in force from the next tick instant, with what Table 4-2 does at once. -/
def goMode (k : Nat) (m : Mode) (cause : Nat) (s : State) : State :=
  let g := s.gfi k
  let fset := b64 (target s k 3)
  let ts := tS s
  let sr := gp s k 0x64
  s.modGfi k (fun _ => { g with
    next := some (m, cause)
    omega := if m = .energize then fset else g.omega
    omegaG := if m = .energize then fset else g.omegaG
    wi := if m = .energize then fset else g.wi
    vEn := if m = .energize then b64 (fd (fm (gp s k 0x32) ts) (gp s k 0x60)) else g.vEn
    pSp := if m = .stop then b64 (fd (fm (fab g.pr.toNat) ts) sr) else g.pSp
    qSp := if m = .stop then b64 (fd (fm (fab g.qr.toNat) ts) sr) else g.qSp
    ysy := if cause = 5 then 0 else g.ysy
    rideFrom := if m = .ride then g.mode else g.rideFrom
    exitCnt := 0, lowCnt := 0, hardCnt := 0, syncCnt := 0 })

/-- KIND of an instance. -/
def kGfi : Nat := 4

/-- A request is refused (R110): MODE_REQ becomes the mode in force after this decision. -/
def refuseReq (k r : Nat) (s : State) : State :=
  let g := s.gfi k
  let m := (g.next.map (·.1)).getD g.mode
  let m := if m = .ride then g.rideFrom else m
  let m := if (g.next.map (·.1)) = some .ride then g.mode else m
  let s := s.setPar (mkId 1 k 0x7F) (BitVec.ofNat 64 (modeCode m))
  dueFault 0x5109 kGfi k r (s.modGfi k (fun g => { g with reqNew := false, reqRefused := true, reqHeld := false, syncWait := false }))

def doneReq (k : Nat) (s : State) : State := s.modGfi k (fun g => { g with reqNew := false, reqHeld := false, syncWait := false })

/-- An accepted request whose condition of Table 4-2 holds goes ahead; one whose condition fails is refused (R110). -/
def acceptReq (k r : Nat) (m : Nat) (s : State) : State :=
  let g := s.gfi k
  if g.mode = .idle && r = 1 then
    (if flt m vDead && g.deadPrev then condHolds 0x5105 kGfi k (doneReq k (goMode k .energize 1 s)) else refuseReq k r s)
  else if g.mode = .idle && r = 2 then (if fle vLive m then doneReq k (goMode k .sync 2 s) else refuseReq k r s)
  else
    let cause := if r = 0 then 14 else if r = 6 then 12 else if r = 2 then 6 else if r = 5 then 7 else 8
    doneReq k (goMode k (modeOfReq r) cause s)

/-- The end of RIDE: back to the mode it came from, or to a request held during RIDE (R110). -/
def endRide (k : Nat) (s : State) : State :=
  let g := s.gfi k
  let r := s.pn 1 k 0x7F
  if g.reqNew && g.reqHeld then
    match reqClass g.rideFrom r with
    | .accept => doneReq k (goMode k (modeOfReq r) 10 s)
    | .refuse => refuseReq k r (goMode k g.rideFrom 10 s)
    | _ => doneReq k (goMode k g.rideFrom 10 s)
  else goMode k g.rideFrom 10 s

def failEnergize (k : Nat) (s : State) : State := dueFault 0x5105 kGfi k 0 (goMode k .idle 4 s)
def rideTimeout (k : Nat) (s : State) : State := dueFault 0x5106 kGfi k 0 (goMode k .stop 11 s)

/-- The decision at the end of tick n in RUN (R111). MODE_REQ 6 and the RIDE timeout share a rank: MODE_REQ goes first (DESIGN CHOICE,
notes/assumptions/132.md). A request that Table 4-3 leaves without effect holds nothing. -/
def decideMode (k : Nat) (n : Int) (m : Nat) (vrDone : Bool) (s : State) : State :=
  let g := s.gfi k
  let r := s.pn 1 k 0x7F
  let cls := if g.reqNew then reqClass g.mode r else .same
  let enters := (g.mode == .form || g.mode == .island) && flt m (gp s k 0x50)
  let s :=
    if cls = .accept && r = 0 then acceptReq k r m s
    else if energizeFails s k then failEnergize k s
    else if cls = .accept && r = 6 then acceptReq k r m s
    else if rideOver s k n then rideTimeout k s
    else if enters then goMode k .ride 9 s
    else if rideEnds s k then endRide k s
    else if vrDone then goMode k .island 3 s
    else if stopEnds s k n then goMode k .idle 13 s
    else match cls with
      | .accept => acceptReq k r m s
      | .hold => if g.mode = .sync && g.syncOk then doneReq k (goMode k (modeOfReq r) 5 s) else s
      | _ => s
  let g := s.gfi k
  match cls with
  | .refuse => if g.reqNew then refuseReq k r s else s
  | .same => doneReq k s
  | .hold => if g.reqNew && g.next.isNone then
      s.modGfi k (fun g => { g with syncWait := g.mode == .sync, reqHeld := g.mode == .ride }) else s
  | .accept => s

/-! One tick of one instance. -/

/-- LIMIT (Table 4-5). -/
def limitWord (s : State) (k : Nat) (g : Gfi) : Word :=
  let bit := fun (b : Bool) (i : Nat) => if b then 2 ^ i else 0
  let sched := g.xvS.any (fun x => x.toNat != gp s k 0x26) || g.dS.any (fun x => x.toNat != gp s k 0x21)
  w32 (bit (g.mode != .idle) 0 + bit (flt 0 g.xf.toNat) 1 + bit g.hard 2 + bit g.hold 3 + bit (fab g.pCorr.toNat != 0) 4
    + bit (g.mode != .ride && flt 0 g.eri.toNat) 5 + bit g.syncOk 6 + bit g.syncWait 7 + bit g.reqHeld 8 + bit g.reqRefused 9
    + bit g.trkHeld 10 + bit (fle (gp s k 0x54) (fab g.rocof.toNat)) 11 + bit g.jump 12 + bit g.probeOn 13 + bit g.scrValid 14
    + bit sched 15)

/-- The counters and flags that the tick's values move. -/
def gfeCounters (s : State) (k : Nat) (g : Gfi) (e m : Nat) : Gfi :=
  let up := fun (b : Bool) (n : Nat) => if b then n + 1 else 0
  let low := flt m vDead
  let sok := g.mode == .sync && fle (fm (fab (fs g.omega.toNat g.omegaG.toNat)) (gp s k 2)) (gp s k 0x61)
    && fle (fab (fs g.emf.toNat m)) (gp s k 0x62) && fle (fab g.delta.toNat) (radDeg (gp s k 0x63))
  { g with
    jump := fle (sinDeg (gp s k 0x55)) (fab e), trkHeld := low
    trkLow := up low g.trkLow, trkOk := up (!low) g.trkOk
    jumpClr := up (!fle (sinDeg (gp s k 0x55)) (fab e)) g.jumpClr
    rocofClr := up (!fle (gp s k 0x54) (fab g.rocof.toNat)) g.rocofClr
    exitCnt := up (g.mode == .ride && fle (gp s k 0x51) m) g.exitCnt
    lowCnt := if g.mode = .energize && fle (f64 2 10) g.vr.toNat then up (flt m (fm (f64 1 2) g.vr.toNat)) g.lowCnt else 0
    hardCnt := up (g.mode == .energize && g.hard) g.hardCnt
    syncCnt := up sok g.syncCnt, syncOk := sok && decide (n20 s ≤ g.syncCnt + 1)
    scrTicks := g.scrTicks.map (· + 1) }

/-- Faults of Tables 3-6 and 4-6 that a tick raises or clears. -/
def gfeFaults (k : Nat) (clamped : Bool) (s : State) : State :=
  let g := s.gfi k
  let n := n20 s
  let s := dueRun 0x5102 kGfi k clamped s
  let s := if g.cycle && g.freqOk && !clamped then condHolds 0x5102 kGfi k s else s
  let s := s.modGfi k (fun g => { g with freqOk := !clamped && (g.freqOk || g.cycle) })
  let s := dueRun 0x5103 kGfi k (decide (3 ≤ g.trkLow)) s
  let s := if 2 ≤ g.trkOk then condHolds 0x5103 kGfi k s else s
  let s := dueRun 0x5107 kGfi k (decide (g.rocofClr = 0)) s
  let s := if n ≤ g.rocofClr then condHolds 0x5107 kGfi k s else s
  let s := dueRun 0x5108 kGfi k g.jump s
  if n ≤ g.jumpClr then condHolds 0x5108 kGfi k s else s

/-- A closed window: SCR_EST and the schedule (R128, R131). -/
def scrClosed (k : Nat) (v : Option (Nat × Nat)) (s : State) : State :=
  match v with
  | none => dueFault 0x510A kGfi k 0 (s.modGfi k (fun g => { g with scrValid := false }))
  | some (scr, xg) =>
    let xv := gp s k 0x26
    let x01 := fa xv (f64 1 10)
    let xvS := fmin (fmax xv (fs x01 xg)) (f64 1 2)
    let dS := fmin (fm (gp s k 0x21) (fsq (fd x01 (fa xvS xg)))) (f64 200 1)
    condHolds 0x510A kGfi k (s.modGfi k (fun g => { g with
      scrEst := b64 scr, scrTicks := some 0, scrValid := true
      schedNext := if s.pn 1 k 0x74 = 1 then some (b64 xvS, b64 dS) else g.schedNext }))

/-- The schedule changes at a cycle boundary, and at once in IDLE and STOP (R87, R131); in ISLAND it stands still. -/
def schedule (k : Nat) (s : State) : State :=
  let g := s.gfi k
  if g.mode = .island || !(g.cycle || g.mode == .idle || g.mode == .stop) then s
  else s.modGfi k (fun g =>
    if s.pn 1 k 0x74 = 0 then { g with xvS := none, dS := none, schedNext := none }
    else match g.schedNext with
      | some (x, d) => { g with xvS := some x, dS := some d, schedNext := none }
      | none => g)

/-- What an instance reads of one source, and whether the source is valid. -/
structure GfeIn where
  val : List Word
  ok : Bool := true
  s : State

/-- The triple an instance reads, with the loss handling of R158 in RUN (R101). Outside RUN a loss ends with the first valid sample and the
detectors count nothing. -/
def gfeInput (k : Nat) (cur : Bool) (s : State) : GfeIn :=
  let n := gfeSrc s k cur
  let trip := fun (n : Nat) => [sigVal s n, sigVal s (n + 1), sigVal s (n + 2)]
  let ok := fun (n : Nat) => sigValid s n && sigValid s (n + 1) && sigValid s (n + 2)
  if n = noneV then { val := [0, 0, 0], s := s }
  else
    let l := if cur then (s.gfi k).lossI else (s.gfi k).lossV
    let l := { l with priNow := ok (s.pn 1 k (if cur then 6 else 5)) }
    let put := fun (l : Loss) (s : State) => s.modGfi k (fun g => if cur then { g with lossI := l } else { g with lossV := l })
    if s.dev ≠ .run then
      { val := trip n, ok := ok n, s := put { l with cnt := 0, lost := l.lost && !ok n, last := if ok n then trip n else l.last } s }
    else
      let a := s.pn 1 k (if cur then 0x11 else 0x10)
      let r := lossStep (s.pn 1 k 0xE) (s.pn 1 k 0xF) (ok n) (trip n) (if a ≠ noneV && ok a then some (trip a) else none) l
      let s := put r.l s
      let s := if r.loss && !l.lost then dueFault 0x5104 kGfi k n s else s
      let s := if r.switched then sourceChanged k cur (dueFault 0x510B kGfi k n s) else s
      { val := r.val, ok := ok (if r.switched then a else n), s := s }

/-- GFE_INPUT_LOSS may be cleared while both sources are valid. -/
def gfeLossFault (k : Nat) (valid : Bool) (s : State) : State :=
  if valid then condHolds 0x5104 kGfi k s else condFails 0x5104 kGfi k s

/-- One enabled instance in tick n (R85). -/
def gfeOne (n : Int) (k : Nat) (s : State) : State :=
  let v := gfeInput k false s
  let i := gfeInput k true v.s
  let s := (gfeLossFault k (v.ok && i.ok) i.s).modGfi k (fun g => { g with thetaAt := g.theta })
  let g0 := s.gfi k
  let x := measure s k g0 v.val i.val
  let te := track s k g0 x
  let r : GfeTick := if g0.mode = .idle then { g := idleHold s k te.1 x, m := x.m } else machine s k te.1 x
  if !gfeFinite r.g then
    let s := dueRun 0x5101 kGfi k true (s.modGfi k (fun g => { g with sig := List.replicate 19 0, limit := 0 }))
    if g0.mode = .idle then condHolds 0x5101 kGfi k s else s
  else
    let s := dueRun 0x5101 kGfi k false (if g0.mode = .idle then condHolds 0x5101 kGfi k s else s)
    let g := gfeCounters s k r.g te.2 x.m
    let s := s.modGfi k (fun _ => g)
    let s := gfeFaults k r.clamped s
    let s := match r.scr with | some v => scrClosed k v s | none => s
    let s := if s.dev = .run then decideMode k n x.m r.vrDone s
      else s.modGfi k (fun g => { g with reqHeld := g.reqNew })
    let s := s.modGfi k (fun g => { g with deadPrev := flt x.m vDead })
    let s := schedule k s
    s.modGfi k (fun g => let w := limitWord s k g; { g with limit := w, sig := g.sig.set 18 w })

def gfeEnabled (s : State) (k : Nat) : Bool := s.pn 1 k 1 == 1

/-- The status fields 0x080 to 0x08C of an instance (Table 3-5), as they stand. -/
def gfeStatus (s : State) (k : Nat) : List Wire :=
  let g := s.gfi k
  let w := fun (n : Nat) => (BitVec.ofNat 64 n : Wire)
  let idle := g.mode == .idle
  [w (modeCode g.mode), w (fm g.omega.toNat (gp s k 2)), w (fm g.omegaG.toNat (gp s k 2)), g.thetaAt, g.emf, g.pe, g.qe,
   if idle then w (gp s k 0x25) else g.rvE, if idle then w (xvNow s k g) else g.xvE, w g.limit.toNat, g.scrEst,
   w (min ((g.scrTicks.getD 0 * s.alm.period) / secQn) max32), g.rocof]

/-- The GFE in tick n: the enabled instances in order (R14); a disabled one's outputs read zero. Each slot ends with the snapshot that the
status fields will show (R100). -/
def gfeTick (n : Int) (s : State) : State :=
  inOrder (fun s => (List.range 4).foldl (fun s k =>
    let s := if gfeEnabled s k then gfeOne n k s else s.modGfi k (fun g => { g with sig := List.replicate 19 0, limit := 0 })
    s.modGfi k (fun g => { g with snap := gfeStatus s k })) s) s

/-- At tick instant n: a decided transition comes into force with its event record, stamped with that instant (R103, R109). When the device
has left RUN every instance is in IDLE with MODE_REQ 0 (R105). -/
def gfeInstant (n : Int) (k : Nat) (s : State) : State :=
  let g := s.gfi k
  let run := s.dev == .run
  let leave := !run && (g.ran || g.mode != .idle)
  let change : Option (Mode × Nat) := if leave then (if g.mode = .idle then none else some (.idle, 15)) else if run then g.next else none
  let s := s.modGfi k (fun g => { g with next := none, ran := run })
  let s := if leave then doneReq k (s.setPar (mkId 1 k 0x7F) 0) else s
  match change with
  | none => s
  | some (m, cause) =>
    let s := s.modGfi k (fun g => { g with mode := m, since := n })
    let s := logAt (s.tickAt n).toNat 4 kGfi k (modeCode g.mode * 256 + modeCode m) cause s
    if m = .idle then condHolds 0x5106 kGfi k (condHolds 0x5101 kGfi k s) else s

/-- A write to MODE_REQ takes effect (R110): evaluated in the tick; REQ_REFUSED and GFE_MODE_REFUSED go. -/
def modeReqWritten (k : Nat) (s : State) : State :=
  condHolds 0x5109 kGfi k (s.modGfi k (fun g => { g with reqNew := true, reqRefused := false }))

/-! Commands. -/

/-- GFE_RIDE_TIMEOUT (R121): idempotent where the tick has already decided it. -/
def execGfeRideTimeout (dt : Nat) (k : Fin 4) (s : State) : Host.Outcome State Fault Refusal :=
  let s := s.begin dt
  if s.dev = .run && gfeEnabled s k && (s.gfi k).next.isNone && rideOver s k s.alm.tick then done (inOrder (rideTimeout k) s) else done s

/-- RIDE_EXIT (R103, Table 4-2 cause 10). -/
def execRideExit (dt : Nat) (k : Fin 4) (s : State) : Host.Outcome State Fault Refusal :=
  let s := s.begin dt
  if s.dev = .run && gfeEnabled s k && (s.gfi k).next.isNone && rideEnds s k then done (inOrder (endRide k) s) else done s

/-- GFE_ENERGIZE_FAIL (R124). -/
def execGfeEnergizeFail (dt : Nat) (k : Fin 4) (s : State) : Host.Outcome State Fault Refusal :=
  let s := s.begin dt
  if s.dev = .run && gfeEnabled s k && (s.gfi k).next.isNone && energizeFails s k then done (inOrder (failEnergize k) s) else done s

/-- SYNC_OK (R126): the windows have held for N_20 ticks; a request held until SYNC_OK goes ahead (Table 4-3). -/
def execSyncOk (dt : Nat) (k : Fin 4) (s : State) : Host.Outcome State Fault Refusal :=
  let s := s.begin dt
  let g := s.gfi k
  if s.dev = .run && gfeEnabled s k && g.mode == .sync && decide (n20 s ≤ g.syncCnt) then
    let s := s.modGfi k (fun g => { g with syncOk := true, limit := g.limit ||| 0x40 })
    if g.next.isNone && g.reqNew && reqClass .sync (s.pn 1 k 0x7F) = .hold then
      done (doneReq k (goMode k (modeOfReq (s.pn 1 k 0x7F)) 5 s))
    else done s
  else done s

/-- STOP_TIMEOUT (Table 4-2 cause 13): 2 × STOP_RAMP after entry with the set-points at zero. -/
def execStopTimeout (dt : Nat) (k : Fin 4) (s : State) : Host.Outcome State Fault Refusal :=
  let s := s.begin dt
  if s.dev = .run && gfeEnabled s k && (s.gfi k).next.isNone && stopEnds s k s.alm.tick then done (goMode k .idle 13 s) else done s

/-- PROBE_WINDOW_CLOSE (R128). -/
def execProbeWindowClose (dt : Nat) (k : Fin 4) (s : State) : Host.Outcome State Fault Refusal :=
  let s := s.begin dt
  let g := s.gfi k
  if s.dev = .run && gfeEnabled s k && g.probeOn && decide (nW s k ≤ g.count) then
    done (inOrder (scrClosed k (closeWindow s k g)) (s.modGfi k (fun g => { g with svr := 0, svi := 0, sir := 0, sii := 0, count := 0 })))
  else done s

/-- Back to V_SRC and I_SRC, judged by the primary's flag at F of the last completed tick (R101, R159). -/
def opGfeAltReset (k : Nat) : Op where
  check s :=
    let g := s.gfi k
    if g.lossV.alt && !g.lossV.priOk then some (0x37, k, s.pn 1 k 5)
    else if g.lossI.alt && !g.lossI.priOk then some (0x37, k, s.pn 1 k 6)
    else none
  act s :=
    let g := s.gfi k
    let s := if g.lossV.alt then sourceChanged k false s else s
    let s := if g.lossI.alt then sourceChanged k true s else s
    let s := s.modGfi k (fun g => { g with lossV := g.lossV.primary, lossI := g.lossI.primary })
    condHolds 0x510B kGfi k s

/-- GFE_ALT_RESET. -/
def execGfeAltReset (dt : Nat) (p : Fin 8) (k : Fin 4) (s : State) : Host.Outcome State Fault Refusal :=
  done (opCmd p .token (mkId 1 k 0x12) 1 (opGfeAltReset k) (s.begin dt))

/-- Every input of a slot back to its primary (R159). -/
def opAltReset (slot : Nat) : Op where
  check s := ((s.slot slot).inp.find? (fun e => e.2.alt && !e.2.priOk)).map (fun e => (0x37, slot, e.1))
  act s :=
    let s := s.modSlot slot (fun t => { t with inp := t.inp.map (fun e => (e.1, e.2.primary)) })
    condHolds 0x5204 kSlot slot s

/-- ALT_RESET of a loop slot (R159). -/
def execAltReset (dt : Nat) (p : Fin 8) (slot : Fin 64) (s : State) : Host.Outcome State Fault Refusal :=
  done (opCmd p .token (mkId 2 slot 6) 1 (opAltReset slot) (s.begin dt))

/-- An input held for T_HOLD ticks or more, and still invalid, is lost (R158). -/
def expire (th : Nat) (l : Loss) : Loss := if th < l.cnt then { l with lost := true } else l

/-- INPUT_HOLD_EXPIRY: slot 0 to 63 or instance 64 to 67. Idempotent where the freeze point has already raised the loss. -/
def execInputHoldExpiry (dt : Nat) (who : Fin 68) (s : State) : Host.Outcome State Fault Refusal :=
  let s := s.begin dt
  if s.dev ≠ .run then done s
  else if who.val < 64 then
    let k := who.val
    let s := s.modSlot k (fun t => { t with inp := t.inp.map (fun e => (e.1, expire (s.pn 2 k 5) e.2)) })
    let lost := (s.slot k).inp.any (fun e => e.2.lost)
    done (if lost then runRaise 0x5203 kSlot k 0 0 [] true s else s)
  else
    let k := who.val - 64
    let g := s.gfi k
    let v := expire (s.pn 1 k 0xF) g.lossV
    let i := expire (s.pn 1 k 0xF) g.lossI
    let s := s.modGfi k (fun g => { g with lossV := v, lossI := i })
    let s := if v.lost && !g.lossV.lost then raise 0x5104 kGfi k (gfeSrc s k false) 0 [] s else s
    done (if i.lost && !g.lossI.lost then raise 0x5104 kGfi k (gfeSrc s k true) 0 [] s else s)

end Sys2Proof.Machine
end

