-- ==== Sys2Proof/Machine/Pair.lean ====
section
/-! DEFINITION. Pairs and peers (spec/12_pairs_and_chains.md): roles, the pair lanes and peer ports, digests and arbitration,
joining, the vigil, GLOBAL_BLOCK events and the topology. -/
namespace Sys2Proof.Machine

def modRdn (f : Rdn → Rdn) (s : State) : State := { s with rdn := f s.rdn }
def pp (s : State) (q : Nat) : Pp := vget s.rdn.pp q {}
def pairLane (s : State) (l : Nat) : Pp := vget s.rdn.lane l {}
def modPp (q : Nat) (f : Pp → Pp) (s : State) : State := modRdn (fun r => { r with pp := vmod r.pp q f }) s
def modPairLane (l : Nat) (f : Pp → Pp) (s : State) : State := modRdn (fun r => { r with lane := vmod r.lane l f }) s
/-- Port q: PP[q] for 0 to 7, PAIR[q - 8] above. -/
def link (s : State) (q : Nat) : Pp := if q < 8 then pp s q else pairLane s (q - 8)
def modLink (q : Nat) (f : Pp → Pp) (s : State) : State := if q < 8 then modPp q f s else modPairLane (q - 8) f s
def bothLanesUp (s : State) : Bool := (pairLanesUp s).length == 2

/-! Windows (R331, R355: the rule of R219). -/

def SeqWin.take (w : SeqWin) (n : Nat) : Option SeqWin :=
  match w.high with
  | none => some { high := some n, seen := [n] }
  | some top =>
    let d := (n + 65536 - top) % 65536
    if 1 ≤ d && d < 32768 then
      some { high := some n, seen := n :: w.seen.filter (fun x => decide ((n + 65536 - x) % 65536 < 64)) }
    else if (top + 65536 - n) % 65536 < 64 then
      (if w.seen.contains n then none else some { w with seen := n :: w.seen })
    else none

/-- A frame of a type arrives on a pair lane: what is done with its first valid copy. A lane that is not used delivers none. -/
def firstCopy (lane type seq : Nat) (f : State → State) (s : State) : State :=
  if !s.pairEn || !(pairLane s lane).up || seq ≥ 65536 then s
  else match (tabGet s.rdn.typeWin type {}).take seq with
    | none => s
    | some w => f (modRdn (fun r => { r with typeWin := tabPut r.typeWin type w }) s)

/-! Roles (Table 12-1). -/

/-- Take a role. TB[0] then follows the source of that role, without a leap (R336, R43). -/
def setRole (r : Nat) (s : State) : State :=
  if s.rdn.role = r then s
  else
    let was := s.rdn.role
    let s := modRdn (fun x => { x with role := r }) s
    if (was == 1) != (r == 1) then srcChanged 0 s else s

/-- The new active has no token holder, and the entries its predecessor's holder placed are cancelled (R337, R65). -/
def becomeActive (s : State) : State :=
  let s := setRole 1 (modRdn (fun r => { r with joinState := 0, shadow := none, buf := [], swapAt := none }) s)
  (List.range 8).foldl (fun s p => cancelLaunches p s) (moveToken 15 6 s)

/-- DETACHED: every record not yet released is withheld (R344). -/
def detach (s : State) : State :=
  let s := if s.rdn.role = 1 then moveToken 15 6 s else s
  let s := setRole 4 (modRdn (fun r => { r with joinState := 0, shadow := none, buf := [], syncTicks := 0, swapAt := none }) s)
  discardChans (List.range 256) { s with mod := { s.mod with unrel := [] } }

/-- R347: heartbeat and both pair lanes of the active are gone. -/
def partnerLost (s : State) : State :=
  if s.pairEn && s.rdn.role = 1 && !s.rdn.hb && (pairLanesUp s).isEmpty && !heldCode 0x3107 s then
    raiseDev 0x3107 0 0 (modRdn (fun r => { r with partnerRole := 4, syncTicks := 0, capture := false }) s)
  else s

/-- What the partner's role clears here (Table 12-12). -/
def partnerIs (r : Nat) (s : State) : State :=
  let s := modRdn (fun x => { x with partnerRole := r }) s
  let s := if r = 2 then condHolds 0x3106 0 0 (condHolds 0x3105 0 0 s) else s
  if r = 3 then condHolds 0x3107 0 0 s else s

/-! HELLO and joining (R349). -/

def patOf (s : State) : Pat := vget s.sys.slot s.sys.cur {}
def digest128 (p : Pat) : BitVec 128 := BitVec.ofNat 128 (ofBytesBE (p.digest.take 16))
def activeFw (s : State) : Fw := vget s.sys.fw s.sys.activeSlot {}
/-- The pair protocol version. -/
def pairVersion : Nat := 0x10

def ownHello (s : State) : HelloId :=
  { version := pairVersion, member := s.pn 10 0 2, node := nodeId s, firmware := (activeFw s).version
    counter := (patOf s).counter, digest := digest128 (patOf s), role := s.rdn.role, failAt := s.rdn.failAt }

/-- HELLOs agree in everything but MEMBER and NODE_ID (R349 step 1). -/
def helloAgrees (a b : HelloId) : Bool :=
  a.version == b.version && a.firmware == b.firmware && a.counter == b.counter && a.digest == b.digest

/-- R348: of two active members, the one whose PAIR_FAILOVER is later; with equal times, member B. -/
def losesDouble (s : State) (h : HelloId) : Bool :=
  let a := s.rdn.failAt.getD 0
  let b := h.failAt.getD 0
  decide (b < a) || (a == b && s.pn 10 0 2 == 1)

/-- Stop a join with PAIR_MISMATCH (R349 steps 1 and 5). -/
def stopJoin (s : State) : State :=
  raiseDev 0x3101 0 0 (modRdn (fun r => { r with mismatch := true })
    (if s.rdn.role = 3 then detach s else modRdn (fun r => { r with joinState := 0 }) s))

/-- The next step of a join whose condition holds (R349 steps 2, 4 and 6). -/
def joinAdvance (s : State) : State :=
  if s.rdn.role ≠ 3 then s
  else if s.rdn.joinState = 2 && (s.tb 0).leapt then
    sendPair (.role 1 3) (modRdn (fun r => { r with joinState := 3 }) s)
  else if s.rdn.joinState = 4 && s.dev.live && portsSettled s then
    sendPair (.role 1 6) (modRdn (fun r => { r with joinState := 6 }) s)
  else s

/-- Start joining: in BOOT and PARKED TB[0] leaps onto the active's (R349 step 2). -/
def joinStart (s : State) : State :=
  let s := modRdn (fun r => { r with joinState := 2, buf := [], joinRestarts := 0, syncTicks := 0 }) (setRole 3 s)
  let s := if s.dev = .boot || s.dev = .parked then reAcquire 0 s else s
  joinAdvance s

/-- A member that has lost its place joins an active partner under JOIN_AUTO; if neither is active, member A becomes ACTIVE (R349). -/
def tryJoin (s : State) : State :=
  if !s.pairEn || !mute s || s.rdn.mismatch || !bothLanesUp s then s
  else match s.rdn.partner with
    | none => s
    | some h =>
      if s.rdn.partnerRole = 1 then (if s.rdn.role = 4 && s.pn 10 0 4 = 1 then joinStart s else s)
      else if s.rdn.partnerRole ≠ 2 && s.pn 10 0 2 = 0 && h.member = 1 then becomeActive s
      else s

/-- PAIR_EN as it takes effect: a member starts DETACHED, and a device alone is SOLO (Table 12-1). -/
def pairEnChanged (s : State) : State :=
  if s.pairEn then (if s.rdn.role = 0 then tryJoin (setRole 4 s) else s)
  else setRole 0 (modRdn (fun r => { r with joinState := 0, shadow := none, buf := [] }) s)

/-- A HELLO of the partner. -/
def pairHello (h : HelloId) (s : State) : State :=
  let s := partnerIs h.role (modRdn (fun r => { r with partner := some h, partnerFail := h.failAt }) s)
  if !helloAgrees h (ownHello s) then stopJoin s
  else
    let s := condHolds 0x3101 0 0 (modRdn (fun r => { r with mismatch := false }) s)
    let s := if s.rdn.role = 1 && h.role = 1 && losesDouble s h then detach s else s
    joinAdvance (tryJoin s)

/-! Peer ports and the topology (R352 to R357). Heights are in steps of 62.5 ps. -/

def ppRole (s : State) (q : Nat) : Nat := s.pn 10 (0x100 + q) 2
def ppLane (s : State) (q : Nat) : Nat := s.pn 10 (0x100 + q) 1
def timePort (s : State) (q : Nat) : Bool := s.pn 10 (0x100 + q) 3 == 1
/-- The port towards the parent: UP, or the RING port that TIME_PORT names. -/
def upward (s : State) (q : Nat) : Bool := ppRole s q == 0 || (ppRole s q == 2 && timePort s q)
/-- The node whose TB[0] source is not PEER (R352). -/
def isRoot (s : State) : Bool := s.pn 6 0 1 != 8

/-- 180 ns of residence, in steps. -/
def residence : Nat := 2880

/-- A branch height (R357): DOWN ports, and a RING port away from the root over which TOPO frames arrive. -/
def branch (s : State) (q : Nat) : Nat := (pp s q).dly.value + residence + (pp s q).h1
def branchPorts (s : State) : List Nat :=
  (peerPortsReady s).filter (fun q => !upward s q && (ppRole s q == 1 || !(pp s q).ids.isEmpty))

/-- The two largest of a list. -/
def two (l : List Nat) : Nat × Nat :=
  l.foldl (fun m x => if m.1 < x then (x, m.1) else if m.2 < x then (m.1, x) else m) (0, 0)

def heights (s : State) : Nat × Nat := two ((branchPorts s).map (branch s))
/-- The largest sum of two heights of any node of the subtree. -/
def bestSum (s : State) : Nat :=
  (branchPorts s).foldl (fun m q => max m (pp s q).best) ((heights s).1 + (heights s).2)

/-- D_DIAM in steps: 250 ns + the largest sum − 180 ns. -/
def diam (s : State) : Nat := 4000 + bestSum s - residence

def setDiam (s : State) : State := if isRoot s then modRdn (fun r => { r with dDiam := diam s }) s else s
def gbBudget (s : State) : Nat := s.ptn 10 0 8 / stepQ

/-- A peer port whose delay is valid becomes READY unless the root refuses it (R353, R357). -/
def admitPeer (q : Nat) (s : State) : State :=
  let t := setDiam (modPp q (fun p => { p with st := 3 }) s)
  if isRoot s && decide (gbBudget s < diam t) then
    raiseDev 0x3121 0 q (modPp q (fun p => { p with st := 4, depthRefused := true }) s)
  else condHolds 0x3121 0 q (condHolds 0x3122 0 q (condHolds 0x3123 0 q t))

/-- The lane of a peer port delivers: HELLO is exchanged from the start (R353, Table 12-3). -/
def peerLaneUp (q : Nat) (s : State) : State :=
  if (pp s q).st = 0 then sendPeer [q] (.hello (ownHello s)) (modPp q (fun _ => { st := 1, up := true }) s) else s

/-- The lane of a peer port lost signal or lock, or entered a loop (`fault` false, R432). -/
def peerLaneDown (fault : Bool) (q : Nat) (s : State) : State :=
  let was := (pp s q).st
  let s := setDiam (modPp q (fun _ => {}) s)
  if was = 3 && fault then raiseDev 0x3123 0 q s else s

/-- The PP that runs on a lane, if any. -/
def portOnLane (s : State) (n : Nat) : Option Nat := (List.range 8).find? (fun q => ppLane s q == n)

/-- A HELLO on a peer port: own or known IDs are refused (R353). -/
def peerHello (q : Nat) (h : HelloId) (s : State) : State :=
  let p := pp s q
  if p.st = 0 || p.st = 4 then s
  else
    let known := (List.range 8).any (fun x => x != q && ((pp s x).st == 2 || (pp s x).st == 3) &&
      ((pp s x).peerId == h.node || (pp s x).ids.contains h.node))
    if h.node = nodeId s || known then raiseDev 0x3122 0 q (modPp q (fun p => { p with st := 4 }) s)
    else
      let s := modPp q (fun p => { p with peerId := h.node, st := if p.st = 1 then 2 else p.st }) s
      if (pp s q).st = 2 && (pp s q).dly.valid then admitPeer q s else s

/-- PEER_HELLO_RX: a HELLO on PP[q] or PAIR[q - 8]. -/
def execPeerHelloRx (dt : Nat) (q : Fin 10) (seq : Nat) (h : HelloId) (s : State) : Host.Outcome State Fault Refusal :=
  let s := s.begin dt
  if q.val < 8 then done (peerHello q h s) else done (firstCopy (q - 8) 1 seq (pairHello h) s)

/-- A frame that repeats every `period` clock steps is due: none has left yet, or the last is that old. -/
def dueAgain (period : Nat) (last : Option Nat) (s : State) : Bool :=
  match last with | some t => decide (t + period ≤ s.clock) | none => true

/-- 1 ms in clock steps. -/
def msSteps : Nat := 16000000

/-- PEER_HELLO_DUE: every 1 ms on each pair lane and peer port (Table 12-3). -/
def execPeerHelloDue (dt : Nat) (s : State) : Host.Outcome State Fault Refusal :=
  let s := s.begin dt
  if !dueAgain msSteps s.rdn.helloAt s then done s
  else
    let s := modRdn (fun r => { r with helloAt := some s.clock }) s
    let s := sendPeer ((List.range 8).filter (fun q => (pp s q).st != 0)) (.hello (ownHello s)) s
    if s.pairEn then done (joinAdvance (tryJoin (sendPair (.hello (ownHello s)) s))) else done s

/-! Time over the lanes (R207 to R210, R331, R354). -/

/-- PTIME leaves: on connected pair lanes and on peer ports that carry time. -/
def timeLinks (s : State) : List Nat :=
  (List.range 8).filter (fun q => [1, 2, 3].contains (pp s q).st) ++
    (if s.pairEn then ((List.range 2).filter (fun l => (pairLane s l).st != 0)).map (· + 8) else [])

/-- PTIME_DUE: at each whole microsecond of TB[0]. -/
def execPtimeDue (dt : Nat) (s : State) : Host.Outcome State Fault Refusal :=
  let s := s.begin dt
  if !s.strikes 0 (1000 * nsecQ) 0 then done s else
  let ls := timeLinks s
  let n := tabGet s.rdn.txSeq 2 0
  let s := modRdn (fun r => { r with txSeq := tabPut r.txSeq 2 ((n + 1) % 65536) }) s
  let s := ls.foldl (fun s q => modLink q (fun p => { p with ptx := (n, s.nowStep) :: p.ptx.take 15 }) s) s
  done (sendPeer ls (.ptime n (secOf s.now) (nsOf s.now) (fracOf s.now)) s)

/-- TB[0] follows the PTIME frames of this link: of the partner for a member that is not ACTIVE (R336), of the port towards the
parent where SRC is PEER (R354). -/
def timeFrom (s : State) (q : Nat) : Bool :=
  tbSrc s 0 == 8 && (if s.pairEn && s.rdn.role != 1 then decide (8 ≤ q) else decide (q < 8) && upward s q && (pp s q).st == 3)

/-- PTIME_RX: answered, and a measured offset of TB[0] where this link gives the time. -/
def execPtimeRx (dt : Nat) (q : Fin 10) (seq : Nat) (sec ns frac : Nat) (s : State) : Host.Outcome State Fault Refusal :=
  let s := s.begin dt
  if !(timeLinks s).contains q.val then done s
  else
    let turn := s.freeWord
    let s := sendPeer [q.val] (.ptimeReply seq turn.1.toNat) turn.2
    let p := link s q
    if timeFrom s q && p.dly.valid && s.alm.running then
      let src : Int := (sec * secQn + ns * nsecQ + frac : Nat) + (p.dly.value * stepQ : Nat)
      done (joinAdvance (updateThrough 0 ((s.now : Int) - src) s))
    else done s

/-- A pair lane is used while its delay is at most 120 ns (R331). -/
def judgeLane (l : Nat) (s : State) : State :=
  let p := pairLane s l
  if p.st = 0 then s
  else if p.dly.valid && decide (1920 < p.dly.value) then
    (if p.up || !isHeld 0x3102 0 l s then partnerLost (raiseDev 0x3102 0 l (modPairLane l (fun p => { p with up := false }) s)) else s)
  else tryJoin (condHolds 0x3102 0 l (modPairLane l (fun p => { p with up := true }) s))

/-- PTIME_REPLY_RX: a delay measurement of the link (R210). -/
def execPtimeReplyRx (dt : Nat) (q : Fin 10) (seq turn : Nat) (s : State) : Host.Outcome State Fault Refusal :=
  let s := s.begin dt
  match (link s q).ptx.find? (fun e => e.1 == seq) with
  | none => done s
  | some (_, tx) =>
    let asym : Int := if q.val < 8 then s.pt 10 (0x100 + q) 4 / stepQ else 0
    let m := (link s q).dly.measure ((s.nowStep : Int) - tx - turn + asym) 0
    let s := modLink q (fun p => { p with dly := m.1, ptx := p.ptx.filter (fun e => e.1 != seq) }) s
    if 8 ≤ q.val then done (judgeLane (q - 8) s)
    else if (pp s q).st = 2 && (pp s q).dly.valid then done (admitPeer q s)
    else done (setDiam s)

/-! The pair lanes and the heartbeat. -/

/-- PAIR_LANE_UP: the lane has trained; a member's HELLO leaves at once (Table 12-3). -/
def execPairLaneUp (dt : Nat) (l : Fin 2) (s : State) : Host.Outcome State Fault Refusal :=
  let s := s.begin dt
  let s := judgeLane l (modPairLane l (fun p => { p with st := 1 }) s)
  if s.pairEn then done (sendPair (.hello (ownHello s)) s) else done s

/-- PAIR_LANE_DOWN: lost, or too long: not used (R331). -/
def execPairLaneDown (dt : Nat) (l : Fin 2) (s : State) : Host.Outcome State Fault Refusal :=
  let s := s.begin dt
  let s := modPairLane l (fun _ => {}) s
  done (if s.pairEn then partnerLost (raiseDev 0x3102 0 l s) else s)

/-- PAIR_HB_LOSS: no rising edge for 200 ns (R332). What a standby makes of it is decided at W (Table 12-5). -/
def execPairHbLoss (dt : Nat) (s : State) : Host.Outcome State Fault Refusal :=
  let s := s.begin dt
  done (partnerLost (condFails 0x3103 0 0 (modRdn (fun r => { r with hb := false }) s)))

/-- HEARTBEAT_PRESENT. -/
def execHeartbeatPresent (dt : Nat) (s : State) : Host.Outcome State Fault Refusal :=
  let s := s.begin dt
  done (modRdn (fun r => { r with hb := true }) s)

/-! Frames of each tick (R341). -/

/-- SNAP_RX. -/
def execSnapRx (dt : Nat) (lane : Fin 2) (seq : Nat) (snap : Snap) (s : State) : Host.Outcome State Fault Refusal :=
  done (firstCopy lane 0x10 seq (modRdn (fun r => { r with snap := some snap })) (s.begin dt))

/-- RMAP_RX. -/
def execRmapRx (dt : Nat) (lane : Fin 2) (seq : Nat) (tick : Int) (map : BitVec 256) (s : State) :
    Host.Outcome State Fault Refusal :=
  done (firstCopy lane 0x11 seq (modRdn (fun r => { r with rmap := some (tick, map) })) (s.begin dt))

/-- FWD_S_RX: kept for F, and compared with the own conversions of the tick (R311). -/
def execFwdSRx (dt : Nat) (lane : Fin 2) (seq : Nat) (f : FwdS) (s : State) : Host.Outcome State Fault Refusal :=
  done (firstCopy lane 0x12 seq (fun s =>
    let s := modRdn (fun r => { r with fwd := some f }) s
    if s.rdn.role = 1 || f.tick ≠ s.alm.tick then s else pairCompare f.ain s) (s.begin dt))

/-- The forward of tick n is complete (R346). -/
def forwardComplete (s : State) (n : Int) : Bool :=
  (s.rdn.snap.map (·.tick)) == some n && (s.rdn.fwd.map (·.tick)) == some n

/-- Receipt map in use for tick n (R341, R344, R346): the intersection, or the own map alone. -/
def mapFor (s : State) (n : Int) : BitVec 256 :=
  let own := s.rdn.ownMap
  if s.rdn.role = 1 then
    (match s.rdn.rmap with
     | some (k, m) => if k = n then own &&& m else own
     | none => own)
  else match s.rdn.snap with
    | some p => if s.rdn.ownValues || p.tick != n then own else own &&& p.map
    | none => own

/-! Digests and arbitration (R343, R344). -/

/-- PAIR_DIVERGED and its loser (R344). A joiner that differs starts its join anew. -/
def diverge (s : State) : State :=
  let own := s.rdn.dig.integrity
  let his := s.rdn.pdig.integrity
  let s := raiseDev 0x3106 0 0 (modRdn (fun r => { r with syncTicks := 0, perMis := r.perMis + 1 }) s)
  if s.rdn.role = 3 then detach s
  else if !synchronised s then s
  else
    let activeLoses := if s.rdn.role = 1 then own && !his else his && !own
    if s.rdn.role = 1 then
      (if activeLoses then modRdn (fun r => { r with partnerRole := 1 }) (detach s)
       else modRdn (fun r => { r with partnerRole := 4 }) s)
    else if activeLoses then becomeActive (modRdn (fun r => { r with partnerRole := 4 }) s)
    else detach s

/-- Compare once both digests of a tick are known; none is made when either tick was computed from own values. -/
def compareDig (s : State) : State :=
  let d := s.rdn.dig
  let p := s.rdn.pdig
  if d.tick ≠ p.tick || s.rdn.cmp = some d.tick || s.rdn.role = 4 || s.rdn.role = 0 then s
  else
    let s := modRdn (fun r => { r with cmp := some d.tick }) s
    if d.own || p.own then s
    else if d.eDig = p.eDig && d.gDig = p.gDig then modRdn (fun r => { r with syncTicks := sat32 r.syncTicks }) s
    else diverge s

/-- DIG_RX. -/
def execDigRx (dt : Nat) (lane : Fin 2) (seq : Nat) (d : Dig) (s : State) : Host.Outcome State Fault Refusal :=
  done (firstCopy lane 0x13 seq (fun s => compareDig (modRdn (fun r => { r with pdig := d }) s)) (s.begin dt))

/-- BLOCK by command or launch (R27, R246): out of RUN at once, BLOCK to every position still released. -/
def blockByCommand (op part : Nat) (s : State) : State :=
  blockFrames (blockWith op 0 part s)

/-- A decision of the partner acts here on arrival as an own one, without being sent back (R246, R345): it carries its decision time, and a
LEG_OPEN decision counts for escalation (R254). Its data words, which the DECIDE does not name, are free. Code 0 stands for a BLOCK command.
A fault that is held here already is the same happening, decided by both (DEDUCED, notes/assumptions/106.md). -/
def takeDecision (time code kind index level : Nat) (cover : List Nat) (s : State) : State :=
  let s := if 0x2301 ≤ code && code ≤ 0x2304 then setLatch (code - 0x2301) time s else s
  if code = 0 then blockByCommand 0x0205 8 s
  else if isHeld code kind index s then s
  else
    let f := s.freeWord
    let d := recData code index f.1.toNat f.1.toNat f.2
    let s := d.2
    let cfg := cfgReact s code
    let scope := scopeOf s kind index
    let r := stampAt time s {
      code := code, kind := kind, index := index, data0 := d.1.1 % 2 ^ 32, data1 := d.1.2 % 2 ^ 32
      reactCfg := cfg, reactApplied := level, escalated := level != cfg
      reactDevice := max (deviceReaction s) (if 4 ≤ level then level else 0)
      firstOut := decide (s.spu.foCur.length < 16) }
    let h : Held := { lr := r, time := time, scope := scope, cover := cover }
    let t := holdFault h (if cfg = 2 then decisionsAt time scope s else s.spu.decisions) s
    applyLinks s h (fireFault code level r.seq (time / cycQ * cycQ) t)

/-- DECIDE_RX. -/
def execDecideRx (dt : Nat) (lane : Fin 2) (seq : Nat) (time code kind index level : Nat) (cover : List Nat) (s : State) :
    Host.Outcome State Fault Refusal :=
  done (firstCopy lane 0x15 seq (takeDecision time code kind index level cover) (s.begin dt))

/-! State transfer (R349 steps 3 to 7). -/

/-- Fields that stay each member's own: identity within the pair and its peer ports, the confirmed safety set, options and
keeper, tamper, lane addresses, host attachments and the directions of the bitstream clocks (R275). -/
def ownField (id : Nat) : Bool :=
  let u := idUnit id
  (u == 10 && (decide (0x100 ≤ idInst id) || idField id == 2 || idField id == 3)) || (u == 7 && decide (0x100 ≤ idInst id) && idField id == 1)
    || u == 11 || u == 14 || u == 15 || u == 16 || u == 17

/-- A signal of a bitstream group that the pattern sets to OUT: its delay follows a clock direction that is each member's own (R275). -/
def outFed (s : State) (n : Nat) : Bool := decide (0x140 ≤ n) && decide (n < 0x170) && s.bsd.patOut.getLsbD ((n - 0x140) / 8)

/-- The constants derived from the parameters (R349 step 5): the angle leads and measurement delays of the GFE and the transport times of
the LPE's slots. Those that follow a clock direction differ between the members of a pair, and are not compared. -/
def derived (s : State) : List Int :=
  ((List.range 4).filter (gfeEnabled s)).flatMap (fun k =>
      tauAdv s k :: (if outFed s (s.pn 1 k 5) then [] else [measDelay s k false]) ++ (if outFed s (s.pn 1 k 6) then [] else [measDelay s k true]))
    ++ ((enabledSlots s.wire).filter (fun k => !(slotInputs s.wire k).any (outFed s))).map (fun k => (transportOf s k : Int))

/-- The compiled schedules and the derived constants of both members agree (R140, R349 step 5). -/
def schedAgrees (s : State) (c : Capture) : Bool :=
  s.lpe.sched == c.lpe.sched && s.lpe.place == c.lpe.place && s.lpe.lcyc == c.lpe.lcyc &&
    s.lpe.schedStart == c.lpe.schedStart && s.lpe.schedEnd == c.lpe.schedEnd && derived s == c.derived

/-- The state entering tick k + 1 as the active captures it (step 6). -/
def captureOf (s : State) : Capture :=
  { tick := s.alm.tick, dev := s.dev, gfe := s.gfe, lpe := s.lpe, mod := s.mod, spu := s.spu
    ports := s.plk.port.map (fun e => { port := e.1, seqEdge := e.2.seqEdge, seqState := e.2.seqState, seqCfg := e.2.seqCfg,
                                        seqDiag := e.2.seqDiag, code := e.2.code, eff := e.2.eff, edges := e.2.edges })
    derived := derived s
    launch := s.alm.launch, pend := s.pend, tel := s.plk.tel }

/-- Faults decided here while the captured state was on its way stay held beside those it brings. -/
def mergeHeld (c : Capture) (s : State) : List Held :=
  let t : Int := s.tickAt c.tick + (s.alm.phaseW + 150 * nsecQ : Nat)
  c.spu.held ++ s.spu.held.filter (fun h => decide (t < h.time) && !c.spu.held.any (sameFault h.lr.code h.lr.kind h.lr.index))

/-- Load it (step 7) once the schedules agree (step 5). -/
def loadCapture (c : Capture) (s : State) : State :=
  if !schedAgrees s c then stopJoin s
  else
    let s := { s with
      gfe := c.gfe, lpe := c.lpe, mod := c.mod
      spu := { s.spu with held := mergeHeld c s, decisions := c.spu.decisions, attempts := c.spu.attempts, runs := c.spu.runs
                          sweepRes := c.spu.sweepRes, guardRes := c.spu.guardRes, prestart := c.spu.prestart, sw := c.spu.sw }
      plk := { s.plk with
        tel := c.tel
        port := s.plk.port.map (fun e => match c.ports.find? (fun x => x.port == e.1) with
          | some x => (e.1, { e.2 with seqEdge := x.seqEdge, seqCfg := x.seqCfg, seqDiag := x.seqDiag
                                       code := x.code, eff := x.eff, edges := x.edges })
          | none => e) }
      alm := { s.alm with launch := c.launch }
      pend := s.pend.filter (fun e => ownField e.id) ++ c.pend.filter (fun e => !ownField e.id) }
    modRdn (fun r => { r with joinState := 7, shadow := some c.dev, buf := r.buf.filter (fun b => decide (c.tick < b.tick)) }) s

/-- JOIN_BUFFER_FULL: 512 ticks are buffered before the replay ends; the join restarts from step 6 (R349). -/
def execJoinBufferFull (dt : Nat) (s : State) : Host.Outcome State Fault Refusal :=
  let s := s.begin dt
  if s.rdn.role ≠ 3 || !(s.rdn.joinState == 6 || s.rdn.joinState == 7) || s.rdn.buf.length < 512 then done s
  else
    let s := modRdn (fun r => { r with buf := [], joinState := 6, joinRestarts := r.joinRestarts + 1 }) s
    let s := if s.rdn.joinRestarts = 3 then raiseDev 0x3108 0 0 s else s
    done (sendPair (.role 1 6) s)

/-- JOIN_COMPLETE: JOIN_N consecutive matching ticks make the joiner STANDBY; from here it has the partner's device state and
sends EDGE and timed STATE frames, under the partner's sequence (R349 step 8, R335). -/
def execJoinComplete (dt : Nat) (s : State) : Host.Outcome State Fault Refusal :=
  let s := s.begin dt
  if s.rdn.role ≠ 3 || s.rdn.joinState ≠ 8 || s.rdn.syncTicks < s.pn 10 0 5 then done s
  else
    let d := s.rdn.shadow.getD s.dev
    let s := setRole 2 (modRdn (fun r => { r with joinState := 0, shadow := none, joinRestarts := 0 }) s)
    let s := setDev d 0x0302 s
    let s := { s with plk := { s.plk with port := s.plk.port.map (fun e =>
      (e.1, { e.2 with seqState := (s.rdn.pdig.stateSeq.getD e.1 0 + 1) % 65536 })) } }
    done (condHolds 0x3104 0 0 (condHolds 0x3106 0 0 (condHolds 0x3108 0 0 s)))

/-! Role swap (R350). -/

/-- Why the active would refuse a swap: WRONG_STATE or CONFLICT. -/
def swapRefusal (s : State) : Option (Nat × Nat × Nat) :=
  if s.rdn.role ≠ 1 || s.rdn.partnerRole ≠ 2 || s.rdn.syncTicks < s.pn 10 0 5 || s.rdn.vigil = List.replicate 16 0
      || (s.rdn.vigil.getD 4 0).toNat / 65536 ≠ 0 || !bothLanesUp s || !s.rdn.hb then wrongState s
  else if s.alm.launch.any (fun e => e.2.part == s.hst.token && s.hst.token != 15) then some (stConflict, mkId 10 0 6, 0)
  else none

/-- The active chooses a tick at least two ticks ahead and tells the standby. -/
def chooseSwap (s : State) : State :=
  let k := s.tickNow + 2
  sendPair (.role 2 k) (modRdn (fun r => { r with swapAt := some k }) s)

def opRoleSwap : Op where
  check s := if s.rdn.role = 1 || s.rdn.role = 0 then swapRefusal s else none
  act s := if s.rdn.role = 1 then chooseSwap s else sendPair (.role 3 0) s

/-- ROLE_SWAP: SERVICE, at either member; the one that is not active passes it on (R337, R350, R358). -/
def execRoleSwap (dt : Nat) (p : Fin 8) (s : State) : Host.Outcome State Fault Refusal :=
  done (opCmd p (.priv pvService) (mkId 10 0 6) 1 opRoleSwap (s.begin dt))

/-- At the effective tick the roles exchange, and the token holder releases the token (R350). -/
def swapEffect (n : Int) (s : State) : State :=
  match s.rdn.swapAt with
  | none => s
  | some k =>
    if n < k then s
    else
      let s := modRdn (fun r => { r with swapAt := none }) s
      if s.rdn.role = 1 then setRole 2 (modRdn (fun r => { r with partnerRole := 1 }) (moveToken 15 6 s))
      else if s.rdn.role = 2 then setRole 1 (modRdn (fun r => { r with partnerRole := 2 }) s)
      else s

/-- ROLE_SWAP_EFFECT: idempotent where the tick instant has already exchanged the roles. -/
def execRoleSwapEffect (dt : Nat) (s : State) : Host.Outcome State Fault Refusal :=
  let s := s.begin dt
  done (swapEffect s.tickNow s)

/-- ROLE_RX: 0 DETACH, 1 JOIN_REQ of a step, 2 SWAP at a tick, 3 SWAP asked of the active, 4 its answer. -/
def execRoleRx (dt : Nat) (lane : Fin 2) (seq : Nat) (op : Fin 5) (arg : Int) (s : State) : Host.Outcome State Fault Refusal :=
  done (firstCopy lane 0x18 seq (fun s =>
    match op with
    | 0 => partnerIs 4 s
    | 1 =>
      let s := partnerIs 3 s
      if s.rdn.role ≠ 1 then s
      else if arg = 3 then sendPair (.stx (.par s.par s.pend)) s
      else if arg = 6 then modRdn (fun r => { r with capture := true }) s else s
    | 2 => if s.rdn.role = 2 then modRdn (fun r => { r with swapAt := some arg }) s else s
    | 3 => match swapRefusal s with
      | none => chooseSwap s
      | some (st, _, _) => sendPair (.role 4 st) s
    | _ => s) (s.begin dt))

/-! The vigil (R351). -/

/-- The PLLs of the lanes in use are locked (Table 12-7 test 7). -/
def lanePllsLocked (s : State) : Bool :=
  (List.range 16).all (fun q => vget s.lanes.lock q false ||
    (List.range 4).all (fun i => (tabGet s.lanes.lane (4 * q + i) {}).pst == 2))

/-- VDD, VDDM and VDDA are in range, and no other rail is known to be out of its range. -/
def suppliesOk (s : State) : Bool :=
  s.pkg.railOk.testBit 0 && s.pkg.railOk.testBit 1 && s.pkg.railOk.testBit 4 && !heldCode 0x7602 s && !heldCode 0x7008 s

def vigilFails (s : State) (scrub mram sched : Bool) (margin : Nat) : List Nat :=
  let on := s.pn 10 0x200 2
  let ready := (List.range 64).filter (fun p => s.rdn.pdig.ready.getLsbD p)
  let locked := s.clk.fpll == .locked && s.clk.tpll == .locked && lanePllsLocked s
  let bad : Nat → Bool := fun i =>
    if i = 0 then scrub else if i = 1 then mram else if i = 2 then sched
    else if i = 3 then decide (0 < s.rdn.perAdc)
    else if i = 4 then s.rdn.perBsd != 0
    else if i = 5 then ready.any (fun p => (s.port p).st != .ready)
    else if i = 6 then decide (margin < 256)
    else if i = 7 then !locked || decide (5 * nsecQ < (s.tb 0).off.natAbs)
    else if i = 8 then decide (110 ≤ s.pkg.tj) || !suppliesOk s
    else if i = 9 then !bothLanesUp s || !s.rdn.hb || decide (0 < s.rdn.perMis)
    else (List.range 8).any (fun q => ppLane s q != noneV && (pp s q).st != 3)
  (List.range 11).filter (fun i => on.testBit i && bad i)

/-- The tests completed in the period: SCRUB ends a pass every 60 s and MRAM every 3,600 s, counted from power-on (DESIGN CHOICE,
notes/assumptions/138.md); every other test of VIGIL_MASK completes in each period. -/
def vigilDone (s : State) : Nat :=
  let on := s.pn 10 0x200 2
  let ended := fun (sec : Nat) => decide (s.rdn.vigilAt / (sec * 1000 * msSteps) < s.clock / (sec * 1000 * msSteps))
  (List.range 11).foldl (fun m i =>
    if on.testBit i && (i != 0 || ended 60) && (i != 1 || ended 3600) then m + 2 ^ i else m) 0

/-- The report of Table 12-8. -/
def vigilWords (s : State) (fails : List Nat) (lane margin : Nat) : List Word :=
  let mask := fails.foldl (fun m i => m + 2 ^ i) 0
  let w := fun (n : Nat) => BitVec.ofNat 32 n
  let up := (if (pairLane s 0).up then 1 else 0) + (if (pairLane s 1).up then 2 else 0)
  let peers := (peerPortsReady s).foldl (fun m q => m + 2 ^ (q + 2)) 0
  let adc := ((s.adc.inp.filter (fun e => decide (0 < e.2.pairBad))).map (fun e => 2 ^ (e.1 % 8))).foldl (fun m b => m ||| b) 0
  let ws : List Word := [
    w (nodeId s * 2 ^ 20 + s.rdn.role * 2 ^ 16 + s.rdn.partnerRole * 2 ^ 12), w s.rdn.vseq, w (secOf s.now), w (nsOf s.now),
    w (mask * 65536 + vigilDone s), w s.rdn.syncTicks, w (min s.rdn.perMis 65535 * 65536 + min s.rdn.perMiss 65535),
    w (min s.rdn.perOne 65535 * 65536 + adc * 256), w (s.rdn.perBsd.toNat % 2 ^ 32), w (s.rdn.perBsd.toNat / 2 ^ 32),
    w (min s.rdn.perEcc 65535 * 65536 + min s.rdn.eccUn 65535), w (lane * 2 ^ 24 + margin),
    satS32 ((s.tb 0).off / stepQ), w ((s.pkg.tj % 256).toNat * 2 ^ 24 + s.pkg.railOk % 2 ^ 24), w (up + peers)]
  ws ++ [crc32 (ws.flatMap (fun x => bytesBE 4 x.toNat))]

/-- VIGIL_REPORT: each VIGIL_PERIOD a member that is not ACTIVE sends its report; a failed test raises VIGIL_FAULT of that test, and a
report without it clears. What the tests outside this model's state found comes with the command: fails of SCRUB, MRAM and SCHED, and the
lane scanned with its margin. -/
def execVigilReport (dt : Nat) (scrub mram sched : Bool) (lane : Fin 64) (margin : Fin 1025) (s : State) :
    Host.Outcome State Fault Refusal :=
  let s := s.begin dt
  if !notActive s || !s.dev.powered || s.clock < s.rdn.vigilAt + s.ptn 10 0x200 1 / stepQ then done s
  else
    let fails := vigilFails s scrub mram sched margin
    let ws := vigilWords s fails lane margin
    let s := modRdn (fun r => { r with vigilOwn := ws, vseq := r.vseq + 1, perMis := 0, perMiss := 0, perOne := 0, perAdc := 0,
                                       perBsd := 0, perEcc := 0, vigilAt := s.clock }) s
    let s := (List.range 11).foldl (fun s i =>
      let bad := fails.contains i
      let t := runRaise 0x3110 0 i 0 0 [] bad s
      if bad then t else condHolds 0x3110 0 i t) s
    done (sendPair (.vig ws) s)

/-- VIG_RX: kept when its CRC is right (Table 12-8 word 15). -/
def execVigRx (dt : Nat) (lane : Fin 2) (seq : Nat) (words : List Word) (s : State) : Host.Outcome State Fault Refusal :=
  done (firstCopy lane 0x17 seq (fun s =>
    if words.length = 16 && words.getD 15 0 = crc32 ((words.take 15).flatMap (fun x => bytesBE 4 x.toNat)) then
      modRdn (fun r => { r with vigil := words }) s
    else s) (s.begin dt))

/-! GLOBAL_BLOCK events (R355) and the topology (R357). -/

/-- The first valid copy of an event or broadcast from another node: its window, and the ports it goes on to. -/
def relayPorts (s : State) (q : Nat) : List Nat :=
  ((peerPortsReady s) ++ (pairLanesUp s).map (· + 8)).filter (· != q)

def carries (s : State) (q : Nat) : Bool := if q < 8 then (pp s q).st == 3 else s.pairEn && (pairLane s (q - 8)).up

/-- GB_RX: relayed as two frames on every other port; in ARMED, RUN and BLOCKED it raises PEER_GLOBAL_BLOCK, whose pulse drives
BLOCK_N for 1.0 µs from the raising of its record (R260, R355). -/
def execGbRx (dt : Nat) (q : Fin 10) (origin gseq time : Nat) (s : State) : Host.Outcome State Fault Refusal :=
  let s := s.begin dt
  if !carries s q || origin = nodeId s then done s
  else match (tabGet s.rdn.gbWin origin {}).take gseq with
    | none => done s
    | some w =>
      let s := modRdn (fun r => { r with gbWin := tabPut r.gbWin origin w }) s
      let ps := relayPorts s q
      let s := sendPeer (ps ++ ps) (.gb origin gseq time) s
      if s.awake then
        done (raise 0x3120 0 0 origin gseq [] (if isHeld 0x3120 0 0 s then s
          else { s with spu := { s.spu with pulseEnd := some (s.now + 1000 * nsecQ) } }))
      else done s

/-- TOPO_DUE: every 1 ms, upward (R357). -/
def execTopoDue (dt : Nat) (s : State) : Host.Outcome State Fault Refusal :=
  let s := s.begin dt
  if !dueAgain msSteps s.rdn.topoAt s then done s else
  let s := modRdn (fun r => { r with topoAt := some s.clock }) s
  let h := heights s
  let ids := nodeId s :: (branchPorts s).flatMap (fun q => (pp s q).peerId :: (pp s q).ids)
  done (sendPeer ((peerPortsReady s).filter (upward s)) (.topo h.1 h.2 (bestSum s) ids) s)

/-- TOPO_RX: the child's heights; at the root D_DIAM, unless it would pass GB_BUDGET: then the growth is refused. -/
def execTopoRx (dt : Nat) (q : Fin 8) (h1 h2 best : Nat) (ids : List Nat) (s : State) : Host.Outcome State Fault Refusal :=
  let s := s.begin dt
  if (pp s q).st ≠ 3 || upward s q then done s
  else
    let t := setDiam (modPp q (fun p => { p with h1 := h1, h2 := h2, best := max best (h1 + h2), ids := ids, depthRefused := false }) s)
    if isRoot s && decide (gbBudget s < diam t) then
      (if (pp s q).depthRefused then done s
       else done (raiseDev 0x3121 0 q (modPp q (fun p => { p with depthRefused := true }) s)))
    else done (condHolds 0x3121 0 q t)

end Sys2Proof.Machine
end

