-- ==== Sys2Proof/Machine/Lanes.lean ====
section
/-! DEFINITION. Serial lanes (spec/16_serial_lanes.md): families, detectors, power states, loops, patterns and margin scans. -/
namespace Sys2Proof.Machine

def proto (s : State) (n : Nat) : Nat := lf s.wire n 1
def isEth (s : State) (n : Nat) : Bool := proto s n == 3 || proto s n == 4
def loopOf (s : State) (n : Nat) : Nat := lf s.wire n 8
def wakeLane (s : State) : Nat := s.pn 14 0x200 1

/-- The rate of a lane in 1/16 Gb/s (Tables 16-1 and 16-2). -/
def rate16 (w : Nat → Wire) (n : Nat) : Nat :=
  match lf w n 1 with
  | 1 => if lo32 (w (mkId 5 n 2)) = 0 then 40 else 80
  | 2 => 165 | 3 => 20 | 4 => 165
  | 5 => (mulRound (lf w n 2) 16).toNat
  | _ => 0

/-- The rate family of a lane: 0 none, 1 F1, 2 F2, 3 F3 (Table 16-2). -/
def famOf (w : Nat → Wire) (n : Nat) : Nat :=
  match lf w n 1 with
  | 1 => 1 | 2 => 3 | 3 => 1 | 4 => 3
  | 5 => if [20, 40, 80].contains (rate16 w n) then 1 else if [50, 100].contains (rate16 w n) then 2 else 3
  | _ => 0

def quadLanes (q : Nat) : List Nat := (List.range 4).map (4 * q + ·)
/-- The family the lanes of a quad need. -/
def quadFam (w : Nat → Wire) (q : Nat) : Nat := (quadLanes q).foldl (fun m n => max m (famOf w n)) 0
/-- The parked clock quad (R425). -/
def parkedQuad (s : State) : Nat := if wakeLane s = noneV then 0 else wakeLane s / 4

/-- The LPLL of a quad runs (R423, R425, Table 1-6). -/
def lpllRuns (s : State) (q : Nat) : Bool :=
  (s.dev == .parked && q == parkedQuad s) || (quadLanes q).any (fun n => (lane s n).pst != 2 || (lane s n).exitTo.isSome)

/-- FAMILY (Table 16-8): none while the LPLL stands still. -/
def quadFamily (s : State) (q : Nat) : Nat :=
  if !lpllRuns s q then 0 else if s.dev = .parked && q = parkedQuad s then 1 else quadFam s.wire q

def setLock (q : Nat) (v : Bool) (s : State) : State := 
  { s with lanes := { s.lanes with lock := vmod s.lanes.lock q (fun _ => v), lost := vmod s.lanes.lost q (fun _ => false) } }

/-- LPLLs that stopped are unlocked. -/
def stopQuads (s : State) : State :=
  (List.range 16).foldl (fun s q => if lpllRuns s q then s else setLock q false s) s

/-! Owners. -/

/-- What the owner of a lane makes of lost signal or lock (Tables 7-17 and 12-12); none while the lane is in a loop (R432). -/
def ownerDown (n : Nat) (s : State) : State :=
  if loopOf s n ≠ 0 then s
  else if proto s n = 1 then (if (s.port n).st = .down then s else linkDown n s)
  else if proto s n = 2 then (match portOnLane s n with | some q => peerLaneDown true q s | none => s)
  else s

/-- The owner starts from its first step (R228, R353). -/
def ownerTrain (n : Nat) (s : State) : State :=
  if loopOf s n ≠ 0 then s
  else if proto s n = 1 then startTraining n s
  else if proto s n = 2 then (match portOnLane s n with | some q => peerLaneUp q (modPp q (fun _ => {}) s) | none => s)
  else s

/-- Detectors are masked in L1 and L2 and in the near-end loops (R430). -/
def detects (s : State) (n : Nat) : Bool := (lane s n).pst == 0 && loopOf s n != 1 && loopOf s n != 2
/-- LOS, LOL or loss of SYNC ends. -/
def laneGood (x : Lane) : Lane := { x with badSince := none, badTold := false }
def maskLane (x : Lane) : Lane := { x with los := false, lol := false, sync := false, badSince := none, badTold := false }

/-! PRBS (R433 to R435). -/

/-- Bits compared up to now (R434): 62.5 ps of a rate in 1/16 Gb/s is rate/256 bits. -/
def prbsBitsNow (s : State) (n : Nat) : Nat :=
  let x := lane s n
  if x.prbsLock && !x.scanning then (x.prbsBits + (s.clock - x.prbsFrom) * rate16 s.wire n / 256) % 2 ^ 64 else x.prbsBits

/-- The checker stops counting here: it lost lock, or a margin scan begins. -/
def holdPrbs (n : Nat) (s : State) : State :=
  let b := prbsBitsNow s n
  modLane n (fun x => { x with prbsBits := b, prbsFrom := s.clock }) s

/-! Power states (R436, R437). -/

/-- The lane goes to a power state; an exit from L2 takes until LANE_L2_EXIT. -/
def goPower (n v : Nat) (s : State) : State :=
  let x := lane s n
  if v = 2 then stopQuads (modLane n (fun x => maskLane { x with pst := 2, exitTo := none }) s)
  else if x.pst = 2 then modLane n (fun x => { x with exitTo := some v }) s
  else modLane n (fun x => if v = 1 then maskLane { x with pst := 1 } else { x with pst := v }) s

/-- A held PWR_REQ takes effect, unless a loop still holds it; a lane of PROTO 1 or 2 serves (R437, Table 16-5). -/
def releaseHeld (n : Nat) (s : State) : State :=
  if loopOf s n ≠ 0 then s
  else match (lane s n).heldPwr with
    | none => s
    | some v =>
      let s := modLane n (fun x => { x with heldPwr := none }) s
      if 3 ≤ proto s n then goPower n v s else s

/-- Entry to ARMED: every lane that is not OFF goes to L0, and then to what a request held through PARKED asks; the parked clock quad retunes to the
family its lanes need (R425, R437). -/
def lanesArmed (s : State) : State :=
  let q := parkedQuad s
  let s := if quadFam s.wire q = 1 then s else setLock q false s
  (List.range 64).foldl (fun s n => if proto s n = 0 then goPower n 2 s else releaseHeld n (goPower n 0 s)) s

/-- The lanes of a device in PARKED: every one but WAKE_LANE in L2 (R437), whose WAKE_LANE takes its pending value (R426); a PWR_REQ of the same
cycle is held (Table 16-5), and the parked clock quad goes to family F1 (R425). -/
def lanesParked (s : State) : State :=
  let s := promoteWhere (fun e => e.id == mkId 14 0x200 1) s
  let s := (List.range 64).foldl (fun s n =>
    let s := modLane n (fun x => { x with
      heldPwr := if x.pwrAt.any (fun t => t / 20 == s.clock / 20) then some (s.pn 14 n 9) else x.heldPwr }) s
    if n = wakeLane s then goPower n 0 s else goPower n 2 s) s
  let q := parkedQuad s
  stopQuads (if 1 < quadFam s.wire q then setLock q false s else s)

/-- In FALLBACK lanes of PROTO 3 and 4 are in L0 and all others in L2 (R437). -/
def lanesFallback (s : State) : State :=
  stopQuads ((List.range 64).foldl (fun s n => goPower n (if isEth s n then 0 else 2) s) s)

/-- PWR_REQ (R437). -/
def opPwrReq (n v : Nat) : Op where
  check s :=
    if ((proto s n = 1 || proto s n = 2) && s.dev.live) || (s.dev = .parked && n = wakeLane s) then wrongState s else none
  act s :=
    let s := s.setPar (mkId 14 n 9) (BitVec.ofNat 64 v)
    if loopOf s n ≠ 0 || s.dev = .parked then modLane n (fun x => { x with heldPwr := some v }) s
    else if 3 ≤ proto s n then goPower n v (modLane n (fun x => { x with pwrAt := some s.clock }) s) else s

def execPwrReq (dt : Nat) (p : Fin 8) (n : Fin 64) (v : Fin 3) (s : State) : Host.Outcome State Fault Refusal :=
  done (opCmd p .token (mkId 14 n 9) v (opPwrReq n v) (s.begin dt))

/-- LANE_L2_EXIT: the lane has its equaliser setting and its owner trains (R428, R436). -/
def execLaneL2Exit (dt : Nat) (n : Fin 64) (eq : Fin 16) (s : State) : Host.Outcome State Fault Refusal :=
  let s := s.begin dt
  match (lane s n).exitTo with
  | none => done s
  | some v =>
    let s := promoteFront n s
    let s := modLane n (fun x => { maskLane x with pst := v, exitTo := none, eqEff := eqSetting s n eq }) s
    done (if v = 0 && s.awake then ownerTrain n s else s)

/-! Detectors (R430). -/

/-- LANE_LOS. -/
def execLaneLos (dt : Nat) (n : Fin 64) (s : State) : Host.Outcome State Fault Refusal :=
  let s := s.begin dt
  if !detects s n || (lane s n).los then done s
  else done (ownerDown n (condFails 0x3201 0 n (modLane n (fun x => { x with
    los := true, losCount := sat32 x.losCount, badSince := some (x.badSince.getD s.clock) }) s)))

/-- LANE_LOL. -/
def execLaneLol (dt : Nat) (n : Fin 64) (s : State) : Host.Outcome State Fault Refusal :=
  let s := s.begin dt
  if !detects s n then done s else done (ownerDown n (condFails 0x3201 0 n (setLol n s)))

/-- LOS_CLEAR: 2 µs at or above 120 mV; the owner may retrain, with the front end's pending values (R426, R430). -/
def execLosClear (dt : Nat) (n : Fin 64) (s : State) : Host.Outcome State Fault Refusal :=
  let s := s.begin dt
  if !(lane s n).los then done s
  else
    let s := modLane n (fun x => let x := { x with los := false, lol := false }; if x.sync then laneGood x else x) s
    done (if s.awake && loopOf s n = 0 && (proto s n = 2 || (proto s n = 1 && (s.port n).st == .down)) then
      ownerTrain n (retrainFront n s) else s)

/-- LANE_SYNC_ACQUIRED. -/
def execLaneSyncAcquired (dt : Nat) (n : Fin 64) (s : State) : Host.Outcome State Fault Refusal :=
  let s := s.begin dt
  if !detects s n then done s
  else
    let s := modLane n (fun x => let x := { x with sync := true, lol := false }; if x.los then x else laneGood x) s
    done (match portOnLane s n with
      | some q => if proto s n = 2 && loopOf s n = 0 then peerLaneUp q s else s
      | none => s)

/-- LANE_SYNC_LOST. -/
def execLaneSyncLost (dt : Nat) (n : Fin 64) (s : State) : Host.Outcome State Fault Refusal :=
  let s := s.begin dt
  if !detects s n then done s
  else done (condFails 0x3201 0 n (modLane n (fun x => { x with sync := false, badSince := some (x.badSince.getD s.clock) }) s))

/-- LANE_ETH_DOWN: 1 ms of LOS, LOL or SYNC lost on an Ethernet lane in L0 (R442). -/
def execLaneEthDown (dt : Nat) (n : Fin 64) (s : State) : Host.Outcome State Fault Refusal :=
  let s := s.begin dt
  let x := lane s n
  match x.badSince with
  | some b =>
    if isEth s n && x.pst = 0 && !x.badTold && decide (b + 16000000 ≤ s.clock) then
      done (raiseDev 0x3201 0 n (modLane n (fun x => { x with badTold := true }) s))
    else done s
  | none => done s

/-! PLL events: the four of Clocks and the sixteen LPLLs. -/

/-- An LPLL loses lock: LOL on the quad's lanes, each owner's fault, and LANE_QPLL_LOST once (R448, Table 16-5). -/
def lpllLost (q : Nat) (s : State) : State :=
  if !vget s.lanes.lock q false then s
  else
    let used := (quadLanes q).any (fun n => (lane s n).pst != 2)
    let s := setLock q false s
    let s := { s with lanes := { s.lanes with lost := vmod s.lanes.lost q (fun _ => true) } }
    let s := (quadLanes q).foldl (fun s n => if detects s n then ownerDown n (setLol n s) else s) s
    if used then raiseDev 0x3202 0 q (condFails 0x3202 0 q s) else s

/-- PLL_LOCK. -/
def execPllLock (dt : Nat) (x : Fin 20) (s : State) : Host.Outcome State Fault Refusal :=
  let s := s.begin dt
  if !s.clk.xmOk then done s
  else if x.val < 4 then done (pllLocked x s)
  else
    let q := x.val - 4
    if lpllRuns s q then
      done (setLock q true ((quadLanes q).foldl (fun s n => modLane n (fun x => { x with lol := false }) s) s))
    else done s

/-- PLL_UNLOCK. -/
def execPllUnlock (dt : Nat) (x : Fin 20) (s : State) : Host.Outcome State Fault Refusal :=
  let s := s.begin dt
  if x.val < 4 then done (pllLost x s) else done (lpllLost (x - 4) s)

/-- XM_LOSS: XM_OK falls, CLK_XM_LOST is raised, and every PLL loses lock (R444). -/
def execXmLoss (dt : Nat) (s : State) : Host.Outcome State Fault Refusal :=
  let s := s.begin dt
  if !s.clk.xmOk then done s
  else
    let s := modClk (fun k => { k with xmOk := false }) s
    let s := if s.dev.powered then raiseDev 0x7301 0 0 s else s
    done ((List.range 16).foldl (fun s q => lpllLost q s) ((List.range 4).foldl (fun s x => pllLost x s) s))

/-! Loops, patterns, scans (R431 to R435). -/

/-- LOOP (R432, Tables 16-3 and 16-5). -/
def opLoop (n v : Nat) : Op where
  check s :=
    if v = 0 then none
    else if !(proto s n = 1 || proto s n = 2 || proto s n = 5) || !(s.dev = .boot || s.dev = .armed || s.dev = .blocked) then wrongState s
    else if v = 3 && lf s.wire n 10 ≠ 0 then some (stConflict, mkId 14 n 8, mkId 14 n 10)
    else none
  act s :=
    let was := loopOf s n
    let s := s.setPar (mkId 14 n 8) (BitVec.ofNat 64 v)
    if v ≠ 0 then
      let s := modLane n (fun x => if v = 1 || v = 2 then maskLane x else x) s
      if proto s n = 1 then (clearTx n (dropReqs n s)).modPort n (fun q => { q with st := if q.st = .off then .off else .down, edges := [] })
      else if proto s n = 2 then (match portOnLane s n with | some q => peerLaneDown false q s | none => s)
      else s
    else if was ≠ 0 then
      let s := ownerTrain n (retrainFront n s)
      if s.dev = .parked then s else releaseHeld n s
    else s

def execLoop (dt : Nat) (p : Fin 8) (n : Fin 64) (v : Fin 4) (s : State) : Host.Outcome State Fault Refusal :=
  done (opCmd p .token (mkId 14 n 8) v (opLoop n v) (s.begin dt))

/-- PRBS_CHK: zeroes both counters (R434); lanes of PROTO 3, 4 and 5. -/
def opPrbsChk (n v : Nat) : Op where
  check s := if proto s n < 3 then wrongState s else none
  act s := modLane n (fun x => { x with prbsLock := false, prbsBits := 0, prbsErrs := 0, prbsFrom := s.clock })
    (s.setPar (mkId 14 n 11) (BitVec.ofNat 64 v))

def execPrbsChk (dt : Nat) (p : Fin 8) (n : Fin 64) (v : Fin 5) (s : State) : Host.Outcome State Fault Refusal :=
  done (opCmd p .token (mkId 14 n 11) v (opPrbsChk n v) (s.begin dt))

/-- CHECKER_LOCK: 64 matching bits. -/
def execCheckerLock (dt : Nat) (n : Fin 64) (s : State) : Host.Outcome State Fault Refusal :=
  let s := s.begin dt
  if lf s.wire n 11 = 0 || (lane s n).prbsLock || (lane s n).scanning then done s
  else done (modLane n (fun x => { x with prbsLock := true, prbsFrom := s.clock }) s)

/-- CHECKER_LOCK_LOST: `errs` errors were counted in the run that ends. -/
def execCheckerLockLost (dt : Nat) (n : Fin 64) (errs : Nat) (s : State) : Host.Outcome State Fault Refusal :=
  let s := s.begin dt
  if !(lane s n).prbsLock then done s
  else done (modLane n (fun x => { x with prbsLock := false, prbsErrs := satAdd32 x.prbsErrs errs }) (holdPrbs n s))

/-- Bits an ERR_INJ word inverts: one, or LENGTH of a burst; 64 needs all six bits of LENGTH, so 0 stands for it (notes). -/
def injBits (v : Word) : Nat := if v.getLsbD 31 then (if v.toNat % 64 = 0 then 64 else v.toNat % 64) else 1

/-- ERR_INJ: the checker locked to the lane through a near-end loop adds that many errors (R435). -/
def opErrInj (n : Nat) (v : Word) : Op where
  check _ := if v.getLsbD 31 && v.toNat % 64 = 1 then some (stRange, mkId 14 n 12, 0) else none
  act s :=
    if lf s.wire n 10 = 0 then s
    else
      let s := s.emit (.inject n (injBits v))
      let x := lane s n
      if x.prbsLock && !x.scanning && (loopOf s n = 1 || loopOf s n = 2) then
        modLane n (fun x => { x with prbsErrs := satAdd32 x.prbsErrs (injBits v) }) s
      else s

def execErrInj (dt : Nat) (p : Fin 8) (n : Fin 64) (v : Word) (s : State) : Host.Outcome State Fault Refusal :=
  done (opCmd p .token (mkId 14 n 12) v.toNat (opErrInj n v) (s.begin dt))

/-- The PlynLink or peer port of a lane is READY. -/
def laneReady (s : State) (n : Nat) : Bool :=
  (proto s n == 1 && (s.port n).st == .ready) || (proto s n == 2 && (portOnLane s n).any (fun q => (pp s q).st == 3))

/-- MARGIN_SCAN: refused on a READY port's lane unless the device is a pair member that is not ACTIVE (R431). -/
def opMarginScan (n : Nat) : Op where
  check s := if laneReady s n && !notActive s then wrongState s else none
  act s := modLane n (fun x => { x with scanning := true }) (holdPrbs n s)

def execMarginScan (dt : Nat) (p : Fin 8) (n : Fin 64) (s : State) : Host.Outcome State Fault Refusal :=
  done (opCmd p .token (mkId 14 n 13) 1 (opMarginScan n) (s.begin dt))

/-- MARGIN_SCAN_DONE: H_MARGIN in 1/1,024 UI, V_MARGIN in mV. -/
def execMarginScanDone (dt : Nat) (n : Fin 64) (h : Fin 1025) (v : Nat) (s : State) : Host.Outcome State Fault Refusal :=
  let s := s.begin dt
  if !(lane s n).scanning then done s
  else done (modLane n (fun x => { x with scanning := false, hMargin := h, vMargin := v, prbsFrom := s.clock }) s)

/-- FLAGS of a lane (Table 16-8). -/
def laneFlags (s : State) (n : Nat) : Nat :=
  let x := lane s n
  (if x.los then 1 else 0) + (if x.lol then 2 else 0) + (if x.sync then 4 else 0) + (if x.prbsLock then 8 else 0)
    + (if loopOf s n != 0 then 16 else 0)

end Sys2Proof.Machine
end

