-- ==== Sys2Proof/Machine/Faults.lean ====
section
/-! DEFINITION. Commands and events of switch protection (spec/08_switch_protection.md R242 to R267), the FAULT_IN pins and FORCE
(spec/06_modulator.md R182 to R188), and the monitors of supplies, temperature, memory and the Milliner pairs
(spec/01_architecture.md R10, spec/21_package_electrical.md). -/
namespace Sys2Proof.Machine

/-! Clearing by command (R259). -/

/-- A latched satellite fault: its clear is the satellite's (R236). -/
def latchedSat (h : Held) : Bool := 0x1001 ≤ h.lr.code && h.lr.code ≤ 0x1005 && h.lr.kind == 1

/-- The satellite that serves a channel. -/
def satOf (s : State) (c : Nat) : Option Sat :=
  (s.port (c / 4)).sats.find? (fun a => decide (a.first ≤ c % 4) && decide (c % 4 < a.first + a.chans))

/-- One named fault: cleared, asked of its satellite, or the reason it stays (R259). -/
def clearOne (h : Held) (acc : State × Option (Nat × Nat)) : State × Option (Nat × Nat) :=
  let s := acc.1
  let stays := (s, some (acc.2.getD (h.lr.code, h.lr.index)))
  if codeIsSafety h.lr.code || !clearable s h then stays
  else if latchedSat h then
    let c := h.lr.index
    -- No answer can come over a link that is down (Table 7-17).
    let mutely := fun (hop : Nat) => (raiseLink 0x3012 0x3011 (c / 4) hop (cfgReact s 0x3012) s, stays.2)
    match satOf s c with
    | none => mutely 0
    | some a =>
      if !linkSends (s.port (c / 4)).st then mutely a.hop
      else
        let s := { s with spu := { s.spu with
          held := s.spu.held.map (fun x => if sameFault h.lr.code 1 c x then { x with clearing := true } else x) } }
        (addReq (c / 4) a.hop false 4 0 (2 ^ (c % 4)) 1 s, acc.2)
  else (finishClear h s, acc.2)

/-- FAULT_CLEAR of a name. Its response waits for the satellites it asks. -/
def faultClear (p : Nat) (name : Nat) (s : State) : State :=
  if name ≠ max32 && codeIsSafety (name / 65536) then refuse p 0x45 (name / 65536) 0 s
  else
    let r := (namedFaults s name).foldl (fun acc h => clearOne h acc) (s, none)
    let s := r.1
    if s.spu.held.any (·.clearing) then
      let ports := ((s.spu.held.filter (·.clearing)).map (fun h => h.lr.index / 4)).eraseDups
      ports.foldl (fun s q => pumpReqs q s) { s with spu := { s.spu with clearBy := some (p, r.2) } }
    else match r.2 with
      | none => accepted p s
      | some (code, i) => refuse p stSourceActive code i s

/-- FAULT_CLEAR: PARAM_WRITE of its field by the token holder. -/
def execFaultClear (dt : Nat) (p : Fin 8) (name : Word) (s : State) : Host.Outcome State Fault Refusal :=
  done (fieldCmd p .token (faultClear p name.toNat) (s.begin dt))

/-! Automatic clearing (R257, R258). -/

/-- The supply bit of a UVLO code in STATUS (Table 7-10). -/
def supplyBit (code : Nat) : Option Nat :=
  if code = 0x1003 then some 28 else if code = 0x1004 then some 27 else if code = 0x1005 then some 26 else none

/-- Attempts on a channel within RETRY_WIN. -/
def recentAttempts (s : State) (c t : Nat) : List Nat :=
  (tabGet s.spu.attempts c []).filter (fun a => decide (t < a + s.ptn 4 0x400 6))

/-- Conditions 1 to 6 of R257 at tick n for a held fault on its channel. -/
def mayAutoClear (s : State) (n : Int) (h : Held) : Bool :=
  let c := h.lr.index
  let code := h.lr.code
  let w := winStart s n * stepQ
  latchedSat h && s.dev == .run && h.trying.isNone && s.pn 4 0xE01 (code % 4096) == 1
    && decide (0x21 ≤ (s.port (c / 4)).version)
    && h.level == 2 && !h.lr.escalated
    && decide (h.time + s.ptn 4 0x400 4 ≤ w)
    && (match supplyBit code with | some b => !(s.tel c).status.getLsbD b | none => true)
    && decide ((recentAttempts s c w).length < s.pn 4 0x400 5)
    && !s.spu.held.any (fun x => !sameFault code 1 c x && x.covers c)

/-- The attempt's state: the LEG_OPEN of the channel has ended. -/
def startAttempt (h : Held) (s : State) : State :=
  { s with spu := { s.spu with held := s.spu.held.map (fun x =>
      if sameFault h.lr.code 1 h.lr.index x then { x with trying := some notYet } else x) } }

/-- Condition 7: the MOD, with the carder, produces a turn-on for the channel in the window of tick n. -/
def givesTurnOn (s : State) (n : Int) (c : Nat) : Bool :=
  let a := winStart s n
  let b := winStart s (n + 1)
  let cells := (cardAll s n a).1
  let cell := (cells.find? (fun e => e.1 == c)).bind (·.2)
  (runChan s n a b cell c).2.1.any (fun e => e.2.2)

/-- AUTO_CLEAR_ATTEMPT: between F and W of the tick in hand. -/
def execAutoClearAttempt (dt : Nat) (c : Fin 256) (s : State) : Host.Outcome State Fault Refusal :=
  let s := s.begin dt
  let n := s.alm.tick
  match s.spu.held.find? (fun h => h.lr.index == c.val && mayAutoClear s n h) with
  | none => done s
  | some h =>
    let t := startAttempt h s
    if !givesTurnOn t n c then done s
    else
      let w := winStart s n * stepQ
      let t := { t with spu := { t.spu with attempts := tabPut t.spu.attempts c (w :: recentAttempts s c w) } }
      done (sendRelease [c.val] (winStart s n) t)

/-! Pre-start diagnostics (R264). -/

def opPrestartRun : Op where
  check s := if s.dev = .armed then none else wrongState s
  act s := if s.dev = .armed then restartPrestart s else s

/-- PRESTART_RUN. -/
def execPrestartRun (dt : Nat) (p : Fin 8) (s : State) : Host.Outcome State Fault Refusal :=
  done (opCmd p .token (mkId 4 0x400 0x31) 1 opPrestartRun (s.begin dt))

/-! The BLOCK_N wire (R260, R261). -/

/-- BLOCK_N_FALL: an edge of the wire at the ball, a fall of 40 ns or longer or the rise after it. The falling edge is timestamped
wherever the Almanac runs (R57). -/
def execBlockNFall (dt : Nat) (fall : Bool) (s : State) : Host.Outcome State Fault Refusal :=
  let s := s.begin dt
  if fall then
    let s := if s.alm.running then { stampNow s with spu := { s.spu with fallStamp := planes s } } else s
    done (remoteBlock { s with spu := { s.spu with wireLow := true } })
  else done { s with spu := { s.spu with wireLow := false, highSince := s.now } }

/-- BLOCK_N_PULSE_END: 1.0 µs after PEER_GLOBAL_BLOCK. -/
def execBlockNPulseEnd (dt : Nat) (s : State) : Host.Outcome State Fault Refusal :=
  let s := s.begin dt
  match s.spu.pulseEnd with
  | some e => if e ≤ s.now then done { s with spu := { s.spu with pulseEnd := none } } else done s
  | none => done s

/-- BLOCK_N_QUIET_END: a wire still low is another device's from here. -/
def execBlockNQuietEnd (dt : Nat) (s : State) : Host.Outcome State Fault Refusal :=
  let s := s.begin dt
  match s.spu.quietEnd with
  | some e => if e ≤ s.now then done (remoteBlock { s with spu := { s.spu with quietEnd := none } }) else done s
  | none => done s

/-! FAULT_IN (R186 to R188). -/

/-- The pulse sets the latch: at 25 ns or longer always, below 10 ns never, between as a free bit says. -/
def pulseSets (width : Nat) (s : State) : Bool × State :=
  if 400 ≤ width then (true, s)
  else if width < 160 then (false, s)
  else (Config.freeBit s.free, { s with free := s.free + 1 })

/-- FAULT_IN_LATCH: a pulse of `width` steps on a pin. -/
def execFaultInLatch (dt : Nat) (pin : Fin 4) (width : Nat) (s : State) : Host.Outcome State Fault Refusal :=
  let r := pulseSets width (s.begin dt)
  let s := r.2
  if !r.1 || s.mod.latch.getLsbD pin || s.sys.step < 9 || !s.dev.powered then done s
  else
    let code := 0x2301 + pin.val
    let s := raise code 9 pin 0 0 (safeChans s pin) (setLatch pin s.now s)
    -- The partner takes the latch with the decision (R246, R345), at NOTE too.
    if s.pairEn && cfgReact s code < 2 then done (sendPair (.decide s.now code 9 pin (cfgReact s code) []) s) else done s

/-- Latches go; channels that no level covers any more rejoin (R188). Outside RUN nothing is released: BLOCK takes the level's
place (`newCodes`). -/
def clearLatches (mask : Nat) (s : State) : State :=
  let m : BitVec 4 := BitVec.ofNat 4 mask
  let t := { s with mod := { s.mod with latch := s.mod.latch &&& ~~~m } }
  let freed := (List.range 256).filter (fun c => (dueCode s c).isSome && (dueCode t c).isNone)
  let t := immediateStates s t
  let t := (List.range 4).foldl (fun t i => if m.getLsbD i && s.mod.latch.getLsbD i then condHolds (0x2301 + i) 9 i t else t) t
  if t.dev = .run then
    let lv := fun (c : Nat) => (faultInLevel s c == some 2, faultInLevel s c == some 3)
    rejoinChans freed lv none { t with mod := { t.mod with relOwed := t.mod.relOwed ++ freed } }
  else t

/-- Refused for a latch whose pin is high; `low` is the pins' level as the command arrives. -/
def opFaultInClear (mask : Nat) (low : BitVec 4) : Op where
  check _ := ((List.range 4).find? (fun i => mask.testBit i && !low.getLsbD i)).map (fun i => (stSourceActive, 0x2301 + i, i))
  act := clearLatches mask

/-- FAULT_IN_CLEAR. -/
def execFaultInClear (dt : Nat) (p : Fin 8) (mask : BitVec 4) (low : BitVec 4) (s : State) : Host.Outcome State Fault Refusal :=
  done (opCmd p .token (mkId 3 0x400 1) mask.toNat (opFaultInClear mask.toNat low) (s.begin dt))

/-! FORCE (R182 to R185). -/

/-- The channel's records from T_f on, computed again (R183). Nothing is computed for a channel that a reaction or a safe level
covers, or has covered since the window's dispatch. -/
def recomputeForce (c tf : Nat) (s : State) : State :=
  let x := s.chan c
  let ch := { x with wait := x.wait0 }
  match s.mod.win with
  | none => s
  | some (n, a, b) =>
    if (x.wait && !(x.wait0 && x.first.isNone)) || x.covered || (dueCode s c).isSome || b ≤ tf then s
    else
      let o := outWindow a b .free ch (s.pn 3 c 7) (if s.hst.token = 15 then none else some s.hst.token)
      let gone := s.mod.unrel.filter (fun e => e.ch == c && decide (tf ≤ e.exec))
      let es := o.edges.filter (fun e => decide (tf ≤ e.1))
      let disp := ((s.tickAt n + s.alm.phaseW) / stepQ).toNat + 2400
      let recs := formEdges (lcmdSteps s) disp c (gone.any (·.fclr)) es ch.edgeId
      let p0 : Phys := { h := ch.ph0.h, l := ch.ph0.l, offH := ch.ph0.offH, offL := ch.ph0.offL }
      let before := (o.edges.filter (fun e => decide (e.1 < tf))).foldl (fun (p : Phys) e =>
        p.apply { ch := c, high := e.2.1, on := e.2.2, fclr := false, id := 0, exec := e.1, release := 0 }) p0
      let s := { s with spu := { s.spu with sw := tabPut s.spu.sw c before } }
      let chk := spuCheck s recs
      let keep := ch.clampLog.filter (fun e => decide (e.1 < tf))
      let log := keep ++ o.clamps.filter (fun e => decide (tf ≤ e.1))
      let s := s.modChan c (fun x => { x with
        ph := o.p, clampRun := o.clampRun, clampLog := log, edgeId := x.edgeId + recs.length
        clamps := min (x.clamps - ch.clampLog.length + log.length) max32 })
      let s := { s with
        mod := chargeClamps log (unchargeClamps ch.clampLog { s.mod with
          unrel := sortEdges (s.mod.unrel.filter (fun e => !(e.ch == c && decide (tf ≤ e.exec))) ++ chk.1) })
        spu := { s.spu with sw := chk.2.1 } }
      let s := match recs.find? (·.fclr) with
        | some e => { s with spu := { s.spu with held := s.spu.held.map (fun h =>
            if h.lr.kind == 1 && h.lr.index == c && h.trying.isSome then { h with trying := some e.exec } else h) } }
        | none => s
      chk.2.2.foldl (fun s c => raise 0x5401 1 c 0 0 [c] s) s

/-- A FORCE value with its writer: alone, from the fabric cycle after acceptance plus L_cmd; in a pair from the window of the
effective tick. The value travels with its partition above bit 32. -/
def takeForce (c : Nat) (v : Nat) (s : State) : State :=
  let old := s.pn 3 c 7
  let tf := (s.now / cycQ + 1) * cycQ / stepQ + lcmdSteps s
  let live := s.dev == .run && s.mod.win.isSome && !s.pairEn
  let s := (s.setPar (mkId 3 c 7) (BitVec.ofNat 64 (v % 16))).modChan c (fun x => { x with
    forceOld := if live then x.forceOld ++ [(tf, old, x.forceBy)] else x.forceOld
    forceBy := if v / 2 ^ 32 = 0 then none else some (v / 2 ^ 32 - 1) })
  if live then recomputeForce c tf s else s

def opForce (c v : Nat) : Op where
  check _ := none
  act := takeForce c v

/-- FORCE of a channel. -/
def execForce (dt : Nat) (p : Fin 8) (c : Fin 256) (v : BitVec 4) (s : State) : Host.Outcome State Fault Refusal :=
  let val := v.toNat + (p.val + 1) * 2 ^ 32
  done (opCmd p .token (mkId 3 c 7) val (opForce c val) (s.begin dt))

/-! Monitors. -/

/-- The condition of a code and INDEX has held for as long as its "Clears when" asks (R256, Table 7-17). -/
def timedHolds (s : State) (code index : Nat) : Bool :=
  if code = 0x3013 then (s.port index).discardTimes.all (fun t => decide (t + 1000000 * nsecQ ≤ s.now))
  else match timedCond s code index, tabGet? s.since (code * 4096 + index) with
    | some (true, d), some e => decide (e + d ≤ s.clock)
    | _, _ => false

/-- CLEARS_WHEN_HELD: the condition has now held for its time. -/
def execClearsWhenHeld (dt : Nat) (code : BitVec 16) (kind : BitVec 4) (index : BitVec 12) (s : State) :
    Host.Outcome State Fault Refusal :=
  let s := s.begin dt
  if timedHolds s code.toNat index.toNat then done (condHolds code.toNat kind.toNat index.toNat s) else done s

/-- MIL_LOCKSTEP (R10): a synchronised pair member withdraws (R342); otherwise the reset follows 10 ms later. -/
def execMilLockstep (dt : Nat) (s : State) : Host.Outcome State Fault Refusal :=
  let s := s.begin dt
  if s.dev.powered then done (raiseDev 0x7001 0 0 s) else done s

/-- MIL_WATCHDOG. -/
def execMilWatchdog (dt : Nat) (s : State) : Host.Outcome State Fault Refusal :=
  let s := s.begin dt
  if s.dev.powered then done (raiseDev 0x7002 0 0 s) else done s

/-- MIL_FAULT_RESET: 10 ms after the record of MIL_LOCKSTEP or MIL_WATCHDOG (Table 19-2 row 4). -/
def execMilFaultReset (dt : Nat) (s : State) : Host.Outcome State Fault Refusal :=
  let s := s.begin dt
  match s.spu.held.find? (fun h => (h.lr.code == 0x7001 || h.lr.code == 0x7002) && decide (h.time + 10000000 * nsecQ ≤ s.now)) with
  | some h => done (assertReset 2 4 h.lr.code false s)
  | none => done s

/-- SRAM_ECC: corrected, or not; in the per-tick path (R344); in firmware or control tables (Table 8-5). -/
def execSramEcc (dt : Nat) (corrected perTick tables : Bool) (s : State) : Host.Outcome State Fault Refusal :=
  let s := s.begin dt
  let s := modRdn (fun r => { r with
    integrity := r.integrity || perTick
    perEcc := if corrected then r.perEcc + 1 else r.perEcc
    eccUn := if corrected then r.eccUn else r.eccUn + 1 }) s
  if !corrected && tables && s.dev.powered then done (raiseDev 0x7003 0 0 s) else done s

def setRail (i : Nat) (v : Bool) (s : State) : State :=
  { s with pkg := { s.pkg with railOk :=
      if v then (if s.pkg.railOk.testBit i then s.pkg.railOk else s.pkg.railOk + 2 ^ i)
      else (if s.pkg.railOk.testBit i then s.pkg.railOk - 2 ^ i else s.pkg.railOk) } }

/-- SUPPLY_MONITOR: VDD, VDDM or VDDA has left its range for 1 µs, or is back in it. -/
def execSupplyMonitor (dt : Nat) (rail : Fin 3) (inRange : Bool) (s : State) : Host.Outcome State Fault Refusal :=
  let s := s.begin dt
  if !s.dev.powered then done s
  else
    let s := setRail (if rail.val = 2 then 4 else rail.val) inRange s
    let all := s.pkg.railOk.testBit 0 && s.pkg.railOk.testBit 1 && s.pkg.railOk.testBit 4
    done (runRaise 0x7008 0 0 0 0 [] (!all) (if all then condHolds 0x7008 0 0 s else s))

/-- PKG_RAIL: VDDL, VDDLH or VDDIO_0..7. INDEX is the rail's bit of RAIL_OK. -/
def execPkgRail (dt : Nat) (rail : Fin 10) (inRange : Bool) (s : State) : Host.Outcome State Fault Refusal :=
  let s := s.begin dt
  if !s.dev.powered then done s
  else
    let i := if rail.val < 2 then rail.val + 2 else rail.val + 3
    let s := setRail i inRange s
    done (runRaise 0x7602 0 i 0 0 [] (!inRange) (if inRange then s else condFails 0x7602 0 i s))

/-- TEMP_MONITOR_UPDATE (Table 8-5, 0x7005 and 0x7006). -/
def execTempMonitorUpdate (dt : Nat) (tj : Int) (s : State) : Host.Outcome State Fault Refusal :=
  let s := s.begin dt
  if !s.dev.powered then done s
  else
    let tj := clampI (-64) 191 tj
    let s := { s with pkg := { s.pkg with tj := tj } }
    let s := if tj < 110 then condHolds 0x7005 0 0 s else condFails 0x7005 0 0 s
    let s := if tj < 115 then condHolds 0x7006 0 0 s else condFails 0x7006 0 0 s
    let s := runRaise 0x7005 0 0 (BitVec.ofInt 32 tj).toNat 0 [] (decide (115 ≤ tj)) s
    done (runRaise 0x7006 0 0 (BitVec.ofInt 32 tj).toNat 0 [] (decide (130 ≤ tj)) s)

end Sys2Proof.Machine
end

