-- ==== Sys2Proof/Machine/Recorder.lean ====
section
/-! DEFINITION. The disturbance recorder (spec/11_recorder.md): latching, rows and packets, triggers, records and their
measurements, overflow and restart. -/
namespace Sys2Proof.Machine

/-- The slots of stream i, in increasing index (R316). -/
def slotsOf (s : State) (i : Nat) : List Nat :=
  (List.range 128).filter (fun r => s.pn kRec r 2 == i && s.pn kRec r 1 != noneV)

/-- Bytes of a row and of the row space of the ring, and the rows it takes (R316, R324). -/
def rowBytes (n : Nat) : Nat := 4 * (1 + n)
def rowSpace (s : State) (i : Nat) : Nat := (rf s i 3 - 1) * 1024
def ringRows (s : State) (i : Nat) : Nat := rowSpace s i / rowBytes (slotsOf s i).length

/-- May a HALT value of the recorder act: the streams it concerns are not RUNNING (R318). -/
def recPendOk (s : State) (e : Pend) : Bool :=
  let idle := fun (i : Nat) => (rst s i).run != 1
  let i := idInst e.id
  if 0x100 ≤ i then idle (i - 0x100)
  else idle (s.pn kRec i 2) && (s.pend.filter (fun x => x.id == mkId kRec i 2)).all (fun x => idle (lo32 x.val))

def recHaltField (id : Nat) : Bool := idUnit id == kRec && (idInst id < 0x100 || decide (2 ≤ idField id ∧ idField id ≤ 4))

def promoteRec (s : State) : State :=
  promoteWhere (fun e => recHaltField e.id && decide (e.tick ≤ s.tickNow) && recPendOk s e) s

/-! Packets (Table 11-1). -/

def tickWords (n : Int) : List Word := wI n
def head (kind i n : Nat) : Word := BitVec.ofNat 32 (kind * 2 ^ 28 + i * 2 ^ 26 + n)

def putPkt (i : Nat) (p : RecPkt) (s : State) : State := modRst i (fun r => { r with ring := r.ring ++ [p] }) s

def rowWords (r : RecRow) : List Word :=
  BitVec.ofNat 32 ((if r.bad then 2 ^ 31 else 0) + (r.tick % 65536).toNat) :: r.words

/-- Close the DATA packet in hand. -/
def closeData (i : Nat) (s : State) : State :=
  let rows := (rst s i).rows
  match rows with
  | [] => s
  | f :: _ =>
    let n := (slotsOf s i).length
    putPkt i { words := head 1 i n :: tickWords f.tick ++ [BitVec.ofNat 32 rows.length] ++ rows.flatMap rowWords
               rows := rows.length } (modRst i (fun r => { r with rows := [] }) s)

def markPkt (i n : Nat) (anchor : Int) (nested : Bool) (f : Fire) : RecPkt :=
  { words := head 2 i n :: tickWords anchor ++
      [BitVec.ofNat 32 (f.src * 2 ^ 28 + f.cond * 2 ^ 26 + (if nested then 2 ^ 25 else 0) + (if f.src = 9 then 2 ^ 24 else 0))] ++
      w2 (secOf f.time) ++ [BitVec.ofNat 32 (nsOf f.time), BitVec.ofNat 32 (fracOf f.time), BitVec.ofNat 32 f.arg] }

/-! Measurements (R325), in binary64. -/

def n64 (a : Nat) : Nat := fConvert fmt32 fmt64 a
def n32 (a : Nat) : Word := BitVec.ofNat 32 (fConvert fmt64 fmt32 a)

/-- The crossing times of a column, from rows of time and value, oldest first: the state is whether a row below level − hyst
has come since the last row at or above level, and the last row below level. -/
def crossings (level floor : Nat) : List (Nat × Nat) → Bool → Option (Nat × Nat) → List Nat
  | [], _, _ => []
  | (t, x) :: r, primed, last =>
    if fLe fmt64 level x then
      let rest := crossings level floor r false none
      match primed, last with
      | true, some (ta, xa) =>
        fAdd fmt64 ta (fMul fmt64 (fDiv fmt64 (fSub fmt64 level xa) (fSub fmt64 x xa)) (fSub fmt64 t ta)) :: rest
      | _, _ => rest
    else crossings level floor r (primed || fLt fmt64 x floor) (if fLt fmt64 x level then some (t, x) else last)

def periodOf (cs : List Nat) : Option Nat :=
  match cs with
  | a :: b :: r => some (fDiv fmt64 (fSub fmt64 ((b :: r).getLastD b) a) (fOfInt fmt64 (r.length + 1)))
  | _ => none

def columnOf (s : State) (i slot : Nat) (rows : List RecRow) : List (Nat × Nat) :=
  let k := (slotsOf s i).idxOf slot
  let t0 := (rows.head?.map (·.tick)).getD 0
  rows.map (fun r => (fOfQ fmt64 ((r.tick - t0) * s.alm.period) (65536 * 1000000000), n64 (r.words.getD k 0).toNat))

def crossingsOf (c : List (Nat × Nat)) (level hyst : F32) : List Nat :=
  crossings (n64 level.toNat) (fSub fmt64 (n64 level.toNat) (n64 hyst.toNat)) c false none

/-- FLAGS and the eight results of one measured slot. A value of a column with a NaN for which the manual states no
result is free, and so is PHASE when the reference is not among the measured slots (its level is then unstated). -/
def measBlock (i : Nat) (rows : List RecRow) (o : OpenRec) (m : Nat × F32 × F32) (s : State) : List Word × State :=
  let col := columnOf s i m.1 rows
  let xs := col.map (·.2)
  let nn := fOfInt fmt64 xs.length
  let mn := xs.foldl (fMin fmt64) (xs.headD 0)
  let mx := xs.foldl (fMax fmt64) (xs.headD 0)
  let mean := fDiv fmt64 (xs.foldl (fAdd fmt64) 0) nn
  let rms := fSqrt fmt64 (fDiv fmt64 (xs.foldl (fun a x => fAdd fmt64 a (fMul fmt64 x x)) 0) nn)
  let amp := fDiv fmt64 (fSub fmt64 mx mn) (fOfInt fmt64 2)
  let cs := crossingsOf col m.2.1 m.2.2
  let per := periodOf cs
  let one := fOfInt fmt64 1
  let refm := o.meas.find? (fun x => x.1 == o.ref)
  let phase : Option Nat := match refm with
    | some x =>
      let rc := crossingsOf (columnOf s i o.ref rows) x.2.1 x.2.2
      match rc.head?, periodOf rc with
      | some tr, some pr =>
        let from_ := fSub fmt64 tr (fDiv fmt64 pr (fOfInt fmt64 2))
        (cs.find? (fun t => fLe fmt64 from_ t)).map (fun ts =>
          fDiv fmt64 (fMul fmt64 (fOfInt fmt64 360) (fSub fmt64 tr ts)) pr)
      | _, _ => none
    | none => none
  let nan := xs.any (fIsNaN fmt64)
  let f1 := s.freeWord
  let f2 := f1.2.freeWord
  let f3 := f2.2.freeWord
  let f4 := f3.2.freeWord
  let unread := o.ref != noneV && refm.isNone && (slotsOf s i).contains o.ref
  let flags := (if per.isNone then 1 else 0) + (if phase.isNone && !unread then 2 else 0)
  ([BitVec.ofNat 32 flags, if nan then f1.1 else n32 mn, if nan then f2.1 else n32 mx, n32 mean, n32 rms,
    n32 (per.getD 0), n32 ((per.map (fDiv fmt64 one)).getD 0), if nan then f3.1 else n32 amp,
    if unread then f4.1 else n32 (phase.getD 0)],
   if nan || unread then f4.2 else s)

/-- Close the open record: its MEAS packet (R323). -/
def closeRecord (i : Nat) (trunc : Bool) (s : State) : State :=
  match (rst s i).opened with
  | none => s
  | some o =>
    let rows := (((rst s i).hist.drop o.skip).take o.rows).reverse
    let st := o.meas.foldl (fun (a : List Word × State) m =>
      let b := measBlock i rows o m a.2
      (a.1 ++ b.1, b.2)) ([], closeData i s)
    let w := head 3 i (slotsOf s i).length :: tickWords o.anchor ++
      [BitVec.ofNat 32 (o.trigs * 65536 + (if trunc then 4 else 0) + (if o.shortPre then 2 else 0) +
        (if rows.any (·.bad) then 1 else 0)), BitVec.ofNat 32 rows.length] ++ st.1
    modRst i (fun r => { r with opened := none }) (putPkt i { words := w } st.2)

/-! Rows. -/

/-- The first row tick of stream i at or after a time: its anchor (R320), which is a row already taken for a trigger that comes late. -/
def anchorOf (s : State) (i : Nat) (time : Int) : Int :=
  let p : Int := max s.alm.period 1
  let n := (time - s.alm.origin + p - 1) / p
  max (rst s i).first (n + (-n) % (max (rf s i 2) 1 : Nat))

/-- The record that a trigger with anchor tick n opens: its settings, and the rows the ring holds of it already (R323). -/
def openRecord (s : State) (i : Nat) (n : Int) : OpenRec :=
  let pre := rf s i 5
  let post := rf s i 6
  let since := ((rst s i).hist.takeWhile (fun r => decide (n ≤ r.tick))).length
  let have_ := (rst s i).hist.length - since
  { anchor := n, pre := pre, rows := min pre have_ + min since post, left := post - since, skip := since - post, shortPre := decide (have_ < pre)
    meas := ((List.range 8).filter (fun m => (slotsOf s i).contains (rf s i (0x40 + 4 * m)))).map (fun m =>
      (rf s i (0x40 + 4 * m), BitVec.ofNat 32 (rf s i (0x41 + 4 * m)), BitVec.ofNat 32 (rf s i (0x42 + 4 * m))))
    ref := rf s i 0x60 }

def fireBefore (a b : Fire) : Bool := decide ([a.time, a.src, a.cond] ≤ [b.time, b.src, b.cond])
def insFire (f : Fire) : List Fire → List Fire
  | [] => [f]
  | x :: r => if fireBefore x f then x :: insFire f r else f :: x :: r

/-- One firing's mark, once its anchor row is there (R320, R323). -/
def markAt (i : Nat) (f : Fire) (s : State) : State :=
  let n := anchorOf s i f.time
  let s := closeData i s
  let nested := (rst s i).opened.isSome
  let s := putPkt i (markPkt i (slotsOf s i).length n nested f) s
  let o := openRecord s i n
  modRst i (fun r => { r with
    marks := sat32 r.marks
    opened := match r.opened with
      | some o => some { o with trigs := min (o.trigs + 1) 65535 }
      | none => some o }) s

/-- Stop by overflow (R326): OVERFLOW, then the open record's MEAS. Firings that still wait for a row count as missed. -/
def overflow (i : Nat) (n : Int) (s : State) : State :=
  let s := closeData i s
  let r := rst s i
  let s := putPkt i { words := head 4 i (slotsOf s i).length :: tickWords n ++ [BitVec.ofNat 32 r.missed] } s
  let s := closeRecord i true s
  let s := modRst i (fun r => { r with
    run := 2, missed := satAdd32 r.missed r.fires.length, fires := [], overflows := sat32 r.overflows }) s
  promoteRec (raiseDev (0x7101 + i) 0 0 s)

/-- Rows of the ring not yet drained. -/
def undrained (r : Rst) : Nat := r.rows.length + (r.ring.map (·.rows)).foldl (· + ·) 0

/-- A row of stream i from tick n (R316, R320, R323, R326). -/
def takeRow (i : Nat) (n : Int) (s : State) : State :=
  let slots := slotsOf s i
  let r := rst s i
  let s := if r.started then s else
    modRst i (fun r => { r with started := true, first := n, missed := 0, hist := [], lastFire := (s.tickAt n).toNat })
      (putPkt i { words := head 5 i slots.length :: tickWords n ++ [BitVec.ofNat 32 r.missed] } s)
  if rowSpace s i < (undrained r + 1) * rowBytes slots.length then overflow i n s
  else
    let get := fun (k : Nat) => tabGet s.recd.latch k (0, true)
    let row : RecRow := { tick := n, bad := slots.any (fun k => !(get k).2), words := slots.map (fun k => (get k).1) }
    let keep := ringRows s i
    let s := modRst i (fun r => { r with
      rows := r.rows ++ [row], hist := (row :: r.hist).take keep, rowsN := sat32 r.rowsN
      opened := r.opened.map (fun o => { o with rows := o.rows + 1, left := o.left - 1 }) }) s
    let due := (rst s i).fires.filter (fun f => decide ((f.time : Int) ≤ s.tickAt n))
    let s := modRst i (fun r => { r with fires := r.fires.filter (fun f => !decide ((f.time : Int) ≤ s.tickAt n)) }) s
    let s := (due.foldl (fun l f => insFire f l) []).foldl (fun s f => markAt i f s) s
    let s := match (rst s i).opened with
      | some o => if o.left = 0 then closeRecord i false s else s
      | none => s
    if 64 ≤ (rst s i).rows.length then closeData i s else s

/-! Conditions on slots (Table 11-2). -/

def slotHits (s : State) (prev : Tab (Word × Bool)) (i c : Nat) : Bool :=
  let k := trf s i c 1
  match tabGet? prev k, tabGet? s.recd.latch k with
  | some (p, _), some (x, _) =>
    let lo := trf s i c 2
    let p := p.toNat
    let x := x.toNat
    let up := fLt fmt32 p lo && fLe fmt32 lo x
    let down := fLe fmt32 lo p && fLt fmt32 x lo
    let within := fun (v : Nat) => fLe fmt32 lo v && fLe fmt32 v (trf s i c 3)
    match trf s i c 0 with
    | 1 => (match trf s i c 4 with | 0 => up | 1 => down | _ => up || down)
    | 2 => within p && !within x
    | 3 => (p ^^^ x) &&& trf s i c 5 != 0
    | _ => false
  | _, _ => false

/-- The latch of tick n (R315, R316, R319). -/
def recLatch (s : State) : State :=
  let n := s.alm.tick
  let prev := s.recd.latch
  let slots := (List.range 128).filter (fun r => s.pn kRec r 1 != noneV)
  let s := { s with recd := { s.recd with latch := slots.map (fun r =>
    (r, sigVal s (s.pn kRec r 1), sigValid s (s.pn kRec r 1))) } }
  (List.range 4).foldl (fun s i =>
    let r := rst s i
    if r.run = 0 then s
    else
      let s := if r.started then
        (List.range 4).foldl (fun s c =>
          if slotHits s prev i c then fireStream { src := trf s i c 0, cond := c, time := (s.tickAt n).toNat } i s else s) s
        else s
      if r.run = 1 && n % (max (rf s i 2) 1 : Nat) == 0 then takeRow i n s else s) s

/-! Start, stop and restart. -/

def restartStream (i : Nat) (s : State) : State :=
  condHolds (0x7101 + i) 0 0
    (modRst i (fun r => { r with run := 1, started := false, fires := [] }) s)

/-- ENABLE took a value (R318): a fall closes an open record with TRUNC. -/
def recEnabled (i : Nat) (s : State) : State :=
  let on := rf s i 1 == 1
  let r := rst s i
  if on && r.run = 0 then
    modRst i (fun r => { r with run := 1, started := false, fires := [], lastFire := s.now }) s
  else if !on && r.run != 0 then
    let s := closeRecord i true (closeData i s)
    promoteRec (modRst i (fun r => { r with run := 0, started := false, fires := [] }) s)
  else s

/-- REC_AUTO_TRIGGER: AUTO_T has passed since the start or the last firing of stream i (R322). -/
def execRecAutoTrigger (dt : Nat) (i : Fin 4) (s : State) : Host.Outcome State Fault Refusal :=
  let s := s.begin dt
  let r := rst s i
  let auto := (s.wire (mkId kRec (0x100 + i) 7)).toInt
  let p : Int := max s.alm.period 1
  let due := (r.lastFire : Int) + auto
  -- The first tick instant at which AUTO_T has expired.
  let t := (due + (s.alm.origin - due) % p).toNat
  if r.run != 0 && r.started && decide (0 < auto) && decide (t ≤ s.now) then
    done (fireStream { src := 9, time := t } i s)
  else done s

/-- The named streams fire at the first tick instant after acceptance (R319). -/
def opRecTrigger (mask : Nat) : Op where
  check _ := none
  act s := fireMask 8 mask (s.tickAt (s.tickNow + 1)).toNat s

/-- REC_TRIGGER. -/
def execRecTrigger (dt : Nat) (p : Fin 8) (mask : BitVec 4) (s : State) : Host.Outcome State Fault Refusal :=
  done (opCmd p (.priv pvConfigure) (mkId kRec 0x200 1) mask.toNat (opRecTrigger mask.toNat) (s.begin dt))

/-- Refused for a stream that is RUNNING (R327). -/
def opRecRestart (mask : Nat) : Op where
  check s := if (List.range 4).any (fun i => mask.testBit i && (rst s i).run == 1) then wrongState s else none
  act s := (List.range 4).foldl (fun s i => if mask.testBit i && (rst s i).run == 2 then restartStream i s else s) s

/-- REC_RESTART. -/
def execRecRestart (dt : Nat) (p : Fin 8) (mask : BitVec 4) (s : State) : Host.Outcome State Fault Refusal :=
  done (opCmd p (.priv pvConfigure) (mkId kRec 0x200 2) mask.toNat (opRecRestart mask.toNat) (s.begin dt))

/-- A stopped stream with RESTART_MODE 1 whose ring is empty restarts (R327). -/
def ringDrained (i : Nat) (s : State) : State :=
  let r := rst s i
  if r.run = 2 && rf s i 8 = 1 && r.ring.isEmpty && r.rows.isEmpty then restartStream i s else s

def execRecRingDrained (dt : Nat) (i : Fin 4) (s : State) : Host.Outcome State Fault Refusal := done (ringDrained i (s.begin dt))

/-- TRIG_IN_EDGE: an edge of the configured polarity is stamped and passed to the recorder and the event log (R57, R62). The
manual gives the log record no code, so its code of Table 15-2's range beyond 0x0008 and its data are free values. -/
def execTrigInEdge (dt : Nat) (pin : Fin 4) (rise : Bool) (s : State) : Host.Outcome State Fault Refusal :=
  let s := s.begin dt
  let pol := s.pn 6 4 0x46 / 4 ^ (pin : Nat) % 4
  if !s.alm.running || (pol == 0 && !rise) || (pol == 1 && rise) then done s
  else
    let s := stampNow s
    let c := s.freeWord
    let a := c.2.freeWord
    let b := a.2.freeWord
    let s := logEvent (9 + c.1.toNat % 7) 0 pin a.1.toNat b.1.toNat b.2
    done (fireKind 5 (fun i c => trf s i c 1 == pin) s.now pin s)

end Sys2Proof.Machine
end

