-- ==== Sys2Proof/Machine/Operands.lean ====
section
/-! DEFINITION. What a write may carry: wire types and ranges (R402, Table 14-6), the class of a field, the right it needs
(Table 14-2), and the cross-field conditions under which a set is refused whole. -/
namespace Sys2Proof.Machine

/-- A 32-bit wire type travels in the low word; the value is what that word holds (R402). -/
def canonW (ty : WireType) (v : Wire) : Wire :=
  match ty with
  | .u32 => BitVec.ofNat 64 (lo32 v)
  | .s32 => BitVec.ofNat 64 (lo32 v)
  | .b32 => BitVec.ofNat 64 (lo32 v)
  | _ => v

def tyFmt (ty : WireType) : Fmt := if ty = .b64 then fmt64 else fmt32

/-- A value lies in a row's range and on its step. Real limits are compared as the field's own format holds them. -/
def rngOk (ty : WireType) (g : Rng) (v : Wire) : Bool :=
  let n := lo32 v
  let x := if ty = .b64 then v.toNat else n
  let f := tyFmt ty
  let fin := fIsFinite f x
  match g with
  | .nat lo hi => decide (lo ≤ n) && decide (n ≤ hi)
  | .orNone lo hi => n == noneV || (decide (lo ≤ n) && decide (n ≤ hi))
  | .oneOf l => l.contains n
  | .int lo hi => decide (lo ≤ s32Of n) && decide (s32Of n ≤ hi)
  | .time lo hi st => decide (lo ≤ v.toInt) && decide (v.toInt ≤ hi) && (st == 0 || v.toInt % st == 0)
  | .orTime z lo hi => v.toInt == z || (decide (lo ≤ v.toInt) && decide (v.toInt ≤ hi))
  | .real ln ld hn hd => fin && fLe f (fOfQ f ln ld) x && fLe f x (fOfQ f hn hd)
  | .realStep ln ld hn hd sn sd =>
    let q := qOf32 x
    let k : Int := if q.1 < 0 then 0 else (divEven (q.1.toNat * sd) (q.2 * sn) : Nat)
    fin && fLe f (fOfQ f ln ld) x && fLe f x (fOfQ f hn hd) && fOfQ f (k * sn) sd == x
  | .realOf l => l.any (fun e => fOfQ f e.1 e.2 == x)
  | .finite => fin
  | .nonzero => fin && x % f.signBit != 0
  | .nonneg => fin && fLe f 0 x
  | .positive => fin && fLt f 0 x
  | .even lo hi => decide (lo ≤ n) && decide (n ≤ hi) && n % 2 == 0
  | .noRange => true

/-- The code a REACT or POLICY field belongs to (R263). -/
def reactCode (id : Nat) : Nat := idInst id % 16 * 4096 + idField id
def isReact (id : Nat) : Bool := idUnit id == 4 && decide (0xF00 ≤ idInst id)
def isPolicy (id : Nat) : Bool := idUnit id == 4 && decide (0xE00 ≤ idInst id) && decide (idInst id < 0xF00)

/-- The range of a field, with the cases a table row alone does not carry. -/
def fieldOk (id : Nat) (r : Row) (v : Wire) : Bool :=
  let n := lo32 v
  if isReact id then (match codeRow (reactCode id) with | some c => decide (c.floor ≤ n) && decide (n ≤ c.ceil) | none => false)
  else if isPolicy id then n == 0 || (n == 1 && decide (0x1001 ≤ reactCode id ∧ reactCode id ≤ 0x1005))
  else if id = mkId 6 4 0x46 then decide (n < 256) && (List.range 4).all (fun i => decide (n / 4 ^ i % 4 ≤ 2))
  else if (idUnit id = 6 && idField id = 0x29) || (idUnit id = 14 && idField id = 0x10) then decide (n < 0x8000) && decide (n % 4096 ≤ 4094)
  else match r.rng with
    | .even lo hi => if idUnit id = 7 then decide (lo ≤ n) && decide (n ≤ hi) else rngOk r.ty r.rng v
    | g => rngOk r.ty g v

/-! Classes (glossary, R97, R136, R137, Table 5-4). -/

/-- The class of parameter P p of a block type. -/
def parClass (type p : Nat) : Cls :=
  match type with
  | 1 => .live | 7 => .live | 8 => .live
  | 3 => if p = 6 then .halt else .edge
  | 4 => if p = 0 then .halt else .edge
  | 5 => .edge | 6 => .edge | 9 => .edge | 10 => .edge | 13 => .edge
  | _ => .halt

/-- The block parameter a field is: slot, block, p. -/
def blockPar (id : Nat) : Option (Nat × Nat × Nat) :=
  let f := idField id
  if idUnit id = 2 && idInst id < 64 && 0x400 ≤ f && f < 0x700 && 9 ≤ (f - 0x400) % 32 then
    some (idInst id, (f - 0x400) / 32, (f - 0x400) % 32 - 9)
  else none

/-- The class of a field. A block parameter has the class of its block's type; while that type is about to change it waits with
it. -/
def rowClass (s : State) (id : Nat) (r : Row) : Cls :=
  match blockPar id with
  | some (k, b, p) =>
    if s.pend.any (fun e => e.id == mkId 2 k (0x400 + 0x20 * b)) then .halt else parClass (blkType s.wire k b) p
  | none => r.cls

def classOf (s : State) (id : Nat) : Cls := match rowOf id with | some r => rowClass s id r | none => .ro

/-- The right a write of a field needs (Table 14-2, R358, R383, R495). -/
def rightOf (id : Nat) : Right :=
  match idUnit id with
  | 6 => .priv pvTime
  | 9 => .priv pvConfigure
  | 11 => .priv pvSafety
  | 16 => .priv pvService
  | 17 => .priv pvService
  | 10 => if id = mkId 10 0 6 then .priv pvService else .token
  | 15 => if id = mkId 15 0 0x12 then .priv pvService else .token
  | _ => .token

/-! Candidate configurations. -/

def overlay (es : List (Nat × Wire)) (t : Tab Wire) : Tab Wire := es.foldl (fun t e => tabPut t e.1 e.2) t

/-- A state whose effective values are `par`, for the checks alone. -/
def withPar (s : State) (par : Tab Wire) : State :=
  let c := { s with par := par, pend := [] }
  { c with alm := { c.alm with period := c.ptn 6 0 0x10, phaseW := c.ptn 6 0 0x13, lcmd := c.ptn 5 0x400 1 } }

/-- The configuration once every pending value and the set are in effect. -/
def fullCand (s : State) (es : List (Nat × Wire)) : State :=
  withPar s (overlay es (overlay (s.pend.map (fun e => (e.id, e.val))) s.par))

/-- PTP fields stop with their instance (R67). -/
def ptpStopped (s : State) (id : Nat) (v : Wire) : Bool :=
  let off := fun (k : Nat) => k == 0 || s.pn 6 k 0x20 == 0
  if 0x100 ≤ idInst id then off (lo32 (s.wire id)) && off (lo32 v) else off (idInst id)

/-- The owner of a HALT value stands still now. Owners that stop at a happening of their own take theirs there. -/
def haltReady (s : State) (e : Pend) : Bool :=
  let i := idInst e.id
  match idUnit e.id with
  | 1 => idField e.id != 1 && (!gfeEnabled s i || (s.gfi i).mode == .idle)
  | 6 => (0x20 ≤ idField e.id && idField e.id ≤ 0x30) && ptpStopped s e.id e.val
  | 9 => recHaltField e.id && recPendOk s e
  | 17 => !(s.hp i).session
  | _ => false

/-- The configuration that the set's LIVE and EDGE entries give before any HALT value that still waits takes effect: values whose owner
stands still act with them at the next tick instant (R97). -/
def liveCand (s : State) (es : List (Nat × Wire)) : State :=
  let soft := fun (id : Nat) (v : Wire) => classOf s id != .halt || haltReady s { id := id, val := v, tick := 0 }
  withPar s (overlay (es.filter (fun e => soft e.1 e.2))
    (overlay ((s.pend.filter (fun e => soft e.id e.val)).map (fun e => (e.id, e.val))) s.par))

/-- CONFLICT names its two fields in increasing ID, as the example of R423 does. -/
def conflict (a b : Nat) : Option Ref := some ⟨stConflict, min a b, max a b⟩
def outOf (a : Nat) : Option Ref := some ⟨stRange, a, 0⟩
def failIf (c : Bool) (r : Option Ref) : Option Ref := if c then r else none
/-- The first refusal of a list of checks. -/
def firstOf (l : List (Option Ref)) : Option Ref := l.findSome? id

/-! Signals named by fields (R133, R135, R296). -/

/-- An AIN that a tick value needs is in the tick set. -/
def tickSetOk (c : State) (n : Nat) : Bool := !(0x100 ≤ n && n ≤ 0x11F) || decide (2 ≤ ainMode c (n - 0x100))

def unitsNamed (ids us : List Nat) : Bool := ids.any (fun id => us.contains (idUnit id))

/-- The signals that a field which R296 governs names. -/
def ainNames (id : Nat) (v : Wire) : List Nat :=
  let n := lo32 v
  let f := idField id
  let i := idInst id
  if n = noneV then []
  else if idUnit id = 1 && [5, 6, 0x10, 0x11].contains f then [n, n + 1, n + 2]
  else if idUnit id = 2 && i < 64 && (f == 3 || (0x10 ≤ f && f ≤ 0x17) || (0x400 ≤ f && f < 0x700 && 1 ≤ (f - 0x400) % 32 && (f - 0x400) % 32 ≤ 8))
    then [n]
  else if idUnit id = 3 && 0x300 ≤ i && i ≤ 0x307 && f == 5 then [n]
  else []

/-- R296 on the configuration that would take effect, and, where the set writes a MODE, on the fields as they now stand too. -/
def checkTickSet (s c : State) (ids : List Nat) : Option Ref :=
  let now := if ids.any (fun id => idUnit id == 8 && idField id == 1) then s.par else []
  firstRef (if (unitsNamed ids [1, 2, 3, 8]) then c.par ++ now else []) (fun e => ((ainNames e.1 e.2).find? (fun n => !tickSetOk c n)).map (fun n => ⟨0x30, e.1, n⟩))

/-- A GFE source names three assigned real signals. -/
def checkTriple (c : State) (id : Nat) : Option Ref :=
  let n := lo32 (c.wire id)
  if n = noneV then none
  else firstRef [n, n + 1, n + 2] (fun m => match sigTy c.wire chainMax m with
    | none => some ⟨0x30, id, m⟩
    | some .int => some ⟨0x31, id, m⟩
    | some .real => none)

/-! Unit by unit. -/

/-- R54, Table 2-8, R192. -/
def checkAlm (c : State) : Option Ref :=
  firstOf ([failIf (decide (c.pt 6 0 0x13 + nsQ 200 > c.pt 6 0 0x10)) (outOf (mkId 6 0 0x13)),
    failIf ((List.range 8).any (strEnabled c) && decide (c.freezeQ + 400 * nsecQ > c.alm.phaseW))
      (some ⟨0x33, 0, (c.freezeQ + 400 * nsecQ - c.alm.phaseW + 65535) / 65536⟩)]
    ++ [1, 2, 3].map (fun k =>
      let prof := c.pn 6 k 0x21
      if prof ≠ 3 && c.pn 6 k 0x22 == 254 then some ⟨stProfile, mkId 6 k 0x22, prof⟩
      else if prof < 2 then none
      else if c.pn 6 k 0x23 ≠ 0 then some ⟨stProfile, mkId 6 k 0x23, prof⟩
      else if c.ps 6 k 0x28 ≠ 0 then some ⟨stProfile, mkId 6 k 0x28, prof⟩ else none))

/-- A value in cycles is whole. -/
def wholeQ (q : Int × Nat) : Bool := q.1 % q.2 == 0

/-- R93, R96 and R130 of one instance. F_SET outside F_MIN to F_MAX and I_VI_START above I_LIM break both a range of Table 3-4 and a
condition of R96: they are refused with CONFLICT. A violation of R93 is refused with that rule's own OUT_OF_RANGE, although R96 lists it
among the CONFLICT conditions (DESIGN CHOICE both, notes/assumptions/129.md). -/
def checkGfi (c : State) (k : Nat) : Option Ref :=
  let f := gp c k
  let id := fun (x : Nat) => mkId 1 k x
  let quarter := fun (t : Int) => qLt (1, 4) (qMul (q64 (f 0xD)) (secsQ t))
  let pf := q64 (f 0x72)
  let fn := q64 (f 2)
  let ratio : Int × Nat := (pf.1 * fn.2, pf.2 * fn.1.toNat)
  let near : Int := (divEven ratio.1.toNat ratio.2 : Nat)
  let off : Int × Nat := (pf.1 * fn.2 - near * fn.1 * pf.2, pf.2 * fn.2)
  let scr := q64 (f 0x73)
  firstOf [
    failIf (!fle (f 0xC) (f 2)) (outOf (id 0xC)), failIf (!fle (f 2) (f 0xD)) (outOf (id 0xD)),
    failIf (!flt (f 0xC) (f 0x33)) (conflict (id 0xC) (id 0x33)),
    failIf (!flt (f 0x33) (f 0xD)) (conflict (id 0x33) (id 0xD)),
    failIf (!fle (f 0x41) (f 0x40)) (conflict (id 0x40) (id 0x41)),
    failIf (!flt (f 0x50) (f 0x51)) (conflict (id 0x50) (id 0x51)),
    failIf (quarter (tauAdv c k)) (outOf (id 0xD)),
    failIf (quarter (measDelay c k false)) (outOf (id 9)),
    failIf (quarter (measDelay c k true)) (outOf (id 0xA)),
    failIf (decide (off.1.natAbs ≤ 10 * off.2) || qLt (1, 4) (qMul pf (secsQ c.alm.period))) (outOf (id 0x72)),
    failIf (!wholeQ (qMul scr fn) || !wholeQ (qMul scr pf)) (outOf (id 0x73)),
    checkTriple c (id 5), checkTriple c (id 6), checkTriple c (id 0x10), checkTriple c (id 0x11)]

def checkGfe (c : State) : Option Ref := firstRef (List.range 4) (checkGfi c)

def gfeCount (c : State) : Nat := ((List.range 4).filter (gfeEnabled c)).length

/-- The compiled length in q, if the descriptors compile. -/
def lpeLength (c : State) : Nat := match compileLpe c.wire with | .ok r => r.2 * cycQ | .error _ => 0

/-- R133 to R141 (R15). -/
def checkLpe (c : State) : Option Ref :=
  match compileLpe c.wire with
  | .error r => some r
  | .ok r =>
    let e := schedStartQ c.wire c.freezeQ + r.2 * cycQ
    failIf (decide (c.alm.phaseW < e)) (some ⟨0x33, 0, (e - c.alm.phaseW + 65535) / 65536⟩)

/-- R174, R189, R190 and Table 6-4. -/
def checkMod (c : State) : Option Ref :=
  let on := (List.range 8).filter (strEnabled c)
  let first := fun (g : Nat) => strPar c g 2
  let last := fun (g : Nat) => strPar c g 2 + strPar c g 3
  let id := fun (g f : Nat) => mkId 3 (0x300 + g) f
  firstOf ((List.range 8).map (fun g =>
      let n := strPar c g 5
      let ok := (0x100 ≤ n && n < 0x200 && sigKnown c.wire n) || (0x1000 ≤ n && n ≤ 0x1FFF) || (0x400 ≤ n && n ≤ 0x4FF)
      failIf (if n = noneV then strEnabled c g else !ok) (some ⟨0x30, id g 5, n⟩))
    ++ on.map (fun g => firstOf [
      failIf (decide (256 < last g)) (outOf (id g 3)),
      failIf (decide (c.pt 3 (0x300 + g) 9 + stepQ > c.pt 6 0 0x10)) (outOf (id g 9)),
      ((((List.range (strPar c g 3)).map (first g + ·)).find? (fun ch => modeOf c ch != 2)).bind
        (fun ch => conflict (id g 2) (mkId 3 (0x200 + ch / 4) 1))),
      ((on.find? (fun h => decide (h < g) && decide (first h < last g) && decide (first g < last h))).bind
        (fun h => conflict (id h 2) (id g 2)))])
    ++ [firstRef (c.par.filter (fun e => idUnit e.1 == 3 && decide (idInst e.1 < 256) && idField e.1 == 2)) (fun e =>
      let car := c.pn 3 (idInst e.1) 1
      failIf (decide (c.pt 3 (0x100 + car) 1 ≤ e.2.toInt)) (conflict e.1 (mkId 3 (0x100 + car) 1)))])

/-- R242, R244, R250, R254. -/
def checkSpu (c : State) : Option Ref :=
  let guards := (c.par.filter (fun e => idUnit e.1 == 4 && decide (idInst e.1 < 256) && idField e.1 == 2 && lo32 e.2 == 1)).map (·.1)
  let g := c.pn 4 0x400 2
  let d := c.pn 4 0x400 3
  firstOf [
    failIf (decide (16 < guards.length)) (conflict (guards.getD 0 0) (guards.getD 16 0)),
    firstRef (c.par.filter (fun e => idUnit e.1 == 4 && decide (idInst e.1 < 256) && idField e.1 == 3 && lo32 e.2 != 0)) (fun e =>
      failIf (c.pn 4 (idInst e.1) 2 != 1) (conflict e.1 (e.1 - 1))),
    failIf (g != 0 && d != 0 && decide (d ≤ g)) (conflict (mkId 4 0x400 2) (mkId 4 0x400 3)),
    firstRef (c.par.filter (fun e => isReact e.1 && (lo32 e.2 == 2 || lo32 e.2 == 3))) (fun e =>
      let code := reactCode e.1
      match codeRow code with
      | none => none
      | some r =>
        if r.scope = 0 then conflict e.1 e.1
        else if 0x2100 ≤ code && code ≤ 0x211F then failIf (c.pn 4 (code - 0x2000) 1 == noneV) (conflict e.1 (mkId 4 (code - 0x2000) 1))
        else if 0x2140 ≤ code && code ≤ 0x216F then failIf (c.pn 4 (code - 0x2000) 1 == noneV) (conflict e.1 (mkId 4 (code - 0x2000) 1))
        else none),
    firstRef (c.par.filter (fun e => idUnit e.1 == 4 && decide (0x100 ≤ idInst e.1 ∧ idInst e.1 < 0x200) && idField e.1 == 1
        && lo32 e.2 != noneV)) (fun e =>
      failIf (decide (256 < lo32 e.2 + c.pn 4 (idInst e.1) 2)) (outOf (mkId 4 (idInst e.1) 2)))]

/-- N_c of one channel (R214), in q. -/
def edgesPer (c : State) (ch : Nat) : Nat := 400 * nsecQ / max (min (c.ptn 3 ch 4) (c.ptn 3 ch 5)) 1 + 1

/-- R214 over the enabled ports. -/
def checkPlk (c : State) : Option Ref :=
  firstRef (enabledPorts c) (fun p =>
    let chs := (List.range 4).map (4 * p + ·)
    firstOf [
      failIf (decide ((if c.pn 5 p 2 = 0 then 4 else 8) < (chs.map (edgesPer c)).foldl (· + ·) 0)) (conflict (mkId 3 (4 * p) 4) (mkId 5 p 2)),
      ((chs.find? (fun ch => decide (256 < edgesPer c ch * ceilDiv (c.alm.lcmd + 250 * nsecQ) (250 * nsecQ)))).bind
        (fun ch => conflict (mkId 3 ch 4) (mkId 5 0x400 1)))])

/-- Member B of a pair. -/
def memberB (c : State) : Bool := c.pairEn && c.pn 10 0 2 == 1

/-- R283 to R286; R275: member B sets no group to OUT (the status is the model's, DESIGN CHOICE, notes/assumptions/135.md). -/
def checkBsd (c : State) : Option Ref :=
  firstOf (((List.range 6).map (fun g => failIf (memberB c && c.pn 7 (0x100 + g) 1 == 1) (conflict (mkId 7 (0x100 + g) 1) (mkId 10 0 2))))
    ++ ((List.range 6).map (fun g => failIf (c.pn 7 (0x100 + g) 2 % 2 == 1) (conflict (mkId 7 (0x100 + g) 2) (mkId 7 (0x100 + g) 2))))
    ++ (List.range 48).map (fun n =>
      let hy := qOf32 (c.pn 7 n 0x14)
      let lo := qAdd (qOf32 (c.pn 7 n 0x12)) hy
      let hi := qAdd (qOf32 (c.pn 7 n 0x13)) (-hy.1, hy.2)
      firstOf [
        failIf (bsF c.wire n 1 == 1 && qLt (tDec c.wire n) (3200, 1)) (outOf (mkId 7 n 3)),
        failIf (bsF c.wire n 1 == 1 && qLt (16000000, 1) (groupDelay c.wire n)) (outOf (mkId 7 n 3)),
        failIf (qLe hi lo) (conflict (mkId 7 n 0x12) (mkId 7 n 0x13))]))

/-- Which producers name which queue: queue and field (Table 15-1, R411). -/
def queueUsers (c : State) : List (Nat × Nat) :=
  (List.range 4).map (fun i => (c.pn 9 (0x100 + i) 4, mkId 9 (0x100 + i) 4))
    ++ (if c.pn 8 0x200 1 = 0 then [] else [(c.pn 8 0x200 1 - 0x10, mkId 8 0x200 1)])
    ++ (List.range 4).flatMap (fun n => if c.pn 12 n 0x11 = 0 then [] else [(c.pn 12 n 0x11 - 0x10, mkId 12 n 0x11)])

/-- The first two users of one queue. -/
def queueClash : List (Nat × Nat) → Option Ref
  | [] => none
  | e :: r => match r.find? (fun x => x.1 == e.1) with | some x => conflict e.2 x.2 | none => queueClash r

def checkQueues (c : State) : Option Ref :=
  firstOf [((queueUsers c).find? (fun e => e.1 == 0)).bind (fun e => conflict e.2 e.2), queueClash (queueUsers c)]

/-- R296, R301. -/
def checkAdc (c : State) : Option Ref :=
  firstOf ((List.range 8).map (fun pos => match (bank pos).filter (fun n => decide (2 ≤ ainMode c n)) with
      | a :: b :: _ => conflict (mkId 8 a 1) (mkId 8 b 1)
      | _ => none)
    ++ (List.range 32).map (fun n =>
      let hy := qOf32 (c.pn 8 n 7)
      failIf (qLe (qAdd (qOf32 (c.pn 8 n 6)) (-hy.1, hy.2)) (qAdd (qOf32 (c.pn 8 n 5)) hy)) (conflict (mkId 8 n 5) (mkId 8 n 6)))
    ++ [checkQueues c])

/-- R314, R317, R319, R324. -/
def checkRec (c : State) : Option Ref :=
  let i := fun (n : Nat) => 0x100 + n
  firstOf ([
    failIf (decide (4096 < ((List.range 4).map (fun n => rf c n 3)).foldl (· + ·) 0)) (conflict (mkId 9 (i 0) 3) (mkId 9 (i 1) 3)),
    checkQueues c,
    firstRef (c.par.filter (fun e => idUnit e.1 == 9 && decide (idInst e.1 < 128) && idField e.1 == 1 && lo32 e.2 != noneV)) (fun e =>
      failIf (!sigKnown c.wire (lo32 e.2)) (some ⟨0x30, e.1, lo32 e.2⟩))]
    ++ (List.range 4).map (fun n =>
      failIf (decide (rowSpace c n < 2 * ((rf c n 5 + rf c n 6) * rowBytes (slotsOf c n).length))) (conflict (mkId 9 (i n) 5) (mkId 9 (i n) 6)))
    ++ (List.range 4).flatMap (fun n => (List.range 4).map (fun t =>
      let kind := trf c n t 0
      let a := trf c n t 1
      let fid := fun (x : Nat) => mkId 9 (i n) (0x20 + 8 * t + x)
      let sig := c.pn 9 a 1
      if (1 ≤ kind && kind ≤ 3) && 127 < a then outOf (fid 1)
      else if kind = 5 && 3 < a then outOf (fid 1)
      else if 1 ≤ kind && kind ≤ 3 && sig != noneV then
        (match sigTy c.wire chainMax sig with
        | some ty => failIf ((ty == .int) != (kind == 3)) (some ⟨0x31, fid 0, sig⟩)
        | none => none)
      else none)))

/-- Field f of the peer ports that have a lane and the role r. -/
def peerRoles (c : State) (r : Nat) : List Nat :=
  (List.range 8).filter (fun q => c.pn 10 (0x100 + q) 1 != noneV && c.pn 10 (0x100 + q) 2 == r)

/-- Two of the ports stand in each other's way. -/
def tooMany (f : Nat) (ports : List Nat) : Option Ref :=
  match ports with
  | a :: b :: _ => conflict (mkId 10 (0x100 + a) f) (mkId 10 (0x100 + b) f)
  | _ => none

/-- R349: a pair needs T_tick ≥ 2 L_rep. R352: at most one UP port, two RING ports or none, and one TIME_PORT of a ring (the status is
DEDUCED, notes/assumptions/137.md). -/
def checkRdn (c : State) : Option Ref :=
  let ring := peerRoles c 2
  firstOf [
    failIf (c.pairEn && decide (c.alm.period < 2 * (100 * nsecQ * gfeCount c + lpeLength c + 150 * nsecQ)))
      (conflict (mkId 6 0 0x10) (mkId 10 0 1)),
    tooMany 2 (peerRoles c 0),
    failIf (ring.length != 0 && ring.length != 2) (conflict (mkId 10 (0x100 + ring.headD 0) 2) (mkId 10 (0x100 + (ring.drop 2).headD (ring.headD 0)) 2)),
    tooMany 3 (ring.filter (fun q => c.pn 10 (0x100 + q) 3 == 1))]

/-- Two lanes of one quad in different families (R423). -/
def quadClash (c : State) (q : Nat) : Option Ref :=
  match (quadLanes q).filter (fun n => famOf c.wire n != 0) with
  | [] => none
  | a :: r => (r.find? (fun n => famOf c.wire n != famOf c.wire a)).bind (fun n => conflict (mkId 14 a 1) (mkId 14 n 1))

/-- R422 to R424, R433. -/
def checkLane (c : State) : Option Ref :=
  let pr := fun (n : Nat) => mkId 14 n 1
  let eth := (List.range 64).filter (isEth c)
  firstOf (((enabledPorts c).map (fun p => failIf (proto c p != 1) (conflict (pr p) (mkId 5 p 1))))
    ++ (List.range 8).map (fun q =>
      let n := ppLane c q
      failIf (n != noneV && proto c n != 2) (conflict (pr n) (mkId 10 (0x100 + q) 1)))
    ++ (List.range 8).map (fun p =>
      let n := c.pn 17 p 2
      failIf (c.pn 17 p 1 == 3 && !isEth c n) (conflict (pr n) (mkId 17 p 2)))
    ++ (c.par.filter (fun e => idUnit e.1 == 6 && idField e.1 == 0x30 && lo32 e.2 != 0)).map (fun e =>
      let n := idInst e.1 - 0x100
      failIf (!isEth c n) (conflict (pr n) e.1))
    ++ (List.range 4).map (fun k =>
      let n := sf c (0x200 + k) 9
      failIf (scOn c k && sf c (0x200 + k) 2 == 0 && !isEth c n) (conflict (pr n) (mkId 11 (0x200 + k) 9)))
    ++ (List.range 16).map (quadClash c)
    ++ [failIf (decide (16 < eth.length)) (conflict (pr (eth.getD 0 0)) (pr (eth.getD 16 0))),
      failIf (wakeLane c != noneV && proto c (wakeLane c) != 3) (conflict (pr (wakeLane c)) (mkId 14 0x200 1))]
    ++ (List.range 64).map (fun n =>
      failIf (decide (3 ≤ proto c n) && lf c.wire n 0xA != 0 && loopOf c n == 3) (conflict (mkId 14 n 8) (mkId 14 n 0xA))))

/-- The pairs of safe inputs: an input and the one it names (R369). -/
def sinPairs (c : State) : List (Nat × Nat) :=
  ((List.range 8).map (fun i => (i, sf c i 3))).filter (fun e => e.2 != noneV)

/-- R365, R369, R373, R475. -/
def checkSfi (c : State) : Option Ref :=
  let id := fun (i f : Nat) => mkId 11 i f
  firstOf ((List.range 8).map (fun i =>
      let j := sf c i 5
      let p : Nat := if j = noneV then 0 else c.ptn 11 (0x100 + j) 2 + 100000 * nsecQ
      failIf (decide (2000000 * nsecQ < c.ptn 11 i 2 + p + 250000 * nsecQ)) (conflict (id i 2) (if j = noneV then id i 2 else id (0x100 + j) 2)))
    ++ (sinPairs c).map (fun e => firstOf [
      failIf (e.1 == e.2) (conflict (id e.1 3) (id e.1 3)),
      failIf (sf c e.1 1 != 1) (conflict (id e.1 1) (id e.1 3)),
      failIf (sf c e.2 1 != 1) (conflict (id e.2 1) (id e.1 3)),
      ((sinPairs c).find? (fun x => x != e && x != (e.2, e.1) && (x.1 == e.2 || x.2 == e.2 || x.2 == e.1))).bind
        (fun x => conflict (id e.1 3) (id x.1 3))])
    ++ (List.range 4).map (fun k =>
      let n := sf c (0x200 + k) 9
      let addr := sf c (0x200 + k) 8
      if sf c (0x200 + k) 2 = 0 then failIf (addr == 0 || decide (65535 < addr)) (outOf (id (0x200 + k) 8))
      else if 2 ^ 29 ≤ addr then outOf (id (0x200 + k) 8)
      else if 3 < n then outOf (id (0x200 + k) 9)
      else failIf (scOn c k && cf c n 1 != 1) (conflict (id (0x200 + k) 9) (mkId 12 n 1))))

/-- R463 to R465 of one controller. -/
def checkCtl (c : State) (n : Nat) : Option Ref :=
  let f := cf c n
  let nom := f 3 * (1 + f 4 + f 5)
  let dat := f 7 * (1 + f 8 + f 9)
  let id := fun (x : Nat) => mkId 12 n x
  firstOf [failIf (decide (nom < 40)) (outOf (id 3)), failIf (decide (dat < 5)) (outOf (id 7)), failIf (decide (nom < dat)) (outOf (id 7)),
    failIf (decide (f 3 < f 7)) (outOf (id 7)), failIf (decide (f 5 < f 6)) (outOf (id 6)), failIf (decide (f 9 < f 0xA)) (outOf (id 0xA)),
    failIf (decide (dat < 20) && f 0xB == 0) (conflict (id 7) (id 0xB)), failIf (f 0xD == 1 && decide (nom < 160)) (outOf (id 0xD))]

def checkCan (c : State) : Option Ref := firstOf [firstRef (List.range 4) (checkCtl c), checkQueues c]

/-- R450, R534. -/
def checkClk (c : State) : Option Ref :=
  firstOf [(clkCheck c.wire).bind outOf,
    ((List.range 8).find? (fun k => c.pn 13 k 2 == 2 && c.pkg.bankV / 4 ^ 5 % 4 == 1)).bind (fun k => conflict (mkId 13 k 2) (mkId 13 k 2))]

/-- What two partitions may not share (R385). -/
def sameHost (c : State) (a b : Nat) : Bool :=
  let f := fun (p x : Nat) => c.pn 17 p x
  f a 1 == f b 1 && (if f a 1 = 3 then f a 4 == f b 4 && f a 5 == f b 5 else f a 1 != 0 && f a 2 == f b 2)

/-- R385, R390, Table 14-12. -/
def checkHst (c : State) : Option Ref :=
  let id := fun (p x : Nat) => mkId 17 p x
  firstOf ((List.range 8).map (fun p =>
      failIf ((c.pn 17 p 1 == 1 && decide (7 < c.pn 17 p 2)) || (c.pn 17 p 1 == 2 && decide (1 < c.pn 17 p 2))) (outOf (id p 2)))
    ++ (List.range 8).map (fun b => ((List.range b).find? (fun a => sameHost c a b)).bind (fun a => conflict (id a 2) (id b 2)))
    ++ [failIf (!(List.range 8).any (fun p => hasPriv c p pvService)) (conflict (id 0 3) (id 1 3))])

/-- The units whose conditions a write of a unit can break. -/
def touched : Nat → List Nat
  | 1 => [1, 2, 10, 8] | 2 => [2, 10, 8] | 3 => [3, 2, 5, 6, 8] | 4 => [4] | 5 => [5, 1, 14] | 6 => [6, 1, 2, 3, 10, 14] | 7 => [7, 1]
  | 8 => [8] | 9 => [9] | 10 => [10, 6, 2, 7, 14] | 11 => [11, 14] | 12 => [12, 11] | 13 => [13] | 14 => [14] | 17 => [17, 14] | _ => []

def checkUnit (c : State) : Nat → Option Ref
  | 1 => checkGfe c | 2 => checkLpe c | 3 => checkMod c | 4 => checkSpu c | 5 => checkPlk c | 6 => checkAlm c | 7 => checkBsd c
  | 8 => checkAdc c | 9 => checkRec c | 10 => checkRdn c | 11 => checkSfi c | 12 => checkCan c
  | 13 => checkClk c | 14 => checkLane c | 17 => checkHst c | _ => none

def unitsOf (ids : List Nat) : List Nat := (ids.flatMap (fun id => touched (idUnit id))).eraseDups

/-- The cross-field conditions of a configuration, for the units that `ids` touch. -/
def crossCheck (c : State) (ids : List Nat) : Option Ref := firstRef (unitsOf ids) (checkUnit c)

/-- Every condition, as ARM and a pattern meet it. -/
def checkAll (c : State) : Option Ref :=
  firstOf [firstRef [1, 2, 3, 4, 5, 6, 7, 8, 9, 10, 11, 12, 13, 14, 17] (checkUnit c), checkTickSet c c [mkId 8 0 1]]

/-! What the device's own condition refuses (R262, R377, R433, R466, R475, R390). -/

def stateCheck (s : State) (e : Nat × Wire) : Option Ref :=
  let id := e.1
  if (isReact id || isPolicy id) && codeIsSafety (reactCode id) then some ⟨0x45, id, 0⟩
  else if idUnit id = 11 && classOf s id == .halt && !s.sfi.inForce then some ⟨stWrongState, devCode s.dev, 0⟩
  else if idUnit id = 12 && 0x200 ≤ idInst id then
    let n := (idInst id - 0x200) / 16
    let b := idInst id % 16
    if b = 2 && islandOwns s n then some ⟨0x45, id, 0⟩
    else if (txb s n b).st = 1 || (txb s n b).st = 2 then some ⟨stWrongState, devCode s.dev, 0⟩ else none
  else if idUnit id = 14 && idField id = 0xA && lo32 e.2 != 0 then
    let n := idInst id
    let udp := (List.range 8).any (fun p => s.pn 17 p 1 == 3 && s.pn 17 p 2 == n && (s.hp p).session)
    let safe := (List.range 4).any (fun k => scOn s k && sf s (0x200 + k) 2 == 0 && sf s (0x200 + k) 9 == n && (sc s k).st == 2)
    if udp || safe then some ⟨stWrongState, devCode s.dev, 0⟩ else none
  else if idUnit id = 17 && idField id = 3 && lo32 e.2 % 2 = 0 then conflict id id
  else none

/-- The entry at which a set names an ID. -/
def entryIndex (es : List (Nat × Wire)) (id : Nat) : Nat := es.findIdx (fun e => e.1 == id)

/-- A field that holds a signal number names one of Table 5-1 or none (R133, R154). -/
def signalOk (s : State) (id : Nat) (r : Row) (n : Nat) : Bool :=
  let known := (0x2000 ≤ n && n < 0x4000 && n % 0x80 < 96) || sigKnown s.wire n
  if r.rng = .orNone 0 0xFFFF then n == noneV || known
  else if idUnit id = 2 && idInst id < 64 && idField id = 3 then n == noneV || (0x10000 ≤ n && n ≤ 0x10003) || (n ≤ 0xFFFF && known)
  else true

/-- One entry by itself: its field exists and is not RO, its value lies in range (R96, R402). -/
def entryCheck (s : State) (i : Nat) (e : Nat × Wire) : Option Ref :=
  match rowOf e.1 with
  | none => some ⟨stBadId, e.1, i⟩
  | some r =>
    if r.cls = .ro then some ⟨stBadId, e.1, i⟩
    else if (isReact e.1 || isPolicy e.1) && (codeRow (reactCode e.1)).isNone then some ⟨stBadId, e.1, i⟩
    else match stateCheck s e with
      | some x => some x
      | none =>
        if !fieldOk e.1 r e.2 then some ⟨stRange, e.1, i⟩
        else if !signalOk s e.1 r (lo32 e.2) then some ⟨0x30, e.1, lo32 e.2⟩ else none

/-- Every entry in the wire type of its field. -/
def canonSet (es : List (Nat × Wire)) : List (Nat × Wire) :=
  es.map (fun e => match rowOf e.1 with | some r => (e.1, canonW r.ty e.2) | none => e)

/-- What refuses a set, if anything: its entries one by one, then its conditions as a whole (R96, R403). -/
def checkSet (s : State) (es : List (Nat × Wire)) : Option Ref :=
  match (List.range es.length).findSome? (fun i => entryCheck s i (es.getD i (0, 0))) with
  | some r => some r
  | none =>
    let ids := es.map (·.1)
    let c := fullCand s es
    let now := if (crossCheck (withPar s s.par) ids).isSome then none else crossCheck (liveCand s es) ids
    let x := firstOf [crossCheck c ids, checkTickSet s c ids, now]
    x.map (fun r => if r.status = stRange then { r with d1 := if ids.contains r.d0 then entryIndex es r.d0 else 0 } else r)

end Sys2Proof.Machine
end

