-- ==== Sys2Proof/Machine/Promote.lean ====
section
/-! DEFINITION. How a pending value takes effect: which boundary its class and its owner give it, and what else happens when it
does (R51, R87, R97, R136, R137, R173, R218, R239, R318, R410). -/
namespace Sys2Proof.Machine

/-- The operation behind a command field, but for FAULT_CLEAR and the SYS commands. `low` are the FAULT_IN pins that are low. -/
def opOf (low : BitVec 4) (id val : Nat) : Option Op :=
  let i := idInst id
  let f := idField id
  match idUnit id with
  | 1 => if f = 0x12 then some (opGfeAltReset i) else none
  | 2 => if f = 6 && i < 64 then some (opAltReset i) else none
  | 3 => if i < 256 && f = 7 then some (opForce i val) else if i = 0x400 && f = 1 then some (opFaultInClear (val % 16) low) else none
  | 4 => if id = mkId 4 0x400 0x31 then some opPrestartRun else none
  | 7 => if id = mkId 7 0x200 1 then some opDecReset else none
  | 9 => if id = mkId 9 0x200 1 then some (opRecTrigger val) else if id = mkId 9 0x200 2 then some (opRecRestart val) else none
  | 10 => if id = mkId 10 0 6 then some opRoleSwap else none
  | 11 => if id = mkId 11 0x300 0x10 then some (opSafeConfirm (BitVec.ofNat 32 val)) else if id = mkId 11 0x300 0x11 then some opSgbDemand
      else if id = mkId 11 0x300 0x12 then some opSgbReset else none
  | 12 => if 4 ≤ i then none else if f = 0x14 then some (opTxReq i (val % 8)) else if f = 0x15 then some (opTxAbort i (val % 8))
      else if f = 0x16 then some (opCanRecover i) else none
  | 14 => if 64 ≤ i then none else if f = 8 then some (opLoop i val) else if f = 9 then some (opPwrReq i val)
      else if f = 0xB then some (opPrbsChk i val) else if f = 0xC then some (opErrInj i (BitVec.ofNat 32 val))
      else if f = 0xD then some (opMarginScan i) else none
  | _ => none

/-- The satellite register of a channel's DEADTIME gets the MOD's value, over the link of the member that sends requests (R218,
R225): use 4 for a lower one, 5 for a higher. -/
def writeDeadtime (c val use : Nat) (s : State) : State :=
  match satOf s c with
  | some a =>
    if (!s.pairEn || s.rdn.role == 1) && [LinkSt.config, .delay, .replica, .ready].contains (s.port (c / 4)).st then
      pumpReqs (c / 4) (writeReg (c / 4) a.hop (0x0100 + 0x40 * (c % 4)) val use s)
    else s
  | none => s

/-- What follows when a field takes a new value at tick n. A set that writes a GFE source and its MEAS_DELAY takes effect entry by entry:
the delay is kept where it stands after the source, and goes with the change of source where it stands before (DESIGN CHOICE,
notes/assumptions/131.md). -/
def afterWrite (n : Int) (id : Nat) (old new : Wire) (s : State) : State :=
  let i := idInst id
  let f := idField id
  match idUnit id with
  | 1 => if f = 0x7F then modeReqWritten i s else if f = 5 && old != new then sourceChanged i false s
      else if f = 6 && old != new then sourceChanged i true s else s
  | 3 => if 0x100 ≤ i && i < 0x120 && f = 1 then changePeriod s n (i - 0x100) (new.toInt.toNat / stepQ)
      else if i < 256 && f = 4 && decide (old.toInt < new.toInt) then writeDeadtime i (new.toInt.toNat / stepQ) 5 s else s
  | 6 => if i < 4 && f = 1 && old != new then srcChanged i s
      else if id = mkId 6 4 0x45 then { s with alm := { s.alm with todSet := true } } else s
  | 8 => if i = 0x200 && (f = 1 || f = 2) && old != new then tqOwnerChanged s else s
  | 9 => if 0x100 ≤ i && i < 0x104 && f = 1 then recEnabled (i - 0x100) s else s
  | 10 => if id = mkId 10 0 1 then pairEnChanged s else s
  | 12 => if i < 4 then canRefresh i s else s
  | 13 => refreshOuts s
  | 15 => if 0x20 ≤ f && f < 0x60 then { s with sys := { s.sys with keepRet := tabPut s.sys.keepRet (f - 0x20) (BitVec.ofNat 32 (lo32 new)) } } else s
  | _ => s

/-- One pending value takes effect at tick n: a field, or a command field that a pair carries out together. -/
def takePend (n : Int) (e : Pend) (s : State) : State :=
  if e.id = idFaultClear then clearNamed (e.val.toNat % 2 ^ 32) s
  else match opOf 15 e.id e.val.toNat with
    | some o => if classOf s e.id = .cmd then o.act s else s
    | none => afterWrite n e.id (s.wire e.id) e.val (s.setPar e.id e.val)

/-- Take every pending value that f admits, oldest first. -/
def takeReady (f : State → Pend → Bool) (n : Int) (s : State) : State :=
  s.pend.foldl (fun s e => if f s e then takePend n e { s with pend := s.pend.erase e } else s) s

/-- EDGE values of a slot: the boundary EDGE_REF names (R137). -/
def slotEdge (s : State) (n : Int) (k : Nat) (from_ : Int) : Bool :=
  let r := s.pn 2 k 2
  if r = 0 then true
  else if 0x200 ≤ r then (s.gfi (r - 0x200)).cycle && decide (from_ < n)
  else decide ((carNext (tabGet s.mod.car (r - 0x100) {}) (s.tickAt from_ / stepQ)).1 * stepQ ≤ s.tickAt n)

/-- The boundary of an EDGE value has come at tick n. A cycle boundary that fell in tick n - 1 is one for values that waited at t_n-1 (R87). -/
def edgeReady (s : State) (n : Int) (e : Pend) : Bool :=
  let i := idInst e.id
  match idUnit e.id with
  | 1 => !gfeEnabled s i || (s.gfi i).mode == .idle || (s.gfi i).mode == .stop || ((s.gfi i).cycle && decide (e.tick < n))
  | 2 => slotEdge s n i e.tick
  | 3 => s.dev.live && (256 ≤ i || modeOf s i != 1) && !(decide (i < 256) && deadtimeWaits s e)
  | _ => false

/-- What takes effect at tick instant n (R97, R137, R403). -/
def tickReady (n : Int) (s : State) (e : Pend) : Bool :=
  decide (e.tick ≤ n) && (match classOf s e.id with
    | .live => true
    | .cmd => true
    | .edge => edgeReady s n e
    | .halt => haltReady s e
    | .ro => false)

/-- Fields owned by the per-tick schedule, and those that apply at the entry to ARMED from PARKED (R51, R97, R136, R163, R172,
R239, R358, R426, Tables 9-5, 10-4, 17-7). -/
def armedReady (n : Int) (s : State) (e : Pend) : Bool :=
  let f := idField e.id
  let i := idInst e.id
  decide (e.tick ≤ n) && (match idUnit e.id with
    | 1 => f == 1
    | 2 => classOf s e.id == .halt || classOf s e.id == .edge
    | 3 => true
    | 4 => classOf s e.id == .halt
    | 5 => i == 0x400
    | 6 => f == 0xA || (0x10 ≤ f && f ≤ 0x13)
    | 7 => classOf s e.id == .halt
    | 8 => classOf s e.id == .halt
    | 10 => classOf s e.id == .halt
    | 13 => i == 0x200 && classOf s e.id == .halt
    | 14 => classOf s e.id == .halt && !(3 ≤ f && f ≤ 6) && i != 0x200
    | _ => false)

/-- Values of a partition whose session has ended, or that never opened one (R410). -/
def promoteHst (p : Nat) (s : State) : State :=
  if (s.hp p).session then s else promoteWhere (fun e => idUnit e.id == 17 && idInst e.id == p && idField e.id != 6) s

/-- Every queue of a partition is given up (R417). -/
def releaseQueues (p : Nat) (s : State) : State :=
  { s with hst := { s.hst with sq := s.hst.sq.map (fun q => if q.owner = p then { q with owner := 15 } else q) } }

/-- A session ends (R392, R405, R410, R417), for a cause of Table 15-2. -/
def endSession (p cause : Nat) (s : State) : State :=
  if !(s.hp p).session then s
  else
    let s := dropToken p cause s
    let s := releaseQueues p (s.modHp p (fun h => { h with session := false, version := 0 }))
    promoteHst p s

/-- The PCIe link goes down, and the sessions of its functions end (R386, R389, Table 1-3). -/
def pcieDown (s : State) : State :=
  let s := { s with lanes := { s.lanes with pcie := false } }
  (List.range 8).foldl (fun s p => if s.pn 17 p 1 = 1 then endSession p 4 s else s) s

end Sys2Proof.Machine
end

