-- ==== Sys2Proof/Machine/Tick.lean ====
section
/-! DEFINITION. The schedule of a tick (spec/01_architecture.md R9 to R27, Table 1-2): the tick instant with the state transitions that take
effect at it, the freeze point F, the forward of the tick-set inputs, W with its dispatch, and the entry to ARMED. -/
namespace Sys2Proof.Machine

/-! State transitions (R24 to R27, Tables 1-3 and 1-4). -/

def opArm : Nat := 0x0201
/-- The opcode of a state command, by the kind of its transition. -/
def opOfKind (k : Nat) : Nat := opArm + k

/-- The cause a transition's event record names: the opcode, 0 for a launch (Table 15-2). -/
def Trans.cause (t : Trans) : Nat := if t.part < 8 then opOfKind t.kind else 0

/-- The answer to a START or RESUME, at the tick instant that decides it. -/
def transRefused (t : Trans) (r : Nat × Nat × Nat) (s : State) : State :=
  if t.part < 8 then refuse t.part r.1 r.2.1 r.2.2 s else s
def transDone (t : Trans) (n : Int) (s : State) : State := if t.part < 8 then ok t.part (wI n) s else s
/-- The record of an accepted state command (R409, Table 15-2). -/
def logCommand (part op : Nat) (n : Int) (s : State) : State := logEvent 3 0 part op (n % 2 ^ 32).toNat s
def transLog (t : Trans) (n : Int) (s : State) : State := if t.part < 8 then logCommand t.part (opOfKind t.kind) n s else s

/-- The held fault of least LOG_SEQ among those of level `lv` and above. -/
def oldestHeld (s : State) (lv : Nat) : Option Held :=
  (s.spu.held.filter (fun h => decide (lv ≤ h.level))).foldl (fun (m : Option Held) h => match m with
    | some x => if h.lr.seq < x.lr.seq then some h else some x
    | none => some h) none

/-- A fault that is still held and no mere NOTE refuses START and RESUME (Table 1-4, R26). -/
def heldRefusal (s : State) : Option (Nat × Nat × Nat) :=
  ((oldestHeld s 4).or (oldestHeld s 2)).map (fun (h : Held) => (stBlockedBy, h.lr.code, h.lr.seq))

/-- The first channel whose diagnostics failed, with its result (Table 14-9). -/
def prestartFailed (s : State) : Nat × Nat :=
  let bad := (List.range 256).find? (fun c =>
    [2, 3, 4, 5, 6].contains (tabGet s.spu.sweepRes c 0) || [2, 3].contains (tabGet s.spu.guardRes c 0))
  match bad with
  | some c => (c, if 2 ≤ tabGet s.spu.sweepRes c 0 then tabGet s.spu.sweepRes c 0 else tabGet s.spu.guardRes c 0)
  | none => (0, 0)

/-- What refuses a START or RESUME at its tick instant (R26, R160, R264, R364). -/
def runRefusal (s : State) (start : Bool) : Option (Nat × Nat × Nat) :=
  match s.blockCause with
  | some (c, d) => some (stBlockedBy, c, d)
  | none =>
    if s.sfi.inForce then some (0x44, s.sfi.firstCause, 0)
    else match heldRefusal s with
      | some r => some r
      | none =>
        if start && s.spu.prestart < 2 then some (0x42, 0, 0)
        else if start && s.spu.prestart = 3 then some (0x43, (prestartFailed s).1, (prestartFailed s).2)
        else (inputInvalid s).map (fun e => (0x38, e.1, e.2))

/-- Every block of the LPE at its initial state (R155). A switched input stays on its alternate (R159), and the last valid values stay
(R158). -/
def lpeFresh (s : State) : State :=
  { s with lpe := { s.lpe with
      blk := s.lpe.sched.foldl (fun t e => tabPut t (32 * e.1 + e.2) (blkInit s.wire e.1 e.2)) []
      slot := s.lpe.slot.map (fun e => (e.1, { e.2 with inp := e.2.inp.map (fun i => (i.1, { i.2 with cnt := 0, doomed := 0 })), ran := false })) } }

/-- Entry to RUN at t_n: every loop, channel and string starts afresh, and the satellites get a timed RELEASE for t_n + W + L_cmd
(R25, R171); a non-empty FO_CUR becomes FO_PREV (R269). -/
def runEntry (n : Int) (cause : Nat) (s : State) : State :=
  let s := lpeFresh (modRunEntry n s)
  let s := { s with spu := { s.spu with
    foPrev := if s.spu.foCur.isEmpty then s.spu.foPrev else s.spu.foCur, foCur := [] } }
  let s := setDev .run cause s
  sendRelease ((List.range 256).filter (fun c => (dueCode s c).isNone)) (winStart s n) s

/-- The clocks and lanes of PARKED: the PLLs stop, the timebases advance from 25 MHz, every lane but the wake lane is in L2 and the PCIe
link is down (R28, R437, Tables 1-3 and 1-6). -/
def parkedClocks (s : State) : State :=
  let s := runPlls false false false false s
  let s := lanesParked { s with alm := { s.alm with coarse := true } }
  refreshOuts (canClockChange (pcieDown s))

/-- Entry to PARKED from ARMED: BLOCK frames, then the ports go idle; SAFE_BLOCK_N falls before the lanes drop (Table 1-4). -/
def parkEntry (cause : Nat) (s : State) : State :=
  let s := (portsUp s).foldl (fun s p => sendState true s.nowStep [0, 0, 0, 0] p s) s
  let s := sfiLeave s
  let s := { s with
    plk := { s.plk with port := s.plk.port.map (fun e => (e.1, { e.2 with st := .off, reqs := [], edges := [] })) }
    spu := { s.spu with prestart := 0, sweeps := [], sweepRes := [], guardRes := [] }
    mod := { s.mod with unrel := [] } }
  parkedClocks (setDev .parked cause s)

/-- A member does not enter ARMED while its partner is ACTIVE until its TB[0] has leapt onto the partner's (R336). -/
def armWaits (s : State) : Bool := s.pairEn && s.rdn.role != 1 && s.rdn.partnerRole == 1 && !(s.tb 0).leapt

/-- One state command takes effect at tick n. An ARM only triggers: the clocks start, and ARMED_ENTRY follows (R449). -/
def takeTrans (n : Int) (t : Trans) (s : State) : State :=
  match t.kind with
  | 0 => if s.dev = .parked then { runPlls true true true true s with trans := s.trans ++ [t] } else s
  | 1 =>
    if s.dev ≠ .armed && s.blockCause.isNone then transRefused t (stWrongState, devCode s.dev, 0) s
    else match runRefusal s true with
      | some r => transRefused t r s
      | none => transDone t n (runEntry n t.cause (transLog t n s))
  | 2 => if s.dev = .armed then parkEntry t.cause s else s
  | _ =>
    if s.dev ≠ .blocked && s.blockCause.isNone then transRefused t (stWrongState, devCode s.dev, 0) s
    else match runRefusal s false with
      | some r => transRefused t r s
      | none => transDone t n (restartPrestart (bsdEnterArmed (setDev .armed t.cause (transLog t n s))))

/-- What launch entry i brings to tick n: its transition, and the values of its COMMIT that have reached their boundary. -/
def takeEntry (n : Int) (due : List Trans) (s : State) (i : Nat) : State :=
  let s := (due.filter (fun t => !decide (t.part < 8) && t.entry == i)).foldl (fun s t => takeTrans n t s) s
  takeReady (fun s e => e.entry == i && tickReady n s e) n s

/-- Commands in the order of acceptance, then launch entries in increasing index (R64). -/
def takeTransitions (n : Int) (s : State) : State :=
  let due := s.trans.filter (fun t => decide (t.tick ≤ n))
  let s := { s with trans := s.trans.filter (fun t => !decide (t.tick ≤ n)) }
  let s := (due.filter (fun t => decide (t.part < 8))).foldl (fun s t => takeTrans n t s) s
  let s := (List.range 32).foldl (takeEntry n due) s
  { s with blockCause := none }

/-! Entry to ARMED. The tick instant at which the device enters is one of the grid in force until then (DEDUCED,
notes/assumptions/126.md). -/

/-- T_tick, the origin, W and L_cmd in force are the effective values (R50, R51). -/
def tickGrid (s : State) : State :=
  { s with alm := { s.alm with
      period := s.ptn 6 0 0x10, phaseW := s.ptn 6 0 0x13, lcmd := s.ptn 5 0x400 1
      origin := s.pn 6 0 0x11 * secQn + s.ptn 6 0 0x12 } }

/-- The configuration as it applies at the entry to ARMED from PARKED: every HALT value of an owner that stood still, then T_tick, the
origin, W and L_cmd (R51, R97, R136). -/
def armConfig (s : State) : State :=
  let n := s.tickNow
  tickGrid (takeReady (armedReady n) n s)

/-- Everything that starts at the entry to ARMED, over a configuration that passed its checks and compiled. -/
def armStart (sched : List (Nat × Nat)) (lcyc cause : Nat) (s : State) : State :=
  let s := condHolds 0x4201 0 0 s
  let a := schedStartQ s.wire s.freezeQ
  let e := a + lcyc * cycQ
  let s := { s with
    alm := { s.alm with tick := s.tickNow, stage := 4 }
    lpe := { s.lpe with
      sched := sched, lcyc := lcyc
      place := (placeAll s.wire sched).map (fun (p : Placed) => (p.proc, p.fin))
      schedStart := (a + 65535) / 65536, schedEnd := (e + 65535) / 65536
      slack := Int.fdiv ((s.alm.phaseW : Int) - e) 65536 } }
  let s := lpeFresh s
  let s := steerTb0 (startCarriers s)
  let parked := s.dev == .parked
  let s := setDev .armed cause { s with spu := { s.spu with prestart := 0, sweeps := [] } }
  let s := lanesArmed s
  let s := refreshOuts (if parked then canClockChange s else canRefreshAll s)
  let s := adcEnterArmed (bsdEnterArmed (sfiEnterArmed s))
  -- A BLOCK_N that another device already holds low is seen here (R261); one's own drive ends first, and its quiet time runs (R260).
  if s.spu.blockNLow then s else remoteBlock s

/-- Every port starts training (R228, R437). -/
def trainPorts (s : State) : State :=
  (List.range 64).foldl (fun s p => startTraining p ((retrainFront p s).modPort p (fun q => { q with failedOnce := false }))) s

/-- BOOT with start target ARMED trains its ports once TB[0] has leapt, needs no leap, or ACQ_WAIT has ended (R45, R489). -/
def bootTrains (s : State) : Bool :=
  s.dev == .boot && s.sys.step == 9 && s.sys.inForce && !s.sys.fallback && s.sys.opt.startTarget == 1 && !s.alm.acqDone
def bootTrain (s : State) : State :=
  if bootTrains s then trainPorts (lanesArmed { s with alm := { s.alm with acqDone := true } }) else s
def tryBootTrain (s : State) : State :=
  if tbSrc s 0 == 0 || (s.tb 0).leapt || s.pt 6 0 0xA == 0 then bootTrain s else s

/-- Enter ARMED, or keep the previous configuration where a condition fails (R15, R141). -/
def enterArmed (cause : Nat) (s : State) : State :=
  let c := armConfig s
  match checkAll c, compileLpe c.wire with
  | none, .ok r => maybePrestart 0 (trainPorts (armStart r.1 r.2 cause c))
  | _, _ => s

/-- ARMED_ENTRY: after the trigger of an ARM, once CPLL, FPLL and TPLL are locked (R28, R449), the ports train and BLOCK frames
start, at a tick instant (R24). Where no ARM is due, or the clocks are not ready, only time passes. -/
def execArmedEntry (dt : Nat) (s : State) : Host.Outcome State Fault Refusal :=
  let s := s.begin dt
  if !s.strikes 0 s.alm.period s.alm.origin then done s
  else match s.trans.find? (fun t => t.kind == 0 && decide (t.tick ≤ s.tickNow)) with
  | none => done s
  | some t =>
    if s.dev ≠ .parked || armWaits s || s.clk.cpll ≠ .locked || s.clk.fpll ≠ .locked || s.clk.tpll ≠ .locked then done s
    else
      let s := { s with trans := s.trans.filter (·.kind != 0), sys := { s.sys with revert := false } }
      let s := enterArmed t.cause s
      if s.dev = .armed then done (if s.rdn.role = 3 && s.rdn.joinState = 4 then joinAdvance s else s)
      else done (runPlls false false false false s)

/-! The tick instant (R12). -/

/-- Compute in the device state the partner is in, for a joiner that follows it (R349 step 8). -/
def inShadow (f : State → State) (s : State) : State :=
  match s.rdn.shadow with
  | none => f s
  | some d =>
    let t := f { s with dev := d }
    modRdn (fun r => { r with shadow := some t.dev }) { t with dev := s.dev }

/-- Fields and modes that change at t_n. -/
def tickPromote (n : Int) (s : State) : State :=
  takeReady (tickReady n) n ((List.range 4).foldl (fun s k => gfeInstant n k s) s)

/-- The tick before is complete: its snapshots are what the status fields show, and its flags what ALT_RESET is judged by (R100, R146,
R159). -/
def tickComplete (s : State) : State :=
  let pub := fun (l : Loss) => { l with priOk := l.priNow }
  { s with
    mod := { s.mod with stat := s.mod.snap }
    bsd := { s.bsd with stat := s.bsd.snap }
    gfe := s.gfe.map (fun g => { g with stat := g.snap, lossV := pub g.lossV, lossI := pub g.lossI })
    lpe := { s.lpe with
      outs := s.lpe.blk.map (fun e => (e.1, e.2.out.headD 0))
      slot := s.lpe.slot.map (fun e => (e.1, { e.2 with shown := e.2.state, inp := e.2.inp.map (fun x => (x.1, pub x.2)) })) } }

/-- The own j, p and valid flag of input i at tick n (R278, R291). -/
def sdOwn (s : State) (n : Int) (i : Nat) : Nat × Int × Nat × Bool :=
  let x := sd s i
  let r := resamplePoint s.wire i (s.tickAt n / stepQ).toNat x
  (i, (x.blocks : Int) - r.1, r.2, x.ok)

/-- The inputs of IN groups whose own j or p differ from the forwarded ones (Table 12-7 test 4). -/
def sdDiffers (s : State) (n : Int) (fwd : List (Nat × Int × Nat × Bool)) : BitVec 48 :=
  fwd.foldl (fun m e =>
    let o := sdOwn s n e.1
    if s.pn 7 (0x100 + e.1 / 8) 1 = 1 || (o.2.1 == e.2.1 && o.2.2.1 == e.2.2.1) then m else m ||| BitVec.ofNat 48 (2 ^ e.1)) 0

/-- The frames of tick n that one member's receipt map holds and the other's does not (Table 12-8 word 7). -/
def oneSided (s : State) (n : Int) : Nat :=
  let his := if s.rdn.role = 1 then s.rdn.rmap else s.rdn.snap.map (fun p => (p.tick, p.map))
  match his with
  | some (k, m) => if k = n then (List.range 256).countP (fun c => (s.rdn.ownMap ^^^ m).getLsbD c) else 0
  | none => 0

/-- SNAP and RMAP (R341). -/
def sendForward (n : Int) (s : State) : State :=
  let m := receiptMap s n
  let s := modRdn (fun r => { r with ownMap := m }) s
  if s.rdn.role = 1 then
    sendPair (.snap n (((List.range 48).filter (fun i => s.pn 7 i 1 = 1)).map (sdOwn s n)) m) s
  else if s.rdn.role = 2 || s.rdn.role = 3 then sendPair (.rmap n m) s
  else s

/-- The samples of the tick: a device alone and an active member deliver and freeze their own; other members wait for F. -/
def tickSamples (n : Int) (s : State) : State :=
  let t := (s.tickAt n / stepQ).toNat
  if !s.pairEn then freezeTel n (fun _ => true) (deliverSd [] t s)
  else sendForward n (if s.rdn.role = 1 then deliverSd [] t s else s)

/-- TICK_INSTANT. `edges` are the sampling edges of the bitstream inputs since the last one. An instant that has been executed, or that
has not come, adds nothing but the time. -/
def tickInstant (edges : List SdEdge) (s : State) : State :=
  let n := s.tickNow
  if !s.dev.powered || !s.alm.running || s.alm.tick = n then s
  else
    let s := tryBootTrain (feedEdges edges (tickComplete s))
    let s := takeTransitions n { s with
      alm := { s.alm with tick := n, stage := 1 }
      mod := { s.mod with relOwed := s.mod.relOwed ++ s.mod.relNext, relNext := [] } }
    let s := inShadow (tickPromote n) (swapEffect n s)
    if s.awake then tickSamples n (promoteOuts s) else s

def execTickInstant (dt : Nat) (edges : List SdEdge) (s : State) : Host.Outcome State Fault Refusal :=
  done (tickInstant edges (s.begin dt))

/-- FWD_S_SEND: the active forwards code, valid flag and slice of each tick-set input at t_n + 200 ns (R310, R341). -/
def execFwdSSend (dt : Nat) (s : State) : Host.Outcome State Fault Refusal :=
  let s := s.begin dt
  if !s.pairEn || s.rdn.role ≠ 1 || !s.awake || s.phaseQ < (200 * nsecQ : Nat) then done s
  else
    let ins := (List.range 32).filter (fun n => decide (2 ≤ ainMode s n))
    done (sendPair (.fwdS s.alm.tick (ins.map (fun n => (n, (ain s n).tick, (ain s n).tickOk, (ain s n).tickPs)))) s)

/-! The freeze point F (R13, R14). -/

/-- The tick-set and bitstream inputs of the tick with their flags: own, or forwarded by the active (R157, R291, R310). -/
def latchInputs (fwd : List (Nat × Int × Bool × Nat)) (s : State) : State :=
  let ai := ((List.range 32).filter (fun n => decide (2 ≤ ainMode s n))).map (fun n =>
    match fwd.find? (fun e => e.1 == n) with
    | some e => (0x100 + n, (ainValue s n e.2.1, e.2.2.1))
    | none => (0x100 + n, (ainValue s n (ain s n).tick, (ain s n).tickOk)))
  let bi := ((List.range 48).filter (fun n => s.pn 7 n 1 = 1)).map (fun n => (0x140 + n, ((sd s n).val, (sd s n).ok)))
  { s with lpe := { s.lpe with latched := ai ++ bi } }

/-- What a pair member latches: the intersection of the receipt maps, and the active's samples where the forward is complete
(R341, R346). -/
def latchPair (n : Int) (s : State) : State :=
  let follows := s.rdn.role != 1
  let whole := forwardComplete s n
  let s := modRdn (fun r => { r with ownValues := follows && !whole, perMiss := if follows && !whole then sat32 r.perMiss else r.perMiss }) s
  let m := mapFor s n
  let s := modRdn (fun r => { r with perOne := satAdd32 r.perOne (oneSided s n) }) s
  let s := freezeTel n (fun c => m.getLsbD c) (enterReported n (fun c => m.getLsbD c) s)
  if follows then
    let t := (s.tickAt n / stepQ).toNat
    let snap := if whole then (s.rdn.snap.map (·.sdin)).getD [] else []
    let fwd := if whole then (s.rdn.fwd.map (·.ain)).getD [] else []
    let s := modRdn (fun r => { r with perBsd := r.perBsd ||| sdDiffers s n snap }) s
    latchInputs fwd (deliverSd snap t s)
  else latchInputs [] s

/-- A joiner keeps the ticks that pass while the captured state is on its way (R349 step 7). -/
def bufferTick (s : State) : State :=
  if s.rdn.buf.length < 512 then
    modRdn (fun r => { r with buf := r.buf ++ [{ tick := s.alm.tick, latched := s.lpe.latched, tel := s.plk.tel }] }) s
  else s

def joinBuffers (s : State) : Bool := s.rdn.role == 3 && (s.rdn.joinState == 6 || s.rdn.joinState == 7)

/-- The GFE, then the LPE. -/
def computeTick (n : Int) (s : State) : State := lpeTick (gfeTick n s)

/-- The timing faults of results that are due and not there (R21): GFE_LATE for enabled instances, LPE_LATE. -/
def enginesLate (gfe lpe : Bool) (s : State) : State :=
  let s := if gfe && (List.range 4).any (gfeEnabled s) then raiseDev 0x4101 0 0 s else s
  if lpe then raiseDev 0x4201 0 0 s else s

/-- The end of the compiled schedule, 2^-16 ns from the tick instant (R141). -/
def lpeEndQ (s : State) : Nat := schedStartQ s.wire s.freezeQ + s.lpe.lcyc * cycQ

/-- INPUT_FREEZE: once per tick, from F on. The row stands for the whole computation: engines that have not begun by the end of the GFE
or by W, or whose schedule runs past W, are late, and nothing of the tick is presented (R13, R21). -/
def execInputFreeze (dt : Nat) (s : State) : Host.Outcome State Fault Refusal :=
  let s := s.begin dt
  if !enginesRun s || s.alm.stage ≠ 1 || s.phaseQ < s.freezeQ then done s
  else if (schedStartQ s.wire s.freezeQ : Int) < s.phaseQ || s.alm.phaseW < lpeEndQ s then
    done (enginesLate (decide ((schedStartQ s.wire s.freezeQ : Int) < s.phaseQ)) (decide ((s.alm.phaseW : Int) < s.phaseQ) || decide (s.alm.phaseW < lpeEndQ s))
      { s with alm := { s.alm with stage := 3 } })
  else
    let n := s.alm.tick
    let s := { s with alm := { s.alm with stage := 2 } }
    let s := bsdSnap (fixTel (if s.pairEn then latchPair n s else latchInputs [] s))
    if joinBuffers s then done (bufferTick s) else done (inShadow (computeTick n) s)

/-! W and dispatch (R16 to R18). -/

/-- A reaction or latch covers the channel at the links but not yet in the MOD's state: its records are withheld (R345). -/
def withheldNow (s : State) (n : Int) (c : Nat) : Bool :=
  s.pairEn && coverOf s n c == .free &&
    (s.spu.held.any (fun h => h.covers c && h.trying.isNone) || (faultInLevel s c).isSome)

/-- Plan and run one channel over the window of tick n; its records are added to those formed. Values that the channel's boundary
promotes become effective (R97, R175). -/
def dispatchChan (n : Int) (a b : Nat) (cells : List (Nat × Option CellDec)) (acc : State × List Edge) (c : Nat) : State × List Edge :=
  let s := acc.1
  let cell := ((cells.find? (fun e => e.1 == c)).map (·.2)).getD none
  let r := runChan s n a b cell c
  let disp := ((s.tickAt n + s.alm.phaseW) / stepQ).toNat + 2400
  let fclr := s.spu.held.any (fun h => h.lr.kind == 1 && h.lr.index == c && h.trying == some notYet)
  let recs := formEdges (lcmdSteps s) disp c fclr r.2.1 r.1.edgeId
  let due := if r.2.2.promoted then chanPend s c n else []
  let s := s.modChan c (fun _ => { r.1 with edgeId := r.1.edgeId + recs.length })
  let s := { s with
    mod := chargeClamps r.1.clampLog s.mod
    pend := s.pend.filter (fun e => !due.contains e)
    spu := { s.spu with held := match recs.find? (·.fclr) with
      | some e => s.spu.held.map (fun h => if h.lr.kind == 1 && h.lr.index == c && h.trying == some notYet then { h with trying := some e.exec } else h)
      | none => s.spu.held } }
  (due.foldl (fun s e => afterWrite n e.id (s.wire e.id) e.val (s.setPar e.id e.val)) s, acc.2 ++ recs)

/-- MOD_DIRECT_BAD of a channel at its dispatch: raised by a bad DIRECT request, cleared by a tick without one (R180, Table 6-6;
DEDUCED, notes/assumptions/111.md). -/
def directFault (s : State) (c : Nat) : State :=
  let bad := match curReq s c with | .val v => directBadVal v | .off => false
  let t := runRaise 0x5303 1 c 0 0 [] bad s
  if bad then t else condHolds 0x5303 1 c t

/-- Dispatch window n: every channel is planned, the SPU checks the records in order, and those it lets pass wait for release
(R16 to R18, R169, R245, R248). `send` is off in a DETACHED member, which withholds them (R344). -/
def dispatch (n : Int) (send : Bool) (s : State) : State × List Edge :=
  let a := winStart s n
  let b := winStart s (n + 1)
  let cd := cardAll s n a
  let s0 := ((modChans cd.2).filter (fun c => modeOf cd.2 c == 3)).foldl directFault cd.2
  let r := (modChans s0).foldl (dispatchChan n a b cd.1) (s0, [])
  let all := sortEdges r.2
  let s := r.1
  -- What a reaction withholds was formed all the same: the SPU follows the switches through it (R248, R345).
  let chk0 := spuCheck s all
  let chk := (chk0.1.filter (fun e => !withheldNow s n e.ch), chk0.2.1, chk0.2.2.filter (fun c => !withheldNow s n c))
  let owed := s.mod.relOwed.filter (fun c => (dueCode s c).isNone)
  let s := { s with
    mod := { s.mod with win := some (n, a, b), unrel := if send then sortEdges (s.mod.unrel ++ chk.1) else s.mod.unrel, relOwed := [] }
    -- A clearing attempt that has got no record in its window ends with it (R257).
    spu := { s.spu with sw := chk.2.1, held := s.spu.held.map (fun h => if h.trying = some notYet then { h with trying := some b } else h) } }
  if send then (chk.2.2.foldl (fun s c => raise 0x5401 1 c 0 0 [c] s) (if owed.isEmpty then s else sendRelease owed a s), all)
  else (s, all)

/-- The reaction level in force on a channel at W of tick n in the MOD's state (R343, R345). -/
def levelAt (s : State) (n : Int) (c : Nat) : Nat :=
  s.spu.held.foldl (fun m h => if inModState s n c h then max m h.level else m) 0

/-- E_DIG (R343). -/
def edgeDigest (s : State) (n : Int) (es : List Edge) : BitVec 64 :=
  crc64 (es.flatMap (fun e => BitVec.ofNat 8 (e.ch / 4) :: bytesBE 8 (edgeRecord (s.port (e.ch / 4)).version e).toNat)
    ++ (List.range 256).map (fun c => BitVec.ofNat 8 (levelAt s n c)))

/-- G_DIG (R343). -/
def gfeDigest (s : State) : BitVec 64 :=
  crc64 (((List.range 4).filter (gfeEnabled s)).flatMap (fun k =>
    let g := s.gfi k
    [g.theta, g.thetaG, g.omega, g.omegaG, g.wi, g.qf, g.pr, g.qr, g.vr, g.fr, g.pCorr, g.rvE, g.xvE, g.xf, g.ui, g.ysy, g.eri,
      g.delta, g.rocof, BitVec.ofNat 64 (modeCode g.mode)].flatMap (fun v => bytesBE 8 v.toNat)))

/-- Table 12-5: what the standby does at W. -/
def standbyDecides (s : State) : State :=
  if s.rdn.role ≠ 2 then s
  else match !s.rdn.ownValues, s.rdn.hb with
    | true, hb => runRaise 0x3103 0 0 0 0 [] (!hb) s
    | false, false =>
      let s := raiseDev 0x3105 0 0 (becomeActive s)
      modRdn (fun r => { r with failovers := sat32 r.failovers, failAt := some s.now, partnerRole := 4 }) s
    | false, true => raiseDev 0x3104 0 0 (sendPair (.role 0 0) (detach s))

/-- The digests of the tick leave for the partner (R20, R343). -/
def sendDigest (n : Int) (es : List Edge) (s : State) : State :=
  if !s.pairEn || s.rdn.role = 4 then s
  else
    let seqs := (List.range 64).map (fun p => ((s.port p).seqState + 65535) % 65536)
    let ready := s.plk.port.foldl (fun (m : BitVec 64) e => if e.2.st = .ready then m ||| BitVec.ofNat 64 (2 ^ e.1) else m) 0
    let d : Dig := { tick := n, eDig := edgeDigest s n es, gDig := gfeDigest s, ready := ready, own := s.rdn.ownValues
                     integrity := s.rdn.integrity, stateSeq := seqs }
    let s := modRdn (fun r => { r with dig := d, integrity := false }) s
    compareDig (sendPair (.dig n d.eDig d.gDig ready d.own d.integrity seqs) s)

/-- The active captures the state that enters tick n + 1 for a joiner, at W + 150 ns (R349 step 6). -/
def sendCapture (s : State) : State :=
  if s.rdn.role = 1 && s.rdn.capture then
    sendPair (.stx (.captured (captureOf s))) (modRdn (fun r => { r with capture := false }) s)
  else s

/-- The EDGE values of a CARRIER channel take effect at its update points outside RUN too (R195). -/
def restChan (n : Int) (s : State) (c : Nat) : State :=
  let due := chanPend s c n
  if due.isEmpty || modeOf s c ≠ 1 then s
  else match restUpdate s c (winStart s n) (winStart s (n + 1)) with
    | none => s
    | some (t, per) =>
      let m := restMove (tabGet s.mod.car (s.pn 3 c 1) {}) t per (chParOf s c []).phase (chParOf s c due)
      let s := { s.modChan c m with pend := s.pend.filter (fun e => !due.contains e) }
      due.foldl (fun s e => afterWrite n e.id (s.wire e.id) e.val (s.setPar e.id e.val)) s

/-- The work of W for tick n: in RUN (a joiner: in the partner's RUN) dispatch; in ARMED and BLOCKED the update points alone. -/
def windowWork (n : Int) (s : State) : State × List Edge :=
  let send := s.rdn.role != 4
  if s.dev = .run then dispatch n send s
  else if s.dev.live then ((s.pend.filter (fun e => idUnit e.id == 3 && decide (idInst e.id < 256))).foldl (fun s e => restChan n s (idInst e.id)) (freshCells s), [])
  else (s, [])

/-- WRITE_PHASE: once per tick, at W. Engines that have computed nothing by then are late, and so is a dispatch that is not complete
150 ns after W (R16, R17, R21); nothing of the tick is then presented. -/
def execWritePhase (dt : Nat) (s : State) : Host.Outcome State Fault Refusal :=
  let s := s.begin dt
  if !enginesRun s || (s.alm.stage ≠ 1 && s.alm.stage ≠ 2) || s.phaseQ < s.alm.phaseW then done s
  else if s.alm.stage = 1 then done (enginesLate true true { s with alm := { s.alm with stage := 3 } })
  else if (s.alm.phaseW + 150 * nsecQ : Nat) < s.phaseQ then done (raiseDev 0x4301 0 0 { s with alm := { s.alm with stage := 3 } })
  else
    let n := s.alm.tick
    let s := { s with alm := { s.alm with stage := 3 } }
    if joinBuffers s then done s
    else
      let s := standbyDecides s
      let d := (s.rdn.shadow.getD s.dev)
      let r := windowWork n { s with dev := d }
      let t := modSnap r.1
      done (sendDigest n r.2 { t with dev := if t.dev = d then s.dev else t.dev })

/-- REC_LATCH: once per tick, at W + 150 ns of a tick in ARMED, RUN or BLOCKED (R20, R315). -/
def execRecLatch (dt : Nat) (s : State) : Host.Outcome State Fault Refusal :=
  let s := s.begin dt
  if !s.awake || s.alm.stage ≠ 3 || s.phaseQ < (s.alm.phaseW + 150 * nsecQ : Nat) then done s
  else done (sendCapture (recLatch { s with alm := { s.alm with stage := 4 } }))

/-! The joiner's replay (R349 step 8). -/

/-- One buffered tick, computed with the inputs it had. -/
def replayTick (s : State) (b : JoinTick) : State :=
  let s := { s with alm := { s.alm with tick := b.tick }, lpe := { s.lpe with latched := b.latched }, plk := { s.plk with tel := b.tel } }
  (windowWork b.tick (computeTick b.tick (tickPromote b.tick s))).1

/-- JOIN_REPLAY_DONE: the buffered ticks are replayed in order and the joiner computes in step with its partner. -/
def execJoinReplayDone (dt : Nat) (s : State) : Host.Outcome State Fault Refusal :=
  let s := s.begin dt
  if s.rdn.role ≠ 3 || s.rdn.joinState ≠ 7 || !s.awake then done s
  else
    let tel := s.plk.tel
    let n := s.alm.tick
    let buf := s.rdn.buf
    let t := inShadow (fun s => buf.foldl replayTick s) s
    let t := { t with alm := { t.alm with tick := n }, plk := { t.plk with tel := tel } }
    done (modRdn (fun r => { r with buf := [], joinState := 8, syncTicks := 0 }) t)

end Sys2Proof.Machine
end

