-- ==== Sys2Proof/Machine/Pattern.lean ====
section
/-! DEFINITION. Patterns and firmware images (spec/19_start_and_configuration.md R496 to R503, Tables 19-7, 19-10 and 19-11, with
spec/20_security.md R513 to R517). -/
namespace Sys2Proof.Machine

def modSys (f : Sys → Sys) (s : State) : State := { s with sys := f s.sys }
def patSlot (s : State) (i : Nat) : Pat := vget s.sys.slot i {}
def prevPat (s : State) : Pat := patSlot s (1 - s.sys.cur)
def fwSlot (s : State) (i : Nat) : Fw := vget s.sys.fw i {}
def ctrOf (s : State) (k : Nat) : Nat := tabGet s.sec.ctr k 0

/-- A device that stays in BOOT for want of a pattern (R499). -/
def waitsPattern (s : State) : Bool := s.dev == .boot && s.sys.step == 9 && !s.sys.inForce && !s.sys.fallback

/-! Putting a pattern in force (R496, R379). -/

/-- A field that a pattern does not name keeps its value: options (Table 19-8), the safety set (R379) and the fields of SEC, which lie
outside the tables R496 lists. -/
def patKeeps (id : Nat) : Bool := idUnit id == 11 || idUnit id == 16 || (idUnit id == 15 && decide (idField id < 0x10))

/-- CLK_DIR of a bitstream clock group. -/
def isClkDir (id : Nat) : Bool := idUnit id == 7 && decide (0x100 ≤ idInst id) && idField id == 1

/-- The effective values that a pattern gives. Member B of a pair sets to IN the bitstream groups that the pair's pattern sets to OUT
(R275). -/
def patPar (old : Tab Wire) (p : Pat) : Tab Wire :=
  let t := (canonSet p.entries).foldl (fun t e => if idUnit e.1 = 11 then t else tabPut t e.1 e.2) (old.filter (fun e => patKeeps e.1))
  if lo32 (tabGet t (mkId 10 0 1) 0) = 1 && lo32 (tabGet t (mkId 10 0 2) 0) = 1 then t.filter (fun e => !isClkDir e.1) else t

/-- The safety set of a pattern waits for a confirmation, unless its check value is that of the set last confirmed here (R379). -/
def patSafety (p : Pat) (s : State) : State :=
  if !p.flags.testBit 1 then modSfi (fun x => { x with setConfirmed := x.confirmedCrc == some (setCrc s.wire) }) s
  else
    let given := (canonSet p.entries).filter (fun e => idUnit e.1 == 11)
    let want := fun (id : Nat) => match given.find? (fun e => e.1 == id) with
      | some e => e.2
      | none => match rowOf id with | some r => dfltWire s.par r (idInst id) (idField id) | none => 0
    let es := (safetyIds.filter (fun id => want id != s.wire id)).map (fun id => ({ id := id, val := want id, tick := 0 } : Pend))
    let s := modSfi (fun x => { x with setConfirmed := false }) { s with pend := s.pend ++ es }
    if s.sfi.confirmedCrc = some (crcPending s) then confirmSet s else s

/-- What follows the fields a pattern changes. -/
def patFollow (old : State) (s : State) : State :=
  let s := (List.range 4).foldl (fun s k => if tbSrc old k = tbSrc s k then s else srcChanged k s) s
  let s := (List.range 4).foldl (fun s i => recEnabled i s) s
  let s := refreshOuts (clkFollow (canRefreshAll s))
  if old.pairEn = s.pairEn then s else pairEnChanged s

/-- The parameter sets of the active (R349 step 3), with all that follows from them; then the joiner enters ARMED (step 4). -/
def loadSets (eff : Tab Wire) (ps : List Pend) (s : State) : State :=
  let own := s.par.filter (fun e => ownField e.1)
  let par := own.foldl (fun (t : Tab Wire) (e : Nat × Wire) => tabPut t e.1 e.2) (eff.filter (fun e => !ownField e.1))
  let s := patFollow s { s with
    par := par, pend := s.pend.filter (fun e => ownField e.id) ++ ps.filter (fun e => !ownField e.id) }
  let s := modRdn (fun r => { r with joinState := 4 }) s
  if s.dev.live then joinAdvance s
  else { s with trans := s.trans ++ [{ kind := 0, part := 8, tick := s.tickNow + 1 }] }

/-- STX_RX. -/
def execStxRx (dt : Nat) (lane : Fin 2) (seq : Nat) (x : Stx) (s : State) : Host.Outcome State Fault Refusal :=
  done (firstCopy lane 0x16 seq (fun s =>
    if s.rdn.role ≠ 3 then s
    else match x with
      | .par eff ps => if s.rdn.joinState = 3 then loadSets eff ps s else s
      | .captured c => if s.rdn.joinState = 6 then loadCapture c s else s) (s.begin dt))

/-- The bitstream groups that a pattern sets to OUT. -/
def patOuts (p : Pat) : BitVec 6 :=
  (List.range 6).foldl (fun m g => if p.entries.any (fun e => e.1 == mkId 7 (0x100 + g) 1 && lo32 e.2 == 1) then m ||| BitVec.ofNat 6 (2 ^ g) else m) 0

/-- A pattern comes into force: every field it names takes its value, every other its default, and pending values are discarded. The control
tables are loaded again, so SRAM_ECC may be cleared (Table 8-5). In BOOT its tick grid is in force with it. -/
def putInForce (p : Pat) (s : State) : State :=
  let t := { s with
    par := patPar s.par p, pend := []
    bsd := { s.bsd with patOut := patOuts p }
    mod := { s.mod with ch := s.mod.ch.map (fun e => (e.1, { e.2 with forceBy := none })) }
    sys := { s.sys with
    inForce := true
    keepRet := p.entries.foldl (fun t e =>
      if idUnit e.1 = 15 && 0x20 ≤ idField e.1 && idField e.1 < 0x60 then tabPut t (idField e.1 - 0x20) (BitVec.ofNat 32 (lo32 e.2)) else t)
      s.sys.keepRet } }
  condHolds 0x7003 0 0 (condHolds 0x7404 0 0 ((if s.dev = .boot then tickGrid else id) (patFollow s (patSafety p t))))

/-- The check of a stored pattern at a start (R499): it is there, its signature or seal stands, and the lifecycle takes patterns. -/
def patStands (s : State) (p : Pat) : Bool := p.valid && !p.sealBad && s.sec.lifecycle != 3

/-- R499 and R500 at a start: the current pattern, else the previous one, else BOOT without a pattern. -/
def startPattern (s : State) : State :=
  let s := if s.sys.trial && s.sys.trialLeft = 0 then modSys (fun y => { y with trial := false, cur := 1 - y.cur }) s else s
  if patStands s (patOf s) then putInForce (patOf s) s
  else if patStands s (prevPat s) then
    raiseDev 0x7402 0 0 (putInForce (prevPat s) (modSys (fun y => { y with cur := 1 - y.cur, trial := false, trialLeft := 0 }) s))
  else raiseDev 0x7404 0 0 s

/-! The layout of a pattern (Table 19-7) and of a signature block (Table 20-2). -/

def sigLen : Nat := 4648
def fieldBE (bs : List Byte) (o n : Nat) : Nat := ofBytesBE ((bs.drop o).take n)
def patLength (bs : List Byte) : Nat := fieldBE bs 12 4
def patCount (bs : List Byte) : Nat := fieldBE bs 24 4

def patEntries (bs : List Byte) : List (Nat × Wire) :=
  (List.range (patCount bs)).map (fun i =>
    let o := 128 + 12 * i
    (fieldBE bs o 4, wireOf (BitVec.ofNat 32 (fieldBE bs (o + 4) 4)) (BitVec.ofNat 32 (fieldBE bs (o + 8) 4))))

def patDigest (bs : List Byte) : List Byte := Config.sha3 ((bs.drop 128).take (12 * patCount bs))

/-- The index of the first entry whose ID does not rise. -/
def firstFall : Nat → List (Nat × Wire) → Option Nat
  | i, a :: b :: r => if a.1 < b.1 then firstFall (i + 1) (b :: r) else some (i + 1)
  | _, _ => none

/-- The byte offset of the first fault of the layout. -/
def patFault (bs : List Byte) : Option Nat :=
  if fieldBE bs 0 4 ≠ 0x47575054 then some 0
  else if fieldBE bs 4 4 ≠ 0x00010000 then some 4
  else if fieldBE bs 8 4 = 0 then some 8
  else if 2 ^ 20 < patLength bs || patLength bs ≠ bs.length then some 12
  else if patLength bs ≠ 128 + 12 * patCount bs + sigLen then some 24
  else if 3 < fieldBE bs 28 4 then some 28
  else if (bs.drop 32).take 64 ≠ patDigest bs then some 32
  else if ((bs.drop 96).take 32).any (fun b => decide (128 ≤ b.toNat)) then some 96
  else (firstFall 0 (patEntries bs)).map (fun i => 128 + 12 * i)

/-- KEY_ID of a public key (Table 20-2). -/
def keyId (key : List Byte) : List Byte := (Config.sha3 key).take 8

/-- A signature block at the end of an object verifies with a key under a KIND (R513). -/
def signedBy (kind : Nat) (key bs : List Byte) : Bool :=
  let o := bs.length - sigLen
  let blk := bs.drop o
  decide (sigLen ≤ bs.length) && fieldBE blk 0 4 == 0x53494742 && fieldBE blk 4 1 == kind && (blk.drop 8).take 8 == keyId key &&
    fieldBE blk 16 4 == 4627 && fieldBE blk 4647 1 == 0 && Config.verify key (Config.sha3 (bs.take o)) ((blk.drop 20).take 4627)

/-- The pattern in a staged byte string. -/
def parsePat (bs : List Byte) : Pat :=
  { valid := true, counter := fieldBE bs 8 4, flags := fieldBE bs 28 4, fwMin := fieldBE bs 20 4, label := (bs.drop 96).take 32
    digest := (bs.drop 32).take 64, entries := patEntries bs }

/-- FORCE is LIVE in Table 6-4 and may stand in a pattern (R185). -/
def isForce (id : Nat) : Bool := idUnit id == 3 && decide (idInst id < 256) && idField id == 7

/-- A pattern's entries as one set, rights disregarded (R497): each field exists and can be written, each value lies in range, and the
whole meets every condition. -/
def patCheck (s : State) (p : Pat) : Option Ref :=
  let es := canonSet p.entries
  match es.findSome? (fun e => match rowOf e.1 with
    | none => some (⟨stBadId, e.1, 0⟩ : Ref)
    | some r =>
      if r.cls = .ro || (r.cls = .cmd && !isForce e.1) || ((isReact e.1 || isPolicy e.1) && (codeRow (reactCode e.1)).isNone) then some ⟨stBadId, e.1, 0⟩
      else if fieldOk e.1 r e.2 then none else some ⟨stRange, e.1, 0⟩) with
  | some r => some r
  | none =>
    let par := patPar s.par p
    checkAll (withPar { s with pend := [] } (es.foldl (fun t e => tabPut t e.1 e.2) par))

/-- PATTERN_VERIFY's answer: the refusal, or the pattern (R497, Table 19-11). Lifecycles BLANK and RMA take no pattern (Table 20-1); the status
they answer with is not stated (DESIGN CHOICE, notes/assumptions/141.md). -/
def verifyPat (s : State) : Except Ref Pat :=
  let bs := s.sys.staging
  let p := parsePat bs
  let fwv := (fwSlot s s.sys.runSlot).version
  let target := fieldBE bs 16 4
  if bs.length < 32 || bs.length < patLength bs then .error ⟨0x55, bs.length, patLength bs⟩
  else match patFault bs with
    | some o => .error ⟨0x50, o, 0⟩
    | none =>
      if target / 256 ≠ 0x8256A0 || fwv < p.fwMin then .error ⟨0x53, target, fwv⟩
      else if !s.sec.ownerKey.isEmpty && !(p.flags.testBit 0 && signedBy 1 s.sec.ownerKey bs) then .error ⟨0x51, 0, 0⟩
      else if s.sec.lifecycle = 0 || s.sec.lifecycle = 3 || (s.sec.ownerKey.isEmpty && s.sec.idKey.isEmpty) then .error ⟨0x51, 1, 0⟩
      else if p.counter ≤ s.sys.patHigh then .error ⟨0x52, p.counter, s.sys.patHigh⟩
      else if p.counter < ctrOf s 1 then .error ⟨0x52, p.counter, ctrOf s 1⟩
      else match patCheck s p with
        | some r => .error ⟨0x54, r.status, r.d0⟩
        | none => .ok p

/-! Commands. -/

def wordBytes (ws : List Word) : List Byte := ws.flatMap (fun w => bytesBE 4 w.toNat)
def bytesWords (bs : List Byte) : List Word :=
  (List.range ((bs.length + 3) / 4)).map (fun i =>
    let b := (bs.drop (4 * i)).take 4
    BitVec.ofNat 32 (ofBytesBE (b ++ List.replicate (4 - b.length) 0)))

/-- The right to load and verify: CONFIGURE, or SERVICE in BOOT without a pattern (Table 19-10). -/
def patRight (s : State) (p : Nat) : Right := if waitsPattern s && hasPriv s p pvService then .priv pvService else .priv pvConfigure
def actRight (s : State) (p : Nat) : Right := if waitsPattern s && hasPriv s p pvService then .priv pvService else .token

/-- Everywhere but in FALLBACK. -/
def notFallback (p : Nat) (body : State → State) (s : State) : State :=
  if s.dev = .fallback then refuse p stWrongState (devCode s.dev) 0 s else body s

/-- A pattern command: `right` may depend on the state. -/
def patCmd (p op : Nat) (right : State → Right) (body : State → State) (s : State) : State :=
  hostCmd p op 0x300 (right s) (right s).acts (notFallback p body) s

/-- PATTERN_LOAD: OFFSET 0 empties staging; the data follow what is staged (Table 19-10). -/
def execPatternLoad (dt : Nat) (p : Fin 8) (offset : Word) (ws : List Word) (s : State) : Host.Outcome State Fault Refusal :=
  let s := s.begin dt
  done (patCmd p 0x0601 (fun s => patRight s p) (sized p (1 + ws.length) fun s =>
    let o := offset.toNat
    let old := if o = 0 then [] else s.sys.staging
    let bs := old.take o ++ wordBytes ws
    if old.length < o || 2 ^ 20 < bs.length then refuse p stRange o 0 s
    else
      let bs := bs ++ old.drop bs.length
      ok p [BitVec.ofNat 32 bs.length] (modSys (fun y => { y with staging := bs, verified := none }) s)) s)

/-- PATTERN_VERIFY. -/
def execPatternVerify (dt : Nat) (p : Fin 8) (s : State) : Host.Outcome State Fault Refusal :=
  let s := s.begin dt
  done (patCmd p 0x0602 (fun s => patRight s p) (fun s => match verifyPat s with
    | .error r => refuse p r.status r.d0 r.d1 s
    | .ok x => ok p ([BitVec.ofNat 32 x.counter, BitVec.ofNat 32 (patLength s.sys.staging)] ++ bytesWords x.label)
        (modSys (fun y => { y with verified := some x }) s)) s)

/-- PATTERN_ACTIVATE (R498, R500, R503). -/
def execPatternActivate (dt : Nat) (p : Fin 8) (trialT : Word) (s : State) : Host.Outcome State Fault Refusal :=
  let s := s.begin dt
  let t := trialT.toNat
  done (patCmd p 0x0603 (fun s => actRight s p) (fun s =>
    if s.dev ≠ .parked && !waitsPattern s then refuse p stWrongState (devCode s.dev) 0 s
    else if s.sys.trial then refuse p 0x58 s.sys.trialLeft (patOf s).counter s
    else match s.sys.verified with
      | none => refuse p 0x57 0 0 s
      | some x =>
        if t ≠ 0 && (t < 600 || 86400 < t) then refuse p stRange 0 0 s
        else if x.counter ≤ s.sys.patHigh then refuse p 0x52 x.counter s.sys.patHigh s
        else
          let s := modSys (fun y => { y with
            slot := vmod y.slot (1 - y.cur) (fun _ => x), cur := 1 - y.cur, patHigh := x.counter, trial := t != 0, trialLeft := t }) s
          let s := if s.dev = .boot && !s.sys.succeeded then modSys (fun y => { y with targetClock := none }) s else s
          let s := condHolds 0x7402 0 0 (condHolds 0x7403 0 0 (putInForce x s))
          ok p [BitVec.ofNat 32 x.counter] s) s)

/-- PATTERN_CONFIRM ends the trial and commits (R500, Table 19-13). -/
def execPatternConfirm (dt : Nat) (p : Fin 8) (counter : Word) (s : State) : Host.Outcome State Fault Refusal :=
  let s := s.begin dt
  done (patCmd p 0x0604 (fun _ => .token) (fun s =>
    if !s.sys.trial || s.sys.trialLeft = 0 then refuse p stWrongState (devCode s.dev) 0 s
    else if (patOf s).counter ≠ counter.toNat then refuse p 0x52 counter.toNat s.sys.patHigh s
    else ok p [] (modSys (fun y => { y with trial := false, trialLeft := 0 }) s)) s)

/-- The previous pattern becomes current and comes into force. -/
def swapPattern (s : State) : State :=
  let s := modSys (fun y => { y with cur := 1 - y.cur, trial := false, trialLeft := 0 }) s
  putInForce (patOf s) s

/-- PATTERN_ROLLBACK (R501). -/
def execPatternRollback (dt : Nat) (p : Fin 8) (s : State) : Host.Outcome State Fault Refusal :=
  let s := s.begin dt
  done (patCmd p 0x0605 (fun _ => .token) (fun s =>
    if s.dev ≠ .parked && !waitsPattern s then refuse p stWrongState (devCode s.dev) 0 s
    else if !patStands s (prevPat s) then refuse p 0x56 0 0 s
    else if (prevPat s).counter < ctrOf s 1 then refuse p 0x52 (prevPat s).counter (ctrOf s 1) s
    else
      let s := condHolds 0x7403 0 0 (swapPattern s)
      ok p [BitVec.ofNat 32 (patOf s).counter] s) s)

/-- PAT_STATE (Table 19-14): 0 none, 1 committed, 2 trial. -/
def patState (s : State) : Nat := if !s.sys.inForce then 0 else if s.sys.trial then 2 else 1

/-- PATTERN_STATUS. The state words of slots and staging are the model's choice (notes/assumptions/62.md). -/
def execPatternStatus (dt : Nat) (p : Fin 8) (s : State) : Host.Outcome State Fault Refusal :=
  let s := s.begin dt
  done (patCmd p 0x0606 (fun _ => .observe) (fun s =>
    let one := fun (i : Nat) =>
      let x := patSlot s i
      let st := if !x.valid then 0 else if i = s.sys.cur then (if s.sys.trial then 2 else 1) else 3
      [BitVec.ofNat 32 x.counter, BitVec.ofNat 32 st] ++ bytesWords (x.label ++ List.replicate (32 - x.label.length) 0)
        ++ bytesWords ((x.digest ++ List.replicate (64 - x.digest.length) 0).take 16)
    let stg := if s.sys.staging.isEmpty then 0 else if s.sys.verified.isSome then 2 else 1
    ok p (one 0 ++ one 1 ++ [BitVec.ofNat 32 stg, BitVec.ofNat 32 s.sys.trialLeft]) s) s)

/-! Images. -/

def imgCmd (p op : Nat) (body : State → State) (s : State) : State := hostCmd p op 0x300 (.priv pvService) false body s

def imageMax : Nat := 3 * 2 ^ 20

/-- IMAGE_LOAD: not to the slot in use. -/
def execImageLoad (dt : Nat) (p : Fin 8) (slot : Fin 2) (offset : Word) (ws : List Word) (s : State) : Host.Outcome State Fault Refusal :=
  let s := s.begin dt
  done (imgCmd p 0x0610 (sized p (2 + ws.length) fun s =>
    let o := offset.toNat
    if slot.val = s.sys.runSlot then refuse p 0x5A slot.val 0 s
    else if o % 4 ≠ 0 || imageMax < o + 4 * ws.length then refuse p 0x5B slot.val o s
    else
      let f := fwSlot s slot
      let n := ws.length
      let words := (List.range n).foldl (fun t i => tabPut t (o / 4 + i) (ws.getD i 0)) (if o = 0 then [] else f.words)
      ok p [BitVec.ofNat 32 (4 * n)] (modSys (fun y => { y with fw := vmod y.fw slot (fun _ => { f with words := words, sigOk := false }) }) s)) s)

/-- The bytes of a stored image. -/
def imageBytes (f : Fw) : List Byte := f.words.flatMap (fun e => bytesBE 4 e.2.toNat)

/-- An image that R514 accepts: its key's digest is VK[0] or VK[1], the block verifies under KIND 0, its SVN is at least CTR[0]. -/
def imageGood (s : State) (bs : List Byte) : Bool :=
  let key := (bs.drop (bs.length - sigLen - 2592)).take 2592
  (Config.sha3 key == Config.vk 0 || Config.sha3 key == Config.vk 1) && signedBy 0 key bs && decide (ctrOf s 0 ≤ Config.imageSvn bs)

/-- MRAM mirrors of the start counts follow each change (R492). -/
def mirrorCounts (s : State) : State :=
  modSys (fun y => { y with mirror := [y.att0, y.att1, y.activeSlot, if y.fallback then 1 else 0, y.powerCycles, y.mirror.getD 5 0] }) s

def setAtt (slot n : Nat) (s : State) : State :=
  mirrorCounts (modSys (fun y => if slot = 0 then { y with att0 := n } else { y with att1 := n }) s)
def attOf (s : State) (slot : Nat) : Nat := if slot = 0 then s.sys.att0 else s.sys.att1

/-- IMAGE_SELECT: the slot is ACTIVE_SLOT from the next start, its count is zero and the fallback flag goes (R495, R503). -/
def execImageSelect (dt : Nat) (p : Fin 8) (slot : Fin 2) (s : State) : Host.Outcome State Fault Refusal :=
  let s := s.begin dt
  done (imgCmd p 0x0611 (fun s =>
    let bs := imageBytes (fwSlot s slot)
    if imageGood s bs then
      ok p [] (setAtt slot 0 (modSys (fun y => { y with
        fw := vmod y.fw slot (fun f => { f with sigOk := true, version := Config.imageVersion bs, svn := Config.imageSvn bs })
        activeSlot := slot.val, imgSince := true, fallback := false }) s))
    else refuse p 0x59 slot.val 0 s) s)

/-- IMAGE_STATUS. -/
def execImageStatus (dt : Nat) (p : Fin 8) (s : State) : Host.Outcome State Fault Refusal :=
  let s := s.begin dt
  done (imgCmd p 0x0612 (fun s =>
    let one := fun (i : Nat) => [BitVec.ofNat 32 (fwSlot s i).version, if (fwSlot s i).sigOk then 1 else 0, BitVec.ofNat 32 (attOf s i)]
    ok p (one 0 ++ one 1 ++ [BitVec.ofNat 32 s.sys.activeSlot, if s.sys.fallback then 1 else 0]) s) s)

end Sys2Proof.Machine
end

