-- ==== Sys2Proof/Machine/Start.lean ====
section
/-! DEFINITION. Resets, the release order, starts and their counting, the keeper domain, block resets and BIST
(spec/19_start_and_configuration.md). -/
namespace Sys2Proof.Machine

/-! Start counts (R492 to R495). -/

/-- The count of a slot takes a value. At 3 ACTIVE_SLOT changes, or with the other slot at 3 the fallback flag is set (R495). -/
def countSlot (slot n : Nat) (s : State) : State :=
  let s := setAtt slot n s
  if n < 3 then s
  else if 3 ≤ attOf s (1 - slot) then mirrorCounts (modSys (fun y => { y with fallback := true }) s)
  else if s.sys.activeSlot = slot then raiseDev 0x7405 0 0 (mirrorCounts (modSys (fun y => { y with activeSlot := 1 - slot }) s))
  else s

/-- The release of a FULL or SYSTEM reset is a start attempt of ACTIVE_SLOT; in lifecycle BLANK a FULL reset counts nothing (R492). -/
def countStart (s : State) : State :=
  let slot := s.sys.activeSlot
  let s := modSys (fun y => { y with runSlot := slot, abandoned := false }) s
  if s.sys.reach = 1 && s.sec.lifecycle = 0 then s else countSlot slot (min (attOf s slot + 1) 255) s

/-- The attempt that a RESET command abandons takes its count back (R494). -/
def abandonStart (s : State) : State :=
  let s := modSys (fun y => { y with abandoned := true }) s
  if s.sys.succeeded then s else setAtt s.sys.runSlot (attOf s s.sys.runSlot - 1) s

/-! The steps of the release order (Table 19-3). -/

/-- Step 1: the keeper's isolation ends; a keeper that lost VBAT restores its counts from MRAM (R505). -/
def stepKeeper (s : State) : State :=
  let s := { s with pkg := { s.pkg with railOk := s.pkg.railOk ||| 0x13 } }
  if !s.sys.keeperLost then s
  else
    let m := s.sys.mirror
    let s := modSys (fun y => { y with
      att0 := m.getD 0 0, att1 := m.getD 1 0, activeSlot := m.getD 2 0, fallback := m.getD 3 0 == 1
      powerCycles := sat32 (m.getD 4 0), trialLeft := m.getD 5 0, keepSec := y.mirrorSec + 1, keepRet := [], keeperLost := false }) s
    let s := { s with sec := { s.sec with latch := s.sec.latch ||| 4, count := sat32 s.sec.count } }
    raiseDev 0x7407 0 0 (mirrorCounts s)

/-- Step 2: the option record (R482, R484), whose reload gives the tamper fields their defaults (R4), and the measured classes of the VDDIO banks (R534), which are free: what
stands at the balls is not the block's (DESIGN CHOICE, notes/assumptions/110.md). -/
def stepOption (s : State) : State :=
  let f := s.freeWord
  let s : State := { f.2 with pkg := { f.2.pkg with bankV := f.1.toNat % 65536 } }
  let a := s.sys.optA
  let b := s.sys.optB
  let pick : Opt × Nat := if a.valid && (!b.valid || b.seq ≤ a.seq) then (a, 0) else if b.valid then (b, 1) else ({}, 2)
  let o := pick.1
  let vals := [(1, o.startTarget), (2, o.xmMode), (3, o.bootSlot), (4, o.warmEn), (5, o.qspiDiv), (6, o.qspiMode), (7, o.bankV), (9, o.idle)]
  let s := modSys (fun y => { y with opt := o, optCopy := pick.2, keepIdle := some o.idle }) s
  let s : State := { s with
    pend := s.pend.filter (fun e => !(idUnit e.id == 15 && decide (idField e.id < 0x10)))
    par := vals.foldl (fun t e => tabPut t (mkId 15 0 e.1) (BitVec.ofNat 64 e.2)) (tabPut (s.par.filter (fun e => idUnit e.1 != 16)) (mkId 15 0 8) (BitVec.ofNat 64 (o.startOk * secQn))) }
  let s := if s.clk.xmOk then runPlls true true true true s else s
  if pick.2 = 2 then raiseDev 0x7401 0 0 s else condHolds 0x7401 0 0 s

/-- Every VDDIO bank has the class that its bit of IO_BANK_V names (R534, Table 19-8). -/
def banksAgree (s : State) : Bool :=
  (List.range 8).all (fun b => s.pkg.bankV / 4 ^ b % 4 == (if s.sys.opt.bankV.testBit b then 1 else 2))

/-- PKG_BANK_V once the firmware runs; it clears at a start at which every bank agrees (R534, Table 21-17). -/
def judgeBanks (s : State) : State :=
  if banksAgree s then condHolds 0x7601 0 0 s else raiseDev 0x7601 0 0 s

/-- The counters of the fuse bank against their MRAM mirror (R517). -/
def checkCounters (s : State) : State :=
  let bad := (List.range 32).find? (fun k => ctrOf s k != tabGet s.sec.mirror k 0)
  let both := (List.range 32).foldl (fun t k =>
    let v := max (ctrOf s k) (tabGet s.sec.mirror k 0)
    if v = 0 then t else tabPut t k v) ([] : Tab Nat)
  let t := { s with sec := { s.sec with ctr := both, mirror := both } }
  match bad with
  | some k => raise 0x7502 0 0 k 0 [] t
  | none => condHolds 0x7502 0 0 t

/-- The firmware of the slot in use verifies (R514). -/
def firmwareGood (s : State) : Bool :=
  let f := fwSlot s s.sys.runSlot
  f.sigOk && decide (ctrOf s 0 ≤ f.svn)

/-- Step 5: the kind of start (R487), the counters, the image, the recovery monitor (R23), the pattern (R499), the tamper latches
(R518). -/
def stepSupervisor (s : State) : State :=
  let warm := s.sys.reach = 2 && s.sys.opt.warmEn = 1 && s.sys.lastOk && !s.sys.imgSince && s.sys.retainOk
  let s := checkCounters (modSys (fun y => { y with startKind := if warm then 1 else 0, imgSince := false, retainOk := true, noFw := false }) s)
  let s := if s.sys.fallback || firmwareGood s then s
           else countSlot s.sys.runSlot 3 (modSys (fun y => { y with noFw := true }) s)
  let s := if s.sys.fallback then modSys (fun y => { y with noFw := false }) s
           else if s.sys.noFw then s else startPattern s
  let s := if s.sys.noFw then s else judgeBanks s
  (List.range 3).foldl (fun s i => if s.sec.latch.getLsbD i then raise 0x7501 0 0 i 0 [] s else s) s

/-- Step 6: every timebase loads the keeper's seconds and starts in FREE (R40). -/
def stepAlmanac (s : State) : State :=
  let acc := s.sys.keepSec * (10 ^ 9 * 2 ^ 56)
  { s with alm := { s.alm with running := true, coarse := false, coarseRem := 0, tb := Vector.replicate 4 { acc := acc } } }

/-- Step 8 ends the sequence. An ENGINE reset leaves ARMED, RUN and BLOCKED in PARKED, where an expired trial's revert puts the
previous pattern in force and triggers the entry to ARMED (R500, Table 1-4); a start whose fallback flag is set runs the recovery
monitor (R23, R495). -/
def revertPattern (s : State) : State :=
  if patStands s (prevPat s) then swapPattern s
  else
    let s := modSys (fun y => { y with cur := 1 - y.cur, trial := false, trialLeft := 0, inForce := false }) s
    raiseDev 0x7404 0 0 (setDev .boot 0x7403 s)

def stepEngines (s : State) : State :=
  let s := modSys (fun y => { y with step := 9 }) s
  if s.dev.live then
    let s := parkedClocks (sfiLeave (setDev .parked (if s.sys.revert then 0x7403 else 0x0207) s))
    if !s.sys.revert then s
    else
      let s := revertPattern s
      if s.dev = .parked then { s with trans := s.trans ++ [{ kind := 0, part := 8, tick := s.tickNow + 1 }] } else s
  else if s.dev = .parked then parkedClocks s
  else if s.dev = .boot && s.sys.fallback then
    lanesFallback (runPlls true false false false (setDev .fallback 0 { s with alm := { s.alm with coarse := true } }))
  else if waitsPattern s then modSys (fun y => { y with targetClock := some s.clock }) s
  else tryBootTrain s

/-- A step's own condition; step 7 waits for VDDL and VDDLH (R530). -/
def stepMet (s : State) : Bool :=
  match s.sys.step with
  | 3 => s.clk.xmOk && s.clk.cpll == .locked && s.clk.fpll == .locked
  | 6 => s.clk.tpll == .locked && !s.sys.noFw
  | 7 => !s.sys.noFw && s.pkg.railOk.testBit 2 && s.pkg.railOk.testBit 3
  | 8 => !s.sys.noFw
  | k => decide (1 ≤ k) && decide (k ≤ 5)

/-- The gap after a step and the wait limit of a step, in clock steps (Table 19-3). -/
def stepGap (k : Nat) : Nat := 640 * [0, 250, 25, 250, 25, 25, 25, 250, 25].getD k 0
def stepLimit : Nat → Option Nat
  | 1 => some 80000000 | 2 => some 1312000 | 3 => some 320000000 | 4 => some 32000000 | 6 => some 320000000 | _ => none

/-- The span in tenths of a clock step that a nominal time covers: steps 1 and 2, their gaps, and limits before XM_OK are timed from the RC
oscillator, within ±10 % (R481). -/
def rcSpan (rc : Bool) (t : Nat) : Nat × Nat := if rc then (9 * t, 11 * t) else (10 * t, 10 * t)

/-- The gap before the step in progress has passed, and its wait limit has not (`open`), or the limit has. A limit runs from the end of the
gap (DEDUCED, notes/assumptions/140.md). -/
def stepOpen (s : State) : Bool :=
  let since := 10 * (s.clock - s.sys.stepAt)
  let gap := rcSpan (decide (s.sys.stepBefore ≤ 2)) (stepGap s.sys.stepBefore)
  decide (gap.1 ≤ since) && (match stepLimit s.sys.step with
    | some l => decide (since ≤ gap.2 + (rcSpan (decide (s.sys.step ≤ 3)) l).2)
    | none => true)
def limitPassed (s : State) : Bool :=
  match stepLimit s.sys.step with
  | some l => decide ((rcSpan (decide (s.sys.stepBefore ≤ 2)) (stepGap s.sys.stepBefore)).1 + (rcSpan (decide (s.sys.step ≤ 3)) l).1
      ≤ 10 * (s.clock - s.sys.stepAt))
  | none => false

def stepDone (s : State) : State :=
  let k := s.sys.step
  let next := modSys (fun y => { y with step := k + 1, stepAt := s.clock, stepBefore := k })
  match k with
  | 1 => next (stepKeeper s)
  | 2 => next (stepOption s)
  | 4 => next (countStart (modSys (fun y => { y with retainOk := y.retainOk && y.reach != 1 }) s))
  | 5 => next (stepSupervisor s)
  | 6 => next (stepAlmanac s)
  | 8 => stepEngines s
  | _ => next s

/-- RESET_RELEASE_STEP: the step in progress releases its domain (R481). -/
def execResetReleaseStep (dt : Nat) (s : State) : Host.Outcome State Fault Refusal :=
  let s := s.begin dt
  if s.dev.powered && s.sys.step ≠ 0 && s.sys.step < 9 && !s.sys.stepHeld && stepOpen s && stepMet s then done (stepDone s) else done s

/-- RELEASE_WAIT_LIMIT: steps 5, 7 and 8 have none (Table 19-3). -/
def execReleaseWaitLimit (dt : Nat) (s : State) : Host.Outcome State Fault Refusal :=
  let s := s.begin dt
  if s.dev.powered && !s.sys.stepHeld && limitPassed s then done (assertReset 1 (0x80 + s.sys.step) 0 false s) else done s

/-! Reset sources (Table 19-2). -/

/-- POWER_ON_RESET: a main rail below its threshold (`low`), or all three in range for 2 ms. -/
def execPowerOnReset (dt : Nat) (low : Bool) (s : State) : Host.Outcome State Fault Refusal :=
  let s := s.begin dt
  if low then
    (if s.dev.powered && !s.sys.asserted.contains 1 then done (assertReset 1 1 0 true s) else done s)
  else if s.sys.asserted.contains 1 then
    let s := if s.dev.powered then s else setDev .boot 0 s
    done (releaseReset 1 (if s.sys.keeperLost then s else mirrorCounts (modSys (fun y => { y with powerCycles := sat32 y.powerCycles }) s)))
  else done s

/-- RESET_N: low for 1 µs or longer, or high again. -/
def execResetN (dt : Nat) (low : Bool) (s : State) : Host.Outcome State Fault Refusal :=
  let s := s.begin dt
  if !s.dev.powered then done s
  else if low then (if s.sys.asserted.contains 2 then done s else done (assertReset 1 2 0 true s))
  else if s.sys.asserted.contains 2 then done (releaseReset 2 s) else done s

/-- JTAG_RESET: lifecycle BLANK, PROVISIONED and RMA only. -/
def execJtagReset (dt : Nat) (s : State) : Host.Outcome State Fault Refusal :=
  let s := s.begin dt
  if s.dev.powered && s.sec.lifecycle ≠ 2 then done (assertReset 1 3 0 false s) else done s

/-! Reaching the start target (R45, R489, R493). -/

def targetReached (s : State) : State :=
  modSys (fun y => { y with
    targetClock := some s.clock, startTime := (s.clock - y.startClock + 15999999) / 16000000 }) s

/-- ACQ_WAIT_EXPIRY. The rule does not say from when BOOT waits: ACQ_WAIT is counted from the release of the reset (DESIGN CHOICE,
notes/assumptions/127.md). -/
def execAcqWaitExpiry (dt : Nat) (s : State) : Host.Outcome State Fault Refusal :=
  let s := s.begin dt
  if s.sys.startClock + s.ptn 6 0 0xA / stepQ ≤ s.clock then done (bootTrain s) else done s

/-- START_TARGET_REACHED, at a tick instant (R24). A value written in BOOT waits for an entry to ARMED from PARKED (R51). -/
def execStartTargetReached (dt : Nat) (s : State) : Host.Outcome State Fault Refusal :=
  let s := s.begin dt
  if s.dev ≠ .boot || s.sys.step ≠ 9 || !s.sys.inForce || s.sys.fallback || !s.strikes 0 s.alm.period s.alm.origin then done s
  else if s.sys.opt.startTarget = 0 then done (targetReached (parkedClocks (setDev .parked 0 s)))
  else if !s.alm.acqDone || !portsSettled s || armWaits s then done s
  else
    match checkAll s, compileLpe s.wire with
    | none, .ok r => done (maybePrestart 0 (targetReached (armStart r.1 r.2 0 s)))
    | _, _ => done s

/-- START_SUCCESS: START_OK_T after the target, or after the stop in BOOT for want of a pattern; CTR[0] rises to the running SVN. -/
def execStartSuccess (dt : Nat) (s : State) : Host.Outcome State Fault Refusal :=
  let s := s.begin dt
  match s.sys.targetClock with
  | none => done s
  | some t =>
    if s.sys.succeeded || s.clock < t + s.sys.opt.startOk * 16000000000 then done s
    else
      let svn := max (ctrOf s 0) (fwSlot s s.sys.runSlot).svn
      let s := setAtt s.sys.runSlot 0 (modSys (fun y => { y with succeeded := true }) s)
      let s := if svn = 0 then s else { s with sec := { s.sec with ctr := tabPut s.sec.ctr 0 svn, mirror := tabPut s.sec.mirror 0 svn } }
      done (condHolds 0x7405 0 0 s)

def opStartClear : Op where
  check _ := none
  act s := mirrorCounts (modSys (fun y => { y with att0 := 0, att1 := 0, fallback := false, activeSlot := y.opt.bootSlot }) s)

/-- START_CLEAR: PARAM_WRITE of 1 by a SERVICE partition, in FALLBACK too (R389, R495). -/
def execStartClear (dt : Nat) (p : Fin 8) (s : State) : Host.Outcome State Fault Refusal :=
  done (hostCmd p 0x0302 0x300 (.priv pvService) false (fun s => accepted p (opStartClear.act s)) (s.begin dt))

/-! Trials (R500). -/

/-- TRIAL_EXPIRY. SYS_TRIAL_EXPIRED is raised as step 1 of the revert from ARMED, RUN and BLOCKED; in PARKED and BOOT the previous pattern
comes into force at once. -/
def execTrialExpiry (dt : Nat) (s : State) : Host.Outcome State Fault Refusal :=
  let s := s.begin dt
  if !s.sys.trial || s.sys.trialLeft ≠ 0 || !s.sys.inForce || s.sys.revert then done s
  else if s.awake then
    let s := raiseDev 0x7403 0 0 s
    let s := assertReset 3 8 0x7403 false (blockFrames (blockNow 0x7403 (s.spu.logSeq - 1) s))
    done (modSys (fun y => { y with revert := true }) s)
  else if s.dev = .parked || s.dev = .boot then done (revertPattern s)
  else done s

/-! The keeper domain (R40, R504, R505). -/

/-- The keeper runs: from the main rails or from VBAT. -/
def keeperRuns (s : State) : Bool := s.dev.powered || s.dev == .shelf

/-- A second has passed on XS, within ±100 ppm; the length of the keeper's RC tick is not stated (R446, Table 17-1). -/
def secondDue (s : State) : Bool :=
  !s.dev.powered || !s.clk.xsOk || s.sys.secAt.all (fun t => decide (t + 15998400000 ≤ s.clock))

/-- KEEPER_SECOND: SEC, TRIAL_LEFT, and, while the main rails are up, EMBER_LEFT (R380) and SUPPLY_AGE. -/
def execKeeperSecond (dt : Nat) (s : State) : Host.Outcome State Fault Refusal :=
  let s := s.begin dt
  if !keeperRuns s || !secondDue s then done s
  else
    let s := modSys (fun y => { y with secAt := some s.clock, keepSec := y.keepSec + 1, trialLeft := if y.trial then y.trialLeft - 1 else y.trialLeft }) s
    if !s.dev.powered then done s
    else done (modSfi (fun x => { x with
      emberLeft := if x.ember then x.emberLeft - 1 else x.emberLeft, supplyAge := satAdd32 x.supplyAge 1 }) s)

/-- KEEPER_MIRROR: every 10 s of the keeper's count (R500, R505). -/
def execKeeperMirror (dt : Nat) (s : State) : Host.Outcome State Fault Refusal :=
  let s := s.begin dt
  if !s.dev.powered || (s.sys.keepSec < s.sys.mirrorSec + 10 && s.sys.mirrorSec ≤ s.sys.keepSec) then done s
  else done (mirrorCounts (modSys (fun y => { y with mirrorSec := y.keepSec, mirror := y.mirror.set 5 y.trialLeft }) s))

/-- RAILS_LOSS: the keeper isolates itself and the device is in SHELF, or without VBAT in OFF (Table 1-4). -/
def execRailsLoss (dt : Nat) (s : State) : Host.Outcome State Fault Refusal :=
  let s := s.begin dt
  if !s.dev.powered then done s
  else
    let v := s.sys.vbat
    let t := resetSystem (failStart s)
    done { t with
      dev := if v then .shelf else .off
      clk := {}
      pkg := {}
      sys := { t.sys with asserted := [1], step := 0, holdFrom := 0, reach := 1, cause := 0x0101, keeperLost := !v || t.sys.keeperLost
                          keepIdle := if v then t.sys.keepIdle else none } }

/-- VBAT_IN_RANGE. -/
def execVbatInRange (dt : Nat) (s : State) : Host.Outcome State Fault Refusal :=
  let s := modSys (fun y => { y with vbat := true }) (s.begin dt)
  done { s with dev := if s.dev = .off then .shelf else s.dev }

/-- VBAT_LOSS: while the rails are off the keeper loses its counts. -/
def execVbatLoss (dt : Nat) (s : State) : Host.Outcome State Fault Refusal :=
  let s := modSys (fun y => { y with vbat := false }) (s.begin dt)
  if s.dev = .shelf then done { s with dev := .off, par := s.par.filter (fun e => idUnit e.1 != 16), sys := { s.sys with keeperLost := true, keepIdle := none } } else done s

/-! Block resets (R485, R486). -/

def perTickBlock (code : Nat) : Bool := decide (1 ≤ code) && decide (code ≤ 5)
def blockKnown (code : Nat) : Bool :=
  perTickBlock code || (0x10 ≤ code && code < 0x14) || (0x20 ≤ code && code < 0x24) || (0x30 ≤ code && code < 0x40)

/-- The content of a stream queue is discarded. -/
def discardSq (q : Nat) (s : State) : State := s.modSq q (fun x => { x with staged := [], vis := 0, unsig := 0, bounds := [] })

/-- Step 4 of R485: initial state, effective parameters kept. -/
def resetBlock (code : Nat) (s : State) : State :=
  if code = 1 then bsdEnterArmed { s with bsd := { patOut := s.bsd.patOut, stat := s.bsd.stat, snap := s.bsd.snap } }
  else if code = 2 then adcEnterArmed { s with adc := {} }
  else if code = 3 then { s with gfe := Vector.replicate 4 {} }
  else if code = 4 then
    lpeFresh { s with lpe := { s.lpe with slot := [], req := [], latched := [] } }
  else if code = 5 then startCarriers { s with mod := { ch := (s.mod.ch.filter (fun e => e.2.forceBy.isSome)).map (fun e => (e.1, { forceBy := e.2.forceBy })) } }
  else if code < 0x14 then
    let on := (rst s (code - 0x10)).run != 0
    let s := modRst (code - 0x10) (fun _ => {}) s
    if on then restartStream (code - 0x10) s else s
  else if code < 0x24 then canRefresh (code - 0x20) (modCan (code - 0x20) CanCtl.reset s)
  else discardSq (code - 0x30) s

/-- A per-tick block's reset stops the switching (R485) and leaves the device in BLOCKED (R486). -/
def blockForReset (s : State) : State :=
  setDev .blocked 0x0302 (discardChans (List.range 256) (blockFrames (modSys (fun y => { y with bist := if y.bist = 1 then 0 else y.bist }) s)))

/-- One asserted while a release sequence runs is discarded (R480). -/
def opBlockReset (code : Nat) : Op where
  check s := if !blockKnown code then some (stRange, mkId 15 0 0x10, 0) else if s.dev.live then none else wrongState s
  act s :=
    let s := if perTickBlock code && s.dev = .run then blockForReset s else s
    if s.sys.step ≠ 9 || s.sys.blk.any (fun e => e.1 == code) then s else modSys (fun y => { y with blk := y.blk ++ [(code, s.clock)] }) s

/-- BLOCK_RESET: PARAM_WRITE of a block's code. -/
def execBlockReset (dt : Nat) (p : Fin 8) (code : Word) (s : State) : Host.Outcome State Fault Refusal :=
  done (opCmd p .token (mkId 15 0 0x10) code.toNat (opBlockReset code.toNat) (s.begin dt))

/-- BLOCK_RESET_COMPLETE: the block is idle, or BLK_IDLE_T has passed. -/
def execBlockResetComplete (dt : Nat) (code : Nat) (idle : Bool) (s : State) : Host.Outcome State Fault Refusal :=
  let s := s.begin dt
  match s.sys.blk.find? (fun e => e.1 == code) with
  | none => done s
  | some e =>
    if !idle && s.clock < e.2 + s.ptn 15 0 0x11 / stepQ then done s
    else
      let s := modSys (fun y => { y with blk := y.blk.filter (fun e => e.1 != code), cause := 0x0409 }) s
      let s := if idle then condHolds 0x7406 0 0 s else raise 0x7406 0 0 code 0 [] s
      let s := if perTickBlock code && (s.dev = .run || s.dev = .armed) then blockForReset s else s
      done (resetBlock code s)

/-! BIST (R507, R508). -/

/-- The content of memory under the memory mask is lost: recorder rings and queues. -/
def loseMemory (s : State) : State :=
  let s := (List.range 4).foldl (fun s i => modRst i (fun r => { r with rows := [], ring := [], hist := [], opened := none }) s) s
  (List.range 16).foldl (fun s q => discardSq q s) s

/-- BIST_RUN: answered when the run ends. -/
def execBistRun (dt : Nat) (p : Fin 8) (mask : BitVec 2) (s : State) : Host.Outcome State Fault Refusal :=
  let s := s.begin dt
  done (hostCmd p 0x0801 0x300 (.priv pvService) false (fun s =>
    if (s.dev ≠ .parked && s.dev ≠ .armed) || s.sys.bist = 1 then refuse p stWrongState (devCode s.dev) 0 s
    else
      let s := modSys (fun y => { y with bist := 1, bistMask := mask.toNat, bistPart := p.val, bistSig := [0, 0, 0, 0], bistPass := 0 }) s
      let s := if mask.getLsbD 1 then loseMemory s else s
      if s.dev = .parked then runPlls true true false false s else s) s)

/-- The engines and streams after a run. -/
def reinitEngines (s : State) : State :=
  let s := [1, 2, 3, 4, 5].foldl (fun s c => resetBlock c s) s
  let s := [0x10, 0x11, 0x12, 0x13].foldl (fun s c => resetBlock c s) s
  if s.dev = .parked then runPlls false false false false s
  else match compileLpe s.wire with
    | .ok r =>
      let s := condHolds 0x4201 0 0 (lpeFresh { s with lpe := { s.lpe with sched := r.1, lcyc := r.2 } })
      startPrestart (enabledPorts s) s
    | .error _ => s

/-- The partition whose BIST_RUN waits for its answer. -/
def bistWaits (s : State) : Bool :=
  decide (s.sys.bistPart < 8)

/-- BIST_COMPLETE: signature and pass flags of the run (bit 0 logic, 1 memory). An abandoned run's command is answered with
WRONG_STATE. -/
def execBistComplete (dt : Nat) (sig : BitVec 128) (pass : BitVec 2) (s : State) : Host.Outcome State Fault Refusal :=
  let s := s.begin dt
  let p := s.sys.bistPart
  let free := modSys (fun y => { y with bistPart := 8 })
  if s.sys.bist ≠ 1 then done (if bistWaits s then free (refuse p stWrongState (devCode s.dev) 0 s) else s)
  else
    let m := s.sys.bistMask
    let flags := (BitVec.ofNat 2 m &&& pass).toNat
    let good := flags == m
    let s := reinitEngines (modSys (fun y => { y with
      bist := if good then 2 else 3, bistPass := flags
      bistSig := (List.range 4).map (fun i => BitVec.ofNat 32 (sig.toNat / 2 ^ (32 * i))) }) s)
    let s := if good then condHolds 0x7408 0 0 s else raiseDev 0x7408 0 0 s
    done (if bistWaits s then free (ok p [] s) else s)

/-- BIST_RESULT: a run that was abandoned or has not ended reads as not run. -/
def execBistResult (dt : Nat) (p : Fin 8) (s : State) : Host.Outcome State Fault Refusal :=
  done (hostCmd p 0x0802 0x300 .observe false (fun s =>
    if s.sys.bist < 2 then ok p [0, 0, 0, 0, 0] s else ok p (s.sys.bistSig ++ [BitVec.ofNat 32 s.sys.bistPass]) s) (s.begin dt))

end Sys2Proof.Machine
end

