-- ==== Sys2Proof/Machine/Status.lean ====
section
/-! DEFINITION. The status fields of every unit (Tables 3-4 to 21-16, class RO): what each reads. -/
namespace Sys2Proof.Machine

def wireN (n : Nat) : Wire := BitVec.ofNat 64 n
/-- 32-bit signed values in the low word. -/
def w32i (i : Int) : Wire := BitVec.ofNat 64 (BitVec.ofInt 32 i).toNat
/-- A time of whole nanoseconds, and one of 62.5 ps steps, in 2^-16 ns. -/
def wNs (n : Int) : Wire := wireOfInt (n * 65536)
def wSteps (n : Int) : Wire := wireOfInt (n * 4096)

def tbGfe (s : State) (k f : Nat) : Wire :=
  let l := (s.gfi k).stat
  (if l.isEmpty then gfeStatus s k else l).getD (f - 0x80) 0

/-- STATE of a slot (Table 5-8, R160). -/
def slotStatus (s : State) (k : Nat) : Nat :=
  let x := s.slot k
  if slotF s.wire k 1 ≠ 1 then 0
  else if s.dev.live && x.shown ≠ 0 then x.shown
  else if (slotInputs s.wire k).any (fun n => !sigValid s n) then 4 else 5

def tbLpe (s : State) (i f : Nat) : Wire :=
  let x := tabGet s.lpe.slot i {}
  if i = 0x100 then (match f with
    | 0x80 => wNs s.lpe.schedStart | 0x81 => wNs s.lpe.schedEnd | 0x82 => wNs s.lpe.slack | _ => wireN s.lpe.sched.length)
  else if 0x700 ≤ f then wireN (tabGet s.lpe.outs (32 * i + (f - 0x700)) 0).toNat
  else match f with
    | 0x80 => wireN (slotStatus s i) | 0x81 => wNs (if slotF s.wire i 1 = 1 then transportOf s i else 0) | 0x82 => wireN x.holdCount | _ => wireN x.sinkClamps

def tbMod (s : State) (i f : Nat) : Wire :=
  if i < 256 then
    let x := tabGet s.mod.stat.ch i {}
    match f with
    | 0x80 => wireN x.st
    | 0x81 => wireN x.suppressed | 0x82 => wireN x.clamps | 0x83 => wSteps x.carry | _ => wireN x.dutyClamps
  else if i < 0x120 then
    let o := tabGet s.mod.stat.origin (i - 0x100) 0
    if f = 0x80 then wireN (o / 16000000000) else wSteps (o % 16000000000)
  else if i < 0x308 then
    let x := vget s.mod.stat.str (i - 0x300) {}
    match f with | 0x80 => wireN x.inserted | 0x81 => wireN x.avail | 0x82 => wireN x.short | 0x83 => wireN x.changes | _ => w32i x.dir
  else if f = 0xA0 then wireN s.mod.stat.latch.toNat
  else if f = 0x98 then wireN s.mod.stat.clampsNone
  else wireN (vget s.mod.stat.clampsHp (f - 0x90) 0)

def linkCode : LinkSt → Nat
  | .off => 0 | .lock => 1 | .hello => 2 | .config => 3 | .delay => 4 | .replica => 5 | .ready => 6 | .refused => 7 | .down => 8

def tbPlk (s : State) (p f : Nat) : Wire :=
  let q := s.port p
  match f with
  | 0x80 => wireN (linkCode q.st) | 0x81 => wireN q.version | 0x82 => wireN q.sats.length | 0x83 => wireN q.positions
  | 0x88 => wNs q.budget | 0x89 => wNs q.slack | 0x8A => wireOfInt (supEffQ s p) | 0x8B => wireN q.discards | 0x8C => wireN q.retries
  | 0x8D => wireN q.xIns | 0x8E => wireN q.xDel
  | f => wSteps (vget q.delay (f - 0x84) {}).value

/-- Highest reaction on a group (Table 8-10). -/
def groupReaction (s : State) (g : Nat) : Nat :=
  ((List.range 256).filter (fun c => groupOf s c == g)).foldl (fun m c => max m (chanReaction s c)) 0

def tbSpu (s : State) (i f : Nat) : Wire :=
  if i < 256 then (match f with
    | 0x80 => wireN (chanReaction s i) | 0x81 => wireN (tabGet s.spu.sweepRes i 0) | 0x82 => wireN (tabGet s.spu.guardRes i 0)
    | _ => wireN (min 15 (recentAttempts s i s.now).length))
  else if i < 0x240 then wNs (if (s.port (i - 0x200)).sats.isEmpty then 0 else nsUp (blockLat s (i - 0x200)))
  else if i < 0x310 then wireN (groupReaction s (i - 0x300))
  else match f with
    | 0x80 => wireN (deviceReaction s) | 0x81 => wireN s.spu.prestart | 0x82 => wireN (s.spu.logSeq % 2 ^ 32) | 0x83 => wireN s.spu.held.length
    | 0x84 => wireN s.spu.foCur.length | 0x85 => wireN s.spu.foPrev.length
    | _ => wireN (bitN (drivesBlockN s) 0 + bitN (seenLow s) 1)

def tbBsd (s : State) (i f : Nat) : Wire :=
  if i < 48 then
    let x := tabGet s.bsd.stat.inp i {}
    match f with
    | 0x80 => wireN x.flags | 0x81 => wSteps x.delay | 0x82 => wireN x.phase | 0x83 => wireN x.sat | _ => wireN x.runMax
  else if i < 0x106 then wSteps (s.bsd.stat.tD.getD (i - 0x100) 0)
  else if f = 0x80 then wireN s.bsd.stat.syncCount else wireN s.bsd.stat.syncIgnored

def tbAdc (s : State) (i f : Nat) : Wire :=
  if i < 32 then (match f with | 0x80 => wireN (ainFlags s i) | 0x81 => wNs (revisit s i) | _ => wireN (ain s i).outCount)
  else if i < 0x108 then wireN (s.adc.phys.getD (i - 0x100) 0)
  else match f with
    | 0x80 => wireN s.adc.free | 0x81 => wireN s.adc.retired | 0x82 => wireN s.adc.steps | 0x83 => wireN (tqFill s) | _ => wireN s.adc.tqLost

/-- Bytes waiting in a stream's ring: its packets with their length words, and the rows of the packet in hand. -/
def ringFill (s : State) (i : Nat) : Nat :=
  let r := rst s i
  r.ring.foldl (fun n p => n + 4 * (1 + p.words.length)) 0 + r.rows.length * rowBytes (slotsOf s i).length

def tbRec (s : State) (i f : Nat) : Wire :=
  let r := rst s (i - 0x100)
  match f with
  | 0x80 => wireN r.run | 0x81 => wireN (if r.opened.isSome then 1 else 0) | 0x82 => wireN r.rowsN | 0x83 => wireN r.marks | 0x84 => wireN r.missed
  | 0x85 => wireN ((ringFill s (i - 0x100) + 1023) / 1024) | _ => wireN r.overflows

def tbRdn (s : State) (i f : Nat) : Wire :=
  let r := s.rdn
  if i = 0 then (match f with
    | 0x80 => wireN r.role | 0x81 => wireN r.partnerRole | 0x82 => wireN r.syncTicks | 0x83 => wireN r.joinState
    | 0x84 => wNs (nsUp (pairLane s 0).dly.value) | 0x85 => wNs (nsUp (pairLane s 1).dly.value) | 0x86 => wireN r.failovers
    | _ => wNs (nsUp r.dDiam))
  else if i < 0x108 then (if f = 0x80 then wireN (pp s (i - 0x100)).st else wSteps (pp s (i - 0x100)).dly.value)
  else if f < 0x90 then wireN (r.vigil.getD (f - 0x80) 0).toNat else wireN (r.vigilOwn.getD (f - 0x90) 0).toNat

def tbSfi (s : State) (i f : Nat) : Wire :=
  if i < 0x300 then
    let c := sc s (i - 0x200)
    match f with | 0x80 => wireN c.st | 0x81 => wireN c.crcErr | _ => wireN c.gaps
  else match f with
    | 0x80 => wireN (sgbState s) | 0x81 => wireN s.sfi.firstCause | 0x82 => wireN (bitN s.sfi.setConfirmed 0) | 0x83 => wireN s.sfi.crcEff
    | 0x84 => wireN (if safetyPend s then crcPending s else 0) | 0x85 => wireN s.sfi.emberLeft | 0x86 => wireN (emberT s)
    | 0x87 => wireN (soutLevels s * 256 + sinLevels s) | _ => wireN s.sfi.supplyAge

def tbHst (s : State) (i f : Nat) : Wire :=
  let h := s.hp i
  if i < 8 then (match f with
    | 0x80 => wireN (bitN h.session 0) | 0x81 => wireN h.version | 0x82 => wireN h.messages | 0x83 => wireN h.refusedN | _ => wireN h.lastStatus)
  else if f = 0x80 then wireN s.hst.token else wireN s.hst.tokenChanges

def tbLane (s : State) (i f : Nat) : Wire :=
  if i < 64 then
    let x := lane s i
    match f with
    | 0x80 => wireN x.pst | 0x81 => wireN (laneFlags s i) | 0x82 => wireN (fOfInt fmt32 x.eqEff) | 0x83 => wireN (prbsBitsNow s i) | 0x84 => wireN x.prbsErrs
    | 0x85 => wireN x.hMargin | 0x86 => wireN (fOfInt fmt32 x.vMargin) | 0x87 => wireN x.losCount | _ => wireN x.ethDrop
  else if f = 0x80 then wireN (quadFamily s (i - 0x100)) else wireN (bitN (vget s.lanes.lock (i - 0x100) false) 0)

def tbClk (s : State) (i f : Nat) : Wire :=
  if i < 8 then wireN (outState s i)
  else if i = 0x100 then wireN (opllVco s)
  else match f with
    | 0x80 => wireN (clkLocks s) | 0x81 => w32i (vget s.clk.refPpm 0 0) | 0x82 => w32i (vget s.clk.refPpm 1 0) | _ => wireN s.clk.syncIgnored

def tbCan (s : State) (i f : Nat) : Wire :=
  if i < 4 then
    let c := can s i
    match f with
    | 0x80 => wireN c.st | 0x81 => wireN c.tec | 0x82 => wireN (min c.recN 127) | 0x83 => wireN c.fifo.length | 0x84 => wireN c.rxLost | 0x85 => wireN c.bitErrs
    | _ => wireN c.tdc
  else
    let b := txb s ((i - 0x200) / 16) (i % 16)
    if f = 0x80 then wireN b.st else wireN b.attempts

def tbSys (s : State) (f : Nat) : Wire :=
  let y := s.sys
  match f with
  | 0x80 => wireN y.startKind | 0x81 => wireN y.cause | 0x82 => wireN y.activeSlot | 0x83 => wireN (bitN y.fallback 16 + 256 * y.att1 + y.att0)
  | 0x84 => wireN y.powerCycles | 0x85 => wNs (y.startTime * 1000000) | 0x86 => wireN (patOf s).counter | 0x87 => wireN (prevPat s).counter
  | 0x88 => wireN (patState s) | 0x89 => wNs (y.trialLeft * 1000000000) | 0x8A => wireN y.patHigh | 0x8B => wireN y.optCopy
  | 0x8C => wireN y.bist | 0x90 => wireN s.pkg.bankV | 0x91 => wireN s.pkg.railOk | _ => w32i s.pkg.tj

def tbSec (s : State) (f : Nat) : Wire :=
  match f with
  | 0x80 => wireN s.sec.lifecycle | 0x81 => wireN s.sec.latch.toNat | 0x82 => wireN s.sec.count
  | 0x83 => wireN (if s.sec.ownerKey.isEmpty then 0 else ofBytesBE (keyId s.sec.ownerKey))
  | f => wireN (ctrOf s (f - 0x90))

/-- What a status field reads. -/
def statusOf (s : State) (id : Nat) : Wire :=
  let i := idInst id
  let f := idField id
  match idUnit id with
  | 1 => tbGfe s i f | 2 => tbLpe s i f | 3 => tbMod s i f | 4 => tbSpu s i f | 5 => tbPlk s i f | 7 => tbBsd s i f | 8 => tbAdc s i f
  | 9 => tbRec s i f | 10 => tbRdn s i f | 11 => tbSfi s i f | 12 => tbCan s i f | 13 => tbClk s i f | 14 => tbLane s i f
  | 15 => tbSys s f | 16 => tbSec s f | 17 => tbHst s i f
  | _ => 0

end Sys2Proof.Machine
end

