-- ==== Sys2Proof/Machine/Params.lean ====
section
/-! DEFINITION. Parameters (spec/14_host_partitions.md R393 to R405, Tables 14-6 to 14-8): sets of writes, staged sets, reads and
descriptions; and the writes a pair member takes from its partner (R98). -/
namespace Sys2Proof.Machine

/-! Accepting a set. -/

def optionField (id : Nat) : Bool := idUnit id == 15 && decide (idField id < 0x10)

/-- CLK fields that act from their acceptance (R453). -/
def clkAtOnce (id : Nat) : Bool :=
  idUnit id == 13 && ((idInst id == 0x100 && decide (idField id ≤ 4)) || (decide (idInst id < 8) && (idField id == 4 || idField id == 5)))

/-- The option fields as they stand with what is pending: a new MRAM copy, its SEQ one above the copies there are, in the slot that
does not hold the copy last loaded (R483). -/
def storeOption (s : State) : State :=
  let v := fun (f : Nat) => lo32 (pendView s (mkId 15 0 f))
  let y := s.sys
  let top := max (if y.optA.valid then y.optA.seq else 0) (if y.optB.valid then y.optB.seq else 0)
  let o : Opt := { valid := true, seq := top + 1, startTarget := v 1, xmMode := v 2, bootSlot := v 3, warmEn := v 4, qspiDiv := v 5
                   qspiMode := v 6, bankV := v 7, startOk := (pendView s (mkId 15 0 8)).toNat / secQn, idle := v 9 }
  modSys (fun y => if y.optCopy = 0 then { y with optB := o } else { y with optA := o }) s

/-- A lower DEADTIME is written to its satellite before it takes effect (R218). -/
def lowersDeadtime (s : State) (e : Nat × Wire) : Bool :=
  idUnit e.1 == 3 && idField e.1 == 4 && decide (idInst e.1 < 256) && decide (e.2.toInt < (s.wire e.1).toInt)

/-- Values accepted for tick `tick`: each waits for its class, but for what acts from acceptance (R97, R377, R379, R403, R410, R453,
R458, R466, R483). -/
def acceptEntries (tick : Int) (entry : Nat) (es : List (Nat × Wire)) (s : State) : State :=
  let ids := es.map (·.1)
  let later := es.filter (fun e => !clkAtOnce e.1)
  let low := es.filter (lowersDeadtime s)
  let s := { s with pend := s.pend ++ later.map (fun e => ({ id := e.1, val := e.2, tick := tick, entry := entry } : Pend)) }
  let s := if ids.any optionField then storeOption s else s
  let s := if ids.any (fun id => idUnit id == 11) then modSfi (fun x => { x with setConfirmed := false }) s else s
  let s := low.foldl (fun s e => writeDeadtime (idInst e.1) (e.2.toInt.toNat / stepQ) 4 s) s
  let s := (List.range 8).foldl (fun s p => if ids.any (fun id => idUnit id == 17 && idInst id == p) then promoteHst p s else s) s
  let s := clkWritten ids ((es.filter (fun e => clkAtOnce e.1)).foldl (fun s e => s.setPar e.1 e.2) s)
  let s := if ids.any (fun id => idUnit id == 13) then refreshOuts s else s
  txbWritten ids s

/-! PARAM_WRITE. -/

/-- The operation of a command field, those of SYS included. -/
def opAny (low : BitVec 4) (id val : Nat) : Option Op :=
  if id = mkId 15 0 0x10 then some (opBlockReset val)
  else if id = mkId 15 0 0x12 then some opStartClear
  else opOf low id val

/-- The value a command field's operation takes: FORCE travels with its partition. -/
def opVal (p : Nat) (e : Nat × Wire) : Nat :=
  if idUnit e.1 = 3 && idField e.1 = 7 && idInst e.1 < 256 then lo32 e.2 + (p + 1) * 2 ^ 32 else lo32 e.2

def isCmd (s : State) (id : Nat) : Bool := classOf s id == .cmd

/-- A field that is there and can be written. -/
def writable (id : Nat) : Bool := match rowOf id with | some r => r.cls != .ro | none => false

/-- What refuses a set of partition p: its IDs, the pair's role, the rights, then the values and conditions as a whole, and the checks
of its command fields (R96, R337, R393, R403). `low` are the FAULT_IN pins that are low. -/
def setRefusal (s : State) (p : Nat) (low : BitVec 4) (es : List (Nat × Wire)) : Option Ref :=
  match (List.range es.length).find? (fun i => !writable (es.getD i (0, 0)).1) with
  | some i => some ⟨stBadId, (es.getD i (0, 0)).1, i⟩
  | none =>
    if notActive s && es.any (fun e => (rightOf e.1).acts) then some ⟨stNotActive, s.rdn.role, 0⟩
    else match es.findSome? (fun e => rightRefusal s p (rightOf e.1)) with
      | some (st, d) => some ⟨st, d, 0⟩
      | none => match checkSet s es with
        | some r => some r
        | none => es.findSome? (fun e =>
            if isCmd s e.1 then ((opAny low e.1 (opVal p e)).bind (fun o => o.check s)).map (fun r => ⟨r.1, r.2.1, r.2.2⟩) else none)

/-- The low FAULT_IN pins as a set meets them. A FAULT_IN_CLEAR among its entries reads the pins, whose levels the command that writes the
set does not carry: they are free. -/
def pinsFor (es : List (Nat × Wire)) (s : State) : BitVec 4 × State :=
  if es.any (fun e => e.1 == mkId 3 0x400 1) then (BitVec.ofNat 4 s.freeWord.1.toNat, s.freeWord.2) else (0, s)

/-- An accepted set, of a command or of launch entry `entry`: the values wait for tick `tick`, the active sends them to its partner,
command fields act. -/
def acceptSet (tick : Int) (entry p : Nat) (low : BitVec 4) (es : List (Nat × Wire)) (s : State) : State :=
  let plain := es.filter (fun e => !isCmd s e.1)
  let cmds := es.filter (fun e => isCmd s e.1 && e.1 != idFaultClear)
  let s := acceptEntries tick entry plain s
  let sent := plain.filter (fun e => !ownField e.1 && !deadtimeWaits s { id := e.1, val := e.2, tick := tick })
  let s := forwardWrite tick (if entry < 32 && !sent.isEmpty then (wrEntry, BitVec.ofNat 64 entry) :: sent else sent) s
  cmds.foldl (fun s e => match opAny low e.1 (opVal p e) with
    | some o => runOp e.1 (opVal p e) o s
    | none => s) s

/-- The answer to an accepted set: APPLY_TICK; a FAULT_CLEAR in it comes last and answers for the set. -/
def answerSet (p : Nat) (es : List (Nat × Wire)) (s : State) : State :=
  match es.find? (fun e => e.1 == idFaultClear) with
  | some e => faultClear p (lo32 e.2) s
  | none => accepted p s

/-- In FALLBACK only START_CLEAR may be written (R389). -/
def fallbackWrite (s : State) (es : List (Nat × Wire)) : Bool := s.dev == .fallback && es.any (fun e => e.1 != mkId 15 0 0x12)

def execParamWrite (dt : Nat) (p : Fin 8) (es : List (Nat × Wire)) (s : State) : Host.Outcome State Fault Refusal :=
  done (hostCmd p 0x0302 0x300 .observe false (sized p (1 + 3 * es.length) fun s =>
    let es := canonSet es
    let v := pinsFor es s
    let s := v.2
    if fallbackWrite s es then refuse p stWrongState (devCode s.dev) 0 s
    else match setRefusal s p v.1 es with
      | some r => refuse p r.status r.d0 r.d1 s
      | none => answerSet p es (acceptSet (applyTick s) 32 p v.1 es s)) (s.begin dt))

/-! Staged sets (R405). -/

/-- PARAM_STAGE: checked as a PARAM_WRITE is; sets 0 to 15 of up to 256 entries. -/
def execParamStage (dt : Nat) (p : Fin 8) (n : Word) (es : List (Nat × Wire)) (s : State) : Host.Outcome State Fault Refusal :=
  done (hostCmd p 0x0303 0x401 .observe false (sized p (2 + 3 * es.length) fun s =>
    let es := canonSet es
    if 15 < n.toNat then refuse p stRange n.toNat 0 s
    else if 256 < es.length then refuse p stRange es.length 0 s
    else
      let v := pinsFor es s
      let s := v.2
      match setRefusal s p v.1 es with
      | some r => refuse p r.status r.d0 r.d1 s
      | none => ok p [] { s with hst := { s.hst with staged := tabPut s.hst.staged n.toNat es } }) (s.begin dt))

/-- PARAM_UNSTAGE. -/
def execParamUnstage (dt : Nat) (p : Fin 8) (n : Word) (s : State) : Host.Outcome State Fault Refusal :=
  done (hostCmd p 0x0304 0x401 .token true (fun s =>
    if 15 < n.toNat then refuse p stRange n.toNat 0 s
    else ok p [] { s with hst := { s.hst with staged := tabDel s.hst.staged n.toNat } }) (s.begin dt))

/-! PARAM_READ (Table 14-7, R404). -/

def tyCode : WireType → Nat
  | .u32 => 1 | .s32 => 2 | .b32 => 3 | .b64 => 4 | .u64 => 5 | .t => 6
def clsCode : Cls → Nat
  | .live => 0 | .edge => 1 | .halt => 2 | .ro => 3 | .cmd => 0

/-- The effective value as written. -/
def valueOf (s : State) (id : Nat) (r : Row) : Wire :=
  if r.cls = .ro then statusOf s id
  else if idUnit id = 1 && (idField id = 9 || idField id = 0xA) then wireOfInt (measDelay s (idInst id) (idField id == 0xA))
  else if idUnit id = 15 && 0x20 ≤ idField id && idField id < 0x60 then wireN (tabGet s.sys.keepRet (idField id - 0x20) 0).toNat
  else s.wire id

/-- The value the block uses, where a rule clamps or replaces it (R153, R226, R380). -/
def appliedOf (s : State) (id : Nat) (v : Wire) : Wire :=
  let f := idField id
  if idUnit id = 5 && idInst id < 64 && f = 11 then wireOfInt (supEffQ s (idInst id))
  else if id = mkId 11 0x300 2 then wireN (emberT s)
  else if idUnit id = 1 && 0x30 ≤ f && f ≤ 0x33 then ((s.gfi (idInst id)).ovr.getD (f - 0x30) none).getD v
  else v

def readEntry (s : State) (id : Nat) (r : Row) : List Word :=
  let v := valueOf s id r
  let a := appliedOf s id v
  let pend := ((s.pend.filter (fun e => e.id == id)).getLast?).map (·.val)
  let w1 := tyCode r.ty * 2 ^ 28 + clsCode (rowClass s id r) * 2 ^ 26 + bitN pend.isSome 25 + bitN (a != v) 24
  [BitVec.ofNat 32 id, BitVec.ofNat 32 w1] ++ w2 v.toNat ++ w2 (pend.getD 0).toNat ++ w2 a.toNat

/-- PARAM_READ. -/
def execParamRead (dt : Nat) (p : Fin 8) (ids : List Word) (s : State) : Host.Outcome State Fault Refusal :=
  done (hostCmd p 0x0301 0x300 .observe false (sized p (1 + ids.length) fun s =>
    match (List.range ids.length).find? (fun i => (rowOf (ids.getD i 0).toNat).isNone) with
    | some i => refuse p stBadId (ids.getD i 0).toNat i s
    | none => reply p (ids.flatMap (fun w => match rowOf w.toNat with | some r => readEntry s w.toNat r | none => [])) s) (s.begin dt))

/-! PARAM_DESCRIBE. -/

/-- The range a status table states for a field; Counter is 32 bits (R410). -/
def statusRng (u i f : Nat) : Rng :=
  let cnt : Rng := .nat 0 max32
  match u with
  | 1 => if f = 0x80 then .nat 0 6 else if f = 0x81 || f = 0x82 then .real 40 1 70 1 else if f = 0x89 || f = 0x8B then cnt
         else if f = 0x8A then .real 6 5 50 1 else if f = 0x8C then .real (-10) 1 10 1 else .noRange
  | 2 => if i = 0x100 then (if f = 0x83 then .nat 0 1536 else .noRange) else if f = 0x80 then .nat 0 5
         else if f = 0x81 then .time 0 (nsQ max32) 0 else if f = 0x82 || f = 0x83 then cnt else .noRange
  | 3 => if i < 256 then (if f = 0x81 || f = 0x82 || f = 0x84 then cnt else .noRange)
         else if 0x300 ≤ i && i < 0x308 then (if f < 0x82 then .nat 0 64 else if f < 0x84 then cnt else .oneOf [max32, 1])
         else if f = 0xA0 then .nat 0 15 else if 0x400 ≤ i then cnt else .noRange
  | 4 => if i < 256 then (if f = 0x80 || f = 0x81 then .nat 0 6 else if f = 0x82 then .nat 0 3 else .nat 0 15)
         else if i < 0x300 then .noRange else if i < 0x400 || f = 0x80 then .nat 0 6 else if f = 0x81 then .nat 0 3
         else if f = 0x82 then cnt else if f = 0x83 then .nat 0 4096 else if f < 0x86 then .nat 0 16 else .noRange
  | 5 => if f = 0x80 then .nat 0 8 else if f = 0x82 then .nat 0 4 else if f = 0x83 then .nat 0 15 else if 0x8B ≤ f then cnt else .noRange
  | 7 => if i < 48 then (if f = 0x82 then .nat 0 127 else if 0x83 ≤ f then cnt else .noRange) else if i = 0x200 then cnt else .noRange
  | 8 => if i < 32 then (if f = 0x82 then cnt else .noRange) else if i < 0x108 || f = 0x80 then .nat 0 8 else if f = 0x81 then .nat 0 511
         else if f = 0x83 then .nat 0 1024 else cnt
  | 9 => if f = 0x80 then .nat 0 2 else if f = 0x81 then .nat 0 1 else if f = 0x85 then .noRange else cnt
  | 10 => if i = 0 then (if f = 0x82 || f = 0x86 then cnt else if f = 0x83 then .nat 0 8 else .noRange)
          else if i < 0x108 && f = 0x80 then .nat 0 4 else .noRange
  | 11 => if i < 0x300 then (if f = 0x80 then .nat 0 3 else cnt) else if f = 0x80 then .nat 0 3 else if f = 0x82 then .nat 0 1
          else if f = 0x83 || f = 0x84 then cnt else if f = 0x85 then .nat 0 345600 else if f = 0x86 then .nat 3600 345600 else .noRange
  | 12 => if 0x200 ≤ i then (if f = 0x80 then .nat 0 5 else .nat 0 16) else if f = 0x80 then .nat 0 4 else if f = 0x81 then .nat 0 255
          else if f = 0x82 then .nat 0 127 else if f = 0x83 then .nat 0 32 else if f < 0x86 then cnt else .noRange
  | 13 => if i < 8 then .nat 0 2 else if f = 0x83 then cnt else .noRange
  | 14 => if 0x100 ≤ i then (if f = 0x80 then .nat 0 3 else .nat 0 1) else if f = 0x80 then .nat 0 2 else if f = 0x82 then .real 0 1 15 1
          else if f = 0x85 then .nat 0 1024 else if f = 0x84 || 0x87 ≤ f then cnt else .noRange
  | 15 => if f = 0x80 || f = 0x82 then .nat 0 1 else if f = 0x84 then cnt else if f = 0x88 || f = 0x8B then .nat 0 2
          else if f = 0x89 then .time 0 (secQ 86400) 0 else if f = 0x8C then .nat 0 3 else if f = 0x92 then .int (-64) 191 else .noRange
  | 16 => if f = 0x80 then .nat 0 3 else if f = 0x81 then .nat 0 7 else if f = 0x83 then .noRange else cnt
  | 17 => if i < 8 then (if f = 0x80 then .nat 0 1 else if f = 0x82 || f = 0x83 then cnt else .noRange)
          else if f = 0x81 then cnt else .noRange
  | _ => .noRange

/-- Lowest and highest value of a range in a field's wire type; none where the manual states no number. -/
def limitsOf (id : Nat) (r : Row) : Option (Wire × Wire) :=
  let f := tyFmt r.ty
  let q := fun (a : Int) (b : Nat) => wireN (fOfQ f a b)
  let i := fun (x : Int) => if r.ty = .s32 then w32i x else wireOfInt x
  if isReact id then (codeRow (reactCode id)).map (fun c => (wireN c.floor, wireN c.ceil))
  else if isPolicy id then some (0, 1)
  else match if r.cls = .ro then statusRng (idUnit id) (idInst id) (idField id) else r.rng with
    | .nat lo hi => some (wireN lo, wireN hi)
    | .orNone lo hi => some (wireN lo, wireN hi)
    | .even lo hi => some (wireN lo, wireN hi)
    | .oneOf l => some (wireN (l.foldl min (l.headD 0)), wireN (l.foldl max 0))
    | .int lo hi => some (i lo, i hi)
    | .time lo hi _ => some (wireOfInt lo, wireOfInt hi)
    | .orTime z lo hi => some (wireOfInt (min z lo), wireOfInt (max z hi))
    | .real a b c d => some (q a b, q c d)
    | .realStep a b c d _ _ => some (q a b, q c d)
    | .realOf l => match l.head?, l.getLast? with | some a, some b => some (q a.1 a.2, q b.1 b.2) | _, _ => none
    | _ => none

/-- The default of a field; a status field's is what it reads after reset, and MEAS_DELAY's comes from the source (R91). -/
def defaultOf (s : State) (id : Nat) (r : Row) : Wire :=
  if idUnit id = 1 && (idField id = 9 || idField id = 0xA) then wireOfInt (sourceDelay s (idInst id) (idField id == 0xA))
  else if r.cls = .ro then statusOf State.reset id else dfltWire s.par r (idInst id) (idField id)

/-- The right as a word: 0 for a field that cannot be written, the privilege bits, or bit 8 for the operator token. -/
def rightCode (r : Right) : Nat := match r with | .observe => 0 | .priv b => 2 ^ b | .token => 256 | .tokenOr _ => 256

/-- PARAM_DESCRIBE. A limit that the manual does not state as a number is free. -/
def execParamDescribe (dt : Nat) (p : Fin 8) (id : Word) (s : State) : Host.Outcome State Fault Refusal :=
  done (hostCmd p 0x0305 0x402 .observe false (fun s =>
    let n := id.toNat
    match rowOf n with
    | none => refuse p stBadId n 0 s
    | some r =>
      let a := s.freeWord
      let b := a.2.freeWord
      let lim := (limitsOf n r).getD (wireN a.1.toNat, wireN b.1.toNat)
      let t := if (limitsOf n r).isSome then s else b.2
      ok p ([tyCode r.ty, clsCode (rowClass s n r), if r.cls = .ro then 0 else rightCode (rightOf n)].map (BitVec.ofNat 32)
        ++ w2 lim.1.toNat ++ w2 lim.2.toNat ++ w2 (defaultOf s n r).toNat) t) (s.begin dt))

/-! The partner's writes (R98, R138, Table 12-3). -/

/-- The launch entries a WRITE frame places and cancels (notes/assumptions/39.md). -/
def takeLaunches (es : List (Nat × Wire)) (s : State) : State :=
  let gone := (es.filter (fun e => e.1 == wrCancel)).map (fun e => e.2.toNat)
  let t := gone.foldl (fun t i => tabDel t i) s.alm.launch
  { s with alm := { s.alm with launch := match (es.filter (fun e => e.1 == wrPlace)).map (fun e => e.2.toNat) with
    | [i, tb, sec, ns, a, arg, p] =>
      if i < 32 then tabPut t i { tb := tb, t := sec * secQn + ns, action := a, arg := arg, part := p } else t
    | _ => t } }

/-- What a WRITE frame brings a follower: a state command (ID 0, its opcode as the value), values, or command fields for the effective
tick. -/
def takeWrite (tick : Int) (es : List (Nat × Wire)) (s : State) : State :=
  let cmds := (es.filter (fun e => e.1 == 0)).map (fun e => ({ kind := e.2.toNat - opArm, part := 8, tick := tick } : Trans))
  let own := es.filter (fun e => e.1 != 0 && !ownField e.1 && writable e.1)
  let ops := (own.filter (fun e => isCmd s e.1)).map (fun e => ({ id := e.1, val := e.2, tick := tick } : Pend))
  let s := { s with trans := s.trans ++ cmds, pend := s.pend ++ ops }
  let entry := ((es.find? (fun e => e.1 == wrEntry)).map (fun e => e.2.toNat)).getD 32
  acceptEntries tick entry (own.filter (fun e => !isCmd s e.1)) s

/-- WRITE_RX. -/
def execWriteRx (dt : Nat) (lane : Fin 2) (seq : Nat) (tick : Int) (es : List (Nat × Wire)) (s : State) :
    Host.Outcome State Fault Refusal :=
  done (firstCopy lane 0x14 seq (fun s => if s.rdn.role = 1 then takeLaunches es s else takeWrite tick es (takeLaunches es s)) (s.begin dt))

end Sys2Proof.Machine
end

