-- ==== Sys2Proof/Machine/Launch.lean ====
section
/-! DEFINITION. Time-launched actions (spec/02_almanac_time.md R62 to R65, Table 2-6), their broadcasts
(spec/12_pairs_and_chains.md R356), and the commands that set time (R43, R61). -/
namespace Sys2Proof.Machine

/-- Actions: 0 ARM, 1 START, 2 PARK, 3 BLOCK, 4 COMMIT, 5 REC_TRIG, 6 PULSE, in the order of Table 2-6. -/
def tokenAction (a : Nat) : Bool := a == 0 || a == 1 || a == 2 || a == 4

/-- The right to place an action. -/
def launchRight (a : Nat) : Right :=
  if tokenAction a then .token else if a = 3 then .tokenOr pvSafety else .priv pvConfigure

/-- What refuses an entry: action and timebase, a set number or a pulse width outside its range, the time (R63). An unknown timebase or
action, a set above 15 and a mask above 15 are OUT_OF_RANGE with detail 0 (DESIGN CHOICE, notes/assumptions/124.md). -/
def launchRefusal (s : State) (tb t action arg : Nat) : Option (Nat × Nat) :=
  let now := s.nowK tb
  let width := arg % 2 ^ 30
  if 3 < tb || 6 < action || (action = 4 && 15 < arg) || (action = 5 && 15 < arg) then some (stRange, 0)
  else if action = 6 && (width < 20 || 1000000000 < width) then some (stBadTime, 0)
  else if t < now + 100000 * nsecQ || now + 30 * 86400 * secQn < t then some (stBadTime, 0)
  else none

/-- The lowest free index of the table of 32 entries, which a new entry takes (DESIGN CHOICE, notes/assumptions/124.md). -/
def freeEntry (s : State) : Option Nat := (List.range 32).find? (fun i => (tabGet? s.alm.launch i).isNone)

def putEntry (i : Nat) (l : Launch) (s : State) : State := { s with alm := { s.alm with launch := tabPut s.alm.launch i l } }

/-- A time of R35 in 2^-16 ns; none outside the form. R35 refuses an NS above 999,999,999; a FRAC above 65,535 is refused in the same way
(DESIGN CHOICE, notes/assumptions/125.md). -/
def timeQ (sec ns frac : Nat) : Option Nat :=
  if 999999999 < ns || 65535 < frac then none else some (sec * secQn + ns * nsecQ + frac)

/-- TB[0] acts on the 62.5 ps steps of R39: a launch time between two is that of the step before it (DEDUCED,
notes/assumptions/123.md). -/
def onSteps (tb t : Nat) : Nat := if tb = 0 then t / stepQ * stepQ else t

/-- The partner of a pair member holds the same table (R337, Table 12-3 WRITE; notes/assumptions/39.md). -/
def mirrorEntry (i : Nat) (s : State) : State :=
  match s.pairEn, tabGet? s.alm.launch i with
  | true, some l => sendPair (.write s.tickNow ([i, l.tb, secOf l.t, l.t % secQn, l.action, l.arg, l.part].map (fun n => (wrPlace, BitVec.ofNat 64 n)))) s
  | _, _ => s

/-- LAUNCH_PLACE: timebase, T as SEC, NS and FRAC, action, argument. -/
def execLaunchPlace (dt : Nat) (p : Fin 8) (tb : Word) (sec : Wire) (ns frac action arg : Word) (s : State) :
    Host.Outcome State Fault Refusal :=
  let a := action.toNat
  let acts := fun (s : State) => tokenAction a || (a == 3 && !hasPriv s p pvSafety) || 5 ≤ a
  let s := s.begin dt
  done (hostCmd p 0x0404 0x400 (launchRight a) (acts s) (fun s =>
    match timeQ sec.toNat ns.toNat frac.toNat with
    | none => refuse p stBadTime 0 0 s
    | some t => match launchRefusal s tb.toNat t a arg.toNat with
      | some (st, d) => refuse p st d 0 s
      | none => match freeEntry s with
        | none => refuse p 0x47 32 0 s
        | some i => ok p [BitVec.ofNat 32 i] (mirrorEntry i (putEntry i { tb := tb.toNat, t := onSteps tb.toNat t, action := a, arg := arg.toNat, part := p.val } s))) s)

/-- LAUNCH_CANCEL: the placing partition, or SERVICE. -/
def execLaunchCancel (dt : Nat) (p : Fin 8) (i : Word) (s : State) : Host.Outcome State Fault Refusal :=
  done (hostCmd p 0x0405 0x400 .observe false (fun s =>
    match tabGet? s.alm.launch i.toNat with
    | none => refuse p 0x48 i.toNat 0 s
    | some l =>
      if l.part = p.val || hasPriv s p pvService then
        ok p [] (forwardWrite s.tickNow [(wrCancel, BitVec.ofNat 64 i.toNat)]
          { s with alm := { s.alm with launch := tabDel s.alm.launch i.toNat } })
      else refuse p stPrivilege (2 ^ pvService) 0 s) (s.begin dt))

/-- One line of LAUNCH_LIST, eight words: timebase, T, action, argument, placing partition; partition 0xF for an empty entry. -/
def launchWords (l : Option Launch) : List Word :=
  match l with
  | none => [0, 0, 0, 0, 0, 0, 0, 0xF]
  | some l => [BitVec.ofNat 32 l.tb] ++ w2 (secOf l.t) ++ [BitVec.ofNat 32 (nsOf l.t), BitVec.ofNat 32 (fracOf l.t),
      BitVec.ofNat 32 l.action, BitVec.ofNat 32 l.arg, BitVec.ofNat 32 l.part]

def execLaunchList (dt : Nat) (p : Fin 8) (s : State) : Host.Outcome State Fault Refusal :=
  done (hostCmd p 0x0406 0x400 .observe false (fun s =>
    reply p ((List.range 32).flatMap (fun i => launchWords (tabGet? s.alm.launch i))) s) (s.begin dt))

/-! Firing. -/

/-- The first tick instant at or after now (R24, Table 2-6), on both members of a pair: each holds the table. -/
def launchTick (s : State) : Int :=
  if s.tickAt s.tickNow = s.now && s.alm.tick ≠ s.tickNow then s.tickNow else s.tickNow + 1

/-- BLOCK of partition `part`, by command or (op 0) by launch: at once, and as a decision to the partner (R27, R246, R337). -/
def blockCmd (op part : Nat) (s : State) : State :=
  let s := blockByCommand op part s
  let s := if s.pairEn then sendPair (.decide s.now 0 0 part 4 []) s else s
  if op = 0 then s else logCommand part op s.tickNow s

/-- A COMMIT fires: its set is checked again and accepted whole, or its failure is logged (R405). Its values take effect with the entry's
place among those of the tick (R64), in a pair at the effective tick of R138. -/
def commitSet (entry part n : Nat) (s : State) : State :=
  let es := tabGet s.hst.staged n []
  let s := { s with hst := { s.hst with staged := tabDel s.hst.staged n } }
  let v := pinsFor es s
  let s := v.2
  match setRefusal s part v.1 es with
  | some r => logEvent 8 0 n r.status r.d0 s
  | none =>
    let s := acceptSet (if s.pairEn then applyTick s else launchTick s) entry part v.1 es s
    match es.find? (fun e => e.1 == idFaultClear) with
    | some e => ((namedFaults s (lo32 e.2)).foldl (fun acc h => clearOne h acc) (s, none)).1
    | none => s

/-- PULSE: TRIG_OUT rises at T and falls T + width later. -/
def startPulse (l : Launch) (s : State) : State :=
  let pin := l.arg / 2 ^ 30
  let t0 := s.now + l.t - s.nowK l.tb
  if !s.sys.inForce then s
  else ({ s with alm := { s.alm with
      trigOut := if s.alm.trigOut.testBit pin then s.alm.trigOut else s.alm.trigOut + 2 ^ pin
      pulses := s.alm.pulses.filter (fun (x : Nat × Nat × Nat) => x.1 != pin) ++ [(pin, l.tb, l.t + l.arg % 2 ^ 30 * nsecQ)] } }).emit (.pin (pin + 1) true t0)

/-- One entry's action. Both members of a pair fire theirs; a COMMIT is the active's, whose WRITE frame brings its values. -/
def fireEntry (i : Nat) (l : Launch) (s : State) : State :=
  let follows := s.pairEn && s.rdn.role != 1
  if l.action ≤ 2 then { s with trans := s.trans ++ [{ kind := l.action, part := 8, entry := i, tick := launchTick s }] }
  else if l.action = 3 then blockCmd 0 l.part s
  else if l.action = 4 then (if follows then s else commitSet i l.part l.arg s)
  else if l.action = 5 then fireMask 7 l.arg (s.now + l.t - s.nowK l.tb) s
  else startPulse l s

/-- LAUNCH_FIRE: the entry's timebase has reached its time; it leaves the table. -/
def execLaunchFire (dt : Nat) (i : Fin 32) (s : State) : Host.Outcome State Fault Refusal :=
  let s := s.begin dt
  match tabGet? s.alm.launch i with
  | none => done s
  | some l =>
    if s.nowK l.tb < l.t || !s.alm.running then done s
    else done (fireEntry i l { s with alm := { s.alm with launch := tabDel s.alm.launch i } })

/-! Broadcasts (R321, R356). -/

/-- A broadcast launch entry is placed where REMOTE_LAUNCH admits its action and R63 its time. -/
def placeRemote (args : List Nat) (s : State) : State :=
  match args with
  | [tb, t, a, arg] =>
    if !(s.pn 10 0 7).testBit a || (launchRefusal s tb t a arg).isSome then s
    else match freeEntry s with
      | some i => mirrorEntry i (putEntry i { tb := tb, t := onSteps tb t, action := a, arg := arg, part := 8 } s)
      | none => s
  | _ => s

/-- BC_RX: the first copy is relayed on every other peer port; a recorder trigger of kind 0 (channel, time) or a launch entry of
kind 1 acts here. A node's own broadcast is ignored. -/
def execBcRx (dt : Nat) (q : Fin 8) (origin bseq kind : Nat) (args : List Nat) (s : State) : Host.Outcome State Fault Refusal :=
  let s := s.begin dt
  if !carries s q || origin = nodeId s then done s
  else match (tabGet s.rdn.bcWin origin {}).take bseq with
    | none => done s
    | some w =>
      let s := modRdn (fun r => { r with bcWin := tabPut r.bcWin origin w }) s
      let ps := (peerPortsReady s).filter (· != q.val)
      let s := sendPeer (ps ++ ps) (.bc origin bseq kind args) s
      if kind = 1 then done (placeRemote args s)
      else match args with
        | [ch, time] => done (fireKind 6 (fun i c => trf s i c 1 == ch) time (origin * 65536 + ch) s)
        | _ => done s

/-! Time. -/

/-- TIME_READ: one snapshot of the requested timebases (R66); SATURATED when a reported offset saturates (R37). -/
def execTimeRead (dt : Nat) (p : Fin 8) (mask : Word) (s : State) : Host.Outcome State Fault Refusal :=
  done (hostCmd p 0x0401 0x300 .observe false (fun s =>
    let ks := (List.range 4).filter (fun k => mask.getLsbD k)
    let sat := ks.any (fun k => decide (2 ^ 31 ≤ Int.fdiv (s.tb k).off 256) || decide (Int.fdiv (s.tb k).off 256 < -(2 ^ 31)))
    respondWith p 0 (ks.flatMap (timeWords s)) false sat s) (s.begin dt))

/-- RE_ACQUIRE (R43, R44). -/
def execReAcquire (dt : Nat) (p : Fin 8) (tb : Word) (s : State) : Host.Outcome State Fault Refusal :=
  done (hostCmd p 0x0402 0x300 (.priv pvTime) true (fun s =>
    if 3 < tb.toNat then refuse p stRange tb.toNat 0 s
    else if tb = 0 && s.dev.live then refuse p stWrongState (devCode s.dev) 0 s
    else ok p [] (reAcquire tb.toNat s)) (s.begin dt))

/-- TOD_WRITE: the time of day of a timebase of source HOST, one offset measurement (R33, R35, R41). -/
def execTodWrite (dt : Nat) (p : Fin 8) (tb : Word) (sec : Wire) (ns frac : Word) (s : State) : Host.Outcome State Fault Refusal :=
  done (hostCmd p 0x0403 0x300 (.priv pvTime) true (fun s =>
    match timeQ sec.toNat ns.toNat frac.toNat with
    | none => refuse p stBadTime 0 0 s
    | some t =>
      if 3 < tb.toNat then refuse p stRange tb.toNat 0 s
      else if tbSrc s tb.toNat ≠ 9 then ok p [] s
      else ok p [] (updateThrough tb.toNat (clampI (-(2 ^ 63)) (2 ^ 63 - 1) ((s.nowK tb.toNat : Int) - t)) s)) (s.begin dt))

end Sys2Proof.Machine
end

