-- ==== Sys2Proof/Machine/Host.lean ====
section
/-! DEFINITION. Sessions, the operator token, mailboxes, state commands, resets and log reads
(spec/14_host_partitions.md R385 to R409; spec/01_architecture.md R24 to R27; spec/08_switch_protection.md R268, R269). -/
namespace Sys2Proof.Machine

/-! Mailboxes and datagrams (R396 to R401). -/

/-- The message that words spell (Table 14-5). -/
def msgOf (ws : List Word) : Msg :=
  let h := (ws.headD 0).toNat
  { maj := h / 2 ^ 24, min := h / 2 ^ 16 % 256, opcode := h % 2 ^ 16
    tag := (ws.getD 1 0).toNat / 2 ^ 16, payload := ws.drop 4 }

/-- Opcodes of Table 14-8 with the version that introduced them. -/
def opcodes : List (Nat × Nat) :=
  [0x0001, 0x0002, 0x0003, 0x0004, 0x0101, 0x0102, 0x0103, 0x0201, 0x0202, 0x0203, 0x0204, 0x0205, 0x0206, 0x0207,
   0x0301, 0x0302, 0x0401, 0x0402, 0x0403, 0x0501, 0x0502, 0x0503, 0x0601, 0x0602, 0x0603, 0x0604, 0x0605, 0x0606,
   0x0610, 0x0611, 0x0612, 0x0801, 0x0802].map (·, 0x300) ++
  [(0x0303, 0x401), (0x0304, 0x401), (0x0305, 0x402), (0x0404, 0x400), (0x0405, 0x400), (0x0406, 0x400),
   (0x0701, 0x400), (0x0702, 0x400), (0x0703, 0x400)]

/-- What the header alone refuses, of a message of `n` bytes whose LEN field is `len` (R398, R401). -/
def headerRefusal (s : State) (p : Nat) (m : Msg) (n len : Nat) : Option (Nat × Nat) :=
  let h := s.hp p
  if n < 16 || n % 4 ≠ 0 || maxMsg s p < n || len + 16 ≠ n then some (stBadLength, len)
  else if m.opcode = 1 then none
  else if !h.session then some (stNoSession, 0)
  else if m.maj * 256 + m.min ≠ h.version then some (stVersion, h.version)
  else match opcodes.find? (fun o => o.1 == m.opcode && decide (o.2 ≤ h.version)) with
    | some _ => none
    | none => some (stUnknown, m.opcode)

/-- Answer a message by its header alone. -/
def answerHeader (p : Nat) (m : Msg) (r : Nat × Nat) (s : State) : State :=
  let d1 := if r.1 = stBadLength then maxMsg s p else 0
  answer p { status := r.1, tag := m.tag, opcode := m.opcode, payload := [BitVec.ofNat 32 r.2, BitVec.ofNat 32 d1] } s

/-- The message of a request buffer, of `n` bytes, with its LEN field. -/
def bufferWords (h : Hp) (n : Nat) : List Word := (List.range (n / 4)).map (fun i => tabGet h.reqBuf i 0)
def lenField (ws : List Word) : Nat := (ws.getD 1 0).toNat % 2 ^ 16

/-- A request that is not held meets the checks of its header; one that passes waits for its turn (R396, R407). -/
def frontRequest (p n : Nat) (s : State) : State :=
  match (s.hp p).msg with
  | none => s
  | some m => match headerRefusal s p m n (lenField (bufferWords (s.hp p) n)) with
    | none => s
    | some r =>
      answerHeader p m r (s.modHp p (fun h => { h with msg := none, reqBusy := false }))

/-- A doorbell (R396): discarded while REQ_BUSY; held while a response is not acknowledged. It renews the lease (Table 14-10). -/
def ringDoorbell (p n : Nat) (s : State) : State :=
  let h := s.hp p
  if !hasWindow s p || !attached s p then s
  else if h.reqBusy then s.modHp p (fun h => { h with overrun := true })
  else
    let s := s.modHp p (fun h => { h with
      msg := some (msgOf (bufferWords h n)), reqLen := n, reqBusy := true, held := h.rspReady, lastMsg := s.now })
    if h.rspReady then { s with hst := { s.hst with order := s.hst.order ++ [p] } }
    else
      let t := frontRequest p n s
      if (t.hp p).reqBusy then { t with hst := { t.hst with order := t.hst.order ++ [p] } } else t

def execMailboxDoorbell (dt : Nat) (p : Fin 8) (len : BitVec 13) (s : State) : Host.Outcome State Fault Refusal :=
  done (ringDoorbell p len.toNat (s.begin dt))

/-- The response buffer is free again, and a held request comes up (R396). -/
def ackResponse (p : Nat) (s : State) : State :=
  if !hasWindow s p || !(s.hp p).rspReady then s
  else
    let wasHeld := (s.hp p).held
    let s := s.modHp p (fun h => { h with rspReady := false, held := false })
    if !wasHeld then s
    else
      let t := frontRequest p (s.hp p).reqLen s
      if (t.hp p).reqBusy then t else { t with hst := { t.hst with order := t.hst.order.erase p } }

def execRspAck (dt : Nat) (p : Fin 8) (s : State) : Host.Outcome State Fault Refusal := done (ackResponse p (s.begin dt))

/-- ABORT (R396): a request that has not started is gone; one that executes loses its response, and both busy bits clear. -/
def abortRequest (p : Nat) (s : State) : State :=
  if !hasWindow s p || !(s.hp p).reqBusy then s
  else if waits s p then s.modHp p (fun h => { h with drop := true, msg := none, reqBusy := false, rspReady := false })
  else
    let s := s.modHp p (fun h => { h with msg := none, held := false, reqBusy := false })
    { s with hst := { s.hst with order := s.hst.order.erase p } }

def execAbort (dt : Nat) (p : Fin 8) (s : State) : Host.Outcome State Fault Refusal := done (abortRequest p (s.begin dt))

/-- A datagram of partition p, of n bytes (R388, R400, R407): the repeat of the last request executed gets its response again; another waits for
its turn, but for the repeat of one that waits or executes. A HELLO that finds a request executing discards that request's response (Table 14-10). -/
def udpMessage (p n : Nat) (ws : List Word) (s : State) : State :=
  let m := msgOf ws
  let h := s.hp p
  if s.pn 17 p 1 ≠ 3 || !attached s p then s
  else
    let s := s.modHp p (fun h => { h with lastMsg := s.now })
    if h.lastTag = some m.tag && h.msg.isNone then s.emit (.resp p h.lastRsp)
    else if (h.msg.toList ++ h.behind).any (fun x => x.tag == m.tag) then s
    else match headerRefusal s p m n (lenField ws) with
      | some r => answerHeader p m r s
      | none =>
        let s := { s with hst := { s.hst with order := s.hst.order ++ [p] } }
        if h.msg.isNone then s.modHp p (fun h => { h with msg := some m, reqBusy := true })
        else if m.opcode = 1 && waits s p && !h.drop then
          let q := h.behind ++ [m]
          s.modHp p (fun h => { h with drop := true, msg := q.head?, behind := q.tail })
        else s.modHp p (fun h => { h with behind := h.behind ++ [m] })

/-- UDP_MESSAGE_RX: the frame that carries it is stamped (R57). -/
def execUdpMessageRx (dt : Nat) (p : Fin 8) (ws : List Word) (s : State) : Host.Outcome State Fault Refusal :=
  let s := s.begin dt
  let s := if s.alm.running && s.pn 17 p 1 == 3 && attached s p then stampNow s else s
  done (udpMessage p (4 * ws.length) ws s)

/-! Attachments (R386, R392). -/

/-- A function-level reset of PF f, or the loss of the PCIe link. -/
def execPcieFunctionReset (dt : Nat) (f : Fin 8) (linkDown : Bool) (s : State) : Host.Outcome State Fault Refusal :=
  let s := s.begin dt
  if linkDown then done (pcieDown s)
  else done ((List.range 8).foldl (fun s p => if s.pn 17 p 1 = 1 && s.pn 17 p 2 = f.val then endSession p 4 s else s) s)

def execPcieLinkUp (dt : Nat) (s : State) : Host.Outcome State Fault Refusal :=
  let s := s.begin dt
  if s.dev.powered && s.dev ≠ .parked then done { s with lanes := { s.lanes with pcie := true } } else done s

/-- LEASE of a partition in q (R392). -/
def execTokenLeaseExpiry (dt : Nat) (s : State) : Host.Outcome State Fault Refusal :=
  let s := s.begin dt
  let p := s.hst.token
  if p < 8 && decide ((s.hp p).lastMsg + s.ptn 17 p 6 ≤ s.now) then done (moveToken 15 7 s) else done s

/-! Sessions. -/

/-- The highest version the device speaks (R401). -/
def topVersion : Nat := 0x402

/-- HELLO (R401). The old session of the partition, if any, ends with it (R392). -/
def execHello (dt : Nat) (p : Fin 8) (maj min : Byte) (s : State) : Host.Outcome State Fault Refusal :=
  let s := s.begin dt
  let v := Nat.min (maj.toNat * 256 + min.toNat) topVersion
  if attached s p && waits s p && !(s.hp p).drop then
    done (s.modHp p (fun h => { h with
      drop := true
      msg := some { maj := maj.toNat, min := min.toNat, opcode := 1, tag := (h.msg.map (·.tag)).getD 0, payload := [] } }))
  else if !mayRun p 1 s then done s
  else
    let s := takeMsg p 1 s
    if v < 0x300 then done (refuse p stVersion topVersion 0 s)
    else
      let s := (endSession p 3 s).modHp p (fun h => { h with session := true, version := v })
      done (ok p [BitVec.ofNat 32 p, BitVec.ofNat 32 (privOf s p), BitVec.ofNat 32 (maxMsg s p),
        BitVec.ofNat 32 (s.ptn 17 p 6 / secQn)] s)

def execBye (dt : Nat) (p : Fin 8) (s : State) : Host.Outcome State Fault Refusal :=
  done (hostCmd p 0x0002 0x300 .observe false (fun s => endSession p 2 (ok p [] s)) (s.begin dt))

/-- TB[0] as SEC[31:0] and NS. -/
def secNs (q : Nat) : List Word := [BitVec.ofNat 32 (secOf q), BitVec.ofNat 32 (nsOf q)]

def execPing (dt : Nat) (p : Fin 8) (w : Word) (s : State) : Host.Outcome State Fault Refusal :=
  done (hostCmd p 0x0003 0x300 .observe false (fun s => ok p (w :: secNs s.now) s) (s.begin dt))

/-- INFO: part 0x8256, stepping 0xA0 (Table 19-8), firmware version, COUNTER and slot of the pattern in force, device state, role. -/
def infoWords (s : State) : List Word :=
  [0x8256, 0xA0, BitVec.ofNat 32 (fwSlot s s.sys.runSlot).version,
   BitVec.ofNat 32 (if s.sys.inForce then (patSlot s s.sys.cur).counter else 0), BitVec.ofNat 32 s.sys.cur,
   BitVec.ofNat 32 (devCode s.dev), BitVec.ofNat 32 s.rdn.role]
def execInfo (dt : Nat) (p : Fin 8) (s : State) : Host.Outcome State Fault Refusal :=
  done (hostCmd p 0x0004 0x300 .observe false (fun s => ok p (infoWords s) s) (s.begin dt))

/-! The token (R391). -/

def execTokenAcquire (dt : Nat) (p : Fin 8) (force : Bool) (s : State) : Host.Outcome State Fault Refusal :=
  done (hostCmd p 0x0101 0x300 (.priv pvOperate) true (fun s =>
    if s.hst.token = 15 then ok p [] (moveToken p 0 s)
    else if force && hasPriv s p pvService then ok p [] (moveToken p 5 s)
    else refuse p stTokenHeld s.hst.token 0 s) (s.begin dt))

def execTokenRelease (dt : Nat) (p : Fin 8) (s : State) : Host.Outcome State Fault Refusal :=
  done (hostCmd p 0x0102 0x300 .token false (fun s => ok p [] (moveToken 15 1 s)) (s.begin dt))

def execTokenStatus (dt : Nat) (p : Fin 8) (s : State) : Host.Outcome State Fault Refusal :=
  done (hostCmd p 0x0103 0x300 .observe false (fun s => ok p (BitVec.ofNat 32 s.hst.token :: secNs s.hst.tokenAt) s) (s.begin dt))

/-! State commands (R24 to R27). -/

/-- A state command waits for its tick instant; in a pair the partner follows at the same one (R138). -/
def queueTrans (kind p : Nat) (s : State) : State :=
  let t := applyTick s
  let s := if s.pairEn then sendPair (.write t [(0, BitVec.ofNat 64 (opOfKind kind))]) s else s
  { s with trans := s.trans ++ [{ kind := kind, part := p, tick := t }] }

/-- ARM and PARK are answered when accepted, START and RESUME at the tick instant that decides them (R26). -/
def queueAnswered (kind p : Nat) (s : State) : State :=
  let t := applyTick s
  ok p (wI t) (logCommand p (opOfKind kind) t (queueTrans kind p s))

def execArm (dt : Nat) (p : Fin 8) (s : State) : Host.Outcome State Fault Refusal :=
  done (hostCmd p 0x0201 0x300 .token true (fun s =>
    if s.dev ≠ .parked || s.sys.bist = 1 then refuse p stWrongState (devCode s.dev) 0 s
    else match checkAll (fullCand s []) with
      | some r => refuse p r.status r.d0 r.d1 s
      | none => queueAnswered 0 p s) (s.begin dt))

def execStart (dt : Nat) (p : Fin 8) (s : State) : Host.Outcome State Fault Refusal :=
  done (hostCmd p 0x0202 0x300 .token true (fun s =>
    if s.dev ≠ .armed then refuse p stWrongState (devCode s.dev) 0 s else queueTrans 1 p s) (s.begin dt))

def execPark (dt : Nat) (p : Fin 8) (s : State) : Host.Outcome State Fault Refusal :=
  done (hostCmd p 0x0203 0x300 .token true (fun s =>
    if s.dev ≠ .armed then refuse p stWrongState (devCode s.dev) 0 s else queueAnswered 2 p s) (s.begin dt))

def execResume (dt : Nat) (p : Fin 8) (s : State) : Host.Outcome State Fault Refusal :=
  done (hostCmd p 0x0204 0x300 .token true (fun s =>
    if s.dev ≠ .blocked then refuse p stWrongState (devCode s.dev) 0 s else queueTrans 3 p s) (s.begin dt))

/-- BLOCK acts at once; SAFETY's is accepted by both members of a pair (R24, R27, R337). -/
def execBlock (dt : Nat) (p : Fin 8) (s : State) : Host.Outcome State Fault Refusal :=
  let s := s.begin dt
  done (hostCmd p 0x0205 0x300 (.tokenOr pvSafety) (!hasPriv s p pvSafety) (fun s => ok p [] (blockCmd 0x0205 p s)) s)

def execStateRead (dt : Nat) (p : Fin 8) (s : State) : Host.Outcome State Fault Refusal :=
  done (hostCmd p 0x0206 0x300 .observe false (fun s =>
    ok p ([devCode s.dev, deviceReaction s, s.rdn.role, s.hst.token, s.spu.prestart].map (BitVec.ofNat 32)) s) (s.begin dt))

/-- RESET (R478, Table 19-2): answered before the reset. A SYSTEM reset abandons the start in progress (R494); an ENGINE reset in RUN
applies DEVICE_BLOCK first (Table 1-4). -/
def opReset (reach : Nat) (s : State) : State :=
  if reach = 1 then assertReset 2 6 0x0207 false (abandonStart s)
  else assertReset 3 7 0x0207 false (if s.dev = .run then blockFrames (blockNow 0x0207 0 s) else s)

def execReset (dt : Nat) (p : Fin 8) (reach : Word) (s : State) : Host.Outcome State Fault Refusal :=
  done (hostCmd p 0x0207 0x300 (.priv pvService) false (fun s =>
    if s.dev.live && !holdsToken s p then refuse p stNoToken s.hst.token 0 s
    else if reach ≠ 1 && reach ≠ 2 then refuse p stRange reach.toNat 0 s
    else opReset reach.toNat (ok p [] (logCommand p 0x0207 s.tickNow s))) (s.begin dt))

/-! Fault list, log, first-out lists. -/

/-- The eight words of a record (Table 8-8). -/
def recordWords (r : LogRec) : List Word :=
  let b := fun (v : Bool) (i : Nat) => if v then 2 ^ i else 0
  [r.seq, r.sec, r.ns, r.code * 65536 + r.kind % 16 * 4096 + r.index % 4096,
   r.reactCfg % 8 * 2 ^ 29 + r.reactApplied % 8 * 2 ^ 26 + r.reactDevice % 8 * 2 ^ 23 + b r.firstOut 22 + b r.escalated 21 +
     b r.cleared 20 + b r.auto 19 + r.reps % 65536,
   r.data0, r.data1, r.tick].map (BitVec.ofNat 32)

/-- The records that fit a response after `pre` words (R398). -/
def pageSize (s : State) (p pre : Nat) : Nat := (maxMsg s p - 16 - 4 * pre) / 32

def execFaultList (dt : Nat) (p : Fin 8) (first : Word) (s : State) : Host.Outcome State Fault Refusal :=
  done (hostCmd p 0x0501 0x300 .observe false (fun s =>
    let rs := (s.spu.held.drop first.toNat).map (·.lr)
    let n := pageSize s p 0
    respond p 0 ((rs.take n).flatMap recordWords) (decide (n < rs.length)) s) (s.begin dt))

/-- LOG_READ: the first word is the LOG_SEQ at which the records start, the oldest held when the one asked for is gone. -/
def execLogRead (dt : Nat) (p : Fin 8) (first count : Word) (s : State) : Host.Outcome State Fault Refusal :=
  done (hostCmd p 0x0502 0x300 .observe false (fun s =>
    let rs := (s.spu.log.reverse.filter (fun (r : LogRec) => decide (first.toNat ≤ r.seq))).take count.toNat
    let n := pageSize s p 1
    let start := (rs.head?.map (·.seq)).getD first.toNat
    respond p 0 (BitVec.ofNat 32 start :: (rs.take n).flatMap recordWords) (decide (n < rs.length)) s) (s.begin dt))

def execFirstOutRead (dt : Nat) (p : Fin 8) (which : Word) (s : State) : Host.Outcome State Fault Refusal :=
  done (hostCmd p 0x0503 0x300 .observe false (fun s =>
    if 1 < which.toNat then refuse p stRange which.toNat 0 s
    else
      let rs := if which = 0 then s.spu.foCur else s.spu.foPrev
      ok p (BitVec.ofNat 32 rs.length :: rs.flatMap recordWords) s) (s.begin dt))

end Sys2Proof.Machine
end

