-- ==== Sys2Proof/Machine/Ethernet.lean ====
section
/-! DEFINITION. Frames received on Ethernet-mode lanes (spec/16_serial_lanes.md R438 to R440) and what they carry: ARP, ICMP echo, the
messages of UDP partitions (R388), safety SPDUs (R373) and PTP (R52). -/
namespace Sys2Proof.Machine

/-- A frame the MAC receives: 64 to 1,522 bytes with a good FCS (R438). -/
def ethGood (f : EthFrame) : Bool := f.fcsOk && decide (64 ≤ f.len) && decide (f.len ≤ 1522)

/-- The frame's tag, or its lack of one, is that of a VLAN field: VID in [11:0], 0 for untagged. -/
def vidMatches (f : EthFrame) (field : Nat) : Bool := f.vid == if field % 4096 = 0 then none else some (field % 4096)

def isPtp (f : EthFrame) : Bool := match f.kind with | .ptp _ => true | _ => false

/-- The PTP instance of a lane takes the frame (R440). -/
def ptpTakes (s : State) (n : Nat) (f : EthFrame) : Bool :=
  let k := s.pn 6 (0x100 + n) 0x30
  isPtp f && k != 0 && vidMatches f (s.pn 6 k 0x29)

/-- A UDP datagram to this lane's address: a partition's message, or an SPDU of a safety connection. -/
def udpReceive (n port src : Nat) (bs : List Byte) (s : State) : State :=
  let ofPart := fun (p : Nat) => s.pn 17 p 1 == 3 && s.pn 17 p 2 == n && s.pn 17 p 4 == port && s.pn 17 p 5 == src
  let ofConn := fun (k : Nat) => sf s (0x200 + k) 2 == 0 && sf s (0x200 + k) 9 == n && sf s (0x200 + k) 8 == port
  match (List.range 8).find? ofPart with
  | some p => udpMessage p bs.length (bytesWords bs) s
  | none => match (List.range 4).find? ofConn with
    | some k => scReceive k bs s
    | none => s

/-- ETH_FRAME_RX: the start-of-frame delimiter is stamped as it passes (R57), whatever becomes of the frame. -/
def execEthFrameRx (dt : Nat) (n : Fin 64) (f : EthFrame) (s : State) : Host.Outcome State Fault Refusal :=
  let s := s.begin dt
  let s := if s.alm.running && s.dev.powered && isEth s n && (lane s n).pst == 0 then stampNow s else s
  let here := lf s.wire n 0x11
  if !s.dev.powered || !isEth s n || (lane s n).pst ≠ 0 || !ethGood f then done s
  else if !vidMatches f (lf s.wire n 0x10) && !ptpTakes s n f then done (modLane n (fun x => { x with ethDrop := sat32 x.ethDrop }) s)
  else match f.kind with
    | .arp t => if t = here then done (s.emit (.eth n 0)) else done s
    | .echo d => if d = here then done (s.emit (.eth n 1)) else done s
    | .udp d port src bs => if d = here then done (udpReceive n port src bs s) else done s
    | .ptp m => done (ptpReceive n m s)
    | .other => done s

end Sys2Proof.Machine
end

