-- ==== Sys2Proof/Machine/Queues.lean ====
section
/-! DEFINITION. Stream queues (spec/15_stream_queues.md R411 to R421) and the register window (spec/14_host_partitions.md R395,
Tables 14-3, 14-4 and 15-5). -/
namespace Sys2Proof.Machine

/-! Sizes (R413, R414). -/

/-- Bytes a packet occupies: its payload and its length word. -/
def Packet.bytes (k : Packet) : Nat := 4 * k.words.length + 4
def packetsBytes (l : List Packet) : Nat := (l.map Packet.bytes).sum
def stagingSize : Nat := 65536
/-- Visible staged bytes (R414). -/
def Sq.avail (x : Sq) : Nat := packetsBytes (x.staged.take x.vis)

/-- The length word (Table 15-3). -/
def lengthWord (producer pseq len : Nat) (poison : Bool) : Word :=
  BitVec.ofNat 32 ((if poison then 2 ^ 31 else 0) + producer % 16 * 2 ^ 24 + pseq % 256 * 2 ^ 16 + len % 65536)
def Packet.header (k : Packet) (poison : Bool) : Word := lengthWord k.producer k.pseq (4 * k.words.length) poison

/-! Producers (Table 15-1). -/

/-- A whole packet enters the staging of SQ[q], where there is room for it; `took` removes it from its producer. -/
def stagePacket (q producer : Nat) (poison : Bool) (words : List Word) (took : State → State) (s : State) : State :=
  let x := s.sq q
  if stagingSize < packetsBytes x.staged + 4 * words.length + 4 then s
  else took (s.modSq q (fun x => { x with
    pseq := (x.pseq + 1) % 256
    staged := x.staged ++ [{ producer := producer, pseq := x.pseq, poison := poison, words := words }] }))

/-- The oldest held record leaves for SQ[0]; skipped ones come next (R413). -/
def dropHeld (s : State) : State :=
  let l := s.hst.logHold.drop 1
  { s with hst := { s.hst with logHold := l ++ (match s.hst.gap with | some g => [.gap g.1 g.2] | none => []), gap := none } }

def commitLog (poison : Bool) (s : State) : State :=
  match s.hst.logHold with
  | .record r :: _ => stagePacket 0 0 poison (recordWords r) dropHeld s
  | .gap a b :: _ => stagePacket 0 6 poison [BitVec.ofNat 32 a, BitVec.ofNat 32 b] dropHeld s
  | [] => s

/-- How many entries of the tagged queue its oldest packet holds: those of one tick, 64 at most; 0 while it is not closed. -/
def tqClosed (ticks : List Int) (now : Int) : Nat :=
  let n := min 64 (ticks.takeWhile (· == ticks.headD now)).length
  if n = 64 || ticks.headD now < now then n else 0

def commitAdc (poison : Bool) (s : State) : State :=
  let n := tqClosed s.adc.tqTick s.alm.tick
  let es := s.adc.tq.take n
  let route := s.pn 8 0x200 1
  if route = 0 || es.isEmpty then s
  else stagePacket (route - 0x10) 1 poison (BitVec.ofNat 32 es.length :: es.flatMap (fun (e : BitVec 64) => [e.truncate 32, (e >>> 32).truncate 32]))
    (fun s => tqCheck { s with adc := { s.adc with tq := s.adc.tq.drop n, tqTick := s.adc.tqTick.drop n } }) s

def commitRec (i : Nat) (poison : Bool) (s : State) : State :=
  match (rst s i).ring with
  | [] => s
  | k :: _ => stagePacket (rf s i 4) (2 + i) poison k.words
      (fun s => ringDrained i (modRst i (fun r => { r with ring := r.ring.drop 1 }) s)) s

def commitCan (n : Nat) (poison : Bool) (s : State) : State :=
  let route := s.pn 12 n 0x11
  match (vget s.can n {}).fifo with
  | [] => s
  | f :: _ =>
    if route = 0 then s
    else stagePacket (route - 0x10) (7 + n) poison (rxWords f) (fun s =>
      let s := modCan n (fun c => { c with fifo := c.fifo.drop 1 }) s
      if (vget s.can n {}).fifo.length < 16 then condHolds (0x3330 + n) 0 0 s else s) s

/-- SQ_PACKET_COMMIT of a producer (R413): its oldest packet, whole, or nothing while there is no room. -/
def execSqPacketCommit (dt : Nat) (producer : Fin 11) (poison : Bool) (s : State) : Host.Outcome State Fault Refusal :=
  let s := s.begin dt
  let k : Nat := producer.val
  if !s.dev.powered then done s
  else if k = 0 || k = 6 then done (commitLog poison s)
  else if k = 1 then done (commitAdc poison s)
  else if k < 6 then done (commitRec (k - 2) poison s)
  else done (commitCan (k - 7) poison s)

/-! Delivery (R415 to R420). -/

/-- The queue signals its owner (R420). -/
def signalSq (q : Nat) (s : State) : State :=
  let o := (s.sq q).owner
  setIrq 3 o ((s.modSq q (fun x => { x with unsig := 0 })).modHp o (fun h => { h with
    sqIrqSum := h.sqIrqSum ||| BitVec.ofNat 16 (2 ^ q) }))

/-- Visible content has grown by `n` bytes. -/
def growSq (q n : Nat) (s : State) : State :=
  let s := s.modSq q (fun x => { x with unsig := x.unsig + n, unsigAt := if x.unsig = 0 then s.now else x.unsigAt })
  if (s.sq q).irqBytes ≤ (s.sq q).unsig then signalSq q s else s

/-- Counters and faults of one delivered packet (Table 15-6). -/
def countDelivery (q : Nat) (k : Packet) (poison : Bool) (s : State) : State :=
  let s := s.modSq q (fun x => { x with packets := sat32 x.packets, poisoned := if poison then sat32 x.poisoned else x.poisoned })
  let s := if poison then raiseDev (0x7200 + q) 0 0 s else condHolds (0x7200 + q) 0 0 s
  growSq q k.bytes (if k.producer = 15 then s else condHolds (0x7210 + q) 0 0 s)

/-- A length word that fails its check flushes the staging; a DISCARD packet takes its place (R416). -/
def discardStaging (q : Nat) (s : State) : State :=
  let x := s.sq q
  let n := packetsBytes x.staged
  raiseDev (0x7210 + q) 0 0 (s.modSq q (fun x => { x with
    discarded := satAdd32 x.discarded n, vis := 0, pseq := (x.pseq + 1) % 256
    staged := [{ producer := 15, pseq := x.pseq, poison := false, words := [BitVec.ofNat 32 n] }] }))

/-- Where a packet of `n` bytes goes in the host ring: the bytes of PAD before it, and its offset (R418). -/
def ringPlace (x : Sq) (n : Nat) : Nat × Nat :=
  let size := 2 ^ x.ringLog2
  if size < x.devWr + n then (size - x.devWr, 0) else (0, x.devWr)

/-- Would the packet bring DEV_WR level with, or past, HOST_RD? -/
def ringFits (x : Sq) (n : Nat) : Bool :=
  let size := 2 ^ x.ringLog2
  decide ((x.devWr + size - x.hostRd) % size + (ringPlace x n).1 + n < size)

/-- DMA of one packet: PAD, payload, length word, DEV_WR to the write-back address, in this order. -/
def dmaPacket (q : Nat) (k : Packet) (poison : Bool) (s : State) : State :=
  let x := s.sq q
  let n := k.bytes
  let pad := (ringPlace x n).1
  let off := (ringPlace x n).2
  let wr := (off + n) % 2 ^ x.ringLog2
  let s := if pad = 0 then s else s.emit (.dma (x.ringBase + x.devWr) [lengthWord 14 0 (pad - 4) false])
  let s := (s.emit (.dma (x.ringBase + off + 4) k.words)).emit (.dma (x.ringBase + off) [k.header poison])
  let s := s.emit (.dma x.wbAddr [BitVec.ofNat 32 wr, 0])
  s.modSq q (fun x => { x with
    staged := x.staged.drop 1, devWr := wr, bounds := x.bounds ++ (if pad = 0 then [] else [0]) ++ [wr] })

/-- SQ_DELIVER: the next packet of SQ[q] not yet delivered. `parity`: a payload word has a parity error; `badLen`: the length word has;
`dmaError`: the DMA write completes with an error. -/
def execSqDeliver (dt : Nat) (q : Fin 16) (parity badLen dmaError : Bool) (s : State) : Host.Outcome State Fault Refusal :=
  let s := s.begin dt
  let x := s.sq q
  if !s.dev.powered || !x.enable || !decide (x.owner < 8) then done s
  else match (x.staged.drop x.vis).head? with
    | none => done s
    | some k =>
      let poison := k.poison || parity
      if badLen then done (discardStaging q s)
      else if !x.dma then
        done (countDelivery q k poison (s.modSq q (fun x => { x with vis := x.vis + 1, wpoison := x.wpoison || parity })))
      else if !ringFits x k.bytes then done s
      else if dmaError then done (raiseDev (0x7220 + q) 0 0 (s.modSq q (fun x => { x with enable := false })))
      else done (countDelivery q k poison (dmaPacket q k poison s))

/-- SQ_IRQ_SIGNAL: IRQ_TIME after the first byte not yet signalled (R420). -/
def execSqIrqSignal (dt : Nat) (q : Fin 16) (s : State) : Host.Outcome State Fault Refusal :=
  let s := s.begin dt
  let x := s.sq q
  if x.owner < 8 && x.unsig ≠ 0 && x.irqTime ≠ 0 && decide (x.unsigAt + x.irqTime * 1000 * nsecQ ≤ s.now) then done (signalSq q s) else done s

/-! The owner's registers (R417 to R419, Table 15-5). -/

/-- A write of SQ_CTRL: CLAIM of an unowned queue, RELEASE, and the owner's DMA and ENABLE. One that would change DMA while ENABLE is 1 is
ignored. -/
def writeSqCtrl (p q : Nat) (claim release dma enable : Bool) (s : State) : State :=
  let s := if claim && (s.sq q).owner = 15 then s.modSq q (fun x => { x with owner := p }) else s
  let x := s.sq q
  if x.owner ≠ p || (x.enable && x.dma != dma) then s
  else
    let s := s.modSq q (fun x => { x with
      dma := dma, enable := enable, vis := if x.dma != dma then 0 else x.vis, owner := if release then 15 else p })
    if enable then condHolds (0x7220 + q) 0 0 s else s

def execClaim (dt : Nat) (p : Fin 8) (q : Fin 16) (dma enable : Bool) (s : State) : Host.Outcome State Fault Refusal :=
  let s := s.begin dt
  if hasWindow s p then done (writeSqCtrl p q true false dma enable s) else done s

/-- RELEASE; DMA and ENABLE are written as they are. -/
def execRelease (dt : Nat) (p : Fin 8) (q : Fin 16) (s : State) : Host.Outcome State Fault Refusal :=
  let s := s.begin dt
  if hasWindow s p then done (writeSqCtrl p q false true (s.sq q).dma (s.sq q).enable s) else done s

/-- How many whole packets `n` bytes are, if they end on a boundary. -/
def wholePackets : List Packet → Nat → Option Nat
  | _, 0 => some 0
  | [], _ => none
  | k :: r, n => if n < k.bytes then none else (wholePackets r (n - k.bytes)).map (· + 1)

/-- SQ_RD_ADV by the owner (R415, R419). -/
def advanceSq (p q n : Nat) (s : State) : State :=
  if (s.sq q).owner ≠ p then s
  else match wholePackets ((s.sq q).staged.take (s.sq q).vis) n with
    | none => s.modSq q (fun x => { x with advErr := true })
    | some k => s.modSq q (fun x => { x with staged := x.staged.drop k, vis := x.vis - k, wpoison := false })

def execSqRdAdv (dt : Nat) (p : Fin 8) (q : Fin 16) (n : BitVec 17) (s : State) : Host.Outcome State Fault Refusal :=
  let s := s.begin dt
  if hasWindow s p then done (advanceSq p q n.toNat s) else done s

/-- HOST_RD by the owner: a packet boundary between HOST_RD and DEV_WR (R418). -/
def writeHostRd (p q off : Nat) (s : State) : State :=
  let x := s.sq q
  if x.owner ≠ p || off = x.hostRd then s
  else if x.bounds.contains off then
    s.modSq q (fun x => { x with hostRd := off, bounds := (x.bounds.dropWhile (· != off)).drop 1 })
  else s.modSq q (fun x => { x with advErr := true })

def execHostRd (dt : Nat) (p : Fin 8) (q : Fin 16) (off : BitVec 24) (s : State) : Host.Outcome State Fault Refusal :=
  let s := s.begin dt
  if hasWindow s p then done (writeHostRd p q off.toNat s) else done s

/-- The low or the high word of a 64-bit register. -/
def setLo (a : Nat) (v : Word) : Nat := a / 2 ^ 32 * 2 ^ 32 + v.toNat
def setHi (a : Nat) (v : Word) : Nat := v.toNat * 2 ^ 32 + a % 2 ^ 32

/-- A write in the block of SQ[q]: only the owner's takes effect, but for CLAIM; RING_BASE, RING_SIZE and WB_ADDR only while ENABLE is 0. -/
def writeSqReg (p q r : Nat) (v : Word) (s : State) : State :=
  let x := s.sq q
  let own := x.owner == p
  let set := fun (f : Sq → Sq) => if own then s.modSq q f else s
  let idle := fun (f : Sq → Sq) => if own && !x.enable then s.modSq q f else s
  match r with
  | 0x00 => set (fun x => { x with advErr := x.advErr && !v.getLsbD 21 })
  | 0x04 => writeSqCtrl p q (v.getLsbD 31) (v.getLsbD 30) (v.getLsbD 1) (v.getLsbD 0) s
  | 0x08 => advanceSq p q (v.toNat % 2 ^ 17) s
  | 0x0C => idle (fun x => { x with ringBase := setLo x.ringBase (v &&& 0xFFFFF000) })
  | 0x10 => idle (fun x => { x with ringBase := setHi x.ringBase v })
  | 0x14 => if 12 ≤ v.toNat % 32 && v.toNat % 32 ≤ 24 then idle (fun x => { x with ringLog2 := v.toNat % 32 }) else s
  | 0x18 => writeHostRd p q (v.toNat % 2 ^ 24) s
  | 0x20 => idle (fun x => { x with wbAddr := setLo x.wbAddr (v &&& 0xFFFFFFF8) })
  | 0x24 => idle (fun x => { x with wbAddr := setHi x.wbAddr v })
  | 0x28 => set (fun x => { x with irqBytes := v.toNat % 2 ^ 17 })
  | 0x2C => set (fun x => { x with irqTime := v.toNat % 2 ^ 20 })
  | _ => s

/-! The window (Tables 14-3 and 14-4). -/

/-- A write of a mailbox register. -/
def writeMailbox (p off : Nat) (v : Word) (s : State) : State :=
  match off with
  | 0x08 => s.modHp p (fun h => { h with overrun := h.overrun && !v.getLsbD 29 })
  | 0x0C => ringDoorbell p (v.toNat % 2 ^ 13) s
  | 0x10 => if v.getLsbD 0 then ackResponse p s else s
  | 0x14 => s.modHp p (fun h => { h with irqStat := h.irqStat &&& ~~~(v.truncate 4) })
  | 0x18 => s.modHp p (fun h => { h with irqEn := v.truncate 4 })
  | 0x1C => if v.getLsbD 0 then abortRequest p s else s
  | _ => s

/-- A word of the request buffer: a word 0 is not listed, since an unwritten one reads 0. -/
def bufferPut (t : Tab Word) (i : Nat) (v : Word) : Tab Word := if v = 0 then tabDel t i else tabPut t i v

/-- An aligned 32-bit write at an offset of the window; reserved and read-only offsets ignore it (R5). -/
def windowWrite (p off : Nat) (v : Word) (s : State) : State :=
  if off % 4 ≠ 0 then s
  else if off < 0x40 then writeMailbox p off v s
  else if 0x1000 ≤ off && off < 0x1400 then writeSqReg p ((off - 0x1000) / 0x40) (off % 0x40) v s
  else if off = 0x1800 then s.modHp p (fun h => { h with sqSel := v.toNat % 16 })
  else if off = 0x1804 then s.modHp p (fun h => { h with sqIrqSum := h.sqIrqSum &&& ~~~(v.truncate 16) })
  else if 0x2000 ≤ off && off < 0x3000 then
    (if (s.hp p).reqBusy then s.modHp p (fun h => { h with overrun := true })
     else s.modHp p (fun h => { h with reqBuf := bufferPut h.reqBuf ((off - 0x2000) / 4) v }))
  else s

/-- REGISTER_WRITE: a write through the window of partition p. -/
def execRegisterWrite (dt : Nat) (p : Fin 8) (off : BitVec 15) (v : Word) (s : State) : Host.Outcome State Fault Refusal :=
  let s := s.begin dt
  if hasWindow s p then done (windowWrite p off.toNat v s) else done s

/-! What the window reads, but for the reads that have rows of their own (R66, R308, R309). -/

/-- The producer of SQ[q], 15 when it has none. -/
def producerOf (s : State) (q : Nat) : Nat :=
  if q = 0 then 0
  else if s.pn 8 0x200 1 = 0x10 + q then 1
  else match (List.range 4).find? (fun i => rf s i 4 == q), (List.range 4).find? (fun n => s.pn 12 n 0x11 == 0x10 + q) with
    | some i, _ => 2 + i
    | none, some n => 7 + n
    | none, none => 15

def bit (b : Bool) (i : Nat) : Nat := if b then 2 ^ i else 0

/-- Bits of SQ_STAT below OWNER and PRODUCER. -/
def sqStatLow (x : Sq) : Nat := bit x.enable 23 + bit x.wpoison 22 + bit x.advErr 21 + x.avail

def readSqReg (s : State) (q r : Nat) : Nat :=
  let x := s.sq q
  match r with
  | 0x00 => x.owner * 2 ^ 28 + producerOf s q * 2 ^ 24 + sqStatLow x
  | 0x04 => bit x.dma 1 + bit x.enable 0
  | 0x0C => x.ringBase
  | 0x10 => x.ringBase / 2 ^ 32
  | 0x14 => x.ringLog2
  | 0x18 => x.hostRd
  | 0x1C => x.devWr
  | 0x20 => x.wbAddr
  | 0x24 => x.wbAddr / 2 ^ 32
  | 0x28 => x.irqBytes
  | 0x2C => x.irqTime
  | 0x30 => x.packets
  | 0x34 => x.poisoned
  | 0x38 => x.discarded
  | _ => 0

/-- The words of the last response, header first (Table 14-5). -/
def responseWords (h : Hp) : List Word :=
  let r := h.lastRsp
  [BitVec.ofNat 32 (h.version * 2 ^ 16 + r.opcode), BitVec.ofNat 32 (r.tag * 2 ^ 16 + 4 * r.payload.length),
   BitVec.ofNat 32 (r.status * 2 ^ 16 + bit r.more 1 + bit r.saturated 0), 0] ++ r.payload

def readMailbox (s : State) (p off : Nat) : Nat :=
  let h := s.hp p
  match off with
  | 0x00 => 0x04020300
  | 0x04 => p * 2 ^ 24 + privOf s p * 2 ^ 16 + bit (holdsToken s p) 8 + s.pn 17 p 1 % 4
  | 0x08 => bit h.reqBusy 31 + bit h.rspReady 30 + bit h.overrun 29 + bit h.session 28 +
      (if h.messages = 0 then 0 else 4 * (responseWords h).length)
  | 0x14 => h.irqStat.toNat
  | 0x18 => h.irqEn.toNat
  | 0x20 => s.hst.evtSeq
  | _ => 0

/-- The words after the read point of a queue, visible ones only (R419). -/
def visibleWords (x : Sq) : List Word := (x.staged.take x.vis).flatMap (fun k => k.header k.poison :: k.words)

/-- A read at an offset of the window. -/
def windowRead (s : State) (p off : Nat) : Word :=
  if off % 4 ≠ 0 then BitVec.ofNat 32 max32
  else if off < 0x40 then BitVec.ofNat 32 (readMailbox s p off)
  else if 0x800 ≤ off && off < 0x900 then (tabGet (s.hp p).timeSnap ((off - 0x800) / 0x40) []).getD (off % 0x40 / 4) 0
  else if off = 0xA08 then BitVec.ofNat 32 (s.adc.tqLost % 65536 * 65536 + tqFill s)
  else if 0xB00 ≤ off && off < 0xC00 && off % 8 = 4 then tabGet (s.hp p).lvSnap 1 0
  else if 0x1000 ≤ off && off < 0x1400 then BitVec.ofNat 32 (readSqReg s ((off - 0x1000) / 0x40) (off % 0x40))
  else if off = 0x1800 then BitVec.ofNat 32 (s.hp p).sqSel
  else if off = 0x1804 then BitVec.ofNat 32 (s.hp p).sqIrqSum.toNat
  else if 0x2000 ≤ off && off < 0x3000 then tabGet (s.hp p).reqBuf ((off - 0x2000) / 4) 0
  else if 0x3000 ≤ off && off < 0x4000 then (responseWords (s.hp p)).getD ((off - 0x3000) / 4) 0
  else if 0x4000 ≤ off && off < 0x8000 && s.pn 17 p 1 = 2 && (s.sq (s.hp p).sqSel).owner = p then
    (visibleWords (s.sq (s.hp p).sqSel)).getD ((off - 0x4000) / 4) 0
  else 0

/-- HSPI_IRQ_N of the port of partition p is low (R387). -/
def hspiIrqLow (s : State) (p : Nat) : Bool := hasWindow s p && s.pn 17 p 1 == 2 && ((s.hp p).irqStat &&& (s.hp p).irqEn) != 0

end Sys2Proof.Machine
end

