-- ==== Sys2Proof/Machine/Security.lean ====
section
/-! DEFINITION. Identity, lifecycle, counters, tamper inputs and attestation (spec/20_security.md R511 to R522). -/
namespace Sys2Proof.Machine

def modSec (f : Sec → Sec) (s : State) : State := { s with sec := f s.sec }

/-! Paged bytes (R398, Table 20-4). -/

/-- TOTAL, OFFSET and as many bytes from OFFSET as the response takes; MORE while bytes remain. -/
def replyBytes (p offset : Nat) (bs : List Byte) (s : State) : State :=
  let rest := bs.drop offset
  let n := maxMsg s p - 24
  respond p 0 ([BitVec.ofNat 32 bs.length, BitVec.ofNat 32 offset] ++ bytesWords (rest.take n)) (decide (n < rest.length)) s

/-- IDENTITY_READ (R515, Table 20-4). -/
def execIdentityRead (dt : Nat) (p : Fin 8) (item offset : Word) (s : State) : Host.Outcome State Fault Refusal :=
  done (hostCmd p 0x0701 0x400 .observe false (fun s =>
    match item.toNat with
    | 0 => replyBytes p offset.toNat s.sec.cert s
    | 1 => replyBytes p offset.toNat s.sec.idKey s
    | 2 => replyBytes p offset.toNat s.sec.ownerKey s
    | k => refuse p stRange k 0 s) (s.begin dt))

/-! Attestation (R520, Table 20-5). -/

def fixLen (n : Nat) (bs : List Byte) : List Byte := (bs ++ List.replicate n 0).take n

/-- Bytes 0 to 431 of the report. -/
def reportBody (s : State) (nonce : BitVec 256) : List Byte :=
  bytesBE 4 0x41545354 ++ bytesBE 4 0x00010000 ++ bytesBE 32 nonce.toNat ++ bytesBE 8 Config.uid.toNat ++ fixLen 64 (Config.sha3 s.sec.idKey) ++
  bytesBE 4 (s.sec.lifecycle * 2 ^ 24 + devCode s.dev * 2 ^ 16 + s.rdn.role * 2 ^ 8 + s.sys.activeSlot) ++
  bytesBE 4 (fwSlot s s.sys.runSlot).svn ++ fixLen 64 (Config.sha3 (imageBytes (fwSlot s s.sys.runSlot))) ++
  bytesBE 4 (patOf s).counter ++ fixLen 64 (patOf s).digest ++ bytesBE 4 (prevPat s).counter ++ bytesBE 4 s.sys.patHigh ++
  bytesBE 4 (patState s) ++ bytesBE 4 s.sfi.crcEff ++ (List.range 32).flatMap (fun k => bytesBE 4 (ctrOf s k)) ++
  bytesBE 4 (s.sec.count % 65536 * 65536 + s.sec.latch.toNat) ++ bytesBE 4 s.sys.powerCycles ++
  bytesBE 8 (secOf s.now) ++ bytesBE 4 (nsOf s.now) ++ bytesBE 4 (s.spu.logSeq % 2 ^ 32) ++ bytesBE 12 0

/-- The signature block of the device identity over an object (Table 20-2). -/
def identityBlock (s : State) (obj : List Byte) : List Byte :=
  bytesBE 4 0x53494742 ++ [3, 0, 0, 0] ++ fixLen 8 (keyId s.sec.idKey) ++ bytesBE 4 4627 ++
    fixLen 4627 (Config.sign s.sec.keyNo (Config.sha3 obj)) ++ [0]

def report (s : State) (nonce : BitVec 256) : List Byte := reportBody s nonce ++ identityBlock s (reportBody s nonce)

/-- ATTEST. -/
def execAttest (dt : Nat) (p : Fin 8) (offset : Word) (nonce : BitVec 256) (s : State) : Host.Outcome State Fault Refusal :=
  done (hostCmd p 0x0702 0x400 .observe false (fun s =>
    if offset = 0 then
      (if s.sec.idKey.isEmpty then refuse p 0x65 s.sec.lifecycle s.sec.latch.toNat s
       else
        let r := report s nonce
        replyBytes p 0 r (s.modHp p (fun h => { h with report := r })))
    else if (s.hp p).report.isEmpty then refuse p 0x64 0 0 s
    else replyBytes p offset.toNat (s.hp p).report s) (s.begin dt))

/-! SEC_CONTROL (Table 20-4). -/

/-- An OP of SEC_CONTROL. -/
def secCmd (p : Nat) (body : State → State) (s : State) : State := hostCmd p 0x0703 0x400 (.priv pvService) false body s

def badLifecycle (p op : Nat) (s : State) : State := refuse p 0x60 s.sec.lifecycle op s

/-- OP 1 (R512): the next generated key pair; the answer is its public key. -/
def execProvision (dt : Nat) (p : Fin 8) (s : State) : Host.Outcome State Fault Refusal :=
  done (secCmd p (fun s =>
    let key := fixLen 2592 (Config.genKey (s.sec.keyNo + 1))
    if s.sec.lifecycle ≠ 0 then badLifecycle p 1 s
    else if maxMsg s p < 16 + 2592 then refuse p stTooLong (16 + 2592) (maxMsg s p) s
    else ok p (bytesWords key) (modSec (fun c => { c with lifecycle := 1, keyNo := c.keyNo + 1, idKey := key }) s)) (s.begin dt))

/-- Key or authorisation data of an OP arrive in order from OFFSET 0: SEC_INCOMPLETE where they do not, or run past the length
expected; otherwise they are kept, and the last of them give the whole to `act`. -/
def collect (p op total offset : Nat) (ws : List Word) (act : List Byte → State → State) (s : State) : State :=
  let have_ := if offset = 0 || s.sec.bufOp ≠ op then [] else s.sec.buf
  let bs := have_ ++ wordBytes ws
  if have_.length ≠ offset || total < bs.length then refuse p 0x66 have_.length total s
  else if bs.length < total then ok p [] (modSec (fun c => { c with buf := bs, bufOp := op }) s)
  else act bs (modSec (fun c => { c with buf := [], bufOp := 0 }) s)

/-- OP 2 (R516): 2,592 bytes of key, followed, where an owner key is present, by the present key's signature block. A verification made
under the old key is void (Table 20-7). -/
def execOwnerKeySet (dt : Nat) (p : Fin 8) (offset : Word) (ws : List Word) (s : State) : Host.Outcome State Fault Refusal :=
  done (secCmd p (sized p (2 + ws.length) fun s =>
    let old := s.sec.ownerKey
    if s.dev ≠ .parked && s.dev ≠ .boot then refuse p stWrongState (devCode s.dev) 0 s
    else collect p 2 (2592 + if old.isEmpty then 0 else sigLen) offset.toNat ws (fun bs s =>
      if !old.isEmpty && !signedBy 1 old bs then refuse p 0x61 0 0 s
      else ok p [] (modSys (fun y => { y with verified := none }) (modSec (fun c => { c with ownerKey := bs.take 2592 }) s))) s) (s.begin dt))

/-- OP 3 (R512). -/
def execLifecycleAdvance (dt : Nat) (p : Fin 8) (s : State) : Host.Outcome State Fault Refusal :=
  done (secCmd p (fun s =>
    if s.sec.lifecycle ≠ 1 then badLifecycle p 3 s
    else if s.sec.cert.isEmpty then refuse p 0x62 0 0 s
    else ok p [] (modSec (fun c => { c with lifecycle := 2 }) s)) (s.begin dt))

/-- What entry to RMA erases: both keys, both pattern slots, the confirmed safety set (R512). -/
def enterRma (s : State) : State :=
  let s := modSec (fun c => { c with lifecycle := 3, idKey := [], ownerKey := [] }) s
  let s := modSys (fun y => { y with slot := Vector.replicate 2 {}, staging := [], verified := none, trial := false, trialLeft := 0 }) s
  modSfi (fun x => { x with setConfirmed := false, confirmedCrc := none, crcEff := 0 })
    { s with par := s.par.filter (fun e => idUnit e.1 != 11), pend := s.pend.filter (fun e => idUnit e.id != 11) }

/-- OP 4 (R512): the authorisation is the device's UID and a signature block of the Valurn failure-analysis key. -/
def execRmaEnter (dt : Nat) (p : Fin 8) (offset : Word) (ws : List Word) (s : State) : Host.Outcome State Fault Refusal :=
  done (secCmd p (sized p (2 + ws.length) fun s =>
    if s.sec.lifecycle = 3 then badLifecycle p 4 s
    else collect p 4 (8 + sigLen) offset.toNat ws (fun bs s =>
      if bs.take 8 ≠ bytesBE 8 Config.uid.toNat || !signedBy 0 Config.rmaKey bs then refuse p 0x61 1 0 s
      else ok p [] (enterRma s)) s) (s.begin dt))

/-- OP 5 (R517, Table 20-3). -/
def execCounterAdvance (dt : Nat) (p : Fin 8) (k v : Word) (s : State) : Host.Outcome State Fault Refusal :=
  let k := k.toNat
  let v := v.toNat
  done (secCmd p (fun s =>
    if (k ≠ 1 && (k < 16 || 31 < k)) || (k = 1 && s.sys.patHigh < v) then refuse p stRange k 0 s
    else if v ≤ ctrOf s k then refuse p 0x63 k (ctrOf s k) s
    else ok p [] (modSec (fun c => { c with ctr := tabPut c.ctr k v, mirror := tabPut c.mirror k v }) s)) (s.begin dt))

/-- OP 6 (R519). `high`: the source's input is high now, or for source 2 VBAT is in range. -/
def execTamperClear (dt : Nat) (p : Fin 8) (source : Word) (high : Bool) (s : State) : Host.Outcome State Fault Refusal :=
  let i := source.toNat
  done (secCmd p (fun s =>
    if 2 < i then refuse p stRange i 0 s
    else if !high then refuse p stSourceActive 0x7501 i s
    else ok p [] (condHolds 0x7501 0 0 (modSec (fun c => { c with latch := c.latch &&& ~~~(BitVec.ofNat 3 (2 ^ i)) }) s))) (s.begin dt))

/-! Tamper inputs (R518). -/

/-- What TAMPER_ACT erases. -/
def tamperAct (act : Nat) (s : State) : State :=
  let s := if 1 ≤ act then modSys (fun y => { y with keepRet := [] }) s else s
  if act = 2 then modSec (fun c => { c with ownerKey := [], idKey := [] }) s else s

/-- TAMPER_LATCH: TAMPER_N[i] has been low for 1 ms. -/
def execTamperLatch (dt : Nat) (i : Fin 2) (s : State) : Host.Outcome State Fault Refusal :=
  let s := s.begin dt
  if !keeperRuns s || s.pn 16 i 1 ≠ 1 || s.sec.latch.getLsbD i then done s
  else
    let s := modSec (fun c => { c with latch := c.latch ||| BitVec.ofNat 3 (2 ^ i.val), count := sat32 c.count }) s
    let s := tamperAct (s.pn 16 i 2) s
    done (if firmwareRuns s then raise 0x7501 0 0 i 0 [] s else s)

end Sys2Proof.Machine
end

