-- ==== Sys2Proof/Machine/Dispatch.lean ====
section
/-! DEFINITION. One arm for each constructor of Instr: one call of its meaning, or a rejection by name. -/
namespace Sys2Proof.Machine

/-- The effect of a command on everything but the queue. -/
def exec (i : Instr) (s : State) : Host.Outcome State Fault Refusal :=
  match i with
  | .tickInstant dt edges => Sys2Proof.Machine.execTickInstant dt edges s
  | .fwdSSend dt => Sys2Proof.Machine.execFwdSSend dt s
  | .inputFreeze dt => Sys2Proof.Machine.execInputFreeze dt s
  | .writePhase dt => Sys2Proof.Machine.execWritePhase dt s
  | .recLatch dt => Sys2Proof.Machine.execRecLatch dt s
  | .edgeRecordRelease dt => Sys2Proof.Machine.execEdgeRecordRelease dt s
  | .edgeFrameFormation dt => Sys2Proof.Machine.execEdgeFrameFormation dt s
  | .stateRepeat dt => Sys2Proof.Machine.execStateRepeat dt s
  | .beaconDue dt p => Sys2Proof.Machine.execBeaconDue dt p s
  | .beaconReplyRx dt p hop bseq tTurn corrDn corrUp => Sys2Proof.Machine.execBeaconReplyRx dt p hop bseq tTurn corrDn corrUp s
  | .telRx dt p pos sampleTime status mask items => Sys2Proof.Machine.execTelRx dt p pos sampleTime status mask items s
  | .symbolLock dt p => Sys2Proof.Machine.execSymbolLock dt p s
  | .helloWindowEnd dt p => Sys2Proof.Machine.execHelloWindowEnd dt p s
  | .cfgResponseRx dt p diag hop seq op status addr data words => Sys2Proof.Machine.execCfgResponseRx dt p diag hop seq op status addr data words s
  | .cfgRetry dt p diag hop seq => Sys2Proof.Machine.execCfgRetry dt p diag hop seq s
  | .linkSupervision dt p hop => Sys2Proof.Machine.execLinkSupervision dt p hop s
  | .trainTimeout dt p => Sys2Proof.Machine.execTrainTimeout dt p s
  | .trainRestart dt p => Sys2Proof.Machine.execTrainRestart dt p s
  | .prestartSweepStep dt p hop => Sys2Proof.Machine.execPrestartSweepStep dt p hop s
  | .autoClearAttempt dt c => Sys2Proof.Machine.execAutoClearAttempt dt c s
  | .faultClear dt p name => Sys2Proof.Machine.execFaultClear dt p name s
  | .prestartRun dt p => Sys2Proof.Machine.execPrestartRun dt p s
  | .blockNFall dt fall => Sys2Proof.Machine.execBlockNFall dt fall s
  | .blockNPulseEnd dt => Sys2Proof.Machine.execBlockNPulseEnd dt s
  | .blockNQuietEnd dt => Sys2Proof.Machine.execBlockNQuietEnd dt s
  | .faultInLatch dt pin width => Sys2Proof.Machine.execFaultInLatch dt pin width s
  | .faultInClear dt p mask low => Sys2Proof.Machine.execFaultInClear dt p mask low s
  | .force dt p c v => Sys2Proof.Machine.execForce dt p c v s
  | .gfeAltReset dt p k => Sys2Proof.Machine.execGfeAltReset dt p k s
  | .altReset dt p slot => Sys2Proof.Machine.execAltReset dt p slot s
  | .inputHoldExpiry dt who => Sys2Proof.Machine.execInputHoldExpiry dt who s
  | .gfeRideTimeout dt k => Sys2Proof.Machine.execGfeRideTimeout dt k s
  | .rideExit dt k => Sys2Proof.Machine.execRideExit dt k s
  | .gfeEnergizeFail dt k => Sys2Proof.Machine.execGfeEnergizeFail dt k s
  | .syncOk dt k => Sys2Proof.Machine.execSyncOk dt k s
  | .stopTimeout dt k => Sys2Proof.Machine.execStopTimeout dt k s
  | .probeWindowClose dt k => Sys2Proof.Machine.execProbeWindowClose dt k s
  | .timebaseSourceUpdate dt k offset => Sys2Proof.Machine.execTimebaseSourceUpdate dt k offset s
  | .holdoverEntry dt k => Sys2Proof.Machine.execHoldoverEntry dt k s
  | .tbHoldoverLong dt k => Sys2Proof.Machine.execTbHoldoverLong dt k s
  | .tbSlewLag dt => Sys2Proof.Machine.execTbSlewLag dt s
  | .acqWaitExpiry dt => Sys2Proof.Machine.execAcqWaitExpiry dt s
  | .ppsOutEdge dt rise => Sys2Proof.Machine.execPpsOutEdge dt rise s
  | .ppsInEdge dt rise => Sys2Proof.Machine.execPpsInEdge dt rise s
  | .trigInEdge dt pin rise => Sys2Proof.Machine.execTrigInEdge dt pin rise s
  | .launchFire dt e => Sys2Proof.Machine.execLaunchFire dt e s
  | .pulseEnd dt pin => Sys2Proof.Machine.execPulseEnd dt pin s
  | .ptpMessageRx dt lane m => Sys2Proof.Machine.execPtpMessageRx dt lane m s
  | .ptpMessageDue dt k lane m => Sys2Proof.Machine.execPtpMessageDue dt k lane m s
  | .timeStatRead dt p k => Sys2Proof.Machine.execTimeStatRead dt p k s
  | .adcConversion dt pos slot raw shadow => Sys2Proof.Machine.execAdcConversion dt pos slot raw shadow s
  | .adcShadowStart dt => Sys2Proof.Machine.execAdcShadowStart dt s
  | .adcCalStep dt => Sys2Proof.Machine.execAdcCalStep dt s
  | .adcCalDone dt ofs gain res => Sys2Proof.Machine.execAdcCalDone dt ofs gain res s
  | .tqLoRead dt p => Sys2Proof.Machine.execTqLoRead dt p s
  | .tqHiRead dt p => Sys2Proof.Machine.execTqHiRead dt p s
  | .lvLoRead dt p n => Sys2Proof.Machine.execLvLoRead dt p n s
  | .bsdFastDecision dt n bits => Sys2Proof.Machine.execBsdFastDecision dt n bits s
  | .bsdMissingClock dt g => Sys2Proof.Machine.execBsdMissingClock dt g s
  | .bsdStuckStream dt n => Sys2Proof.Machine.execBsdStuckStream dt n s
  | .syncInEdge dt width => Sys2Proof.Machine.execSyncInEdge dt width s
  | .decReset dt p => Sys2Proof.Machine.execDecReset dt p s
  | .recAutoTrigger dt k => Sys2Proof.Machine.execRecAutoTrigger dt k s
  | .recTrigger dt p mask => Sys2Proof.Machine.execRecTrigger dt p mask s
  | .recRestart dt p mask => Sys2Proof.Machine.execRecRestart dt p mask s
  | .recRingDrained dt k => Sys2Proof.Machine.execRecRingDrained dt k s
  | .sqPacketCommit dt producer poison => Sys2Proof.Machine.execSqPacketCommit dt producer poison s
  | .sqDeliver dt q parity badLen dmaError => Sys2Proof.Machine.execSqDeliver dt q parity badLen dmaError s
  | .sqIrqSignal dt q => Sys2Proof.Machine.execSqIrqSignal dt q s
  | .claim dt p q dma enable => Sys2Proof.Machine.execClaim dt p q dma enable s
  | .release dt p q => Sys2Proof.Machine.execRelease dt p q s
  | .sqRdAdv dt p q n => Sys2Proof.Machine.execSqRdAdv dt p q n s
  | .hostRd dt p q off => Sys2Proof.Machine.execHostRd dt p q off s
  | .pairHbLoss dt => Sys2Proof.Machine.execPairHbLoss dt s
  | .pairLaneDown dt l => Sys2Proof.Machine.execPairLaneDown dt l s
  | .snapRx dt lane seq snap => Sys2Proof.Machine.execSnapRx dt lane seq snap s
  | .rmapRx dt lane seq tick map => Sys2Proof.Machine.execRmapRx dt lane seq tick map s
  | .fwdSRx dt lane seq f => Sys2Proof.Machine.execFwdSRx dt lane seq f s
  | .digRx dt lane seq d => Sys2Proof.Machine.execDigRx dt lane seq d s
  | .writeRx dt lane seq tick es => Sys2Proof.Machine.execWriteRx dt lane seq tick es s
  | .decideRx dt lane seq time code kind index level cover => Sys2Proof.Machine.execDecideRx dt lane seq time code kind index level cover s
  | .stxRx dt lane seq x => Sys2Proof.Machine.execStxRx dt lane seq x s
  | .vigRx dt lane seq words => Sys2Proof.Machine.execVigRx dt lane seq words s
  | .roleRx dt lane seq op arg => Sys2Proof.Machine.execRoleRx dt lane seq op arg s
  | .peerHelloRx dt q seq h => Sys2Proof.Machine.execPeerHelloRx dt q seq h s
  | .peerHelloDue dt => Sys2Proof.Machine.execPeerHelloDue dt s
  | .ptimeDue dt => Sys2Proof.Machine.execPtimeDue dt s
  | .ptimeRx dt q seq sec ns frac => Sys2Proof.Machine.execPtimeRx dt q seq sec ns frac s
  | .ptimeReplyRx dt q seq turn => Sys2Proof.Machine.execPtimeReplyRx dt q seq turn s
  | .gbRx dt q origin gseq time => Sys2Proof.Machine.execGbRx dt q origin gseq time s
  | .bcRx dt q origin bseq kind args => Sys2Proof.Machine.execBcRx dt q origin bseq kind args s
  | .topoRx dt q h1 h2 best ids => Sys2Proof.Machine.execTopoRx dt q h1 h2 best ids s
  | .topoDue dt => Sys2Proof.Machine.execTopoDue dt s
  | .vigilReport dt scrub mram sched lane margin => Sys2Proof.Machine.execVigilReport dt scrub mram sched lane margin s
  | .joinReplayDone dt => Sys2Proof.Machine.execJoinReplayDone dt s
  | .joinBufferFull dt => Sys2Proof.Machine.execJoinBufferFull dt s
  | .joinComplete dt => Sys2Proof.Machine.execJoinComplete dt s
  | .roleSwap dt p => Sys2Proof.Machine.execRoleSwap dt p s
  | .roleSwapEffect dt => Sys2Proof.Machine.execRoleSwapEffect dt s
  | .safetyCycle dt x => Sys2Proof.Machine.execSafetyCycle dt x s
  | .emberExpired dt => Sys2Proof.Machine.execEmberExpired dt s
  | .soutOffPulse dt j => Sys2Proof.Machine.execSoutOffPulse dt j s
  | .scSpduRx dt k bytes => Sys2Proof.Machine.execScSpduRx dt k bytes s
  | .scTimeout dt k => Sys2Proof.Machine.execScTimeout dt k s
  | .scStatusTx dt k => Sys2Proof.Machine.execScStatusTx dt k s
  | .supplyCutTestStep dt => Sys2Proof.Machine.execSupplyCutTestStep dt s
  | .islandClockCheck dt agrees => Sys2Proof.Machine.execIslandClockCheck dt agrees s
  | .islandMemoryCheck dt good => Sys2Proof.Machine.execIslandMemoryCheck dt good s
  | .sfiPeerDisagree dt => Sys2Proof.Machine.execSfiPeerDisagree dt s
  | .supplyTestOverdue dt => Sys2Proof.Machine.execSupplyTestOverdue dt s
  | .sgbDemand dt p => Sys2Proof.Machine.execSgbDemand dt p s
  | .sgbReset dt p => Sys2Proof.Machine.execSgbReset dt p s
  | .safeConfirm dt p v => Sys2Proof.Machine.execSafeConfirm dt p v s
  | .mailboxDoorbell dt p len => Sys2Proof.Machine.execMailboxDoorbell dt p len s
  | .rspAck dt p => Sys2Proof.Machine.execRspAck dt p s
  | .abort dt p => Sys2Proof.Machine.execAbort dt p s
  | .udpMessageRx dt p ws => Sys2Proof.Machine.execUdpMessageRx dt p ws s
  | .pcieFunctionReset dt f linkDown => Sys2Proof.Machine.execPcieFunctionReset dt f linkDown s
  | .tokenLeaseExpiry dt => Sys2Proof.Machine.execTokenLeaseExpiry dt s
  | .hello dt p maj min => Sys2Proof.Machine.execHello dt p maj min s
  | .bye dt p => Sys2Proof.Machine.execBye dt p s
  | .ping dt p w => Sys2Proof.Machine.execPing dt p w s
  | .info dt p => Sys2Proof.Machine.execInfo dt p s
  | .tokenAcquire dt p force => Sys2Proof.Machine.execTokenAcquire dt p force s
  | .tokenRelease dt p => Sys2Proof.Machine.execTokenRelease dt p s
  | .tokenStatus dt p => Sys2Proof.Machine.execTokenStatus dt p s
  | .arm dt p => Sys2Proof.Machine.execArm dt p s
  | .armedEntry dt => Sys2Proof.Machine.execArmedEntry dt s
  | .start dt p => Sys2Proof.Machine.execStart dt p s
  | .park dt p => Sys2Proof.Machine.execPark dt p s
  | .resume dt p => Sys2Proof.Machine.execResume dt p s
  | .block dt p => Sys2Proof.Machine.execBlock dt p s
  | .stateRead dt p => Sys2Proof.Machine.execStateRead dt p s
  | .reset dt p reach => Sys2Proof.Machine.execReset dt p reach s
  | .paramRead dt p ids => Sys2Proof.Machine.execParamRead dt p ids s
  | .paramWrite dt p es => Sys2Proof.Machine.execParamWrite dt p es s
  | .paramStage dt p n es => Sys2Proof.Machine.execParamStage dt p n es s
  | .paramUnstage dt p n => Sys2Proof.Machine.execParamUnstage dt p n s
  | .paramDescribe dt p id => Sys2Proof.Machine.execParamDescribe dt p id s
  | .timeRead dt p mask => Sys2Proof.Machine.execTimeRead dt p mask s
  | .reAcquire dt p tb => Sys2Proof.Machine.execReAcquire dt p tb s
  | .todWrite dt p tb sec ns frac => Sys2Proof.Machine.execTodWrite dt p tb sec ns frac s
  | .launchPlace dt p tb sec ns frac action arg => Sys2Proof.Machine.execLaunchPlace dt p tb sec ns frac action arg s
  | .launchCancel dt p e => Sys2Proof.Machine.execLaunchCancel dt p e s
  | .launchList dt p => Sys2Proof.Machine.execLaunchList dt p s
  | .faultList dt p first => Sys2Proof.Machine.execFaultList dt p first s
  | .logRead dt p first count => Sys2Proof.Machine.execLogRead dt p first count s
  | .firstOutRead dt p which => Sys2Proof.Machine.execFirstOutRead dt p which s
  | .patternLoad dt p offset ws => Sys2Proof.Machine.execPatternLoad dt p offset ws s
  | .patternVerify dt p => Sys2Proof.Machine.execPatternVerify dt p s
  | .patternActivate dt p trialT => Sys2Proof.Machine.execPatternActivate dt p trialT s
  | .patternConfirm dt p counter => Sys2Proof.Machine.execPatternConfirm dt p counter s
  | .patternRollback dt p => Sys2Proof.Machine.execPatternRollback dt p s
  | .patternStatus dt p => Sys2Proof.Machine.execPatternStatus dt p s
  | .imageLoad dt p slot offset ws => Sys2Proof.Machine.execImageLoad dt p slot offset ws s
  | .imageSelect dt p slot => Sys2Proof.Machine.execImageSelect dt p slot s
  | .imageStatus dt p => Sys2Proof.Machine.execImageStatus dt p s
  | .identityRead dt p item offset => Sys2Proof.Machine.execIdentityRead dt p item offset s
  | .attest dt p offset nonce => Sys2Proof.Machine.execAttest dt p offset nonce s
  | .provision dt p => Sys2Proof.Machine.execProvision dt p s
  | .ownerKeySet dt p offset ws => Sys2Proof.Machine.execOwnerKeySet dt p offset ws s
  | .lifecycleAdvance dt p => Sys2Proof.Machine.execLifecycleAdvance dt p s
  | .rmaEnter dt p offset ws => Sys2Proof.Machine.execRmaEnter dt p offset ws s
  | .counterAdvance dt p k v => Sys2Proof.Machine.execCounterAdvance dt p k v s
  | .tamperClear dt p source high => Sys2Proof.Machine.execTamperClear dt p source high s
  | .tamperLatch dt k => Sys2Proof.Machine.execTamperLatch dt k s
  | .bistRun dt p mask => Sys2Proof.Machine.execBistRun dt p mask s
  | .bistComplete dt sig pass => Sys2Proof.Machine.execBistComplete dt sig pass s
  | .bistResult dt p => Sys2Proof.Machine.execBistResult dt p s
  | .blockReset dt p code => Sys2Proof.Machine.execBlockReset dt p code s
  | .blockResetComplete dt code idle => Sys2Proof.Machine.execBlockResetComplete dt code idle s
  | .startClear dt p => Sys2Proof.Machine.execStartClear dt p s
  | .powerOnReset dt low => Sys2Proof.Machine.execPowerOnReset dt low s
  | .resetN dt low => Sys2Proof.Machine.execResetN dt low s
  | .jtagReset dt => Sys2Proof.Machine.execJtagReset dt s
  | .resetReleaseStep dt => Sys2Proof.Machine.execResetReleaseStep dt s
  | .releaseWaitLimit dt => Sys2Proof.Machine.execReleaseWaitLimit dt s
  | .startTargetReached dt => Sys2Proof.Machine.execStartTargetReached dt s
  | .startSuccess dt => Sys2Proof.Machine.execStartSuccess dt s
  | .trialExpiry dt => Sys2Proof.Machine.execTrialExpiry dt s
  | .keeperSecond dt => Sys2Proof.Machine.execKeeperSecond dt s
  | .keeperMirror dt => Sys2Proof.Machine.execKeeperMirror dt s
  | .railsLoss dt => Sys2Proof.Machine.execRailsLoss dt s
  | .milLockstep dt => Sys2Proof.Machine.execMilLockstep dt s
  | .milWatchdog dt => Sys2Proof.Machine.execMilWatchdog dt s
  | .sramEcc dt corrected perTick tables => Sys2Proof.Machine.execSramEcc dt corrected perTick tables s
  | .supplyMonitor dt rail inRange => Sys2Proof.Machine.execSupplyMonitor dt rail inRange s
  | .pkgRail dt rail inRange => Sys2Proof.Machine.execPkgRail dt rail inRange s
  | .tempMonitorUpdate dt tj => Sys2Proof.Machine.execTempMonitorUpdate dt tj s
  | .laneLos dt n => Sys2Proof.Machine.execLaneLos dt n s
  | .laneLol dt n => Sys2Proof.Machine.execLaneLol dt n s
  | .laneEthDown dt n => Sys2Proof.Machine.execLaneEthDown dt n s
  | .laneL2Exit dt n eq => Sys2Proof.Machine.execLaneL2Exit dt n eq s
  | .ethFrameRx dt n f => Sys2Proof.Machine.execEthFrameRx dt n f s
  | .marginScan dt p n => Sys2Proof.Machine.execMarginScan dt p n s
  | .marginScanDone dt n h v => Sys2Proof.Machine.execMarginScanDone dt n h v s
  | .errInj dt p n v => Sys2Proof.Machine.execErrInj dt p n v s
  | .prbsChk dt p n v => Sys2Proof.Machine.execPrbsChk dt p n v s
  | .pwrReq dt p n v => Sys2Proof.Machine.execPwrReq dt p n v s
  | .loop dt p n v => Sys2Proof.Machine.execLoop dt p n v s
  | .xmLoss dt => Sys2Proof.Machine.execXmLoss dt s
  | .xsLoss dt => Sys2Proof.Machine.execXsLoss dt s
  | .refMeasure dt x present ppm => Sys2Proof.Machine.execRefMeasure dt x present ppm s
  | .pllLock dt x => Sys2Proof.Machine.execPllLock dt x s
  | .pllUnlock dt x => Sys2Proof.Machine.execPllUnlock dt x s
  | .opllRetune dt p ni nf dith seed => Sys2Proof.Machine.execOpllRetune dt p ni nf dith seed s
  | .clkoutDivChange dt p c tb v => Sys2Proof.Machine.execClkoutDivChange dt p c tb v s
  | .opllSteer dt => Sys2Proof.Machine.execOpllSteer dt s
  | .txReq dt p n mask => Sys2Proof.Machine.execTxReq dt p n mask s
  | .txAbort dt p n mask => Sys2Proof.Machine.execTxAbort dt p n mask s
  | .canRecover dt p n => Sys2Proof.Machine.execCanRecover dt p n s
  | .canTxStart dt n => Sys2Proof.Machine.execCanTxStart dt n s
  | .canTxAttemptEnd dt n e tdc => Sys2Proof.Machine.execCanTxAttemptEnd dt n e tdc s
  | .canFrameRx dt n fr esi age => Sys2Proof.Machine.execCanFrameRx dt n fr esi age s
  | .canBusOffRecovered dt n => Sys2Proof.Machine.execCanBusOffRecovered dt n s
  | .registerWrite dt p off v => Sys2Proof.Machine.execRegisterWrite dt p off v s
  | .vbatInRange dt => Sys2Proof.Machine.execVbatInRange dt s
  | .vbatLoss dt => Sys2Proof.Machine.execVbatLoss dt s
  | .xmOkRising dt => Sys2Proof.Machine.execXmOkRising dt s
  | .xsOkRising dt => Sys2Proof.Machine.execXsOkRising dt s
  | .losClear dt n => Sys2Proof.Machine.execLosClear dt n s
  | .laneSyncAcquired dt n => Sys2Proof.Machine.execLaneSyncAcquired dt n s
  | .laneSyncLost dt n => Sys2Proof.Machine.execLaneSyncLost dt n s
  | .heartbeatPresent dt => Sys2Proof.Machine.execHeartbeatPresent dt s
  | .pairLaneUp dt l => Sys2Proof.Machine.execPairLaneUp dt l s
  | .frameDiscarded dt p => Sys2Proof.Machine.execFrameDiscarded dt p s
  | .slewPartEnd dt k => Sys2Proof.Machine.execSlewPartEnd dt k s
  | .milFaultReset dt => Sys2Proof.Machine.execMilFaultReset dt s
  | .checkerLock dt n => Sys2Proof.Machine.execCheckerLock dt n s
  | .checkerLockLost dt n errs => Sys2Proof.Machine.execCheckerLockLost dt n errs s
  | .canBusIntegration dt n => Sys2Proof.Machine.execCanBusIntegration dt n s
  | .canReceiveError dt n primary => Sys2Proof.Machine.execCanReceiveError dt n primary s
  | .pcieLinkUp dt => Sys2Proof.Machine.execPcieLinkUp dt s
  | .sdclkReturn dt g => Sys2Proof.Machine.execSdclkReturn dt g s
  | .clearsWhenHeld dt code kind index => Sys2Proof.Machine.execClearsWhenHeld dt code kind index s

end Sys2Proof.Machine
end

