-- ==== Sys2Proof/Safety.lean ====
section
/-! DEFINITION. What a safe run is: no step stops, and after each of them the pins that block the converter stand as R22, R260 and R332 say. -/
namespace Sys2Proof.Machine

/-- BLOCK_N is driven as R260 and R484 say; in the states of R22 SAFE_BLOCK_N and SOUT[0..7] are low; PAIR_HB_OUT carries its square wave
in a pair member whose engines run, and nowhere else (R332). -/
def State.pinsHold (s : State) : Bool :=
  s.spu.blockNLow == drivesBlockN s &&
  (s.awake || (!s.sfi.safeHigh && s.sfi.sout.toList.all (fun o => !o.level))) &&
  s.rdn.hbOut == (s.pairEn && enginesRun s) &&
  s.bsd.sdclk == Vector.ofFn (fun (g : Fin 6) => sdclkPin s g)

/-- The request buffer of every partition lists its words once, in rising order, and none that reads as an unwritten one (R396). -/
def bufferWf : Tab Word → Bool
  | [] => true
  | [(_, v)] => v != 0
  | (a, v) :: (b, w) :: r => v != 0 && decide (a < b) && bufferWf ((b, w) :: r)

def State.buffersHold (s : State) : Bool := s.hst.hp.toList.all (fun h => bufferWf h.reqBuf)

/-- `n` steps that all answer a next state with its pins in order. -/
def safeFor : Nat → State → Prop
  | 0, s => s.pinsHold
  | n + 1, s => s.pinsHold ∧ ∃ t, step s = .next t ∧ safeFor n t

/-! Terms of the claims. -/

/-- Partition p may execute a message of opcode op, which version `since` introduced: it is attached, its session is open at a version
that knows the opcode, and the message is the next to execute (R386 to R389, R401, R407). -/
def Accepts (p op since : Nat) (s : State) : Prop :=
  mayRun p op s = true ∧ (s.hp p).session = true ∧ (s.hp p).drop = false ∧ since ≤ (s.hp p).version ∧
    (∀ m, (s.hp p).msg = some m → m.maj * 256 + m.min = (s.hp p).version) ∧ (s.dev = .fallback → fallbackOp op = true)

/-- `Accepts`, with the right the command needs, in a member of a pair that may act (R337, R393, R394). -/
def Granted (p op since : Nat) (right : Right) (acts : Bool) (s : State) : Prop :=
  Accepts p op since s ∧ rightRefusal s p right = none ∧ (acts = true → notActive s = false)

/-- A PARAM_WRITE of one field that is a command of its own: granted, and not in FALLBACK (R389). -/
def FieldGranted (p : Nat) (right : Right) (s : State) : Prop :=
  Granted p 0x0302 0x300 right right.acts s ∧ s.dev ≠ .fallback

/-- From s the message of opcode op of partition p was answered: status, payload, opcode and TAG of the response (R396, R397, R399). -/
def Answered (p op status : Nat) (ws : List Word) (s t : State) : Prop :=
  ∃ r, Out.resp p r ∈ t.out ∧ r.status = status ∧ r.payload = ws ∧ r.opcode = op ∧ r.tag = ((s.hp p).msg.map (·.tag)).getD 0

/-- Bytes on a wire, as against what the commands handed over and answered. -/
def Out.sent : Out → Bool
  | .wire .. | .peerWire .. | .abort .. => true
  | _ => false

/-- What a command handed over and answered, without the bytes that the transmitters sent meanwhile. -/
def told (t : State) : List Out := t.out.filter (fun o => !o.sent)

/-- Nothing but time passes: the clock and the timebases advance, the transmitters go on and the lasting conditions age. -/
def TimePassed (dt : Nat) (s t : State) : Prop :=
  ∃ x o e, t = { s.begin dt with tx := x, out := o, since := e } ∧ told t = []

end Sys2Proof.Machine
end

