-- ==== Sys2Proof/Certificates/Slice0/Obligations.lean ====
section
/-! DEFINITION. The statements for the provers: what the block does, command by command, and what it leaves alone. -/
open Sys2Proof Sys2Proof.Machine

/-! The queue and the block as a whole. -/

/-- A step takes the command at the front of the queue and runs it on the state with the queue's rest. -/
def Obligations.StepRunsFront : Prop := ∀ (c : Instr) (s : State), step (s.withFront c) = exec c s

/-- With no command waiting the block idles (the model's choice, notes/assumptions/3.md). -/
def Obligations.EmptyQueueIdles : Prop := ∀ s : State, s.pending = [] → step s = .next s

/-- What reset leaves: BOOT, no token holder, no held fault and no log, no session, every field at its default (R4, R391), the outputs blocked (R22)
and no command waiting. -/
def Obligations.ResetLeaves : Prop :=
  State.reset.dev = .boot ∧ State.reset.hst.token = 15 ∧ State.reset.spu.held = [] ∧ State.reset.spu.log = [] ∧
    State.reset.par = [] ∧ State.reset.pend = [] ∧ State.reset.pending = [] ∧ (∀ p : Fin 8, (State.reset.hp p).session = false) ∧
    State.reset.pinsHold = true ∧ State.reset.buffersHold = true

/-- Every step answers a next state, whatever the command, and keeps the pins as R22, R260 and R332 say: BLOCK_N is driven low in the
states of R22 unless BLOCKN_IDLE releases it and while a GLOBAL_BLOCK or SAFE_BLOCK is held, SAFE_BLOCK_N and SOUT are low in the states of
R22, PAIR_HB_OUT runs in a pair member whose engines run, and the SDCLK pin of each bitstream group runs or rests as its group says (R271, R272). -/
def Obligations.StepKeepsPins : Prop := ∀ s : State, ∃ t, step s = .next t ∧ (s.pinsHold = true → t.pinsHold = true)

/-- A write through a window keeps every request buffer in its canonical form. -/
def Obligations.RegisterWriteKeepsBuffers : Prop :=
  ∀ (dt : Nat) (p : Fin 8) (off : BitVec 15) (v : Word) (s t : State),
    s.buffersHold = true → exec (.registerWrite dt p off v) s = .next t → t.buffersHold = true

/-- The commands of the host that only read, stage, ring or acknowledge. -/
def Sys2Proof.Machine.hostOnly : Instr → Bool
  | .ping .. | .info .. | .tokenStatus .. | .stateRead .. | .faultList .. | .logRead .. | .firstOutRead .. | .launchList .. | .timeRead ..
  | .paramRead .. | .paramDescribe .. | .patternStatus .. | .imageStatus .. | .bistResult .. | .identityRead .. | .attest ..
  | .timeStatRead .. | .lvLoRead .. | .tqLoRead .. | .mailboxDoorbell .. | .rspAck .. | .abort .. | .udpMessageRx .. | .paramStage ..
  | .paramUnstage .. => true
  | _ => false

/-- A command that only reads, stages, rings or acknowledges changes nothing but the host unit, the outputs, the time and what runs on with it
(the transmitters and the clocks of lasting conditions), the count of drawn free values, and the planes of the newest stamped event, which a frame
takes (R57): every engine, fault, field, timebase and pin stays (R385, R395, R399). -/
def Obligations.HostOnlyKeepsTheRest : Prop :=
  ∀ (c : Instr) (s : State), hostOnly c = true → s.pinsHold = true →
    ∃ d h o f x e a, exec c s = .next { s.begin d with hst := h, out := o, free := f, tx := x, since := e, alm := { (s.begin d).alm with stamp := a } }

/-! Sessions and the token (R391, R392, R401). -/

/-- SEC[31:0] and NS of a reading of TB[0]. -/
def Sys2Proof.Machine.secNsWords (q : Nat) : List Word := [BitVec.ofNat 32 (q / 65536000000000), BitVec.ofNat 32 (q / 65536 % 1000000000)]

/-- PING, INFO, TOKEN_STATUS and STATE_READ answer OK with their payloads (Table 14-8); of INFO the device state and the role, whose places are
the model's choice (notes/assumptions/6.md). -/
def Obligations.StatusAnswers : Prop :=
  ∀ (dt : Nat) (p : Fin 8) (s : State),
    (∀ w : Word, Accepts p 0x0003 0x300 s → ∃ t, exec (.ping dt p w) s = .next t ∧
      Answered p 0x0003 0 (w :: secNsWords (s.begin dt).now) s t) ∧
    (Accepts p 0x0103 0x300 s → ∃ t, exec (.tokenStatus dt p) s = .next t ∧
      Answered p 0x0103 0 (BitVec.ofNat 32 s.hst.token :: secNsWords s.hst.tokenAt) s t) ∧
    (Accepts p 0x0206 0x300 s → ∃ t, exec (.stateRead dt p) s = .next t ∧
      Answered p 0x0206 0 [BitVec.ofNat 32 (devCode s.dev), BitVec.ofNat 32 (deviceReaction s), BitVec.ofNat 32 s.rdn.role,
        BitVec.ofNat 32 s.hst.token, BitVec.ofNat 32 s.spu.prestart] s t) ∧
    (Accepts p 0x0004 0x300 s → ∃ t ws, exec (.info dt p) s = .next t ∧ Answered p 0x0004 0 ws s t ∧ ws.length = 7 ∧
      ws.getD 5 0 = BitVec.ofNat 32 (devCode s.dev) ∧ ws.getD 6 0 = BitVec.ofNat 32 s.rdn.role)

/-- A session opens with HELLO at the lower of the host's version and 4.2, and ends with BYE (R401, R392): the token the partition holds
goes with it. -/
def Obligations.SessionOpensAndEnds : Prop :=
  ∀ (dt : Nat) (p : Fin 8) (s : State),
    (∀ maj min : Byte, mayRun p 1 s = true → (s.hp p).drop = false → 0x300 ≤ maj.toNat * 256 + min.toNat →
      ∃ t, exec (.hello dt p maj min) s = .next t ∧ (t.hp p).session = true ∧
        (t.hp p).version = Nat.min (maj.toNat * 256 + min.toNat) 0x402 ∧ ∃ ws, Answered p 0x0001 0 ws s t) ∧
    (∀ maj min : Byte, mayRun p 1 s = true → (s.hp p).drop = false → maj.toNat * 256 + min.toNat < 0x300 →
      ∃ t, exec (.hello dt p maj min) s = .next t ∧ (t.hp p).session = (s.hp p).session ∧
        Answered p 0x0001 0x02 [0x402, 0] s t) ∧
    (Accepts p 0x0002 0x300 s → ∃ t, exec (.bye dt p) s = .next t ∧ (t.hp p).session = false ∧ t.hst.token ≠ p.val ∧
      Answered p 0x0002 0 [] s t)

/-- The token (R391, R392): TOKEN_ACQUIRE grants it when no partition holds it, and with FORCE to a partition with OPERATE and SERVICE; any
other is refused with TOKEN_HELD naming the holder; TOKEN_RELEASE gives it back, and so does the lease that ends, and a reset of the
holder's physical function. -/
def Obligations.TokenMoves : Prop :=
  ∀ (dt : Nat) (p : Fin 8) (s : State),
    (∀ force, Granted p 0x0101 0x300 (.priv pvOperate) true s → s.hst.token = 15 ∨ (force = true ∧ hasPriv s p pvService = true) →
      ∃ t, exec (.tokenAcquire dt p force) s = .next t ∧ t.hst.token = p.val ∧ Answered p 0x0101 0 [] s t) ∧
    (∀ force, Granted p 0x0101 0x300 (.priv pvOperate) true s → s.hst.token ≠ 15 → ¬(force = true ∧ hasPriv s p pvService = true) →
      ∃ t, exec (.tokenAcquire dt p force) s = .next t ∧ t.hst.token = s.hst.token ∧
        Answered p 0x0101 0x12 [BitVec.ofNat 32 s.hst.token, 0] s t) ∧
    (Granted p 0x0102 0x300 .token false s →
      ∃ t, exec (.tokenRelease dt p) s = .next t ∧ t.hst.token = 15 ∧ Answered p 0x0102 0 [] s t) ∧
    (s.hst.token < 8 → (s.hp s.hst.token).lastMsg + s.ptn 17 s.hst.token 6 ≤ (s.begin dt).now →
      ∃ t, exec (.tokenLeaseExpiry dt) s = .next t ∧ t.hst.token = 15) ∧
    (∀ f : Fin 8, s.hst.token = p.val → (s.hp p).session = true → s.pn 17 p 1 = 1 → s.pn 17 p 2 = f.val →
      ∃ t, exec (.pcieFunctionReset dt f false) s = .next t ∧ t.hst.token = 15 ∧ (t.hp p).session = false)

/-! Mailboxes, windows and datagrams (R395 to R401). -/

/-- A doorbell (R396, R401, R407): discarded with REQ_OVERRUN while a request is busy; held while a response is not acknowledged; refused with
NO_SESSION by its header when no session is open; and a request whose header passes waits for its turn. An acknowledgement frees the response buffer, and ABORT
discards the request that has not started or the response of the one that executes; the order of the other partitions stands (R396). -/
def Obligations.MailboxTurns : Prop :=
  (∀ (dt : Nat) (p : Fin 8) (len : BitVec 13) (s : State), hasWindow s p = true → attached s p = true →
      ((s.hp p).reqBusy = true → ∃ t, exec (.mailboxDoorbell dt p len) s = .next t ∧ (t.hp p).overrun = true ∧
        (t.hp p).msg = (s.hp p).msg) ∧
      ((s.hp p).reqBusy = false → (s.hp p).rspReady = true → ∃ t, exec (.mailboxDoorbell dt p len) s = .next t ∧
        (t.hp p).held = true ∧ (t.hp p).reqBusy = true ∧ (t.hp p).msg = some (msgOf (bufferWords (s.hp p) len.toNat)) ∧
        t.hst.order = s.hst.order ++ [p.val]) ∧
      ((s.hp p).reqBusy = false → (s.hp p).rspReady = false → 16 ≤ len.toNat → len.toNat % 4 = 0 → len.toNat ≤ maxMsg s p →
        lenField (bufferWords (s.hp p) len.toNat) + 16 = len.toNat → (msgOf (bufferWords (s.hp p) len.toNat)).opcode ≠ 1 →
        ((s.hp p).session = false → ∃ t r, exec (.mailboxDoorbell dt p len) s = .next t ∧ .resp p r ∈ t.out ∧ r.status = 0x01 ∧
          r.tag = (msgOf (bufferWords (s.hp p) len.toNat)).tag ∧ (t.hp p).reqBusy = false) ∧
        ((s.hp p).session = true →
          (msgOf (bufferWords (s.hp p) len.toNat)).maj * 256 + (msgOf (bufferWords (s.hp p) len.toNat)).min = (s.hp p).version →
          (opcodes.any (fun o => o.1 == (msgOf (bufferWords (s.hp p) len.toNat)).opcode && decide (o.2 ≤ (s.hp p).version))) = true →
          ∃ t, exec (.mailboxDoorbell dt p len) s = .next t ∧ (t.hp p).held = false ∧ (t.hp p).reqBusy = true ∧
            (t.hp p).msg = some (msgOf (bufferWords (s.hp p) len.toNat)) ∧ t.hst.order = s.hst.order ++ [p.val]))) ∧
  (∀ (dt : Nat) (p : Fin 8) (s : State), hasWindow s p = true →
      ((s.hp p).rspReady = true → (s.hp p).held = false →
        ∃ t, exec (.rspAck dt p) s = .next t ∧ (t.hp p).rspReady = false ∧ (t.hp p).msg = (s.hp p).msg ∧ t.hst.order = s.hst.order) ∧
      ((s.hp p).reqBusy = true → waits s p = false →
        ∃ t, exec (.abort dt p) s = .next t ∧ (t.hp p).reqBusy = false ∧ (t.hp p).msg = none ∧ t.hst.order = s.hst.order.erase p.val) ∧
      ((s.hp p).reqBusy = true → waits s p = true →
        ∃ t, exec (.abort dt p) s = .next t ∧ (t.hp p).reqBusy = false ∧ (t.hp p).drop = true ∧ t.trans = s.trans))


/-- A datagram (R388, R400, R407): the repeat of the last TAG executed has its stored response resent and nothing executed; one whose header
passes, while none of the partition waits, waits for its turn. -/
def Obligations.DatagramArrives : Prop :=
  ∀ (dt : Nat) (p : Fin 8) (ws : List Word) (s : State), s.pn 17 p 1 = 3 → attached s p = true → (s.hp p).msg = none →
    ((s.hp p).lastTag = some (msgOf ws).tag → ∃ t, exec (.udpMessageRx dt p ws) s = .next t ∧
      told t = [.resp p (s.hp p).lastRsp] ∧ (t.hp p).msg = none ∧ t.hst.order = s.hst.order) ∧
    ((s.hp p).lastTag ≠ some (msgOf ws).tag → (s.hp p).behind = [] → headerRefusal s p (msgOf ws) (4 * ws.length) (lenField ws) = none →
      ∃ t, exec (.udpMessageRx dt p ws) s = .next t ∧ (t.hp p).msg = some (msgOf ws) ∧ (t.hp p).reqBusy = true ∧
        t.hst.order = s.hst.order ++ [p.val])

/-- Writes through a window (R395, R396, Table 14-3, Table 14-4): a word of the request buffer reads back and leaves every other word; IRQ_EN takes the
value; IRQ_STAT is cleared by ones. The windows of the other partitions do not change. The PCIe link comes up in any powered state but PARKED (R386, R389, Table 1-3), and a read of a TIME block takes its eight words into the partition's
holding register (R66). -/
def Obligations.WindowsAndLink : Prop :=
  (∀ (dt : Nat) (p : Fin 8) (v : Word) (s : State), hasWindow s p = true →
    (∀ i : Fin 1024, (s.hp p).reqBusy = false → bufferWf (s.hp p).reqBuf = true →
      ∃ t, exec (.registerWrite dt p (BitVec.ofNat 15 (0x2000 + 4 * i.val)) v) s = .next t ∧ tabGet (t.hp p).reqBuf i 0 = v ∧
        (∀ j : Nat, j ≠ i → tabGet (t.hp p).reqBuf j 0 = tabGet (s.hp p).reqBuf j 0) ∧ (∀ q : Fin 8, q ≠ p → t.hp q = s.hp q)) ∧
    (∃ t, exec (.registerWrite dt p 0x18 v) s = .next t ∧ (t.hp p).irqEn = v.truncate 4 ∧ ∀ q : Fin 8, q ≠ p → t.hp q = s.hp q) ∧
    (∃ t, exec (.registerWrite dt p 0x14 v) s = .next t ∧ (t.hp p).irqStat = (s.hp p).irqStat &&& ~~~(v.truncate 4) ∧
      ∀ q : Fin 8, q ≠ p → t.hp q = s.hp q)) ∧
  (∀ (dt : Nat) (p : Fin 8) (s : State),
    (s.dev.powered = true → s.dev ≠ .parked → ∃ t, exec (.pcieLinkUp dt) s = .next t ∧ t.lanes.pcie = true) ∧
    (∀ k : Fin 4, hasWindow s p = true → ∃ t, exec (.timeStatRead dt p k) s = .next t ∧
      tabGet (t.hp p).timeSnap k [] = timeWords (s.begin dt) k ∧ .read p ((timeWords (s.begin dt) k).headD 0) ∈ t.out))

/-! State commands (R24 to R27). -/

/-- ARM and PARK of the token holder are answered with the tick instant at which they act, and wait for it; START and RESUME wait for theirs without an
answer (R24, R27, R406); in the wrong state ARM, START, PARK and RESUME are refused with WRONG_STATE, and without the token with
NO_TOKEN (R27, R393). -/
def Obligations.StateCommands : Prop :=
  ∀ (dt : Nat) (p : Fin 8) (s : State),
    (Granted p 0x0201 0x300 .token true s → s.dev = .parked → s.sys.bist ≠ 1 →
      checkAll (fullCand (takeMsg p 0x0201 (s.begin dt)) []) = none →
      ∃ t, exec (.arm dt p) s = .next t ∧ Answered p 0x0201 0 (wI (applyTick (s.begin dt))) s t ∧
        ∃ e ∈ t.trans, e.kind = 0 ∧ e.part = p.val ∧ e.tick = applyTick (s.begin dt)) ∧
    (Granted p 0x0203 0x300 .token true s → s.dev = .armed →
      ∃ t, exec (.park dt p) s = .next t ∧ Answered p 0x0203 0 (wI (applyTick (s.begin dt))) s t ∧
        ∃ e ∈ t.trans, e.kind = 2 ∧ e.part = p.val ∧ e.tick = applyTick (s.begin dt)) ∧
    (Granted p 0x0202 0x300 .token true s → s.dev = .armed →
      ∃ t, exec (.start dt p) s = .next t ∧ ∃ e ∈ t.trans, e.kind = 1 ∧ e.part = p.val ∧ e.tick = applyTick (s.begin dt)) ∧
    (Granted p 0x0204 0x300 .token true s → s.dev = .blocked →
      ∃ t, exec (.resume dt p) s = .next t ∧ ∃ e ∈ t.trans, e.kind = 3 ∧ e.part = p.val ∧ e.tick = applyTick (s.begin dt)) ∧
    (∀ c ∈ [(Instr.start dt p, 0x0202, Dev.armed), (.park dt p, 0x0203, .armed), (.resume dt p, 0x0204, .blocked)],
      Granted p c.2.1 0x300 .token true s → s.dev ≠ c.2.2 →
      ∃ t, exec c.1 s = .next t ∧ t.trans = s.trans ∧ Answered p c.2.1 0x23 [BitVec.ofNat 32 (devCode s.dev), 0] s t) ∧
    (∀ c ∈ [(Instr.arm dt p, 0x0201), (.start dt p, 0x0202), (.park dt p, 0x0203), (.resume dt p, 0x0204)],
      Accepts p c.2 0x300 s → s.hst.token ≠ p.val → notActive s = false →
      ∃ t, exec c.1 s = .next t ∧ t.trans = s.trans ∧ Answered p c.2 0x11 [BitVec.ofNat 32 s.hst.token, 0] s t)

/-- BLOCK of the token holder, or of a partition with SAFETY, takes the device from RUN to BLOCKED at once, whatever the operand's time, and discards every unreleased
edge record (R24, R27, Table 1-4). RESET with SERVICE outside the live states (R478, Tables 1-4, 14-8, 19-1 and 19-2): of reach SYSTEM it is answered and the device is in BOOT at release step 2;
another reach than SYSTEM and ENGINE is OUT_OF_RANGE (DESIGN CHOICE, notes/assumptions/6.md). -/
def Obligations.BlockAndResetAct : Prop :=
  (∀ (dt : Nat) (p : Fin 8) (s : State),
    Granted p 0x0205 0x300 (.tokenOr pvSafety) (!hasPriv s p pvSafety) s → s.dev = .run →
    ∃ t, exec (.block dt p) s = .next t ∧ t.dev = .blocked ∧ (∀ e ∈ t.mod.unrel, 256 ≤ e.ch) ∧ Answered p 0x0205 0 [] s t) ∧
  (∀ (dt : Nat) (p : Fin 8) (s : State), Granted p 0x0207 0x300 (.priv pvService) false s → s.dev.live = false →
    (s.sys.asserted = [] → s.sys.step = 9 → s.dev ≠ .boot → ∃ t, exec (.reset dt p 1) s = .next t ∧ t.dev = .boot ∧ t.sys.step = 2 ∧
      t.sys.cause = 0x0206 ∧ t.hst.token = 15 ∧ Answered p 0x0207 0 [] s t) ∧
    (∀ reach : Word, reach ≠ 1 → reach ≠ 2 → ∃ t, exec (.reset dt p reach) s = .next t ∧ t.dev = s.dev ∧
      Answered p 0x0207 0x21 [reach, 0] s t))

/-! Fields whose write is a command (R403). -/

/-- The answer to an accepted write: the tick instant at which it acts. -/
def Sys2Proof.Machine.TickAnswered (dt p : Nat) (s t : State) : Prop := Answered p 0x0302 0 (wI (applyTick (s.begin dt))) s t

/-- FAULT_CLEAR and FAULT_IN_CLEAR in a device that is no pair member (R188, R259, Table 14-9): the named faults whose conditions hold are no longer
held and every other stays; a fault whose source is active, and a latch whose pin is high, are refused with SOURCE_ACTIVE and stay; a name in 0x6xxx is refused with
SAFETY_OWNED. -/
def Obligations.FaultsClearByCommand : Prop :=
  ∀ (dt : Nat) (p : Fin 8) (s : State), FieldGranted p .token s → s.pairEn = false →
    (∀ name : Word, (∀ h ∈ s.spu.held, h.clearing = false) → (name.toNat ≠ max32 → codeIsSafety (name.toNat / 65536) = false) →
      (∀ h ∈ namedFaults s name.toNat, codeIsSafety h.lr.code = false ∧ latchedSat h = false ∧ clearable (s.begin dt) h = true) →
      ∃ t, exec (.faultClear dt p name) s = .next t ∧ TickAnswered dt p s t ∧
        t.spu.held = s.spu.held.filter (fun h => !(name.toNat == max32 || faultName h == name.toNat))) ∧
    (∀ (name : Word) (h : Held), (∀ x ∈ s.spu.held, x.clearing = false) → name.toNat ≠ max32 → codeIsSafety (name.toNat / 65536) = false →
      namedFaults s name.toNat = [h] → clearable (s.begin dt) h = false →
      ∃ t, exec (.faultClear dt p name) s = .next t ∧ t.spu.held = s.spu.held ∧
        Answered p 0x0302 0x40 [BitVec.ofNat 32 h.lr.code, BitVec.ofNat 32 h.lr.index] s t) ∧
    (∀ name : Word, name.toNat ≠ max32 → codeIsSafety (name.toNat / 65536) = true →
      ∃ t, exec (.faultClear dt p name) s = .next t ∧ t.spu.held = s.spu.held ∧
        Answered p 0x0302 0x45 [BitVec.ofNat 32 (name.toNat / 65536), 0] s t) ∧
    (∀ mask low : BitVec 4, mask &&& ~~~low = 0 → ∃ t, exec (.faultInClear dt p mask low) s = .next t ∧ TickAnswered dt p s t ∧
      t.mod.latch = s.mod.latch &&& ~~~mask) ∧
    (∀ mask low : BitVec 4, mask &&& ~~~low ≠ 0 → ∃ (t : State) (i : Fin 4), exec (.faultInClear dt p mask low) s = .next t ∧
      mask[i] = true ∧ low[i] = false ∧ t.mod.latch = s.mod.latch ∧
      Answered p 0x0302 0x40 [BitVec.ofNat 32 (0x2301 + i), BitVec.ofNat 32 i] s t)

/-- FORCE takes its value for its channel alone (R182); PRESTART_RUN starts a sweep of every satellite that has a channel to sweep, in
ARMED only (R264, R265); BLOCK_RESET waits for its block, out of RUN at once for a block of the tick path, is discarded while a release sequence runs, and is refused with
WRONG_STATE where the engines do not run (R480, R485); START_CLEAR takes both counts and the fallback flag to zero (R495). -/
def Obligations.TokenFieldsAct : Prop :=
  ∀ (dt : Nat) (p : Fin 8) (s : State),
    (∀ (c : Fin 256) (v : BitVec 4), FieldGranted p .token s → s.pairEn = false → ∃ t, exec (.force dt p c v) s = .next t ∧
      TickAnswered dt p s t ∧ t.pn 3 c 7 = v.toNat ∧ ∀ id, id ≠ mkId 3 c 7 → tabGet? t.par id = tabGet? s.par id) ∧
    (FieldGranted p .token s → s.pairEn = false → s.dev = .armed → ∃ t, exec (.prestartRun dt p) s = .next t ∧ TickAnswered dt p s t ∧
      ∀ (q : Fin 64) (a : Sat) (j : Nat), s.pn 5 q 1 = 1 → (s.port q).st = .ready → s.pn 4 0x400 0x10 = 1 →
        (s.port q).sats.find? (fun x => x.hop == a.hop) = some a → j < a.chans → modeOf s (4 * q + (a.first + j)) ≠ 0 →
        t.spu.prestart = 1 ∧ ∃ w ∈ t.spu.sweeps, w.port = q ∧ w.hop = a.hop ∧ w.step = 0) ∧
    (FieldGranted p .token s → s.dev ≠ .armed → ∃ t, exec (.prestartRun dt p) s = .next t ∧ t.spu.prestart = s.spu.prestart ∧
      Answered p 0x0302 0x23 [BitVec.ofNat 32 (devCode s.dev), 0] s t) ∧
    (∀ code : Word, FieldGranted p .token s → blockKnown code.toNat = true → s.dev.live = true → ∃ t, exec (.blockReset dt p code) s = .next t ∧
      TickAnswered dt p s t ∧ (if s.sys.step = 9 then ∃ e ∈ t.sys.blk, e.1 = code.toNat else t.sys.blk = s.sys.blk) ∧
      t.dev = if perTickBlock code.toNat = true ∧ s.dev = .run then .blocked else s.dev) ∧
    (∀ code : Word, FieldGranted p .token s → blockKnown code.toNat = true → s.dev.live = false → ∃ t, exec (.blockReset dt p code) s = .next t ∧
      t.sys.blk = s.sys.blk ∧ t.dev = s.dev ∧ Answered p 0x0302 0x23 [BitVec.ofNat 32 (devCode s.dev), 0] s t) ∧
    (Granted p 0x0302 0x300 (.priv pvService) false s → ∃ t, exec (.startClear dt p) s = .next t ∧ TickAnswered dt p s t ∧
      t.sys.att0 = 0 ∧ t.sys.att1 = 0 ∧ t.sys.fallback = false ∧ t.sys.activeSlot = s.sys.opt.bootSlot)

/-- GFE_ALT_RESET and ALT_RESET (R101, R158, R159, Table 14-9): where every input that stands on its alternate has a valid primary, the command waits for the next tick
instant and nothing has moved; otherwise it is refused with SOURCE_INVALID and nothing waits. Taken at its tick instant, every input of that instance or slot
stands on its primary again with its count of invalid ticks starting afresh, and the other instances and slots stay. -/
def Obligations.AlternatesReset : Prop :=
  (∀ (dt : Nat) (p : Fin 8) (s : State), FieldGranted p .token s →
      (∀ k : Fin 4, ((s.gfi k).lossV.alt = true → (s.gfi k).lossV.priOk = true) → ((s.gfi k).lossI.alt = true → (s.gfi k).lossI.priOk = true) →
        ∃ t, exec (.gfeAltReset dt p k) s = .next t ∧ TickAnswered dt p s t ∧ t.gfe = s.gfe ∧
          t.pend = s.pend ++ [{ id := mkId 1 k 0x12, val := 1, tick := applyTick (s.begin dt) }]) ∧
      (∀ k : Fin 4, (s.gfi k).lossV.alt = true → (s.gfi k).lossV.priOk = false → ∃ t, exec (.gfeAltReset dt p k) s = .next t ∧
        t.gfe = s.gfe ∧ t.pend = s.pend ∧ Answered p 0x0302 0x37 [BitVec.ofNat 32 k, BitVec.ofNat 32 (s.pn 1 k 5)] s t) ∧
      (∀ k : Fin 64, (∀ e ∈ (s.slot k).inp, e.2.alt = true → e.2.priOk = true) →
        ∃ t, exec (.altReset dt p k) s = .next t ∧ TickAnswered dt p s t ∧ t.lpe = s.lpe ∧
          t.pend = s.pend ++ [{ id := mkId 2 k 6, val := 1, tick := applyTick (s.begin dt) }]) ∧
      (∀ (k : Fin 64) (e : Nat × Loss), (s.slot k).inp = [e] → e.2.alt = true → e.2.priOk = false →
        ∃ t, exec (.altReset dt p k) s = .next t ∧ t.lpe = s.lpe ∧ t.pend = s.pend ∧
          Answered p 0x0302 0x37 [BitVec.ofNat 32 k, BitVec.ofNat 32 e.1] s t)) ∧
  (∀ (n : Int) (v : Wire) (tick : Int) (s : State),
      (∀ k : Fin 4, ((takePend n { id := mkId 1 k 0x12, val := v, tick := tick } s).gfi k).lossV.alt = false ∧
        ((takePend n { id := mkId 1 k 0x12, val := v, tick := tick } s).gfi k).lossI.alt = false ∧
        ∀ j : Fin 4, j ≠ k → (takePend n { id := mkId 1 k 0x12, val := v, tick := tick } s).gfi j = s.gfi j) ∧
      (∀ k : Fin 64, ((takePend n { id := mkId 2 k 6, val := v, tick := tick } s).slot k).inp = (s.slot k).inp.map (fun e =>
          (e.1, if e.2.alt then { e.2 with alt := false, cnt := 0, lost := false, doomed := 0 } else e.2)) ∧
        ∀ j : Nat, j ≠ k → (takePend n { id := mkId 2 k 6, val := v, tick := tick } s).slot j = s.slot j))


/-- In a pair the ACTIVE member answers a command field of the engines with a tick instant at least two ticks ahead, at which both members carry
it out: until then it waits and no field has changed (R138, R246, R403). -/
def Obligations.FieldsWaitInPair : Prop :=
  ∀ (dt : Nat) (p : Fin 8) (s : State), FieldGranted p .token s → s.pairEn = true → s.dev = .armed →
    (∀ (c : Instr) (id v : Nat),
      (c, id, v) ∈ [(Instr.prestartRun dt p, mkId 4 0x400 0x31, 1), (.decReset dt p, mkId 7 0x200 1, 1)] ∨
      (∃ (k : Fin 4), (s.gfi k).lossV.alt = false ∧ (s.gfi k).lossI.alt = false ∧ c = .gfeAltReset dt p k ∧ id = mkId 1 k 0x12 ∧ v = 1) ∨
      (∃ (k : Fin 64), (s.slot k).inp = [] ∧ c = .altReset dt p k ∧ id = mkId 2 k 6 ∧ v = 1) ∨
      (∃ m : BitVec 4, c = .faultInClear dt p m m ∧ id = mkId 3 0x400 1 ∧ v = m.toNat) ∨
      (∃ (x : Fin 256) (m : BitVec 4), c = .force dt p x m ∧ id = mkId 3 x 7 ∧ v = m.toNat + (p.val + 1) * 2 ^ 32) →
      ∃ t, exec c s = .next t ∧ TickAnswered dt p s t ∧ t.par = s.par ∧
        t.pend = s.pend ++ [{ id := id, val := BitVec.ofNat 64 v, tick := applyTick (s.begin dt) }] ∧
        (s.begin dt).tickNow + 2 ≤ applyTick (s.begin dt))

/-- DEC_RESET, REC_TRIGGER and REC_RESTART (R288, R319, R327): in ARMED and BLOCKED every IN group with SYNC_EN resets its
decimators 25 ns on, and only those; the named running streams fire at the next tick instant; the named stopped streams
run again, and a named stream that runs refuses the whole with WRONG_STATE. -/
def Obligations.StreamCommands : Prop :=
  ∀ (dt : Nat) (p : Fin 8) (s : State),
    (FieldGranted p .token s → s.pairEn = false → s.dev = .armed ∨ s.dev = .blocked → ∃ t, exec (.decReset dt p) s = .next t ∧
      TickAnswered dt p s t ∧ ∀ g : Fin 6, (vget t.bsd.grp g {}).resetDue =
        if s.pn 7 (0x100 + g) 1 = 0 ∧ s.pn 7 (0x100 + g) 5 = 1
        then some ((vget s.bsd.grp g {}).resetDue.getD ((s.begin dt).nowStep + 400)) else (vget s.bsd.grp g {}).resetDue) ∧
    (FieldGranted p .token s → s.dev ≠ .armed → s.dev ≠ .blocked → s.pinsHold = true → ∃ t, exec (.decReset dt p) s = .next t ∧ t.bsd = s.bsd ∧
      Answered p 0x0302 0x23 [BitVec.ofNat 32 (devCode s.dev), 0] s t) ∧
    (∀ mask : BitVec 4, FieldGranted p (.priv pvConfigure) s → s.pairEn = false → ∃ t, exec (.recTrigger dt p mask) s = .next t ∧ TickAnswered dt p s t ∧
      ∀ i : Fin 4, (rst t i).fires = (rst s i).fires ++ (if mask[i] = true ∧ (rst s i).run = 1
        then [{ src := 8, time := ((s.begin dt).tickAt ((s.begin dt).tickNow + 1)).toNat }] else [])) ∧
    (∀ mask : BitVec 4, FieldGranted p (.priv pvConfigure) s → s.pairEn = false → (∀ i : Fin 4, mask[i] = true → (rst s i).run ≠ 1) →
      ∃ t, exec (.recRestart dt p mask) s = .next t ∧ TickAnswered dt p s t ∧
        ∀ i : Fin 4, (rst t i).run = if mask[i] = true ∧ (rst s i).run = 2 then 1 else (rst s i).run) ∧
    (∀ (mask : BitVec 4) (i : Fin 4), FieldGranted p (.priv pvConfigure) s → mask[i] = true → (rst s i).run = 1 →
      ∃ t, exec (.recRestart dt p mask) s = .next t ∧ t.recd = s.recd ∧ Answered p 0x0302 0x23 [BitVec.ofNat 32 (devCode s.dev), 0] s t)

/-- Commands on a lane (R431 to R437): PRBS_CHK zeroes both counters; ERR_INJ inverts one bit of the generator's stream, or a burst, and
a checker locked through a near-end loop counts them; a scan holds the checker until it ends with its two margins; PWR_REQ puts an Ethernet or unused lane in its
power state; LOOP masks the detectors of a near-end loop, and its end is accepted in every state. The other lanes stay. -/
def Obligations.LaneCommands : Prop :=
  ∀ (dt : Nat) (p : Fin 8) (n : Fin 64) (s : State), FieldGranted p .token s →
    (∀ v : Fin 5, 3 ≤ proto s n → ∃ t, exec (.prbsChk dt p n v) s = .next t ∧ TickAnswered dt p s t ∧ t.pn 14 n 11 = v ∧
      (lane t n).prbsLock = false ∧ (lane t n).prbsBits = 0 ∧ (lane t n).prbsErrs = 0 ∧ ∀ m : Nat, m ≠ n → lane t m = lane s m) ∧
    (∀ v : Word, (v.getLsbD 31 = true → v.toNat % 64 ≠ 1) → lf s.wire n 10 ≠ 0 → ∃ t, exec (.errInj dt p n v) s = .next t ∧
      TickAnswered dt p s t ∧ .inject n (if v.getLsbD 31 then (if v.toNat % 64 = 0 then 64 else v.toNat % 64) else 1) ∈ t.out ∧
      (∀ m : Nat, m ≠ n → lane t m = lane s m)) ∧
    (laneReady s n = false → ∃ t, exec (.marginScan dt p n) s = .next t ∧ TickAnswered dt p s t ∧ (lane t n).scanning = true ∧
      ∀ m : Nat, m ≠ n → lane t m = lane s m) ∧
    (∀ (h : Fin 1025) (v : Nat), (lane s n).scanning = true → ∃ t, exec (.marginScanDone dt n h v) s = .next t ∧
      (lane t n).scanning = false ∧ (lane t n).hMargin = h ∧ (lane t n).vMargin = v ∧ ∀ m : Nat, m ≠ n → lane t m = lane s m) ∧
    (∀ v : Fin 3, 3 ≤ proto s n → s.dev ≠ .parked → loopOf s n = 0 → ∃ t, exec (.pwrReq dt p n v) s = .next t ∧ TickAnswered dt p s t ∧
      (if v.val ≠ 2 ∧ (lane s n).pst = 2 then (lane t n).exitTo = some v.val else (lane t n).pst = v) ∧
      ∀ m : Nat, m ≠ n → lane t m = lane s m) ∧
    (∀ v : Fin 4, proto s n = 5 → v.val = 0 ∨ s.dev = .armed ∨ s.dev = .blocked ∨ s.dev = .boot → (v.val = 3 → lf s.wire n 10 = 0) →
      ∃ t, exec (.loop dt p n v) s = .next t ∧ TickAnswered dt p s t ∧ loopOf t n = v ∧
        (v.val = 1 ∨ v.val = 2 → (lane t n).los = false ∧ (lane t n).lol = false ∧ (lane t n).sync = false))

/-- OPLL_RETUNE and CLKOUT_DIV_CHANGE within the limits of R450 are accepted and act at acceptance (R453): the OPLL acquires at words that differ from those in force,
and the output loads its divider; a VCO outside its range is OUT_OF_RANGE and changes nothing. OPLL_STEER moves the fraction towards the timebase's rate once a
millisecond by a bounded part and never beyond ±200 ppm (R454); SYNC_IN is only counted in RUN (R287, R456) and too short a pulse does nothing. -/
def Obligations.ClocksAreSet : Prop :=
  (∀ (dt : Nat) (p : Fin 8) (s : State), FieldGranted p .token s →
      (∀ ni nf dith seed : Word,
        (opClkSet [(mkId 13 0x100 1, BitVec.ofNat 64 ni.toNat), (mkId 13 0x100 2, BitVec.ofNat 64 nf.toNat),
          (mkId 13 0x100 3, BitVec.ofNat 64 dith.toNat), (mkId 13 0x100 4, BitVec.ofNat 64 seed.toNat)]).check s = none →
        ∃ t, exec (.opllRetune dt p ni nf dith seed) s = .next t ∧ TickAnswered dt p s t ∧ t.clk.nInt = ni.toNat ∧
          t.clk.nFrac = nf.toNat ∧ t.clk.dither = (dith == 1) ∧ t.clk.seed = seed.toNat ∧
          t.clk.opll = (if s.clk.opll = .off ∨ (s.clk.nInt = ni.toNat ∧ s.clk.nFrac = nf.toNat ∧ s.clk.dither = (dith == 1) ∧ s.clk.seed = seed.toNat)
            then s.clk.opll else .acquiring) ∧
          100 * 2 ^ 24 ≤ ni.toNat * 2 ^ 24 + nf.toNat ∧ ni.toNat * 2 ^ 24 + nf.toNat ≤ 140 * 2 ^ 24) ∧
      (∀ (c : Fin 8) (v : Wire), (opClkSet [(mkId 13 c 4, v)]).check s = none → ∃ t, exec (.clkoutDivChange dt p c false v) s = .next t ∧
        TickAnswered dt p s t ∧ (clkOut t c).div = lo32 v ∧ ∀ d : Fin 8, d ≠ c → clkOut t d = clkOut s d)) ∧
  (∀ (dt : Nat) (s : State),
      (s.clk.opll ≠ .off → s.clk.steer.natAbs ≤ 219902325 → (∀ a, s.clk.steerAt = some a → a + 16000000 ≤ s.clock + dt) →
        ∃ t, exec (.opllSteer dt) s = .next t ∧ t.clk.steer.natAbs ≤ 219902325 ∧ t.clk.steerAt = some (s.clock + dt) ∧
        ((t.clk.steer - s.clk.steer).natAbs ≤ 25000 * 2 ^ 40 / max (s.clk.nInt * 2 ^ 24 + s.clk.nFrac) 1)) ∧
      (∀ a : Nat, s.clk.steerAt = some a → s.clock + dt < a + 16000000 → ∃ t, exec (.opllSteer dt) s = .next t ∧ t.clk = s.clk) ∧
      (∀ width : Nat, 320 ≤ width → s.dev = .run → s.pinsHold = true → ∃ t, exec (.syncInEdge dt width) s = .next t ∧
        t.bsd = { s.bsd with syncIgnored := sat32 s.bsd.syncIgnored } ∧ t.clk = { s.clk with syncIgnored := sat32 s.clk.syncIgnored }) ∧
      (∀ width : Nat, 320 ≤ width → s.dev = .armed ∨ s.dev = .blocked → ∃ t, exec (.syncInEdge dt width) s = .next t ∧
        (∀ g : Fin 6, s.pn 7 (0x100 + g) 1 = 0 → s.pn 7 (0x100 + g) 5 = 1 →
          (vget t.bsd.grp g {}).resetDue = some ((vget s.bsd.grp g {}).resetDue.getD ((s.begin dt).nowStep + 400))) ∧
        ∀ c : Fin 8, srcTb s c = true ∨ s.pn 13 c 6 = 0 → clkOut t c = clkOut s c) ∧
      (∀ width : Nat, width < 320 → s.pinsHold = true → ∃ t, exec (.syncInEdge dt width) s = .next t ∧ t.bsd = s.bsd ∧ t.clk = s.clk))

/-- TX_REQ, TX_ABORT and CAN_RECOVER (R466, R469, R471): a requested buffer is PENDING unless it was PENDING or SENDING; a PENDING one that is aborted is
ABORTED at once and a SENDING one at the end of its attempt; recovery counts in BUS_OFF only; the other controllers stay. -/
def Obligations.CanCommands : Prop :=
  ∀ (dt : Nat) (p : Fin 8) (n : Fin 4) (s : State), FieldGranted p .token s →
    (∀ mask : BitVec 3, (opTxReq n mask.toNat).check s = none → ∃ t, exec (.txReq dt p n mask) s = .next t ∧ TickAnswered dt p s t ∧
      (∀ b : Fin 3, (txb t n b).st = if mask[b] = true ∧ (txb s n b).st ≠ 2 then 1 else (txb s n b).st) ∧
      ∀ m : Fin 4, m ≠ n → can t m = can s m) ∧
    (∀ mask : BitVec 3, (mask[2] = false ∨ islandOwns s n = false) → ∃ t, exec (.txAbort dt p n mask) s = .next t ∧ TickAnswered dt p s t ∧
      (∀ b : Fin 3, (txb t n b).st = (if mask[b] = true ∧ (txb s n b).st = 1 then 5 else (txb s n b).st) ∧
        (txb t n b).abort = ((txb s n b).abort || (mask[b] && (txb s n b).st == 2))) ∧
      ∀ m : Fin 4, m ≠ n → can t m = can s m) ∧
    ((can s n).st = 4 → ∃ t, exec (.canRecover dt p n) s = .next t ∧ TickAnswered dt p s t ∧ (can t n).counting = true ∧
      ∀ m : Fin 4, m ≠ n → can t m = can s m) ∧
    ((can s n).st ≠ 4 → ∃ t, exec (.canRecover dt p n) s = .next t ∧ t.can = s.can ∧
      Answered p 0x0302 0x23 [BitVec.ofNat 32 (devCode s.dev), 0] s t)

/-- The commands of a SAFETY partition (R364, R367, R379): a demand waits for the safety cycle, whatever the state; a reset is asked for where RESET_HOST_EN is 1 and
refused with WRONG_STATE elsewhere; SAFE_CONFIRM with the pending set's check value makes the set effective and confirmed, and with
another answers both values and changes nothing. ROLE_SWAP at a member that is not ACTIVE goes to the partner (R350). -/
def Obligations.SafetyAndSwapCommands : Prop :=
  ∀ (dt : Nat) (p : Fin 8) (s : State),
    (FieldGranted p (.priv pvSafety) s →
      (∃ t, exec (.sgbDemand dt p) s = .next t ∧ TickAnswered dt p s t ∧ t.sfi.detected = s.sfi.detected ++ [(0x6005, 0, [])]) ∧
      (sf s 0x300 3 = 1 → ∃ t, exec (.sgbReset dt p) s = .next t ∧ TickAnswered dt p s t ∧ t.sfi.resetReq = true) ∧
      (sf s 0x300 3 ≠ 1 → ∃ t, exec (.sgbReset dt p) s = .next t ∧ t.sfi.resetReq = s.sfi.resetReq ∧
        Answered p 0x0302 0x23 [BitVec.ofNat 32 (devCode s.dev), 0] s t) ∧
      (∀ v : Word, safetyPend s = true → v.toNat = crcPending s → ∃ t, exec (.safeConfirm dt p v) s = .next t ∧ TickAnswered dt p s t ∧
        t.sfi.setConfirmed = true ∧ t.sfi.crcEff = v.toNat ∧ safetyPend t = false) ∧
      (∀ v : Word, safetyPend s = true → v.toNat ≠ crcPending s → ∃ t, exec (.safeConfirm dt p v) s = .next t ∧ t.pend = s.pend ∧
        t.par = s.par ∧ t.sfi.setConfirmed = s.sfi.setConfirmed ∧
        Answered p 0x0302 0x46 [BitVec.ofNat 32 (crcPending s), v] s t)) ∧
    (FieldGranted p (.priv pvService) s → s.pairEn = true → s.rdn.role ≠ 0 → s.rdn.role ≠ 1 → (vget s.rdn.lane 0 {}).up = true →
      ∃ t n, exec (.roleSwap dt p) s = .next t ∧ TickAnswered dt p s t ∧ .peer 8 n (.role 3 0) ∈ t.out) ∧
    (FieldGranted p (.priv pvService) s → s.rdn.role = 1 → swapRefusal s = none →
      ∃ t, exec (.roleSwap dt p) s = .next t ∧ TickAnswered dt p s t ∧ t.rdn.swapAt = some ((s.begin dt).tickNow + 2))

/-! CAN FD, clocks and lanes. -/

/-- A controller starts the PENDING buffer that R467 picks, and its frame leaves, with ESI in an FD frame of an ERROR_PASSIVE controller. A received frame that a filter accepts and that is not the island's goes into the FIFO with its filter and the mark of a loss before it; into a full one it is lost, counted and
held as a fault (R472, Table 18-7). -/
def Obligations.CanFramesMove : Prop :=
  (∀ (dt : Nat) (n : Fin 4) (b : Fin 3) (s : State), (can s n).st = 2 ∨ (can s n).st = 3 → cf s n 1 = 1 → (∀ c : Fin 3, (txb s n c).st ≠ 2) →
    (txb s n b).st = 1 → (∀ c : Fin 3, c ≠ b → (txb s n c).st = 1 →
      if cf s n 14 = 1 then b < c
      else arbKey (bufFrame s n b) < arbKey (bufFrame s n c) ∨ (arbKey (bufFrame s n b) = arbKey (bufFrame s n c) ∧ b < c)) →
    ∃ t, exec (.canTxStart dt n) s = .next t ∧ (txb t n b).st = 2 ∧ (txb t n b).sof = (s.begin dt).now ∧
      .can n (bufFrame s n b) ((bufFrame s n b).fdf && (can s n).st == 3) ∈ t.out ∧ (∀ c : Fin 3, c ≠ b → txb t n c = txb s n c) ∧ ∀ m : Fin 4, m ≠ n → can t m = can s m) ∧
  (∀ (dt : Nat) (n : Fin 4) (fr : CanFrame) (esi : Bool) (age : Nat) (f : Nat) (s : State),
    (can s n).st = 2 ∨ (can s n).st = 3 → (fr.fdf = true → cf s n 2 ≠ 0) → islandFrame s n fr = none →
    (List.range 16).find? (filterHits s n fr) = some f →
    ((can s n).fifo.length < 32 → ∃ t, exec (.canFrameRx dt n fr esi age) s = .next t ∧
      (can t n).fifo = (can s n).fifo ++
        [{ time := (s.begin dt).now - age * 4096, frame := fr, esi := esi, lost := (can s n).lostMark, filter := f }]) ∧
    (32 ≤ (can s n).fifo.length → ∃ t, exec (.canFrameRx dt n fr esi age) s = .next t ∧ (can t n).fifo = (can s n).fifo ∧
      (can t n).rxLost = sat32 (can s n).rxLost ∧ isHeld (0x3330 + n) 0 0 t = true))

/-- Error counts and error states (R470, R471, Table 18-4): a frame sent without error lowers TEC by 1 and its buffer is SENT, or PENDING again where the island has a newer SPDU for TXB[2] (R475); an error raises TEC by 8 and the buffer waits
again; at 256 the controller is in BUS_OFF with its fault held and the buffer PENDING; REC rises by 1, or by 8 for a dominant bit after
the flag; 11 recessive bits end bus integration, and 128 of them BUS_OFF with both counts zero. -/
def Obligations.CanErrorStates : Prop :=
  ∀ (dt : Nat) (n : Fin 4) (s : State), (can s n).goOff = false → (can s n).restart = false →
    (∀ (b : Fin 3) (tdc : Nat), (can s n).st = 2 ∨ (can s n).st = 3 → (txb s n b).st = 2 → (∀ c : Fin 3, c < b → (txb s n c).st ≠ 2) →
      ((can s n).tec < 256 → ∃ t, exec (.canTxAttemptEnd dt n .success tdc) s = .next t ∧
        (txb t n b).st = (if b.val = 2 ∧ (can s n).safety ≠ none ∧ (can s n).safety ≠ (can s n).sending then 1 else 3) ∧
        (can t n).tec = (can s n).tec - 1 ∧ ∀ m : Fin 4, m ≠ n → can t m = can s m) ∧
      ((can s n).tec < 248 → (txb s n b).abort = false → 16 ≤ cf s n 15 →
        ∃ t, exec (.canTxAttemptEnd dt n .bitError tdc) s = .next t ∧ (txb t n b).st = 1 ∧ (can t n).tec = (can s n).tec + 8 ∧
          ∀ m : Fin 4, m ≠ n → can t m = can s m) ∧
      (248 ≤ (can s n).tec → (txb s n b).abort = false → 16 ≤ cf s n 15 →
        ∃ t, exec (.canTxAttemptEnd dt n .bitError tdc) s = .next t ∧ (txb t n b).st = 1 ∧ (can t n).st = 4 ∧
          isHeld (0x3310 + n) 0 0 t = true)) ∧
    (∀ primary : Bool, (can s n).st = 2 ∨ (can s n).st = 3 → cf s n 1 = 1 → (can s n).tec < 256 →
      ∃ t, exec (.canReceiveError dt n primary) s = .next t ∧
        (can t n).recN = min ((can s n).recN + (if primary then 8 else 1)) 135) ∧
    ((can s n).st = 1 → (can s n).tec < 256 → ∃ t, exec (.canBusIntegration dt n) s = .next t ∧
      (can t n).st = if (can s n).tec < 128 ∧ (can s n).recN < 128 then 2 else 3) ∧
    ((can s n).st = 4 → (can s n).counting = true → ∃ t, exec (.canBusOffRecovered dt n) s = .next t ∧
      (can t n).st = 2 ∧ (can t n).tec = 0 ∧ (can t n).recN = 0)

/-- References and PLLs (R444 to R449, Tables 17-3 and 17-10): loss of XM or XS is a held fault with its status bit low; a return sets the bit; a reference
input beyond 200 ppm or with missing edges is held as a fault where it was good; a locked PLL that loses lock raises its fault, and a running PLL takes lock. -/
def Obligations.ReferencesAndPlls : Prop :=
  ∀ (dt : Nat) (s : State), s.dev.powered = true →
    (s.clk.xmOk = true → ∃ t, exec (.xmLoss dt) s = .next t ∧ t.clk.xmOk = false ∧
      (synchronised s = false → isHeld 0x7301 0 0 t = true)) ∧
    (∃ t, exec (.xsLoss dt) s = .next t ∧ t.clk.xsOk = false ∧ isHeld 0x7302 0 0 t = true) ∧
    (∃ t, exec (.xmOkRising dt) s = .next t ∧ t.clk.xmOk = true ∧ t.clk.cpll ≠ .lost ∧ t.clk.fpll ≠ .lost ∧ t.clk.tpll ≠ .lost) ∧
    (∃ t, exec (.xsOkRising dt) s = .next t ∧ t.clk.xsOk = true ∧ t.clk.xmOk = s.clk.xmOk) ∧
    (∀ (x : Fin 2) (present : Bool) (ppm : Int), s.pn 13 0x200 (1 + x) ≠ 0 → ∃ t, exec (.refMeasure dt x present ppm) s = .next t ∧
      vget t.clk.refOk x false = (present && decide (ppm.natAbs ≤ 200 * 65536)) ∧ vget t.clk.refPpm x 0 = ppm ∧
      (vget s.clk.refOk x false = true → present = false ∨ 200 * 65536 < ppm.natAbs → isHeld (0x7305 + x) 0 0 t = true)) ∧
    (s.clk.cpll = .locked → ∃ t, exec (.pllUnlock dt 0) s = .next t ∧ t.clk.cpll = .lost ∧ isHeld 0x7303 0 0 t = true) ∧
    (s.clk.opll = .locked → ∃ t, exec (.pllUnlock dt 3) s = .next t ∧ t.clk.opll = .lost ∧ isHeld 0x7304 0 0 t = true) ∧
    (s.clk.xmOk = true → s.clk.cpll ≠ .off → ∃ t, exec (.pllLock dt 0) s = .next t ∧ t.clk.cpll = .locked) ∧
    (s.clk.xmOk = true → s.clk.tpll ≠ .off → ∃ t, exec (.pllLock dt 2) s = .next t ∧ t.clk.tpll = .locked ∧ t.alm.coarse = false)


/-- The detectors of a lane that is in L0 and in no near-end loop (R430, R434, R436, R442): loss of signal counts; loss of lock takes SYNC with it; the return of signal
clears both; SYNC comes and goes; an Ethernet lane that was bad for 1 ms is held as a fault; the checker locks and counts what it lost; an exit
from L2 ends in the asked power state. -/
def Obligations.LaneDetectors : Prop :=
  ∀ (dt : Nat) (n : Fin 64) (s : State),
    (detects s n = true → (lane s n).los = false → ∃ t, exec (.laneLos dt n) s = .next t ∧ (lane t n).los = true ∧
      (lane t n).losCount = sat32 (lane s n).losCount) ∧
    (detects s n = true → ∃ t, exec (.laneLol dt n) s = .next t ∧ (lane t n).lol = true ∧ (lane t n).sync = false) ∧
    ((lane s n).los = true → ∃ t, exec (.losClear dt n) s = .next t ∧ (lane t n).los = false ∧ (lane t n).lol = false) ∧
    (detects s n = true → ∃ t, exec (.laneSyncAcquired dt n) s = .next t ∧ (lane t n).sync = true ∧ (lane t n).lol = false) ∧
    (detects s n = true → ∃ t, exec (.laneSyncLost dt n) s = .next t ∧ (lane t n).sync = false) ∧
    (∀ b : Nat, isEth s n = true → (lane s n).pst = 0 → (lane s n).badSince = some b → (lane s n).badTold = false → b + 16000000 ≤ s.clock + dt →
      ∃ t, exec (.laneEthDown dt n) s = .next t ∧ isHeld 0x3201 0 n t = true) ∧
    (lf s.wire n 11 ≠ 0 → (lane s n).prbsLock = false → (lane s n).scanning = false → ∃ t, exec (.checkerLock dt n) s = .next t ∧
      (lane t n).prbsLock = true ∧ (lane t n).prbsErrs = (lane s n).prbsErrs) ∧
    (∀ errs : Nat, (lane s n).prbsLock = true → ∃ t, exec (.checkerLockLost dt n errs) s = .next t ∧ (lane t n).prbsLock = false ∧
      (lane t n).prbsErrs = satAdd32 (lane s n).prbsErrs errs) ∧
    (∀ (v : Nat) (eq : Fin 16), (lane s n).exitTo = some v → ∃ t, exec (.laneL2Exit dt n eq) s = .next t ∧ (lane t n).pst = v ∧
      (lane t n).exitTo = none)

/-! Time. -/

/-- In ARMED, RUN and BLOCKED no source update makes TB[0] leap (R44): its reading is that of the time passed alone, and its count of leaps stays. -/
def Obligations.NoLeapInService : Prop :=
  ∀ (dt : Nat) (k : Fin 4) (o : Int) (s : State), s.dev.live = true →
    ∃ t, exec (.timebaseSourceUpdate dt k o) s = .next t ∧ (t.tb 0).acc = ((s.begin dt).tb 0).acc ∧ (t.tb 0).leaps = (s.tb 0).leaps

/-- A timebase that has leapt follows its source without a step (R46): the update's offset is recorded, saturated as R37 says, its slew part is to add the negated offset in whole, SLEWING where the offset is
not below LOCK_THRESH; a TIME partition writes the time of a timebase of source HOST as such an update (R33), and a malformed time is BAD_TIME; a reference input that is not OK gives no measurement (R445); the slew part ends
at zero with the rate estimate kept. -/
def Obligations.TimebaseServo : Prop :=
  ∀ (dt : Nat) (k : Fin 4) (s : State), s.alm.running = true →
    (∀ o : Int, (k.val = 0 → tbSrc s 0 = 0 ∨ 4 ≤ tbSrc s 0) → tbSrc s k ≠ 0 → (s.tb k).st = .locked ∨ (s.tb k).st = .slewing →
      (tbSrc s k = 6 ∨ tbSrc s k = 7 → s.pn 13 0x200 (tbSrc s k - 5) ≠ 0 ∧ vget s.clk.refOk (tbSrc s k - 6) false = true) →
      ∃ t, exec (.timebaseSourceUpdate dt k o) s = .next t ∧ (t.tb k).off = satInt o ∧ (t.tb k).slewLeft = (satInt o).natAbs * 2 ^ 40 ∧
        (t.tb k).acc = ((s.begin dt).tb k).acc ∧ (t.tb k).leaps = (s.tb k).leaps ∧
        (lockThresh s k ≤ (satInt o).natAbs → (t.tb k).st = .slewing)) ∧
    (∀ o : Int, tbSrc s k = 6 ∨ tbSrc s k = 7 → vget s.clk.refOk (tbSrc s k - 6) false = false →
      ∃ t, exec (.timebaseSourceUpdate dt k o) s = .next t ∧ t.alm.tb = (s.begin dt).alm.tb) ∧
    (∀ (p : Fin 8) (sec : Wire) (ns frac : Word), Granted p 0x0403 0x300 (.priv pvTime) true s → ns.toNat ≤ 999999999 → frac.toNat ≤ 65535 →
      tbSrc s k = 9 → (s.tb k).st = .locked ∨ (s.tb k).st = .slewing →
      ∃ t, exec (.todWrite dt p (BitVec.ofNat 32 k) sec ns frac) s = .next t ∧ Answered p 0x0403 0 [] s t ∧
        (t.tb k).off = clampI (-(2 ^ 63)) (2 ^ 63 - 1)
          (((s.begin dt).nowK k : Int) - (sec.toNat * 65536000000000 + ns.toNat * 65536 + frac.toNat : Nat))) ∧
    (∀ (p : Fin 8) (tb : Word) (sec : Wire) (ns frac : Word), Granted p 0x0403 0x300 (.priv pvTime) true s → 999999999 < ns.toNat →
      ∃ t, exec (.todWrite dt p tb sec ns frac) s = .next t ∧ Answered p 0x0403 0x24 [0, 0] s t ∧ t.alm = (s.begin dt).alm) ∧
    (((s.begin dt).tb k).slewLeft = 0 → (s.tb k).slew ≠ 0 → ∃ t, exec (.slewPartEnd dt k) s = .next t ∧ (t.tb k).slew = 0 ∧
      (t.tb k).rateE = (s.tb k).rateE ∧ ∀ j : Fin 4, j ≠ k → t.tb j = (s.begin dt).tb j)

/-- Holdover (R47, R49): a timebase that follows enters HOLDOVER with its fault held when HOLD_ENTRY updates of its source are missing and not before, one in acquisition becomes
FREE; HOLD_MAX in HOLDOVER and a lasting offset are held as their faults. RE_ACQUIRE takes a timebase back to ACQUIRING, but TB[0] in service
answers WRONG_STATE (R43). -/
def Obligations.HoldoverAndReAcquire : Prop :=
  ∀ (dt : Nat) (s : State),
    (∀ k : Fin 4, updatesMissing (s.begin dt) k = false → ∃ t, exec (.holdoverEntry dt k) s = .next t ∧ t.alm = (s.begin dt).alm) ∧
    (∀ k : Fin 4, s.alm.running = true → updatesMissing (s.begin dt) k = true →
      (s.tb k).st = .locked ∨ (s.tb k).st = .slewing ∨ (s.tb k).st = .steering → ∃ t, exec (.holdoverEntry dt k) s = .next t ∧ (t.tb k).st = .holdover ∧ (t.tb k).slew = 0 ∧
        (t.tb k).acc = ((s.begin dt).tb k).acc ∧ isHeld 0x4110 6 k t = true) ∧
    (∀ k : Fin 4, s.alm.running = true → updatesMissing (s.begin dt) k = true → (s.tb k).st = .acquiring →
      ∃ t, exec (.holdoverEntry dt k) s = .next t ∧
      (t.tb k).st = .free ∧ isHeld 0x4110 6 k t = true) ∧
    (∀ k : Fin 4, (s.tb k).st = .holdover →
      s.pn 6 k 7 * 65536000000000 * 2 ^ 40 ≤ ((s.begin dt).tb k).acc - (s.tb k).holdAt →
      ∃ t, exec (.tbHoldoverLong dt k) s = .next t ∧ isHeld 0x4112 6 k t = true) ∧
    ((s.tb 0).st = .slewing ∨ (s.tb 0).st = .steering → 10 * s.ptn 6 0 4 * 2 ^ 40 ≤ ((s.begin dt).tb 0).acc - (s.tb 0).slewAt →
      offAlarm s 0 < ((s.tb 0).off.natAbs : Int) → ∃ t, exec (.tbSlewLag dt) s = .next t ∧ isHeld 0x4113 6 0 t = true) ∧
    (∀ (p : Fin 8) (tb : Fin 4), Granted p 0x0402 0x300 (.priv pvTime) true s →
      ∃ t, exec (.reAcquire dt p (BitVec.ofNat 32 tb)) s = .next t ∧
        if tb.val = 0 ∧ s.dev.live = true then t.alm = (s.begin dt).alm ∧ Answered p 0x0402 0x23 [BitVec.ofNat 32 (devCode s.dev), 0] s t
        else (t.tb tb).st = .acquiring ∧ (t.tb tb).leapt = false ∧ Answered p 0x0402 0 [] s t)

/-- Pins of the Almanac (R57, R60 to R63): PPS_OUT rises where its timebase allows at a whole second plus its offset, and at no other time, and falls its width later; an edge of PPS_IN, and one of TRIG_IN of the configured
polarity, is stamped with all four timebases, and a TRIG_IN edge is logged and fires the running streams that name the pin; a pulse ends with the falling edge of its pin at T + width and not before. -/
def Obligations.AlmanacPins : Prop :=
  ∀ (dt : Nat) (s : State),
    (ppsRuns s = true → s.alm.ppsOut = false →
      ((ppsNext (s.begin dt)).strikes ((ppsNext (s.begin dt)).pn 6 4 0x40) secQn ((ppsNext (s.begin dt)).pt 6 4 0x42) = true →
        ∃ t, exec (.ppsOutEdge dt true) s = .next t ∧ t.alm.ppsOut = true ∧ .pin 0 true (s.begin dt).now ∈ t.out ∧
          t.alm.tb = (s.begin dt).alm.tb ∧ t.alm.ppsEnd = ((ppsNext (s.begin dt)).pn 6 4 0x40,
            (s.begin dt).nowK ((ppsNext (s.begin dt)).pn 6 4 0x40) + (ppsNext (s.begin dt)).ptn 6 4 0x41)) ∧
      ((ppsNext (s.begin dt)).strikes ((ppsNext (s.begin dt)).pn 6 4 0x40) secQn ((ppsNext (s.begin dt)).pt 6 4 0x42) = false →
        ∃ t, exec (.ppsOutEdge dt true) s = .next t ∧ t.alm = (s.begin dt).alm)) ∧
    (s.alm.ppsOut = true → s.alm.ppsEnd.2 ≤ (s.begin dt).nowK s.alm.ppsEnd.1 → ∃ t, exec (.ppsOutEdge dt false) s = .next t ∧ t.alm.ppsOut = false ∧
      .pin 0 false (s.begin dt).now ∈ t.out ∧ t.alm.tb = (s.begin dt).alm.tb ∧ t.par = s.par) ∧
    (∀ rise : Bool, s.alm.running = true → ∃ t, exec (.ppsInEdge dt rise) s = .next t ∧ t.alm.stamp = planes (s.begin dt)) ∧
    (∀ (pin : Fin 4) (rise : Bool), s.alm.running = true → ¬ (s.pn 6 4 0x46 / 4 ^ pin.val % 4 = 0 ∧ rise = false) →
      ¬ (s.pn 6 4 0x46 / 4 ^ pin.val % 4 = 1 ∧ rise = true) → ∃ t, exec (.trigInEdge dt pin rise) s = .next t ∧
        t.alm.stamp = planes (s.begin dt) ∧ t.spu.logSeq = s.spu.logSeq + 1 ∧
        ∀ i c : Fin 4, trf s i c 0 = 5 → trf s i c 1 = pin → (rst s i).run = 1 →
          ∃ f ∈ (rst t i).fires, f.src = 5 ∧ f.cond = c ∧ f.time = (s.begin dt).now) ∧
    (∀ (pin : Fin 4) (k e : Nat), s.alm.trigOut.testBit pin = true → s.alm.pulses.find? (fun x => x.1 == pin.val) = some (pin.val, k, e) →
      (e ≤ (s.begin dt).nowK k → ∃ t, exec (.pulseEnd dt pin) s = .next t ∧
        t.alm.trigOut = s.alm.trigOut - 2 ^ pin.val ∧ .pin (pin + 1) false (s.begin dt).now ∈ t.out) ∧
      ((s.begin dt).nowK k < e → ∃ t, exec (.pulseEnd dt pin) s = .next t ∧ t.alm = (s.begin dt).alm))

/-- The launch table (R63, R65, Table 14-9): an entry goes into the lowest free place of the 32 and is answered with it, LAUNCH_FULL where there is none; its placing partition
or SERVICE takes it out; at its time it leaves the table and acts: a state change is ordered for a tick instant, and a PULSE rises. -/
def Obligations.LaunchTable : Prop :=
  ∀ (dt : Nat) (p : Fin 8) (s : State),
    (∀ (tb : Word) (sec : Wire) (ns frac arg : Word) (a : Fin 7) (T : Nat),
      Granted p 0x0404 0x400 (launchRight a) (tokenAction a || (a == 3 && !hasPriv s p pvSafety) || decide (5 ≤ a.val)) s →
      timeQ sec.toNat ns.toNat frac.toNat = some T → launchRefusal (s.begin dt) tb.toNat T a arg.toNat = none →
      (∀ i : Nat, freeEntry s = some i → ∃ t, exec (.launchPlace dt p tb sec ns frac (BitVec.ofNat 32 a) arg) s = .next t ∧
        Answered p 0x0404 0 [BitVec.ofNat 32 i] s t ∧
        t.alm.launch = tabPut s.alm.launch i { tb := tb.toNat, t := onSteps tb.toNat T, action := a, arg := arg.toNat, part := p }) ∧
      (freeEntry s = none → ∃ t, exec (.launchPlace dt p tb sec ns frac (BitVec.ofNat 32 a) arg) s = .next t ∧
        Answered p 0x0404 0x47 [32, 0] s t ∧ t.alm.launch = s.alm.launch)) ∧
    (∀ (i : Word) (l : Launch), Granted p 0x0405 0x400 .observe false s → tabGet? s.alm.launch i.toNat = some l →
      l.part = p.val ∨ hasPriv s p pvService = true → ∃ t, exec (.launchCancel dt p i) s = .next t ∧ Answered p 0x0405 0 [] s t ∧
        t.alm.launch = tabDel s.alm.launch i.toNat) ∧
    (∀ (e : Fin 32) (l : Launch), tabGet? s.alm.launch e = some l → s.alm.running = true → l.t ≤ (s.begin dt).nowK l.tb →
      (l.action ≤ 2 → ∃ t x, exec (.launchFire dt e) s = .next t ∧ t.alm.launch = tabDel s.alm.launch e ∧
        t.trans = s.trans ++ [x] ∧ x.kind = l.action ∧ x.part = 8 ∧ x.entry = e.val ∧ (s.begin dt).tickNow ≤ x.tick ∧ x.tick ≤ (s.begin dt).tickNow + 1) ∧
      (l.action = 6 → s.sys.inForce = true → ∃ t, exec (.launchFire dt e) s = .next t ∧ t.alm.launch = tabDel s.alm.launch e ∧
        .pin (l.arg / 2 ^ 30 + 1) true ((s.begin dt).now + l.t - (s.begin dt).nowK l.tb) ∈ t.out ∧
        (l.arg / 2 ^ 30, l.tb, l.t + l.arg % 2 ^ 30 * 65536) ∈ t.alm.pulses))

/-- What every PTP message of instance k on a lane carries: its clockIdentity, the value of the identity record with the instance as last octet, its
port number, its domain, and no UDP checksum in a one-step Sync over UDP (R55, R56). -/
def Sys2Proof.Machine.SentAs (s : State) (k lane : Nat) (kind : PtpKind) (h : PtpHead) : Prop :=
  h.identity / 256 = Config.clockId.toNat / 256 ∧ h.identity % 256 = k ∧ h.portNumber = lane + 1 ∧ h.domain = s.pn 6 k 0x22 ∧
    (kind = .sync → h.noChecksum = (s.pn 6 k 0x23 == 1 && s.pn 6 k 0x24 == 1))

/-- PTP (R52, R53, R55, R56): a master sends Sync with its time, in a FollowUp where it is two-step, and Announce, and answers a delay request with the
time it came; a slave's delay request keeps its time; a Sync from the master of an end-to-end slave measures the timebase; the Announce of another clock
is kept; a message of another domain is discarded. Every message that leaves names its instance and port. -/
def Obligations.PtpMessages : Prop :=
  ∀ (dt : Nat) (lane : Fin 64) (k : Fin 3) (s : State), ptpRuns s (k + 1) lane = true →
    (ptpMaster (bmca (k + 1) (stampNow (s.begin dt))) (k + 1) lane = true →
      (∃ t h, exec (.ptpMessageDue dt k lane .sync) s = .next t ∧ SentAs s (k + 1) lane .sync h ∧
        if s.pn 6 (k + 1) 0x24 = 1 then .ptp lane .sync (txStamp (s.begin dt) (k + 1) lane) h ∈ t.out
        else .ptp lane .sync 0 h ∈ t.out ∧ .ptp lane .followUp (txStamp (s.begin dt) (k + 1) lane) h ∈ t.out) ∧
      (∃ t h d, exec (.ptpMessageDue dt k lane .announce) s = .next t ∧ SentAs s (k + 1) lane .announce h ∧ h.ds = some d ∧
        d.sender = clockIdentity (k + 1) ∧ d.senderPort = lane + 1 ∧ .ptp lane .announce (txStamp (s.begin dt) (k + 1) lane) h ∈ t.out)) ∧
    ((ptpOf (bmca (k + 1) (stampNow (s.begin dt))) (k + 1)).slaveLane = some lane.val → s.pn 6 (k + 1) 0x21 = 0 →
      ∃ t, exec (.ptpMessageDue dt k lane .delayReq) s = .next t ∧
        (ptpOf t (k + 1)).reqTx = some ((ptpOf s (k + 1)).seq, txStamp (s.begin dt) (k + 1) lane)) ∧
    (∀ m : PtpMsg, m.majorSdoId = 0 → m.minorSdoId = 0 → m.domain = s.pn 6 (k + 1) 0x22 →
      (m.kind = .sync → m.twoStep = false → (ptpOf s (k + 1)).slaveLane = some lane.val → ∃ t, exec (.ptpMessageRx dt lane m) s = .next t ∧
        (ptpOf t (k + 1)).ms = some (rxStamp (s.begin dt) (k + 1) lane - m.time - m.corr) ∧ t.alm.stamp = planes (s.begin dt)) ∧
      (m.kind = .delayReq → s.pn 6 (k + 1) 0x21 = 0 → ptpMaster s (k + 1) lane = true → ∃ t h, exec (.ptpMessageRx dt lane m) s = .next t ∧
        SentAs s (k + 1) lane .delayResp h ∧ .ptp lane .delayResp (rxStamp (s.begin dt) (k + 1) lane) h ∈ t.out) ∧
      (m.kind = .announce → m.ds.sender ≠ clockIdentity (k + 1) → m.ds.steps < 255 → ∃ t, exec (.ptpMessageRx dt lane m) s = .next t ∧
        ∃ f ∈ (ptpOf t (k + 1)).foreign, f.lane = lane.val ∧ f.ds = m.ds ∧ f.last = (s.begin dt).nowK (k + 1))) ∧
    (∀ m : PtpMsg, m.domain ≠ s.pn 6 (k + 1) 0x22 → ∃ t, exec (.ptpMessageRx dt lane m) s = .next t ∧
      t.alm = { (s.begin dt).alm with stamp := planes (s.begin dt) } ∧ told t = [])

/-! Pairs and peers. -/

/-- The first valid copy of a pair frame of a type: a lane in use brings a sequence number that the window of the type has not had (R331). -/
def Sys2Proof.Machine.FirstCopy (s : State) (lane type seq : Nat) : Prop :=
  s.pairEn = true ∧ (pairLane s lane).up = true ∧ seq < 65536 ∧ ((tabGet s.rdn.typeWin type {}).take seq).isSome

/-- Pair lanes and heartbeat (R331, R332, R347): a lane within 120 ns is used, a lost lane is not and its fault is held; the heartbeat is taken as present or
lost, and an ACTIVE member that has lost both lanes and the heartbeat holds PAIR_PARTNER_LOST. -/
def Obligations.PairLanesAndHeartbeat : Prop :=
  ∀ (dt : Nat) (s : State),
    (∀ l : Fin 2, (pairLane s l).dly.valid = false ∨ (pairLane s l).dly.value ≤ 1920 → ∃ t, exec (.pairLaneUp dt l) s = .next t ∧
      (pairLane t l).up = true) ∧
    (∀ l : Fin 2, s.pairEn = true → ∃ t, exec (.pairLaneDown dt l) s = .next t ∧ (pairLane t l).up = false ∧ isHeld 0x3102 0 l t = true) ∧
    (∃ t, exec (.heartbeatPresent dt) s = .next t ∧ t.rdn = { s.rdn with hb := true, hbOut := s.pairEn && enginesRun s }) ∧
    (∃ t, exec (.pairHbLoss dt) s = .next t ∧ t.rdn.hb = false) ∧
    (s.pairEn = true → s.rdn.role = 1 → pairLanesUp s = [] → ∃ t, exec (.pairHbLoss dt) s = .next t ∧ heldCode 0x3107 t = true)

/-- Frames of each tick (R331, R341, R343, R351): the first copy is kept, a vigil report only with its right CRC; of equal digests of one tick the count of matching ticks rises; a second copy, and
any frame on a lane not in use, changes nothing but the time. -/
def Obligations.PairFrames : Prop :=
  ∀ (dt : Nat) (lane : Fin 2) (seq : Nat) (s : State),
    (∀ x : Snap, FirstCopy s lane 0x10 seq → ∃ t, exec (.snapRx dt lane seq x) s = .next t ∧ t.rdn.snap = some x) ∧
    (∀ (n : Int) (m : BitVec 256), FirstCopy s lane 0x11 seq → ∃ t, exec (.rmapRx dt lane seq n m) s = .next t ∧
      t.rdn.rmap = some (n, m)) ∧
    (∀ f : FwdS, FirstCopy s lane 0x12 seq → ∃ t, exec (.fwdSRx dt lane seq f) s = .next t ∧ t.rdn.fwd = some f) ∧
    (∀ d : Dig, FirstCopy s lane 0x13 seq → ∃ t, exec (.digRx dt lane seq d) s = .next t ∧ t.rdn.pdig = d ∧
      (d.tick = s.rdn.dig.tick → s.rdn.cmp ≠ some d.tick → s.rdn.role ≠ 0 → s.rdn.role ≠ 4 → s.rdn.dig.own = false → d.own = false →
        d.eDig = s.rdn.dig.eDig → d.gDig = s.rdn.dig.gDig → t.rdn.syncTicks = sat32 s.rdn.syncTicks ∧ t.rdn.role = s.rdn.role)) ∧
    (∀ ws : List Word, FirstCopy s lane 0x17 seq → ws.length = 16 →
      ws.getD 15 0 = crc32 ((ws.take 15).flatMap (fun x => bytesBE 4 x.toNat)) →
      ∃ t, exec (.vigRx dt lane seq ws) s = .next t ∧ t.rdn.vigil = ws) ∧
    (∀ (type : Nat) (c : Instr), (tabGet s.rdn.typeWin type {}).take seq = none ∨ s.pairEn = false →
      (type = 0x10 ∧ ∃ x, c = .snapRx dt lane seq x) ∨ (type = 0x11 ∧ ∃ n m, c = .rmapRx dt lane seq n m) ∨
        (type = 0x12 ∧ ∃ f, c = .fwdSRx dt lane seq f) ∨ (type = 0x13 ∧ ∃ d, c = .digRx dt lane seq d) ∨
        (type = 0x15 ∧ ∃ a b k i l cs, c = .decideRx dt lane seq a b k i l cs) ∨ (type = 0x17 ∧ ∃ w, c = .vigRx dt lane seq w) →
      s.pinsHold = true → ∃ t, exec c s = .next t ∧ TimePassed dt s t)

/-- What a member decides and writes acts at the other (R98, R138, R246, R345): a decision is held there with its reaction, and from DEVICE_BLOCK on takes it out of RUN; the partner's BLOCK does so too; a
state command is ordered for the same tick. -/
def Obligations.PartnerDecides : Prop :=
  ∀ (dt : Nat) (lane : Fin 2) (seq time : Nat) (s : State),
    (∀ (code kind index level : Nat) (cover : List Nat), FirstCopy s lane 0x15 seq → code ≠ 0 → isHeld code kind index s = false →
      ∃ t, exec (.decideRx dt lane seq time code kind index level cover) s = .next t ∧ isHeld code kind index t = true ∧
        (s.dev = .run → 4 ≤ level → t.dev = .blocked) ∧ (s.dev = .run → level < 4 → t.dev = .run)) ∧
    (∀ (kind index level : Nat) (cover : List Nat), FirstCopy s lane 0x15 seq → s.dev = .run →
      ∃ t, exec (.decideRx dt lane seq time 0 kind index level cover) s = .next t ∧ t.dev = .blocked ∧ t.spu.held = s.spu.held) ∧
    (∀ (n : Int) (v : Wire), FirstCopy s lane 0x14 seq → s.rdn.role ≠ 1 → ∃ t, exec (.writeRx dt lane seq n [(0, v)]) s = .next t ∧
      t.trans = s.trans ++ [{ kind := v.toNat - 0x0201, part := 8, tick := n }])

/-- Roles of a pair (R344, R349, R350, Table 12-1): a DETACH is taken as the partner's role; a swap waits for its tick and exchanges the roles, the token of the former active going
back; a joiner loads what the active sends step by step, replays, restarts when its buffer is full, and after JOIN_N matching ticks is STANDBY in the partner's
device state. -/
def Obligations.RolesAndJoining : Prop :=
  ∀ (dt : Nat) (lane : Fin 2) (seq : Nat) (s : State),
    (FirstCopy s lane 0x18 seq → ∃ t, exec (.roleRx dt lane seq 0 0) s = .next t ∧ t.rdn.partnerRole = 4) ∧
    (∀ n : Int, FirstCopy s lane 0x18 seq → s.rdn.role = 2 → ∃ t, exec (.roleRx dt lane seq 2 n) s = .next t ∧ t.rdn.swapAt = some n) ∧
    (FirstCopy s lane 0x18 seq → s.rdn.role = 1 → ∃ t, exec (.roleRx dt lane seq 1 6) s = .next t ∧ t.rdn.capture = true) ∧
    (∀ k : Int, s.rdn.swapAt = some k → k ≤ (s.begin dt).tickNow →
      (s.rdn.role = 1 → ∃ t, exec (.roleSwapEffect dt) s = .next t ∧ t.rdn.role = 2 ∧ t.rdn.partnerRole = 1 ∧ t.hst.token = 15) ∧
      (s.rdn.role = 2 → ∃ t, exec (.roleSwapEffect dt) s = .next t ∧ t.rdn.role = 1 ∧ t.rdn.partnerRole = 2 ∧ t.hst.token = s.hst.token)) ∧
    (∀ (eff : Tab Wire) (ps : List Pend), FirstCopy s lane 0x16 seq → s.rdn.role = 3 → s.rdn.joinState = 3 →
      ∃ t, exec (.stxRx dt lane seq (.par eff ps)) s = .next t ∧ 4 ≤ t.rdn.joinState ∧
        ∀ id, ownField id = false → (∀ e ∈ ps, e.id ≠ id) → tabGet? t.par id = tabGet? eff id) ∧
    (∀ (c : Capture) (w : SeqWin), s.pairEn = true → (pairLane s lane).up = true → seq < 65536 →
      (tabGet s.rdn.typeWin 0x16 {}).take seq = some w → s.rdn.role = 3 → s.rdn.joinState = 6 →
      schedAgrees (modRdn (fun r => { r with typeWin := tabPut r.typeWin 0x16 w }) (s.begin dt)) c = true → ∃ t, exec (.stxRx dt lane seq (.captured c)) s = .next t ∧
        t.gfe = c.gfe ∧ t.lpe = c.lpe ∧ t.mod = c.mod ∧ t.rdn.shadow = some c.dev ∧ t.rdn.joinState = 7 ∧ t.dev = s.dev) ∧
    (s.rdn.role = 3 → s.rdn.joinState = 7 → s.awake = true → ∃ t, exec (.joinReplayDone dt) s = .next t ∧ t.rdn.joinState = 8 ∧
      t.rdn.buf = [] ∧ t.rdn.syncTicks = 0 ∧ t.alm.tick = s.alm.tick) ∧
    (s.rdn.role = 3 → s.rdn.joinState = 6 ∨ s.rdn.joinState = 7 → 512 ≤ s.rdn.buf.length → ∃ t, exec (.joinBufferFull dt) s = .next t ∧
      t.rdn.joinState = 6 ∧ t.rdn.buf = [] ∧ t.rdn.joinRestarts = s.rdn.joinRestarts + 1 ∧
      (s.rdn.joinRestarts = 2 → isHeld 0x3108 0 0 t = true)) ∧
    (s.rdn.role = 3 → s.rdn.joinState = 8 → s.pn 10 0 5 ≤ s.rdn.syncTicks → ∃ t, exec (.joinComplete dt) s = .next t ∧ t.rdn.role = 2 ∧
      t.dev = s.rdn.shadow.getD s.dev)

/-- What a member sends (R341, R343, R351, Table 12-3): the active its tick-set inputs, a member that is not ACTIVE its vigil report with the right CRC, each
link its HELLO, the time at a whole microsecond of TB[0], and a node its heights towards the parent; what is not yet due is not sent. -/
def Obligations.PairSends : Prop :=
  ∀ (dt : Nat) (s : State),
    (s.pairEn = true → s.rdn.role = 1 → s.awake = true → (pairLane s 0).up = true → (200 * nsecQ : Nat) ≤ (s.begin dt).phaseQ → ∃ t n f, exec (.fwdSSend dt) s = .next t ∧
      .peer 8 n (.fwdS s.alm.tick f) ∈ t.out ∧ ∀ i : Fin 32, 2 ≤ ainMode s i → (i.val, (ain s i).tick, (ain s i).tickOk, (ain s i).tickPs) ∈ f) ∧
    (∀ (a b c : Bool) (ln : Fin 64) (m : Fin 1025), notActive s = true → s.dev.live = true → (pairLane s 0).up = true →
      s.rdn.vigilAt + s.ptn 10 0x200 1 / stepQ ≤ s.clock + dt → ∃ t n ws, exec (.vigilReport dt a b c ln m) s = .next t ∧ .peer 8 n (.vig ws) ∈ t.out ∧ ws.length = 16 ∧
        ws.getD 15 0 = crc32 ((ws.take 15).flatMap (fun x => bytesBE 4 x.toNat)) ∧ t.rdn.vigilOwn = ws ∧
        (a = true → (s.pn 10 0x200 2).testBit 0 = true → s.spu.runs.contains (0x3110, 0) = false → isHeld 0x3110 0 0 t = true)) ∧
    (∀ q : Fin 8, (pp s q).st ≠ 0 → (∀ a, s.rdn.helloAt = some a → a + msSteps ≤ s.clock + dt) → ∃ t n h, exec (.peerHelloDue dt) s = .next t ∧ .peer q n (.hello h) ∈ t.out ∧ h.node = nodeId s ∧
      h.member = s.pn 10 0 2 ∧ h.role = s.rdn.role) ∧
    (∀ q : Fin 8, (pp s q).st = 3 → (s.begin dt).strikes 0 (1000 * nsecQ) 0 = true → ∃ t, exec (.ptimeDue dt) s = .next t ∧
      .peer q (tabGet s.rdn.txSeq 2 0) (.ptime (tabGet s.rdn.txSeq 2 0) (secOf (s.begin dt).now) (nsOf (s.begin dt).now)
        (fracOf (s.begin dt).now)) ∈ t.out) ∧
    (∀ q : Fin 8, (pp s q).st = 3 → upward s q = true → (∀ a, s.rdn.topoAt = some a → a + msSteps ≤ s.clock + dt) → ∃ t n ids, exec (.topoDue dt) s = .next t ∧
      .peer q n (.topo (heights s).1 (heights s).2 (bestSum s) ids) ∈ t.out ∧ nodeId s ∈ ids) ∧
    (∀ a : Nat, s.clock + dt < a + msSteps → s.pinsHold = true →
      (s.rdn.helloAt = some a → ∃ t, exec (.peerHelloDue dt) s = .next t ∧ TimePassed dt s t) ∧
      (s.rdn.topoAt = some a → ∃ t, exec (.topoDue dt) s = .next t ∧ TimePassed dt s t)) ∧
    (s.pinsHold = true → (s.begin dt).strikes 0 (1000 * nsecQ) 0 = false → ∃ t, exec (.ptimeDue dt) s = .next t ∧ TimePassed dt s t)

/-- Peer ports (R353 to R357): a HELLO with this node's ID refuses the port with its fault; a time frame is answered; a reply ends in the delay filter; a GLOBAL_BLOCK event of
another node goes on twice on every other port and in service is held, drives BLOCK_N for 1.0 µs where it was not held before, and takes the device out of RUN; a node's own event goes nowhere; a broadcast goes on; a child's
heights are kept. -/
def Obligations.PeerFrames : Prop :=
  ∀ (dt : Nat) (s : State),
    (∀ (q : Fin 10) (seq : Nat) (h : HelloId), q.val < 8 → (pp s q).st = 1 ∨ (pp s q).st = 2 ∨ (pp s q).st = 3 → h.node = nodeId s →
      ∃ t, exec (.peerHelloRx dt q seq h) s = .next t ∧ (pp t q).st = 4 ∧ isHeld 0x3122 0 q t = true) ∧
    (∀ (q : Fin 10) (seq sec ns frac : Nat), q.val < 8 → (pp s q).st = 3 → ∃ t k, exec (.ptimeRx dt q seq sec ns frac) s = .next t ∧
      .peer q seq (.ptimeReply seq k) ∈ t.out) ∧
    (∀ (q : Fin 10) (seq turn tx : Nat), q.val < 8 → (link s q).ptx.find? (fun e => e.1 == seq) = some (seq, tx) →
      ∃ t, exec (.ptimeReplyRx dt q seq turn) s = .next t ∧ (link t q).dly = ((link s q).dly.measure
        (((s.begin dt).nowStep : Int) - tx - turn + s.pt 10 (0x100 + q) 4 / 4096) 0).1) ∧
    (∀ (q : Fin 10) (origin gseq time : Nat), carries s q = true → origin ≠ nodeId s →
      ((tabGet s.rdn.gbWin origin {}).take gseq).isSome → s.awake = true →
      ∃ t, exec (.gbRx dt q origin gseq time) s = .next t ∧ isHeld 0x3120 0 0 t = true ∧
        (isHeld 0x3120 0 0 s = false → t.spu.blockNLow = true ∧ t.spu.pulseEnd = some ((s.begin dt).now + 1000 * nsecQ)) ∧
        (isHeld 0x3120 0 0 s = true → t.spu.pulseEnd = s.spu.pulseEnd) ∧
        (isHeld 0x3120 0 0 s = false → 5 ≤ cfgReact s 0x3120 → s.dev = .run → t.dev = .blocked) ∧
        ∀ r : Fin 10, r ≠ q → (r.val < 8 ∧ (pp s r).st = 3) → 2 ≤ t.out.count (.peer r gseq (.gb origin gseq time))) ∧
    (∀ (q : Fin 10) (gseq time : Nat), s.pinsHold = true → ∃ t, exec (.gbRx dt q (nodeId s) gseq time) s = .next t ∧ TimePassed dt s t) ∧
    (∀ (q : Fin 8) (origin bseq kind : Nat) (args : List Nat), (pp s q).st = 3 → origin ≠ nodeId s →
      ((tabGet s.rdn.bcWin origin {}).take bseq).isSome → ∃ t, exec (.bcRx dt q origin bseq kind args) s = .next t ∧
        ∀ r : Fin 8, r ≠ q → (pp s r).st = 3 → .peer r bseq (.bc origin bseq kind args) ∈ t.out) ∧
    (∀ (q : Fin 8) (h1 h2 best : Nat) (ids : List Nat), (pp s q).st = 3 → upward s q = false → isRoot s = false →
      ∃ t, exec (.topoRx dt q h1 h2 best ids) s = .next t ∧ (pp t q).h1 = h1 ∧ (pp t q).h2 = h2 ∧ (pp t q).best = max best (h1 + h2) ∧
        (pp t q).ids = ids)

/-! Stream queues and the recorder. -/

/-- A packet of the tagged queue: the count of its entries, then each in two words (Table 15-2). -/
def Sys2Proof.Machine.tqPacket (pseq : Nat) (poison : Bool) (es : List (BitVec 64)) : Packet :=
  { producer := 1, pseq := pseq, poison := poison
    words := BitVec.ofNat 32 es.length :: es.flatMap (fun (e : BitVec 64) => [e.truncate 32, (e >>> 32).truncate 32]) }

/-- Packets enter and leave a stream queue whole (R411 to R416, R420): the oldest packet of a producer is staged where it fits and stays where it does not; a delivery makes one more packet
visible and counts it, POISON with a payload error; an error in the length word flushes the staging into one DISCARD packet; the owner is signalled. -/
def Obligations.QueuePackets : Prop :=
  ∀ (dt : Nat) (q : Fin 16) (s : State), s.dev.powered = true →
    (∀ (r : LogRec) (rest : List LogItem) (poison : Bool), s.hst.logHold = .record r :: rest →
      (packetsBytes (s.sq 0).staged + 4 * (recordWords r).length + 4 ≤ 65536 → ∃ t, exec (.sqPacketCommit dt 0 poison) s = .next t ∧
        (t.sq 0).staged = (s.sq 0).staged ++ [{ producer := 0, pseq := (s.sq 0).pseq, poison := poison, words := recordWords r }] ∧
        (s.hst.gap = none → t.hst.logHold = rest)) ∧
      (65536 < packetsBytes (s.sq 0).staged + 4 * (recordWords r).length + 4 → s.pinsHold = true →
        ∃ t, exec (.sqPacketCommit dt 0 poison) s = .next t ∧ TimePassed dt s t)) ∧
    (∀ (n : Nat) (poison : Bool), s.pn 8 0x200 1 = 0x10 + q → tqClosed s.adc.tqTick s.alm.tick = n → s.adc.tq.take n ≠ [] →
      packetsBytes (s.sq q).staged + 8 * (s.adc.tq.take n).length + 8 ≤ 65536 → ∃ t, exec (.sqPacketCommit dt 1 poison) s = .next t ∧
        t.adc.tq = s.adc.tq.drop n ∧ (t.sq q).staged = (s.sq q).staged ++ [tqPacket (s.sq q).pseq poison (s.adc.tq.take n)]) ∧
    (∀ (k : Packet) (parity : Bool), (s.sq q).enable = true → (s.sq q).owner < 8 → (s.sq q).dma = false →
      ((s.sq q).staged.drop (s.sq q).vis).head? = some k → ∃ t, exec (.sqDeliver dt q parity false false) s = .next t ∧
        (t.sq q).vis = (s.sq q).vis + 1 ∧ (t.sq q).staged = (s.sq q).staged ∧ (t.sq q).packets = sat32 (s.sq q).packets ∧
        ((k.poison || parity) = true → isHeld (0x7200 + q) 0 0 t = true)) ∧
    (∀ (k : Packet) (parity : Bool), (s.sq q).enable = true → (s.sq q).owner < 8 →
      ((s.sq q).staged.drop (s.sq q).vis).head? = some k → ∃ t d, exec (.sqDeliver dt q parity true false) s = .next t ∧
        (t.sq q).staged = [d] ∧ d.producer = 15 ∧ d.words = [BitVec.ofNat 32 (packetsBytes (s.sq q).staged)] ∧ (t.sq q).vis = 0 ∧
        isHeld (0x7210 + q) 0 0 t = true) ∧
    (∀ p : Fin 8, (s.sq q).owner = p → (s.sq q).unsig ≠ 0 → (s.sq q).irqTime ≠ 0 →
      (s.sq q).unsigAt + (s.sq q).irqTime * 65536000 ≤ (s.begin dt).now → ∃ t, exec (.sqIrqSignal dt q) s = .next t ∧
        (t.hp p).irqStat.getLsbD 3 = true ∧ (t.hp p).sqIrqSum.getLsbD q = true ∧ (t.sq q).unsig = 0)

/-- Ownership and reading (R417 to R419): CLAIM takes a queue that nobody owns and no other; RELEASE gives up an own one; SQ_RD_ADV by whole visible packets takes them out, and any other count sets
ADV_ERR; HOST_RD moves to a packet boundary. Only the owner's writes act. -/
def Obligations.QueueOwnership : Prop :=
  ∀ (dt : Nat) (p : Fin 8) (q : Fin 16) (s : State), hasWindow s p = true →
    (∀ d e : Bool, (s.sq q).owner = 15 → ∃ t, exec (.claim dt p q d e) s = .next t ∧ (t.sq q).owner = p ∧
      ∀ j : Fin 16, j ≠ q → t.sq j = s.sq j) ∧
    (∀ d e : Bool, (s.sq q).owner ≠ 15 → (s.sq q).owner ≠ p → ∃ t, exec (.claim dt p q d e) s = .next t ∧ t.hst = s.hst) ∧
    ((s.sq q).owner = p → ∃ t, exec (.release dt p q) s = .next t ∧ (t.sq q).owner = 15 ∧ (t.sq q).dma = (s.sq q).dma ∧
      ∀ j : Fin 16, j ≠ q → t.sq j = s.sq j) ∧
    (∀ k : Nat, (s.sq q).owner = p → k ≤ (s.sq q).vis → packetsBytes ((s.sq q).staged.take k) < 2 ^ 17 →
      ∃ t, exec (.sqRdAdv dt p q (BitVec.ofNat 17 (packetsBytes ((s.sq q).staged.take k)))) s = .next t ∧
        (t.sq q).staged = (s.sq q).staged.drop k ∧ (t.sq q).advErr = (s.sq q).advErr) ∧
    (∀ n : BitVec 17, (s.sq q).owner = p → wholePackets ((s.sq q).staged.take (s.sq q).vis) n.toNat = none →
      ∃ t, exec (.sqRdAdv dt p q n) s = .next t ∧ (t.sq q).advErr = true ∧ (t.sq q).staged = (s.sq q).staged) ∧
    (∀ off : BitVec 24, (s.sq q).owner = p → off.toNat ≠ (s.sq q).hostRd → ∃ t, exec (.hostRd dt p q off) s = .next t ∧
      (if off.toNat ∈ (s.sq q).bounds then (t.sq q).hostRd = off.toNat else (t.sq q).hostRd = (s.sq q).hostRd ∧ (t.sq q).advErr = true)) ∧
    ((s.sq q).owner ≠ p → (s.sq q).owner ≠ 15 → s.pinsHold = true → ∀ (off : BitVec 24) (n : BitVec 17),
      ∀ c ∈ [Instr.hostRd dt p q off, .sqRdAdv dt p q n, .release dt p q], ∃ t, exec c s = .next t ∧ TimePassed dt s t)

/-- The recorder (R315, R316, R322, R327): the latch of a tick takes value and flag of every slot; a running stream that has waited AUTO_T fires by itself, with the first tick instant from then as its time; a stopped stream
that restarts by itself runs again once its ring is empty. -/
def Obligations.RecorderRuns : Prop :=
  ∀ (dt : Nat) (s : State),
    (s.awake = true → s.alm.stage = 3 → ((s.alm.phaseW + 150 * nsecQ : Nat) : Int) ≤ (s.begin dt).phaseQ → (∀ i : Fin 4, (rst s i).run = 0) →
      ∃ t, exec (.recLatch dt) s = .next t ∧ t.alm = { (s.begin dt).alm with stage := 4 } ∧
        ∀ r : Fin 128, s.pn 9 r 1 ≠ noneV → tabGet? t.recd.latch r =
          some (sigVal { s.begin dt with alm := { (s.begin dt).alm with stage := 4 } } (s.pn 9 r 1),
            sigValid { s.begin dt with alm := { (s.begin dt).alm with stage := 4 } } (s.pn 9 r 1))) ∧
    (s.alm.stage ≠ 3 ∨ (s.begin dt).phaseQ < ((s.alm.phaseW + 150 * nsecQ : Nat) : Int) → s.pinsHold = true →
      ∃ t, exec (.recLatch dt) s = .next t ∧ TimePassed dt s t) ∧
    (∀ (i : Fin 4) (n : Int), (rst s i).run = 1 → (rst s i).started = true → 0 < s.pt 9 (0x100 + i) 7 → 0 < s.alm.period → 0 ≤ s.tickAt n →
      ((rst s i).lastFire : Int) + s.pt 9 (0x100 + i) 7 ≤ s.tickAt n → s.tickAt n < (rst s i).lastFire + s.pt 9 (0x100 + i) 7 + s.alm.period →
      s.tickAt n ≤ (s.begin dt).now →
      ∃ t f, exec (.recAutoTrigger dt i) s = .next t ∧ (rst t i).fires = (rst s i).fires ++ [f] ∧ f.src = 9 ∧
        f.time = (s.tickAt n).toNat ∧ (rst t i).lastFire = f.time) ∧
    (∀ i : Fin 4, (rst s i).run = 2 → s.pn 9 (0x100 + i) 8 = 1 → (rst s i).ring = [] → (rst s i).rows = [] →
      ∃ t, exec (.recRingDrained dt i) s = .next t ∧ (rst t i).run = 1 ∧ (rst t i).started = false) ∧
    (∀ i : Fin 4, (rst s i).run = 2 → s.pn 9 (0x100 + i) 8 ≠ 1 → s.pinsHold = true →
      ∃ t, exec (.recRingDrained dt i) s = .next t ∧ TimePassed dt s t)

/-! Converters and bitstreams. -/

/-- A conversion, 125 ns into the tick and once per slot (R295 to R309): the code is the latest value of its input, a tick conversion the tick's value too; it stands in the queue where QUEUE_MODE admits it. The owner reads the queue
in two halves and the second removes the entry; any partition reads the latest value of an input whole. Background calibration (R299, R300): a passed free slice shadows from 1 ms before its step, takes its position in turn at the first tick instant of a multiple of 12.5 ms, and the displaced one becomes the free slice that is to be calibrated; a slice that failed its check three
times running is retired with its fault held and the rotation stops. -/
def Obligations.AnalogueReadsAndRotation : Prop :=
  (∀ (dt : Nat) (s : State),
    (∀ (pos : Fin 8) (raw : Int) (n : Nat), s.dev.live = true → 0 < s.alm.period / (100 * nsecQ) → tickInput s pos = some n →
      ((125 * nsecQ : Nat) : Int) ≤ (s.begin dt).phaseQ → (∀ m j, s.adc.slots.getD pos none = some (m, j) → m < s.alm.tick) → ∃ t, exec (.adcConversion dt pos 0 raw none) s = .next t ∧
        (ain t n).code = codeOf s (s.adc.phys.getD pos 0) raw ∧ (ain t n).tick = codeOf s (s.adc.phys.getD pos 0) raw ∧
        (ain t n).tickPs = s.adc.phys.getD pos 0 ∧ ∀ m : Nat, m ≠ n → ain t m = ain s m) ∧
    (∀ p : Fin 8, hasWindow s p = true → s.pn 8 0x200 1 = 0 → s.pn 8 0x200 2 = p →
      (∀ (e : BitVec 64) (r : List (BitVec 64)), s.adc.tq = e :: r → ∃ t, exec (.tqLoRead dt p) s = .next t ∧
        (t.hp p).tqHold = some e ∧ .read p (e.truncate 32) ∈ t.out ∧ t.adc.tq = s.adc.tq) ∧
      (∀ e : BitVec 64, (s.hp p).tqHold = some e → (e >>> 32).truncate 32 ≠ (0x00040000 : Word) → ∃ t, exec (.tqHiRead dt p) s = .next t ∧
        .read p ((e >>> 32).truncate 32) ∈ t.out ∧ t.adc.tq = s.adc.tq.drop 1 ∧ (t.hp p).tqHold = none)) ∧
    (∀ p : Fin 8, hasWindow s p = true → s.pn 8 0x200 2 ≠ p → ∃ t, exec (.tqHiRead dt p) s = .next t ∧
      .read p 0x00040000 ∈ t.out ∧ t.adc = s.adc) ∧
    (∀ (p : Fin 8) (n : Fin 32), hasWindow s p = true → ∃ t, exec (.lvLoRead dt p n) s = .next t ∧
      .read p ((ain s n).lv.truncate 32) ∈ t.out ∧ tabGet (t.hp p).lvSnap 1 0 = ((ain s n).lv >>> 32).truncate 32 ∧ t.adc = s.adc)) ∧
  (∀ (dt : Nat) (s : State), s.dev.live = true → s.adc.retired = 0 →
    ((sliceOf s s.adc.free).passed = true → stepNear (s.begin dt) = true → s.adc.shadowing = false → ∃ t, exec (.adcShadowStart dt) s = .next t ∧ t.adc = { s.adc with shadowing := true, shSum := 0, shN := 0 }) ∧
    (stepDue (s.begin dt) s.alm.tick = true → s.adc.stepTick ≠ some s.alm.tick → (sliceOf s s.adc.free).passed = true →
      ∃ t, exec (.adcCalStep dt) s = .next t ∧
      t.adc.phys = s.adc.phys.set (s.adc.stepNo % 8) s.adc.free ∧ t.adc.free = s.adc.phys.getD (s.adc.stepNo % 8) 0 ∧
      t.adc.stepNo = s.adc.stepNo + 1 ∧ (sliceOf t t.adc.free).passed = false) ∧
    ((sliceOf s s.adc.free).passed = false → ∃ t, exec (.adcCalStep dt) s = .next t ∧ t.adc.phys = s.adc.phys ∧ t.adc.free = s.adc.free) ∧
    (stepDue (s.begin dt) s.alm.tick = false → ∃ t, exec (.adcCalStep dt) s = .next t ∧ t.adc = s.adc) ∧
    (∀ (o g : Int) (res : List Int), res.length = 3 → (∀ r ∈ res, r.natAbs ≤ 2) → ∃ t, exec (.adcCalDone dt o g res) s = .next t ∧
      sliceOf t s.adc.free = { corr := some (o, g), passed := true, fails := 0 } ∧ t.adc.retired = 0) ∧
    (∀ (o g r : Int) (res : List Int), res.length = 3 → r ∈ res → 2 < r.natAbs → (sliceOf s s.adc.free).fails = 2 →
      ∃ t, exec (.adcCalDone dt o g res) s = .next t ∧ t.adc.retired = 2 ^ s.adc.free ∧ isHeld 0x2181 0 0 t = true))

/-- The fast output of input n that the bit b brings (R284). -/
def Sys2Proof.Machine.fastNewest (s : State) (n : Nat) (b : Bool) : Int :=
  (fastOutputs (s.pn 7 n 0x11) 1 ((((b :: (sd s n).fast).take 94).take (3 * (s.pn 7 n 0x11 - 1) + 1)).reverse)).headD 0

/-- Detectors of the bitstream inputs (R284, R285, R289): a bit's fast output outside the band is counted, and the FAST_CNT-th in succession decides out, with the
comparator's fault; as many inside the inner band decide in; one between starts both counts anew. A missing clock and a stuck stream mark their inputs, and a clock that returns
clears its mark with the inputs invalid from then. -/
def Obligations.BitstreamDetectors : Prop :=
  ∀ (dt : Nat) (s : State), s.dev.live = true →
    (∀ (n : Fin 48) (b : Bool), s.pn 7 n 1 ≠ 0 → s.pn 7 n 0x10 = 1 → ∃ t, exec (.bsdFastDecision dt n [b]) s = .next t ∧
      (∀ m : Nat, m ≠ n → sd t m = sd s m) ∧
      (sd t n).nOut = (if inBand (fastBand s n).1 (fastNewest s n b) then 0 else min 4 ((sd s n).nOut + 1)) ∧
      (sd t n).nIn = (if inBand (fastBand s n).2 (fastNewest s n b) then min 4 ((sd s n).nIn + 1) else 0) ∧
      ((sd s n).fastOut = false → inBand (fastBand s n).1 (fastNewest s n b) = false → s.pn 7 n 0x15 ≤ (sd t n).nOut →
        (sd t n).fastOut = true ∧ isHeld (0x2140 + n) 8 n t = true) ∧
      ((sd s n).fastOut = false → (sd t n).nOut < s.pn 7 n 0x15 → (sd t n).fastOut = false) ∧
      ((sd s n).fastOut = true → inBand (fastBand s n).1 (fastNewest s n b) = true → inBand (fastBand s n).2 (fastNewest s n b) = true →
        s.pn 7 n 0x15 ≤ (sd t n).nIn → (sd t n).fastOut = false)) ∧
    (∀ g : Fin 6, ∃ t, exec (.bsdMissingClock dt g) s = .next t ∧ (vget t.bsd.grp g {}).noClk = true ∧ t.bsd.inp = s.bsd.inp) ∧
    (∀ g : Fin 6, (vget s.bsd.grp g {}).noClk = true → ∃ t, exec (.sdclkReturn dt g) s = .next t ∧
      (vget t.bsd.grp g {}).noClk = false ∧ ∀ i : Fin 8, (sd t (8 * g + i)).badAt = some (s.begin dt).nowStep) ∧
    (∀ n : Fin 48, s.pn 7 n 1 = 1 → ∃ t, exec (.bsdStuckStream dt n) s = .next t ∧ (sd t n).stuck = true ∧
      (sd t n).badAt = some (s.begin dt).nowStep ∧ ∀ m : Nat, m ≠ n → sd t m = sd s m)

/-! The grid-forming engine and the tick. -/

/-- A decision about instance k leaves the other instances, the loops, the fields and the time alone. -/
def Sys2Proof.Machine.GfeOnly (k : Fin 4) (dt : Nat) (s t : State) : Prop :=
  (∀ j : Fin 4, j ≠ k → t.gfi j = s.gfi j) ∧ t.lpe = s.lpe ∧ t.par = s.par ∧ t.alm = (s.begin dt).alm

/-- Decisions of a grid-forming instance in RUN (R103, R110, R121, R124, R126, R128, R158): RIDE past RIDE_T_MAX decides STOP with GFE_RIDE_TIMEOUT held,
a voltage back for N_20 ticks ends RIDE in the mode it came from, or in the one a held request names; a failed energization decides IDLE with its fault; the
synchronising windows set SYNC_OK and let a held request go ahead; STOP ends in IDLE; a closed window clears its sums and gives SCR_EST or its
fault; an input held longer than T_HOLD is lost. -/
def Obligations.GfeDecides : Prop :=
  ∀ (dt : Nat) (k : Fin 4) (s : State), s.dev = .run → gfeEnabled s k = true →
    ((s.gfi k).next = none → rideOver s k s.alm.tick = true → ∃ t, exec (.gfeRideTimeout dt k) s = .next t ∧
      (t.gfi k).next = some (.stop, 11) ∧ isHeld 0x5106 4 k t = true ∧ GfeOnly k dt s t) ∧
    ((s.gfi k).next = none → rideEnds s k = true → ((s.gfi k).reqNew && (s.gfi k).reqHeld) = false →
      ∃ t, exec (.rideExit dt k) s = .next t ∧ (t.gfi k).next = some ((s.gfi k).rideFrom, 10) ∧ GfeOnly k dt s t) ∧
    ((s.gfi k).next = none → rideEnds s k = true → (s.gfi k).reqNew = true → (s.gfi k).reqHeld = true →
      reqClass (s.gfi k).rideFrom (s.pn 1 k 0x7F) = .accept →
      ∃ t, exec (.rideExit dt k) s = .next t ∧ (t.gfi k).next = some (modeOfReq (s.pn 1 k 0x7F), 10) ∧ GfeOnly k dt s t) ∧
    ((s.gfi k).next = none → energizeFails s k = true → ∃ t, exec (.gfeEnergizeFail dt k) s = .next t ∧
      (t.gfi k).next = some (.idle, 4) ∧ isHeld 0x5105 4 k t = true ∧ GfeOnly k dt s t) ∧
    ((s.gfi k).mode = .sync → n20 s ≤ (s.gfi k).syncCnt → ∃ t, exec (.syncOk dt k) s = .next t ∧ (t.gfi k).syncOk = true ∧
      (t.gfi k).limit = (s.gfi k).limit ||| 0x40 ∧ GfeOnly k dt s t ∧
      ((s.gfi k).next = none → (s.gfi k).reqNew = true → reqClass .sync (s.pn 1 k 0x7F) = .hold →
        (t.gfi k).next = some (modeOfReq (s.pn 1 k 0x7F), 5) ∧ (t.gfi k).reqNew = false)) ∧
    ((s.gfi k).next = none → stopEnds s k s.alm.tick = true → ∃ t, exec (.stopTimeout dt k) s = .next t ∧
      (t.gfi k).next = some (.idle, 13) ∧ GfeOnly k dt s t) ∧
    ((s.gfi k).probeOn = true → nW s k ≤ (s.gfi k).count → ∃ t, exec (.probeWindowClose dt k) s = .next t ∧ GfeOnly k dt s t ∧
      (t.gfi k).svr = 0 ∧ (t.gfi k).svi = 0 ∧ (t.gfi k).sir = 0 ∧ (t.gfi k).sii = 0 ∧ (t.gfi k).count = 0 ∧
      match closeWindow s k (s.gfi k) with
      | none => (t.gfi k).scrValid = false ∧ isHeld 0x510A 4 k t = true
      | some e => (t.gfi k).scrValid = true ∧ (t.gfi k).scrEst = b64 e.1 ∧ (t.gfi k).scrTicks = some 0) ∧
    (∀ who : Fin 68, who.val < 64 → ∃ t, exec (.inputHoldExpiry dt who) s = .next t ∧
      (t.slot who).inp = (s.slot who).inp.map (fun e => (e.1, expire (s.pn 2 who 5) e.2)) ∧ t.gfe = s.gfe ∧ t.par = s.par ∧
      (s.spu.runs.contains (0x5203, kSlot * 4096 + who.val) = false → ((s.slot who).inp.any (fun e => decide (s.pn 2 who 5 < e.2.cnt))) = true →
        isHeld 0x5203 kSlot who t = true)) ∧
    (∃ t, exec (.inputHoldExpiry dt ⟨64 + k.val, by omega⟩) s = .next t ∧ (t.gfi k).lossV = expire (s.pn 1 k 0xF) (s.gfi k).lossV ∧
      (t.gfi k).lossI = expire (s.pn 1 k 0xF) (s.gfi k).lossI ∧ GfeOnly k dt s t ∧
      (((s.gfi k).lossV.lost = false ∧ s.pn 1 k 0xF < (s.gfi k).lossV.cnt) ∨ ((s.gfi k).lossI.lost = false ∧ s.pn 1 k 0xF < (s.gfi k).lossI.cnt) →
        isHeld 0x5104 4 k t = true))

/-- The state in which tick n's transitions are judged, none waiting any more: the tick before is complete, and the tick is numbered (R12, R24). -/
def Sys2Proof.Machine.atTick (dt : Nat) (s : State) : State :=
  let c := tickComplete (s.begin dt)
  { c with trans := [], alm := { (s.begin dt).alm with tick := (s.begin dt).tickNow, stage := 1 }
           mod := { c.mod with relOwed := c.mod.relOwed ++ c.mod.relNext, relNext := [] } }

/-- Engines of a device alone, with nothing between them and their inputs. -/
def Sys2Proof.Machine.runsAlone (s : State) : Prop := enginesRun s = true ∧ s.pairEn = false ∧ s.rdn.role = 0 ∧ s.rdn.shadow = none

/-- The three instants of a tick in a device alone (R9 to R18, R21, R24 to R26): the tick instant numbers the tick, decides a START and brings a decided mode into
force; F latches the inputs, once, and engines that begin too late for the schedule, or whose schedule runs past W, hold GFE_LATE or LPE_LATE; W dispatches the
window of the tick in RUN, and one that finds no results, or comes 150 ns late, holds LPE_LATE or MOD_LATE. Before F and W only time passes. -/
def Obligations.TickPhases : Prop :=
  ∀ (dt : Nat) (s : State),
    (∀ edges, s.dev.live = true → s.alm.running = true → s.alm.tick ≠ (s.begin dt).tickNow → s.pairEn = false → s.rdn.swapAt = none →
      s.rdn.shadow = none → s.pend = [] → s.trans = [] → ∃ t, exec (.tickInstant dt edges) s = .next t ∧ t.blockCause = none ∧
        t.alm = { (s.begin dt).alm with tick := (s.begin dt).tickNow, stage := 1 } ∧
        (edges = [] → t.dev = s.dev ∧ ∀ k : Fin 4, ∀ e : Mode × Nat, s.dev = .run → (s.gfi k).next = some e →
          (t.gfi k).mode = e.1 ∧ (t.gfi k).next = none)) ∧
    (∀ (p : Fin 8) (x : Trans), s.dev = .armed → s.sys.step = 9 → s.alm.running = true → s.alm.tick ≠ (s.begin dt).tickNow →
      s.pairEn = false → s.rdn.swapAt = none → s.pend = [] → s.trans = [x] → x.kind = 1 → x.part = p.val → x.tick ≤ (s.begin dt).tickNow →
      (s.hp p).drop = false → runRefusal (atTick dt s) true = none →
      ∃ t r, exec (.tickInstant dt []) s = .next t ∧ t.dev = .run ∧ t.trans = [] ∧ .resp p r ∈ t.out ∧ r.status = 0 ∧
        r.payload = wI (s.begin dt).tickNow) ∧
    (runsAlone s → s.alm.stage = 1 → (s.freezeQ : Int) ≤ (s.begin dt).phaseQ →
      ((s.begin dt).phaseQ ≤ (schedStartQ s.wire s.freezeQ : Int) → lpeEndQ s ≤ s.alm.phaseW →
        ∃ t, exec (.inputFreeze dt) s = .next t ∧ t.alm = { (s.begin dt).alm with stage := 2 } ∧
          t.lpe.latched = (latchInputs [] (s.begin dt)).lpe.latched) ∧
      ((schedStartQ s.wire s.freezeQ : Int) < (s.begin dt).phaseQ → (∃ k : Fin 4, gfeEnabled s k = true) →
        ∃ t, exec (.inputFreeze dt) s = .next t ∧ t.alm.stage = 3 ∧ t.lpe.latched = s.lpe.latched ∧ isHeld 0x4101 0 0 t = true) ∧
      (s.alm.phaseW < lpeEndQ s → ∃ t, exec (.inputFreeze dt) s = .next t ∧ t.alm.stage = 3 ∧ t.lpe.latched = s.lpe.latched ∧
        isHeld 0x4201 0 0 t = true)) ∧
    (runsAlone s → (s.alm.phaseW : Int) ≤ (s.begin dt).phaseQ →
      (s.alm.stage = 2 → (s.begin dt).phaseQ ≤ ((s.alm.phaseW + 150 * nsecQ : Nat) : Int) → s.dev = .run →
        ∃ t, exec (.writePhase dt) s = .next t ∧ t.alm = { (s.begin dt).alm with stage := 3 } ∧ t.gfe = s.gfe ∧
          t.mod.win = some (s.alm.tick, winStart s s.alm.tick, winStart s (s.alm.tick + 1))) ∧
      (s.alm.stage = 1 → ∃ t, exec (.writePhase dt) s = .next t ∧ t.alm.stage = 3 ∧ t.mod.win = s.mod.win ∧ isHeld 0x4201 0 0 t = true) ∧
      (s.alm.stage = 2 → ((s.alm.phaseW + 150 * nsecQ : Nat) : Int) < (s.begin dt).phaseQ →
        ∃ t, exec (.writePhase dt) s = .next t ∧ t.alm.stage = 3 ∧ t.mod.win = s.mod.win ∧ isHeld 0x4301 0 0 t = true)) ∧
    (s.pinsHold = true → (s.alm.stage ≠ 1 ∨ (s.begin dt).phaseQ < (s.freezeQ : Int) → ∃ t, exec (.inputFreeze dt) s = .next t ∧ TimePassed dt s t) ∧
      ((s.begin dt).phaseQ < (s.alm.phaseW : Int) → ∃ t, exec (.writePhase dt) s = .next t ∧ TimePassed dt s t))

/-- An EDGE frame. -/
def Sys2Proof.Machine.isEdgeFrame : PlyFrame → Bool
  | .edge .. => true
  | _ => false

/-- What follows the window (R24, R169, R213, R220, R257, R258, R265): released records go to their ports and are framed at the next multiple of 250 ns, in
frames of at most four that share their instant, and STATE is repeated at each multiple of 10 µs; an ARM leads to ARMED at a tick instant where the clocks
have locked and the configuration passes its checks; a diagnostic is read when its wait is over and not before; and an
automatic clear that the modulator can use is tried and counted. -/
def Obligations.AfterTheWindow : Prop :=
  ∀ (dt : Nat) (s : State),
    (∃ t, exec (.edgeRecordRelease dt) s = .next t ∧ t.mod.unrel = s.mod.unrel.filter (fun e => decide ((s.begin dt).nowStep < e.release)) ∧
      t.gfe = s.gfe ∧ t.lpe = s.lpe ∧ t.par = s.par ∧ t.dev = s.dev ∧
      ∀ p : Fin 64, (t.port p).edges = (s.port p).edges ++
        s.mod.unrel.filter (fun e => decide (e.release ≤ (s.begin dt).nowStep) && e.ch / 4 == p.val)) ∧
    ((s.begin dt).strikes 0 (250 * nsecQ) 0 = true → ∃ t, exec (.edgeFrameFormation dt) s = .next t ∧ t.mod = s.mod ∧ t.spu.held = s.spu.held ∧
      ∀ p : Fin 64, (t.port p).edges = [] ∧ ∀ es, (framesOf (s.port p).edges).head? = some es → es.length ≤ 4 ∧
        (sendsEdges s p = true → .plink p (.edge (s.port p).seqEdge (es.map (edgeRecord (s.port p).version))) ∈ t.out) ∧
        (sendsEdges s p = false → ∀ f ∈ plyFramesFor p t.out, isEdgeFrame f = false)) ∧
    ((s.begin dt).strikes 0 (10000 * nsecQ) 0 = true → ∃ t, exec (.stateRepeat dt) s = .next t ∧ t.mod = s.mod ∧ t.dev = s.dev ∧ ∀ p : Fin 64, linkSends (s.port p).st = true →
      s.rdn.role ≠ 3 → s.rdn.role ≠ 4 → (s.port p).code = [0, 0, 0, 0] →
      .plink p (.state (s.port p).seqState true (exCount (s.begin dt).nowStep) [0, 0, 0, 0]) ∈ t.out) ∧
    (s.pinsHold = true →
      ((s.begin dt).strikes 0 (250 * nsecQ) 0 = false → ∃ t, exec (.edgeFrameFormation dt) s = .next t ∧ TimePassed dt s t) ∧
      ((s.begin dt).strikes 0 (10000 * nsecQ) 0 = false → ∃ t, exec (.stateRepeat dt) s = .next t ∧ TimePassed dt s t) ∧
      ((s.begin dt).strikes 0 s.alm.period s.alm.origin = false → ∃ t, exec (.armedEntry dt) s = .next t ∧ TimePassed dt s t)) ∧
    (∀ x : Trans, (s.begin dt).strikes 0 s.alm.period s.alm.origin = true → s.trans = [x] → x.kind = 0 → x.tick ≤ (s.begin dt).tickNow → s.dev = .parked → s.clk.cpll = .locked → s.clk.fpll = .locked →
      s.clk.tpll = .locked → armWaits s = false → s.rdn.role ≠ 3 → s.pend = [] →
      (checkAll (armConfig { s.begin dt with trans := [], sys := { s.sys with revert := false } }) = none →
        (compileLpe (armConfig { s.begin dt with trans := [], sys := { s.sys with revert := false } }).wire).isOk = true →
        ∃ t, exec (.armedEntry dt) s = .next t ∧ t.dev = .armed ∧ t.trans = []) ∧
      (∀ e, checkAll (armConfig { s.begin dt with trans := [], sys := { s.sys with revert := false } }) = some e →
        ∃ t, exec (.armedEntry dt) s = .next t ∧ t.dev = .parked ∧ t.par = s.par ∧ t.pend = s.pend)) ∧
    (∀ (p : Fin 64) (hop : Fin 4) (w : Sweep), (∀ x ∈ s.spu.sweeps, x.step ≤ 3 → x.pos ∉ x.hit) → sweepOf s p hop = some w →
      ((s.port p).reqs.any (fun r => r.hop == hop.val && (r.use == 2 || r.use == 3))) = false → w.step = 0 ∨ w.step = 2 ∨ w.step = 4 →
      ((s.begin dt).now < w.askedAt + sweepWait s w.step → ∃ t, exec (.prestartSweepStep dt p hop) s = .next t ∧
        sweepOf t p hop = some w ∧ (t.port p).reqs = (s.port p).reqs) ∧
      (w.askedAt + sweepWait s w.step ≤ (s.begin dt).now → ∃ t, exec (.prestartSweepStep dt p hop) s = .next t ∧ sweepOf t p hop = some { w with step := w.step + 1 } ∧
        ∃ r ∈ (t.port p).reqs, r.diag = true ∧ r.hop = hop.val ∧ r.seq = (s.port p).seqDiag ∧ r.op = 0x10 ∧
          r.addr = if w.step = 4 then 0x1020 else 0x1000)) ∧
    (∀ (c : Fin 256) (h : Held), s.spu.held.find? (fun h => h.lr.index == c.val && mayAutoClear (s.begin dt) s.alm.tick h) = some h →
      givesTurnOn (startAttempt h (s.begin dt)) s.alm.tick c = true →
      ∃ t, exec (.autoClearAttempt dt c) s = .next t ∧ t.mod = s.mod ∧ t.dev = s.dev ∧
        tabGet t.spu.attempts c [] = winStart s s.alm.tick * stepQ :: recentAttempts s c (winStart s s.alm.tick * stepQ) ∧
        ∃ x ∈ t.spu.held, sameFault h.lr.code 1 c x = true ∧ x.trying = some notYet)

/-! The PlynLink ports (R204 to R231). -/

/-- A port hands over a beacon with its SEQ at each whole microsecond of TB[0] and at no other time (R207; its TX_TIME is inserted as it leaves, 0 till then); a reply measures the delay of its hop (R210), and telemetry its position, with the faults of its status (R223, Table 8-5); symbol
lock starts HELLO (R228), whose answers name the satellites and whose window agrees a version or refuses the port (R229); an answered training write goes, one unanswered is
resent and at last held as LINK_CFG_FAIL (R225); a silent hop is held as LINK_SUPERVISION (R226); training that lasts too long fails, and starts again 100 ms later (R228);
discarded frames are counted, and more than 16 in 1 ms are held as LINK_CRC (R204). -/
def Obligations.LinkOperates : Prop :=
  ∀ (dt : Nat) (p : Fin 64) (hop : Fin 4) (s : State),
    (s.pinsHold = true → (s.begin dt).strikes 0 (1000 * nsecQ) 0 = false → ∃ t, exec (.beaconDue dt p) s = .next t ∧ TimePassed dt s t) ∧
    (linkSends (s.port p).st = true → (s.begin dt).strikes 0 (1000 * nsecQ) 0 = true → ∃ t, exec (.beaconDue dt p) s = .next t ∧ t.spu.held = s.spu.held ∧ t.mod = s.mod ∧ t.par = s.par ∧
      (t.port p).seqBeacon = ((s.port p).seqBeacon + 1) % 65536 ∧
      .plink p (.beacon (s.port p).seqBeacon 0
        (if (s.port p).sats = [] then none else some ((s.port p).dreqHop % (s.port p).sats.length))
        ((s.port p).delay.toList.map (fun d => if d.valid then some d.value else none))) ∈ t.out) ∧
    (∀ (bseq tTurn tx : Nat) (dn up : Int), linkSends (s.port p).st = true → (tabGet s.tx.beacons p []).find? (fun e => e.1 == bseq) = some (bseq, tx) →
      ∃ t, exec (.beaconReplyRx dt p hop bseq tTurn dn up) s = .next t ∧ (t.port p).lastRx = (s.port p).lastRx.set hop (s.begin dt).now ∧
        vget (t.port p).delay hop {} =
          ((vget (s.port p).delay hop {}).measure (((s.begin dt).nowStep : Int) - tx - tTurn - dn - up + s.pt 5 p 5 / stepQ) dn.toNat).1) ∧
    (∀ (pos : Fin 4) (at_ : Nat) (st : Word) (mask : BitVec 16) (items : List (BitVec 16)), linkSends (s.port p).st = true →
      (s.port p).positions.testBit pos = true → ∃ t, exec (.telRx dt p pos at_ st mask items) s = .next t ∧
        (t.tel (4 * p + pos)).status = st ∧ (t.tel (4 * p + pos)).seen = true ∧
        (t.tel (4 * p + pos)).sampleTime = timeOfCount (s.begin dt).nowStep at_ ∧
        (st.getLsbD 30 = true → s.spu.runs.contains (0x1001, 1 * 4096 + (4 * p.val + pos.val)) = false → isHeld 0x1001 1 (4 * p + pos) t = true) ∧
        (st.getLsbD 29 = true → s.spu.runs.contains (0x1002, 1 * 4096 + (4 * p.val + pos.val)) = false → isHeld 0x1002 1 (4 * p + pos) t = true)) ∧
    ((s.port p).st = .lock → ∃ t, exec (.symbolLock dt p) s = .next t ∧ (t.port p).st = .hello ∧ (t.port p).sats = [] ∧
      .plink p (.cfg false (s.port p).seqCfg 7 1 0 (s.pn 5 p 4 * 2 ^ 24 + 0x20 * 2 ^ 16)) ∈ t.out ∧ t.mod = s.mod ∧ t.spu.held = s.spu.held) ∧
    ((s.port p).st = .hello → (s.port p).helloAt + 100000 * nsecQ ≤ (s.begin dt).now →
      (∀ code, agree s p (s.port p).sats = .error code → ∃ t, exec (.helloWindowEnd dt p) s = .next t ∧ (t.port p).st = .refused ∧
        isHeld code 2 p t = true) ∧
      (∀ v, agree s p (s.port p).sats = .ok v → ∃ t, exec (.helloWindowEnd dt p) s = .next t ∧ (t.port p).st = .config ∧
        (t.port p).version = v ∧ ∀ a ∈ (s.port p).sats, ∃ r ∈ (t.port p).reqs, r.hop = a.hop ∧ r.op = 2 ∧ r.addr = 0x000C ∧ r.data = v)) ∧
    (∀ (seq op status addr : Nat) (data : Word) (ws : List Word), (∀ x ∈ s.spu.sweeps, x.step ≤ 3 → x.pos ∉ x.hit) →
      ((s.port p).st = .hello → ∃ t, exec (.cfgResponseRx dt p false hop seq 1 status addr data ws) s = .next t ∧
        (t.port p).sats = ((s.port p).sats.filter (fun x => x.hop != data.toNat / 256 % 256)) ++
          [{ hop := data.toNat / 256 % 256, verMax := data.toNat / 2 ^ 24, verMin := data.toNat / 2 ^ 16 % 256,
             first := data.toNat / 16 % 16, chans := data.toNat % 16 }]) ∧
      (∀ r : CfgReq, op ≠ 1 → (s.port p).st = .config → r.use = 0 →
        (s.port p).reqs.find? (fun r => r.diag == false && r.seq == seq && r.sent && r.hop == hop.val) = some r →
        ((s.port p).reqs.any (fun x => !(x.diag == false && x.seq == seq) && x.use == 0)) = false →
        ∃ t, exec (.cfgResponseRx dt p false hop seq op status addr data ws) s = .next t ∧ (t.port p).st = .delay ∧
          ∀ x ∈ (t.port p).reqs, ¬(x.diag = false ∧ x.seq = seq))) ∧
    (∀ (diag : Bool) (seq : Nat) (r : CfgReq), (s.port p).reqs.find? (fun r => r.diag == diag && r.seq == seq && r.sent && r.hop == hop.val) = some r →
      r.at_ + s.ptn 5 p 10 ≤ (s.begin dt).now →
      (r.tries < s.pn 5 p 9 → ∃ t, exec (.cfgRetry dt p diag hop seq) s = .next t ∧ (t.port p).retries = sat32 (s.port p).retries ∧
        .plink p (.cfg r.diag r.seq r.hop r.op r.addr r.data) ∈ t.out ∧ t.spu.held = s.spu.held) ∧
      (s.pn 5 p 9 ≤ r.tries → isHeld 0x3011 3 (4 * p + hop) s = false → ∃ t, exec (.cfgRetry dt p diag hop seq) s = .next t ∧
        isHeld 0x3012 3 (4 * p + hop) t = true)) ∧
    ((s.port p).st = .ready → ((s.port p).sats.any (fun a => a.hop == hop.val)) = true → (s.port p).lastRx.getD hop 0 + supEffQ s p ≤ (s.begin dt).now →
      isHeld 0x3012 3 (4 * p + hop) s = false → ∃ t, exec (.linkSupervision dt p hop) s = .next t ∧ isHeld 0x3011 3 (4 * p + hop) t = true) ∧
    ((s.port p).st ∉ [LinkSt.off, .ready, .refused, .down] → (s.port p).trainAt + s.ptn 5 p 12 ≤ (s.begin dt).now →
      ∃ t, exec (.trainTimeout dt p) s = .next t ∧ (t.port p).st = .down ∧ (t.port p).failedOnce = true ∧ isHeld 0x3005 2 p t = true) ∧
    ((s.port p).st = .down → (s.port p).failAt + 100000000 * nsecQ ≤ (s.begin dt).now → s.dev.live = true ∨ s.dev = .boot → s.pend = [] → s.pn 5 p 1 ≠ 0 →
      s.pn 14 p 8 = 0 → ∃ t, exec (.trainRestart dt p) s = .next t ∧
      (t.port p).st = .lock ∧ (t.port p).trainAt = (s.begin dt).now ∧ ∀ r ∈ (t.port p).reqs, r.use = 4) ∧
    (∃ t, exec (.frameDiscarded dt p) s = .next t ∧ (t.port p).discards = sat32 (s.port p).discards ∧ t.par = s.par ∧ t.gfe = s.gfe ∧
      (16 ≤ ((s.port p).discardTimes.filter (fun x => decide ((s.begin dt).now < x + 1000000 * nsecQ))).length → s.spu.runs.contains (0x3013, 2 * 4096 + p.val) = false → isHeld 0x3013 2 p t = true))

/-- The transmitters (R203, R206, R207, R340, Table 12-3): of the frames that may start on a port the first in R206's order does, on a peer port or pair lane
the first of Table 12-3; an immediate STATE frame aborts a CFG or DIAG frame in progress, leaves before it, and the aborted frame waits to be sent whole; in a pair no other frame than GB, DECIDE, SNAP, RMAP
and FWD_S starts between t_n - 250 ns and t_n + 600 ns; and a beacon leaves an idle port at once, its bytes with header and CRC and the time at which they left. -/
def Obligations.TransmittersKeepOrder : Prop :=
  ∀ s : State,
    (∀ (p t : Nat) (l : List (PlyFrame × Nat)) (e : PlyFrame × Nat), (plyRule s p).pick t l = some e →
      e ∈ l ∧ e.2 ≤ t ∧ ∀ x ∈ l, x.2 ≤ t → plyRank t e.1 e.2 ≤ plyRank t x.1 x.2) ∧
    (∀ (t : Nat) (l : List ((Nat × PeerFrame) × Nat)) (e : (Nat × PeerFrame) × Nat), (peerRule s).pick t l = some e →
      e ∈ l ∧ e.2 ≤ t ∧ ∀ x ∈ l, x.2 ≤ t → peerFrom s t x.1.2 ≤ t → peerRank e.1.2 ≤ peerRank x.1.2) ∧
    (∀ (p now free : Nat) (c f : PlyFrame), isCfg c = true → isImmediate f = true → now < free →
      (plyRule s p).push now [f] { cur := some c, free := free, wait := [] } =
        ({ cur := none, free := now + 2 * charStep s p, wait := [(c, now), (f, now)] }, [.abort now])) ∧
    (∀ (p now later : Nat) (c f : PlyFrame), isCfg c = true → isImmediate f = true → now + 2 * charStep s p ≤ later →
      later < now + 2 * charStep s p + frameChars f * charStep s p →
      (plyRule s p).push later [] { cur := none, free := now + 2 * charStep s p, wait := [(c, now), (f, now)] } =
        ({ cur := some f, free := now + 2 * charStep s p + frameChars f * charStep s p, wait := [(c, now)] },
          [.start (now + 2 * charStep s p) f])) ∧
    (∀ (now t k : Nat) (fs : List (Nat × PeerFrame)) (l : TxLine (Nat × PeerFrame)) (f : Nat × PeerFrame), s.pairEn = true →
      850 * nsecQ ≤ s.alm.period → .start t f ∈ ((peerRule s).push now fs l).2 → 5 ≤ peerRank f.2 →
      (s.atClock t : Int) ≤ s.tickAt k - (250 * nsecQ : Nat) ∨ s.tickAt k + (600 * nsecQ : Nat) ≤ (s.atClock t : Int)) ∧
    (∀ (dt : Nat) (p : Fin 64), linkSends (s.port p).st = true → (s.begin dt).strikes 0 (1000 * nsecQ) 0 = true → tabGet? s.tx.port p = none →
      ∃ t b, exec (.beaconDue dt p) s = .next t ∧ .wire p (s.begin dt).nowStep (wireBytes (linkOf s) b) ∈ t.out ∧
        b = .beacon (s.port p).seqBeacon (exCount (s.begin dt).nowStep)
          (if (s.port p).sats = [] then none else some ((s.port p).dreqHop % (s.port p).sats.length))
          ((s.port p).delay.toList.map (fun d => if d.valid then some d.value else none)))

/-! Wires and monitors. -/

/-- The BLOCK_N wire, the FAULT_IN pins and the monitors (R10, R186, R187, R256, R260, R261, Tables 8-5 and 21-7): a fall is kept, and in ARMED, RUN and BLOCKED, where this device does not drive the
wire, BLOCKN_REMOTE is held, at the end of the quiet time too; a pulse of 25 ns sets its latch, takes the channels' unreleased records and holds
FAULT_IN, and one shorter than 10 ns does nothing; a clearing condition that has held for its time clears NOTEs and releases the rest for FAULT_CLEAR; each monitor holds its
fault, and a fault of the Milliner pairs resets the device 10 ms later. -/
def Obligations.WiresAndMonitors : Prop :=
  ∀ (dt : Nat) (s : State),
    (∃ t, exec (.blockNFall dt true) s = .next t ∧ t.spu.wireLow = true ∧ t.par = s.par ∧ t.gfe = s.gfe ∧
      (s.awake = true → drivesBlockN s = false → s.spu.quietEnd = none → isHeld 0x7007 0 0 t = true)) ∧
    (∃ t, exec (.blockNFall dt false) s = .next t ∧ t.spu.wireLow = false ∧ t.spu.highSince = (s.begin dt).now ∧ t.spu.held = s.spu.held ∧
      t.dev = s.dev) ∧
    (∀ e, s.spu.pulseEnd = some e → e ≤ (s.begin dt).now → ∃ t, exec (.blockNPulseEnd dt) s = .next t ∧ t.spu.pulseEnd = none ∧
      t.spu.held = s.spu.held ∧ t.dev = s.dev) ∧
    (∀ e, s.spu.quietEnd = some e → e ≤ (s.begin dt).now → s.pinsHold = true → ∃ t, exec (.blockNQuietEnd dt) s = .next t ∧ t.spu.quietEnd = none ∧
      (s.awake = true → s.spu.wireLow = true → drivesBlockN s = false → isHeld 0x7007 0 0 t = true)) ∧
    (∀ (pin : Fin 4) (width : Nat), s.dev.powered = true → s.sys.step = 9 → s.mod.latch.getLsbD pin = false →
      (400 ≤ width → ∃ t, exec (.faultInLatch dt pin width) s = .next t ∧ t.mod.latch.getLsbD pin = true ∧ isHeld (0x2301 + pin) 9 pin t = true ∧
        ∀ e ∈ t.mod.unrel, e.ch ∉ safeChans s pin) ∧
      (width < 160 → ∃ t, exec (.faultInLatch dt pin width) s = .next t ∧ t.mod = s.mod ∧ t.spu.held = s.spu.held)) ∧
    (∀ (code : BitVec 16) (kind : BitVec 4) (index : BitVec 12), timedHolds (s.begin dt) code.toNat index.toNat = true →
      ∃ t, exec (.clearsWhenHeld dt code kind index) s = .next t ∧ t.par = s.par ∧
        ∀ h ∈ t.spu.held, sameFault code.toNat kind.toNat index.toNat h = true → h.ok = true ∧ h.level ≠ 1) ∧
    (s.dev.powered = true → synchronised s = false →
      (∃ t, exec (.milLockstep dt) s = .next t ∧ isHeld 0x7001 0 0 t = true) ∧ (∃ t, exec (.milWatchdog dt) s = .next t ∧ isHeld 0x7002 0 0 t = true) ∧
      (∀ perTick, ∃ t, exec (.sramEcc dt false perTick true) s = .next t ∧ isHeld 0x7003 0 0 t = true) ∧
      (∀ rail, ∃ t, exec (.supplyMonitor dt rail false) s = .next t ∧ (s.spu.runs.contains (0x7008, 0) = false → isHeld 0x7008 0 0 t = true) ∧
        t.pkg.railOk.testBit (if rail.val = 2 then 4 else rail.val) = false)) ∧
    (s.pinsHold = true → (∀ h ∈ s.spu.held, h.lr.code = 0x7001 ∨ h.lr.code = 0x7002 → (s.begin dt).now < h.time + 10000000 * nsecQ) →
      ∃ t, exec (.milFaultReset dt) s = .next t ∧ TimePassed dt s t) ∧
    (∀ h ∈ s.spu.held, h.lr.code = 0x7001 ∨ h.lr.code = 0x7002 → h.time + 10000000 * nsecQ ≤ (s.begin dt).now →
      s.dev.powered = true → s.dev ≠ .boot → s.sys.step = 9 → s.sys.asserted = [] → ∃ t, exec (.milFaultReset dt) s = .next t ∧
      t.dev = .boot ∧ t.sys.step = 2 ∧ t.sys.cause = 0x0204) ∧
    (∀ corrected perTick : Bool, ∃ t, exec (.sramEcc dt corrected perTick false) s = .next t ∧ t.spu.held = s.spu.held ∧
      t.rdn.perEcc = s.rdn.perEcc + (if corrected then 1 else 0) ∧ t.rdn.eccUn = s.rdn.eccUn + (if corrected then 0 else 1)) ∧
    (s.dev.powered = true → ∀ rail : Fin 10,
      (∃ t, exec (.pkgRail dt rail false) s = .next t ∧
        (s.spu.runs.contains (0x7602, if rail.val < 2 then rail.val + 2 else rail.val + 3) = false →
          isHeld 0x7602 0 (if rail.val < 2 then rail.val + 2 else rail.val + 3) t = true) ∧
        t.pkg.railOk.testBit (if rail.val < 2 then rail.val + 2 else rail.val + 3) = false) ∧
      (∃ t, exec (.pkgRail dt rail true) s = .next t ∧ t.spu.held = s.spu.held ∧
        t.pkg.railOk.testBit (if rail.val < 2 then rail.val + 2 else rail.val + 3) = true)) ∧
    (s.dev.powered = true → ∀ tj : Int, ∃ t, exec (.tempMonitorUpdate dt tj) s = .next t ∧ t.pkg.tj = clampI (-64) 191 tj ∧ t.par = s.par ∧
      (115 ≤ tj → s.spu.runs.contains (0x7005, 0) = false → isHeld 0x7005 0 0 t = true) ∧
      (130 ≤ tj → s.spu.runs.contains (0x7006, 0) = false → isHeld 0x7006 0 0 t = true))

/-! The safety island (R361 to R382). -/

/-- The island's cycle decides a waiting demand: the Safe Gate Block is in force, SAFE_BLOCK_N is low and the demand is held (R364, R367); and it accepts a reset request where nothing
demands and no cause is present: SAFE_FORCE ends, every fault of the island is cleared and SAFE_BLOCK_N is high in ARMED, RUN and BLOCKED (R366,
R367). -/
def Obligations.SafetyCycleDecides : Prop :=
  ∀ (dt : Nat) (x : SafeIn) (s : State), s.dev.powered = true →
    (demandWaiting s = true → (∀ e ∈ s.sfi.detected, 0x6000 ≤ e.1 ∧ e.1 < 0x7000 ∧ e.1 ≠ 0x6007) →
      ∃ t, exec (.safetyCycle dt x) s = .next t ∧ t.sfi.inForce = true ∧ t.sfi.safeHigh = false ∧
        ∀ e ∈ s.sfi.detected, isHeld e.1 0 0 t = true) ∧
    (x.edges = [] → x.back = false → x.mon = false → x.lockstep = false → x.supply = false → x.watchdog = false →
      (∀ i : Fin 8, sf s i 1 = 0 ∧ sf s (0x100 + i) 1 = 0 ∧ (sout s i).pulseEnd = none ∧ (sout s i).level = x.souts.getLsbD i) → s.sfi.detected = [] → s.sfi.resetReq = true → s.sfi.setConfirmed = true →
      safetyPend s = false → demandPresent s = false → causePresent s = false → emberCause s = false → heldCode 0x6007 s = false →
      ∃ t, exec (.safetyCycle dt x) s = .next t ∧ t.sfi.inForce = false ∧ t.sfi.safeHigh = s.awake ∧ t.sfi.ember = false ∧
        ∀ h ∈ t.spu.held, codeIsSafety h.lr.code = false)

/-- What the island detects between its cycles, and its connections (R366, R370 to R376, R380 to R382, Table 13-2): each detection waits for the next cycle; an off-pulse starts on a high
output OP_PERIOD after its last, while no other's window is open; an SPDU whose CRC fails is counted, and one in sequence restarts the watchdog and carries its permit; a silent connection
times out; a status SPDU leaves; the supply-cut test goes from phase to phase, and its pass sets SUPPLY_AGE to 0. -/
def Obligations.IslandEvents : Prop :=
  ∀ (dt : Nat) (s : State),
    (s.sfi.ember = true → s.sfi.emberLeft = 0 → heldCode 0x6006 s = false → (∀ e ∈ s.sfi.detected, e.1 ≠ 0x6006) →
      ∃ t, exec (.emberExpired dt) s = .next t ∧ t.sfi.detected = s.sfi.detected ++ [(0x6006, 0, [])] ∧ t.spu.held = s.spu.held) ∧
    (sf s 0x300 6 < s.sfi.supplyAge → heldCode 0x6035 s = false → (∀ e ∈ s.sfi.detected, e.1 ≠ 0x6035) →
      ∃ t, exec (.supplyTestOverdue dt) s = .next t ∧ t.sfi.detected = s.sfi.detected ++ [(0x6035, 0, [])] ∧ t.spu.held = s.spu.held) ∧
    (s.dev.powered = true → s.sfi.latched.contains 0x6013 = false → ∃ t, exec (.islandMemoryCheck dt false) s = .next t ∧
      t.sfi.detected = s.sfi.detected ++ [(0x6013, 0, [])] ∧ t.sfi.latched = s.sfi.latched ++ [0x6013]) ∧
    (s.dev.powered = true →
      (∀ agrees, s.clk.xmOk = false → s.sfi.xmLost = false → ∃ t, exec (.islandClockCheck dt agrees) s = .next t ∧ t.sfi.xmLost = true ∧
        t.sfi.detected = s.sfi.detected ++ [(0x6033, 0, [])]) ∧
      (s.clk.xmOk = true → s.sfi.latched.contains 0x6011 = false → ∃ t, exec (.islandClockCheck dt false) s = .next t ∧ t.sfi.xmLost = false ∧
        t.sfi.detected = s.sfi.detected ++ [(0x6011, 0, [])] ∧ t.sfi.latched = s.sfi.latched ++ [0x6011])) ∧
    (s.pairEn = true → s.sfi.inForce = true → s.sfi.mon = true → s.sfi.forceAt + 48000000 ≤ s.clock + dt →
      ∃ t, exec (.sfiPeerDisagree dt) s = .next t ∧ isHeld 0x6020 0 0 t = true ∧ t.sfi.inForce = true) ∧
    (∀ j : Fin 8, (sout s j).level = true → (∀ (k : Fin 8) (e : Nat), (sout s k).pulseEnd = some e → e + steps100us ≤ s.clock + dt) →
      (∀ a, (sout s j).pulseAt = some a → a + sfT s (0x100 + j) 3 ≤ s.clock + dt) → ∃ t, exec (.soutOffPulse dt j) s = .next t ∧ (sout t j).pulseEnd = some (s.clock + dt + sfT s (0x100 + j) 2) ∧
        ∀ k : Fin 8, k ≠ j → (sout t k).pulseEnd = (sout s k).pulseEnd) ∧
    (∀ (k : Fin 4) (bs : List Byte), (sc s k).st ≠ 0 → bs.length = 20 →
      ((crc32c (bs.take 16)).toNat ≠ ofBytesBE (bs.drop 16) → ∃ t, exec (.scSpduRx dt k bs) s = .next t ∧
        (sc t k).crcErr = sat32 (sc s k).crcErr ∧ (sc t k).wd = (sc s k).wd ∧ (sc t k).runPermit = (sc s k).runPermit) ∧
      (∀ l, (crc32c (bs.take 16)).toNat = ofBytesBE (bs.drop 16) → ofBytesBE (bs.take 4) = sf s (0x200 + k) 3 → (sc s k).last = some l →
        1 ≤ (ofBytesBE ((bs.drop 4).take 4) + 2 ^ 32 - l) % 2 ^ 32 → (ofBytesBE ((bs.drop 4).take 4) + 2 ^ 32 - l) % 2 ^ 32 ≤ 16 →
        ∃ t, exec (.scSpduRx dt k bs) s = .next t ∧ (sc t k).st = 2 ∧ (sc t k).last = some (ofBytesBE ((bs.drop 4).take 4)) ∧
          (sc t k).wd = s.clock + dt ∧ (sc t k).runPermit = (bs.getD 8 0).getLsbD 0 ∧ (sc t k).direct = bs.getD 9 0 ∧
          ((bs.getD 8 0).getLsbD 0 = false → scDemands s k = true → (sc s k).runPermit = true →
            t.sfi.detected = s.sfi.detected ++ [(0x6003, k.val, [])]))) ∧
    (∀ k : Fin 4, (sc s k).st = 1 ∨ (sc s k).st = 2 → (sc s k).wd + sfT s (0x200 + k) 5 ≤ s.clock + dt →
      ∃ t, exec (.scTimeout dt k) s = .next t ∧ (sc t k).st = 3 ∧
        if scDemands s k then t.sfi.detected = s.sfi.detected ++ [(0x6004, k.val, [])] else isHeld 0x6004 0 0 t = true) ∧
    (∀ k : Fin 4, (sc s k).st ≠ 0 → sf s (0x200 + k) 2 = 0 → (sc s k).txAt + sfT s (0x200 + k) 7 ≤ s.clock + dt → ∃ t bs, exec (.scStatusTx dt k) s = .next t ∧ .safety k bs ∈ t.out ∧
      bs.take 24 = bytesBE 4 (sf s (0x200 + k) 4) ++ bytesBE 4 (sc s k).seqOut ++ statusData s ∧
      bs.drop 24 = bytesBE 4 (crc32c (bs.take 24)).toNat ∧ (sc t k).seqOut = ((sc s k).seqOut + 1) % 2 ^ 32) ∧
    (s.sfi.testPhase = 1 → (∀ c ∈ servedPositions s, uvloBoth s c false = true) → ∃ t, exec (.supplyCutTestStep dt) s = .next t ∧
      t.sfi.testPhase = 2 ∧ t.sfi.safeHigh = false ∧ t.sfi.testAt = s.clock + dt) ∧
    (s.sfi.testPhase = 2 → (∀ c ∈ servedPositions s, uvloBoth s c true = true) → ∃ t, exec (.supplyCutTestStep dt) s = .next t ∧
      t.sfi.testPhase = 3 ∧ t.sfi.safeHigh = s.awake) ∧
    (s.sfi.testPhase = 3 → s.sfi.resetTest = false → (∀ c ∈ servedPositions s, uvloBoth s c false = true) →
      ∃ t, exec (.supplyCutTestStep dt) s = .next t ∧ t.sfi.testPhase = 4 ∧ t.sfi.supplyAge = 0) ∧
    (∀ v : Bool, s.sfi.testPhase = (if v then 2 else 3) → ((servedPositions s).filter (fun c => !uvloBoth s c v)) ≠ [] →
      s.sfi.testAt + sfT s 0x300 5 ≤ s.clock + dt → ∃ t, exec (.supplyCutTestStep dt) s = .next t ∧ t.sfi.testPhase = 5 ∧ t.sfi.safeHigh = false ∧
        t.sfi.detected = s.sfi.detected ++ ((servedPositions s).filter (fun c => !uvloBoth s c v)).map (fun c => (0x6007, 0, [c])))

/-! Starts, the keeper, block resets and BIST. -/

/-- Resets and starts (R45, R478 to R481, R489, R492, R493, R500, Tables 19-1 to 19-3): a source that stays asserted holds the release order at 0 in BOOT, and its release starts
it at the first step of the reach; each met step goes on to the next once the gap before it has passed, the Almanac's with every timebase at the keeper's seconds; a step that waits too long
starts again at reach FULL; the start target is PARKED, or ARMED with a configuration that passes its checks; a start succeeds START_OK_T after it and its slot's count is 0;
a trial that expires in ARMED, RUN or BLOCKED resets the engines and the revert follows, and in PARKED and BOOT the previous pattern is in force at once. -/
def Obligations.StartsAndResets : Prop :=
  ∀ (dt : Nat) (s : State),
    (s.dev.powered = true →
      (s.sys.asserted.contains 1 = false → ∃ t, exec (.powerOnReset dt true) s = .next t ∧ t.dev = .boot ∧ t.sys.step = 0 ∧ t.sys.cause = 0x0101 ∧
        t.sys.asserted = s.sys.asserted ++ [1] ∧ t.hst.token = 15 ∧ t.pend = []) ∧
      (s.sys.asserted.contains 2 = false → ∃ t, exec (.resetN dt true) s = .next t ∧ t.dev = .boot ∧ t.sys.step = 0 ∧ t.sys.cause = 0x0102 ∧
        t.sys.asserted = s.sys.asserted ++ [2] ∧ t.hst.token = 15 ∧ t.pend = []) ∧
      (s.sec.lifecycle ≠ 2 → s.sys.asserted = [] → ∃ t, exec (.jtagReset dt) s = .next t ∧ t.dev = .boot ∧ t.sys.step = 1 ∧ t.sys.cause = 0x0103) ∧
      (s.sec.lifecycle = 2 → ∃ t, exec (.jtagReset dt) s = .next t ∧ t.sys = s.sys ∧ t.dev = s.dev) ∧
      (s.sys.asserted = [2] → s.sys.step = 0 → ∃ t, exec (.resetN dt false) s = .next t ∧ t.sys.step = firstStep s.sys.reach ∧ t.sys.asserted = [])) ∧
    (s.sys.asserted = [1] → s.sys.step = 0 → s.sys.reach = 1 → ∃ t, exec (.powerOnReset dt false) s = .next t ∧ t.sys.step = 1 ∧
      t.sys.asserted = [] ∧ t.dev = if s.dev.powered then s.dev else .boot) ∧
    (s.dev.powered = true → s.sys.step ≤ 8 → s.sys.stepHeld = false → stepOpen (s.begin dt) = false → s.pinsHold = true →
      ∃ t, exec (.resetReleaseStep dt) s = .next t ∧ TimePassed dt s t) ∧
    (s.dev.powered = true → s.sys.stepHeld = false → stepOpen (s.begin dt) = true → stepMet s = true →
      (1 ≤ s.sys.step → s.sys.step < 8 → ∃ t, exec (.resetReleaseStep dt) s = .next t ∧ t.sys.step = s.sys.step + 1) ∧
      (s.sys.step = 6 → ∃ t, exec (.resetReleaseStep dt) s = .next t ∧ t.sys.step = 7 ∧ t.alm.running = true ∧
        ∀ k : Fin 4, (t.tb k).acc = s.sys.keepSec * (10 ^ 9 * 2 ^ 56) ∧ (t.tb k).st = .free) ∧
      (s.sys.step = 8 → s.dev.live = true → s.sys.revert = false → ∃ t, exec (.resetReleaseStep dt) s = .next t ∧ t.sys.step = 9 ∧ t.dev = .parked)) ∧
    (s.dev.powered = true → limitPassed (s.begin dt) = true → s.sys.stepHeld = false → s.sys.asserted = [] → ∃ t, exec (.releaseWaitLimit dt) s = .next t ∧ t.dev = .boot ∧
      t.sys.step = 1 ∧ t.sys.cause = 0x0180 + s.sys.step) ∧
    (s.sys.startClock + s.ptn 6 0 0xA / stepQ ≤ s.clock + dt → bootTrains s = true → s.pend = [] → ∃ t, exec (.acqWaitExpiry dt) s = .next t ∧
      t.alm.acqDone = true ∧ ∀ p : Fin 64, s.pn 5 p 1 ≠ 0 → s.pn 14 p 8 = 0 → (t.port p).st = .lock) ∧
    (s.dev = .boot → s.sys.step = 9 → s.sys.inForce = true → s.sys.fallback = false → (s.begin dt).strikes 0 s.alm.period s.alm.origin = true →
      (s.sys.opt.startTarget = 0 → ∃ t, exec (.startTargetReached dt) s = .next t ∧ t.dev = .parked ∧ t.sys.targetClock = some (s.clock + dt)) ∧
      (s.sys.opt.startTarget ≠ 0 → s.alm.acqDone = true → portsSettled s = true → armWaits s = false →
        checkAll (s.begin dt) = none → (compileLpe s.wire).isOk = true →
        ∃ t, exec (.startTargetReached dt) s = .next t ∧ t.dev = .armed ∧ t.sys.targetClock = some (s.clock + dt))) ∧
    (∀ c, s.sys.targetClock = some c → s.sys.succeeded = false → c + s.sys.opt.startOk * 16000000000 ≤ s.clock + dt →
      ∃ t, exec (.startSuccess dt) s = .next t ∧ t.sys.succeeded = true ∧ attOf t s.sys.runSlot = 0 ∧ (fwSlot s s.sys.runSlot).svn ≤ ctrOf t 0) ∧
    (s.sys.trial = true → s.sys.trialLeft = 0 → s.sys.inForce = true → s.sys.revert = false → s.awake = true → s.sys.asserted = [] →
      ∃ t, exec (.trialExpiry dt) s = .next t ∧ t.sys.revert = true ∧ t.sys.step = 7 ∧ t.sys.cause = 0x0308 ∧ isHeld 0x7403 0 0 t = true) ∧
    (s.sys.trial = true → s.sys.trialLeft = 0 → s.sys.inForce = true → s.sys.revert = false → s.dev = .parked ∨ s.dev = .boot →
      patStands s (prevPat s) = true → ∃ t, exec (.trialExpiry dt) s = .next t ∧ t.sys.cur = 1 - s.sys.cur ∧ t.sys.trial = false ∧
        t.sys.inForce = true ∧ isHeld 0x7403 0 0 t = isHeld 0x7403 0 0 s)

/-- The keeper's second and its mirror, the loss of the rails and VBAT (R40, R380, R504, R505, Table 1-4); a block reset that finds its block idle takes the block to its
initial state, and one that waited too long is held as BLK_IDLE (R485, R486); BIST_RUN starts in PARKED and ARMED alone, its end gives the result and its
answer, and BIST_RESULT reads it (R507, R508). -/
def Obligations.KeeperAndBist : Prop :=
  ∀ (dt : Nat) (p : Fin 8) (s : State),
    (keeperRuns s = true → secondDue (s.begin dt) = true → ∃ t, exec (.keeperSecond dt) s = .next t ∧ t.sys.keepSec = s.sys.keepSec + 1 ∧ t.dev = s.dev ∧ t.par = s.par ∧
      t.sys.trialLeft = (if s.sys.trial then s.sys.trialLeft - 1 else s.sys.trialLeft) ∧
      (s.dev.powered = true → t.sfi.supplyAge = satAdd32 s.sfi.supplyAge 1 ∧
        t.sfi.emberLeft = if s.sfi.ember then s.sfi.emberLeft - 1 else s.sfi.emberLeft)) ∧
    (s.dev.powered = true → s.sys.mirrorSec + 10 ≤ s.sys.keepSec ∨ s.sys.keepSec < s.sys.mirrorSec →
      ∃ t, exec (.keeperMirror dt) s = .next t ∧ t.sys.mirrorSec = s.sys.keepSec ∧ t.sys.keepSec = s.sys.keepSec ∧ t.dev = s.dev) ∧
    (s.dev.powered = true → ∃ t, exec (.railsLoss dt) s = .next t ∧ t.dev = (if s.sys.vbat then .shelf else .off) ∧ t.sys.keepSec = s.sys.keepSec ∧
      t.sys.asserted = [1] ∧ t.hst.token = 15 ∧ t.sec = s.sec ∧ (s.sys.vbat = false → t.sys.keeperLost = true)) ∧
    (∃ t, exec (.vbatInRange dt) s = .next t ∧ t.sys.vbat = true ∧ t.dev = (if s.dev = .off then .shelf else s.dev) ∧ t.par = s.par) ∧
    (∃ t, exec (.vbatLoss dt) s = .next t ∧ t.sys.vbat = false ∧ t.dev = (if s.dev = .shelf then .off else s.dev) ∧
      t.par = (if s.dev = .shelf then s.par.filter (fun e => idUnit e.1 != 16) else s.par) ∧
      (s.dev = .shelf → t.sys.keeperLost = true)) ∧
    (∀ (code n : Nat), s.pend = [] → s.sys.blk.find? (fun e => e.1 == code) = some (code, n) →
      (∃ t, exec (.blockResetComplete dt code true) s = .next t ∧ t.sys.blk = s.sys.blk.filter (fun e => e.1 != code) ∧ t.sys.cause = 0x0409 ∧
        t.par = s.par ∧ (code = 3 → t.gfe = Vector.replicate 4 {}) ∧ (code ≠ 3 → t.gfe = s.gfe)) ∧
      (n + s.ptn 15 0 0x11 / stepQ ≤ s.clock + dt → ∃ t, exec (.blockResetComplete dt code false) s = .next t ∧
        t.sys.blk = s.sys.blk.filter (fun e => e.1 != code) ∧ isHeld 0x7406 0 0 t = true)) ∧
    (∀ mask : BitVec 2, Granted p 0x0801 0x300 (.priv pvService) false s →
      (s.dev = .parked ∨ s.dev = .armed → s.sys.bist ≠ 1 → ∃ t, exec (.bistRun dt p mask) s = .next t ∧ t.sys.bist = 1 ∧
        t.sys.bistMask = mask.toNat ∧ t.sys.bistPart = p.val ∧ ∀ r, .resp p r ∉ t.out) ∧
      (s.dev ≠ .parked → s.dev ≠ .armed → ∃ t, exec (.bistRun dt p mask) s = .next t ∧ t.sys.bist = s.sys.bist ∧
        Answered p 0x0801 0x23 [BitVec.ofNat 32 (devCode s.dev), 0] s t)) ∧
    (∀ (sig : BitVec 128) (pass : BitVec 2), s.sys.bist = 1 → s.dev = .parked → s.sys.bistPart = p.val → (s.hp p).drop = false →
      ∃ t r, exec (.bistComplete dt sig pass) s = .next t ∧ .resp p r ∈ t.out ∧ r.status = 0 ∧ r.payload = [] ∧ t.sys.bistPart = 8 ∧
        t.sys.bist = if (BitVec.ofNat 2 s.sys.bistMask &&& pass).toNat = s.sys.bistMask then 2 else 3) ∧
    (Accepts p 0x0802 0x300 s → ∃ t, exec (.bistResult dt p) s = .next t ∧ Answered p 0x0802 0
      (if s.sys.bist < 2 then [0, 0, 0, 0, 0] else s.sys.bistSig ++ [BitVec.ofNat 32 s.sys.bistPass]) s t)

/-! Patterns and images. -/

/-- Patterns (R496 to R501, Table 19-10): PATTERN_LOAD from OFFSET 0 stages its data alone; a staged pattern that verifies is kept and answered with its COUNTER and length, one that does
not gives the reason and keeps nothing; PATTERN_ACTIVATE puts it in force in the slot that is not current, on trial where a time is given; PATTERN_CONFIRM ends
the trial, and PATTERN_ROLLBACK puts the previous pattern in force. -/
def Obligations.PatternCommands : Prop :=
  ∀ (dt : Nat) (p : Fin 8) (s : State),
    (∀ ws : List Word, Granted p 0x0601 0x300 (patRight s p) (patRight s p).acts s → s.dev ≠ .fallback → 16 + 4 * (1 + ws.length) ≤ maxMsg s p →
      ∃ t, exec (.patternLoad dt p 0 ws) s = .next t ∧ Answered p 0x0601 0 [BitVec.ofNat 32 (4 * ws.length)] s t ∧
        t.sys.staging = wordBytes ws ∧ t.sys.verified = none ∧ t.par = s.par) ∧
    (Granted p 0x0602 0x300 (patRight s p) (patRight s p).acts s → s.dev ≠ .fallback →
      (∀ x, verifyPat (takeMsg p 0x0602 (s.begin dt)) = .ok x → ∃ t, exec (.patternVerify dt p) s = .next t ∧ t.sys.verified = some x ∧ t.par = s.par ∧
        Answered p 0x0602 0 ([BitVec.ofNat 32 x.counter, BitVec.ofNat 32 (patLength s.sys.staging)] ++ bytesWords x.label) s t) ∧
      (∀ r, verifyPat (takeMsg p 0x0602 (s.begin dt)) = .error r → ∃ t, exec (.patternVerify dt p) s = .next t ∧ t.sys.verified = s.sys.verified ∧ t.par = s.par ∧
        Answered p 0x0602 r.status [BitVec.ofNat 32 r.d0, BitVec.ofNat 32 r.d1] s t)) ∧
    (∀ (w : Word) (x : Pat), Granted p 0x0603 0x300 (actRight s p) (actRight s p).acts s → s.dev ≠ .fallback →
      s.dev = .parked ∨ waitsPattern s = true → s.sys.trial = false → s.sys.verified = some x → s.sys.patHigh < x.counter →
      w = 0 ∨ (600 ≤ w.toNat ∧ w.toNat ≤ 86400) → s.sys.cur < 2 → ∃ t, exec (.patternActivate dt p w) s = .next t ∧
        t.sys.cur = 1 - s.sys.cur ∧ patSlot t (1 - s.sys.cur) = x ∧ t.sys.patHigh = x.counter ∧ t.sys.trial = (w != 0) ∧ t.sys.trialLeft = w.toNat ∧
        t.sys.inForce = true ∧ ∃ r, .resp p r ∈ t.out ∧ r.status = 0 ∧ r.payload = [BitVec.ofNat 32 x.counter]) ∧
    (∀ w : Word, Granted p 0x0604 0x300 .token true s → s.dev ≠ .fallback → s.sys.trial = true → s.sys.trialLeft ≠ 0 → (patOf s).counter = w.toNat →
      ∃ t, exec (.patternConfirm dt p w) s = .next t ∧ t.sys.trial = false ∧ t.sys.trialLeft = 0 ∧ t.sys.cur = s.sys.cur ∧ t.par = s.par ∧
        Answered p 0x0604 0 [] s t) ∧
    (Granted p 0x0605 0x300 .token true s → s.dev ≠ .fallback → s.dev = .parked ∨ waitsPattern s = true → patStands s (prevPat s) = true →
      ctrOf s 1 ≤ (prevPat s).counter → ∃ t, exec (.patternRollback dt p) s = .next t ∧ t.sys.cur = 1 - s.sys.cur ∧ t.sys.inForce = true ∧
        t.sys.trial = false ∧ ∃ r, .resp p r ∈ t.out ∧ r.status = 0 ∧ r.payload = [BitVec.ofNat 32 (prevPat s).counter]) ∧
    (Granted p 0x0606 0x300 .observe false s → s.dev ≠ .fallback → ∃ t ws, exec (.patternStatus dt p) s = .next t ∧ Answered p 0x0606 0 ws s t ∧
      ws.headD 0 = BitVec.ofNat 32 (patSlot s 0).counter ∧ ws.getLast? = some (BitVec.ofNat 32 s.sys.trialLeft))

/-- Images and the owner's and the fuses' commands (R495, R511 to R519, Table 20-4): an image is loaded into the slot not in use and selected where it verifies, with its
count at zero and the fallback flag gone; identity, provisioning, lifecycle, counters and tamper latches answer and act as their OP says. -/
def Obligations.SecurityCommands : Prop :=
  ∀ (dt : Nat) (p : Fin 8) (s : State),
    (∀ (slot : Fin 2) (ws : List Word), Granted p 0x0610 0x300 (.priv pvService) false s → slot.val ≠ s.sys.runSlot →
      16 + 4 * (2 + ws.length) ≤ maxMsg s p → ∃ t, exec (.imageLoad dt p slot 0 ws) s = .next t ∧
        Answered p 0x0610 0 [BitVec.ofNat 32 (4 * ws.length)] s t ∧ (fwSlot t slot).sigOk = false ∧ fwSlot t (1 - slot.val) = fwSlot s (1 - slot.val) ∧
        ∀ i : Nat, i < ws.length → tabGet (fwSlot t slot).words i 0 = ws.getD i 0) ∧
    (∀ slot : Fin 2, Granted p 0x0611 0x300 (.priv pvService) false s →
      (imageGood s (imageBytes (fwSlot s slot)) = true → ∃ t, exec (.imageSelect dt p slot) s = .next t ∧ Answered p 0x0611 0 [] s t ∧
        t.sys.activeSlot = slot.val ∧ attOf t slot = 0 ∧ t.sys.fallback = false ∧ (fwSlot t slot).sigOk = true) ∧
      (imageGood s (imageBytes (fwSlot s slot)) = false → ∃ t, exec (.imageSelect dt p slot) s = .next t ∧ t.sys = s.sys ∧
        Answered p 0x0611 0x59 [BitVec.ofNat 32 slot, 0] s t)) ∧
    (Granted p 0x0612 0x300 (.priv pvService) false s → ∃ t ws, exec (.imageStatus dt p) s = .next t ∧ Answered p 0x0612 0 ws s t ∧
      ws.headD 0 = BitVec.ofNat 32 (fwSlot s 0).version ∧ ws.getLast? = some (if s.sys.fallback then 1 else 0)) ∧
    (Granted p 0x0701 0x400 .observe false s →
      (∀ off : Word, ∃ t ws, exec (.identityRead dt p 1 off) s = .next t ∧ t.sec = s.sec ∧ Answered p 0x0701 0 ws s t ∧
        ws.take 2 = [BitVec.ofNat 32 s.sec.idKey.length, off]) ∧
      (∀ item off : Word, 2 < item.toNat → ∃ t, exec (.identityRead dt p item off) s = .next t ∧ Answered p 0x0701 0x21 [item, 0] s t)) ∧
    (∀ nonce, Granted p 0x0702 0x400 .observe false s →
      (s.sec.idKey ≠ [] → ∃ t ws, exec (.attest dt p 0 nonce) s = .next t ∧ t.sec = s.sec ∧ Answered p 0x0702 0 ws s t ∧
        (t.hp p).report = report (takeMsg p 0x0702 (s.begin dt)) nonce) ∧
      (s.sec.idKey = [] → ∃ t, exec (.attest dt p 0 nonce) s = .next t ∧
        Answered p 0x0702 0x65 [BitVec.ofNat 32 s.sec.lifecycle, BitVec.ofNat 32 s.sec.latch.toNat] s t)) ∧
    (Granted p 0x0703 0x400 (.priv pvService) false s →
      (s.sec.lifecycle = 0 → maxMsg s p = 4096 → ∃ t, exec (.provision dt p) s = .next t ∧ t.sec.lifecycle = 1 ∧
        t.sec.idKey = fixLen 2592 (Config.genKey (s.sec.keyNo + 1)) ∧ Answered p 0x0703 0 (bytesWords t.sec.idKey) s t) ∧
      (s.sec.lifecycle ≠ 0 → ∃ t, exec (.provision dt p) s = .next t ∧ t.sec = s.sec ∧
        Answered p 0x0703 0x60 [BitVec.ofNat 32 s.sec.lifecycle, 1] s t) ∧
      (∀ ws : List Word, s.dev = .parked ∨ s.dev = .boot → s.sec.ownerKey = [] → s.sec.bufOp = 2 → s.sec.buf.length + 4 * ws.length = 2592 →
        s.sec.buf ≠ [] → 16 + 4 * (2 + ws.length) ≤ maxMsg s p → ∃ t, exec (.ownerKeySet dt p (BitVec.ofNat 32 s.sec.buf.length) ws) s = .next t ∧
          t.sec.ownerKey = s.sec.buf ++ wordBytes ws ∧ t.sys.verified = none ∧ Answered p 0x0703 0 [] s t) ∧
      (s.sec.lifecycle = 1 → s.sec.cert ≠ [] → ∃ t, exec (.lifecycleAdvance dt p) s = .next t ∧ t.sec.lifecycle = 2 ∧ Answered p 0x0703 0 [] s t) ∧
      (∀ ws : List Word, s.sec.lifecycle ≠ 3 → s.sec.bufOp = 4 → s.sec.buf.length + 4 * ws.length = 8 + sigLen → s.sec.buf ≠ [] →
        (s.sec.buf ++ wordBytes ws).take 8 = bytesBE 8 Config.uid.toNat → signedBy 0 Config.rmaKey (s.sec.buf ++ wordBytes ws) = true →
        16 + 4 * (2 + ws.length) ≤ maxMsg s p → ∃ t, exec (.rmaEnter dt p (BitVec.ofNat 32 s.sec.buf.length) ws) s = .next t ∧
          t.sec.lifecycle = 3 ∧ t.sec.idKey = [] ∧ t.sec.ownerKey = [] ∧ t.sys.slot = Vector.replicate 2 {} ∧ t.sfi.setConfirmed = false ∧
          Answered p 0x0703 0 [] s t) ∧
      (∀ k v : Word, 16 ≤ k.toNat → k.toNat ≤ 31 → ctrOf s k.toNat < v.toNat → ∃ t, exec (.counterAdvance dt p k v) s = .next t ∧
        ctrOf t k.toNat = v.toNat ∧ (∀ j : Nat, j ≠ k.toNat → ctrOf t j = ctrOf s j) ∧ Answered p 0x0703 0 [] s t) ∧
      (∀ i : Fin 3, ∃ t, exec (.tamperClear dt p (BitVec.ofNat 32 i) true) s = .next t ∧ t.sec.latch = s.sec.latch &&& ~~~(BitVec.ofNat 3 (2 ^ i.val)) ∧
        Answered p 0x0703 0 [] s t)) ∧
    (∀ i : Fin 2, keeperRuns s = true → s.pn 16 i 1 = 1 → s.sec.latch.getLsbD i = false → ∃ t, exec (.tamperLatch dt i) s = .next t ∧
      t.sec.latch.getLsbD i = true ∧ t.sec.count = sat32 s.sec.count ∧ (s.pn 16 i 2 = 2 → t.sec.ownerKey = [] ∧ t.sec.idKey = []) ∧
      (firmwareRuns s = true → isHeld 0x7501 0 0 t = true))

/-! Reads and parameters. -/

/-- Reads (R66, R268, R269, R393 to R404, R438 to R440, Table 14-8): PARAM_READ answers every field there is and refuses the first that is not; an accepted PARAM_WRITE is answered with its tick instant and its values
wait for it, PARAM_STAGE keeps a set and PARAM_UNSTAGE drops it; PARAM_DESCRIBE gives the type, class and right; times, launches, held faults, the log and the first-out lists are read as they
stand, the leading word of a log page being the model's choice of the start (notes/assumptions/6.md); an Ethernet frame of a foreign VLAN is counted, and ARP for this address is
answered. -/
def Obligations.ReadsAndParameters : Prop :=
  ∀ (dt : Nat) (p : Fin 8) (s : State),
    (∀ ids : List Word, Granted p 0x0301 0x300 .observe false s → 16 + 4 * (1 + ids.length) ≤ maxMsg s p →
      ((∀ w ∈ ids, (rowOf w.toNat).isSome = true) → 16 + 32 * ids.length ≤ maxMsg s p → ∃ t ws, exec (.paramRead dt p ids) s = .next t ∧
        Answered p 0x0301 0 ws s t ∧ ws.length = 8 * ids.length ∧ t.par = s.par ∧ t.pend = s.pend) ∧
      (∀ i : Nat, i < ids.length → rowOf (ids.getD i 0).toNat = none → (∀ j : Nat, j < i → rowOf (ids.getD j 0).toNat ≠ none) →
        ∃ t, exec (.paramRead dt p ids) s = .next t ∧ Answered p 0x0301 0x20 [ids.getD i 0, BitVec.ofNat 32 i] s t)) ∧
    (∀ es : List (Nat × Wire), Granted p 0x0302 0x300 .observe false s → s.dev ≠ .fallback → 16 + 4 * (1 + 3 * es.length) ≤ maxMsg s p →
      (∀ e ∈ canonSet es, idUnit e.1 ≠ 13 ∧ idUnit e.1 ≠ 17 ∧ isCmd s e.1 = false) →
      setRefusal (takeMsg p 0x0302 (s.begin dt)) p 0 (canonSet es) = none → ∃ t, exec (.paramWrite dt p es) s = .next t ∧
        Answered p 0x0302 0 (wI (applyTick (s.begin dt))) s t ∧ t.par = s.par ∧
        t.pend = s.pend ++ (canonSet es).map (fun e => { id := e.1, val := e.2, tick := applyTick (s.begin dt) })) ∧
    (∀ (n : Fin 16) (es : List (Nat × Wire)), Granted p 0x0303 0x401 .observe false s → 16 + 4 * (2 + 3 * es.length) ≤ maxMsg s p →
      es.length ≤ 256 → setRefusal (takeMsg p 0x0303 (s.begin dt)) p 0 (canonSet es) = none →
      ∃ t, exec (.paramStage dt p (BitVec.ofNat 32 n) es) s = .next t ∧ Answered p 0x0303 0 [] s t ∧
        t.hst.staged = tabPut s.hst.staged n (canonSet es) ∧ t.par = s.par ∧ t.pend = s.pend) ∧
    (∀ n : Fin 16, Granted p 0x0304 0x401 .token true s → ∃ t, exec (.paramUnstage dt p (BitVec.ofNat 32 n)) s = .next t ∧
      Answered p 0x0304 0 [] s t ∧ t.hst.staged = tabDel s.hst.staged n) ∧
    (∀ id : Word, Granted p 0x0305 0x402 .observe false s →
      (∀ r, rowOf id.toNat = some r → ∃ t ws, exec (.paramDescribe dt p id) s = .next t ∧ Answered p 0x0305 0 ws s t ∧ ws.length = 9 ∧
        ws.headD 0 = BitVec.ofNat 32 (tyCode r.ty) ∧ ws.getD 1 0 = BitVec.ofNat 32 (clsCode (rowClass s id.toNat r))) ∧
      (rowOf id.toNat = none → ∃ t, exec (.paramDescribe dt p id) s = .next t ∧ Answered p 0x0305 0x20 [id, 0] s t)) ∧
    (∀ mask : Word, Granted p 0x0401 0x300 .observe false s → ∃ t, exec (.timeRead dt p mask) s = .next t ∧ t.alm = (s.begin dt).alm ∧
      Answered p 0x0401 0 (((List.range 4).filter (fun k => mask.getLsbD k)).flatMap (timeWords (s.begin dt))) s t) ∧
    (Granted p 0x0406 0x400 .observe false s → ∃ t, exec (.launchList dt p) s = .next t ∧ t.alm = (s.begin dt).alm ∧
      Answered p 0x0406 0 ((List.range 32).flatMap (fun i => launchWords (tabGet? s.alm.launch i))) s t) ∧
    (Granted p 0x0501 0x300 .observe false s → ∃ t, exec (.faultList dt p 0) s = .next t ∧ t.spu.held = s.spu.held ∧
      Answered p 0x0501 0 ((s.spu.held.take (pageSize s p 0)).flatMap (fun h => recordWords h.lr)) s t) ∧
    (∀ first count : Word, Granted p 0x0502 0x300 .observe false s → ∃ t ws, exec (.logRead dt p first count) s = .next t ∧ t.spu.log = s.spu.log ∧
      Answered p 0x0502 0 ws s t ∧ ws.drop 1 =
        (((s.spu.log.reverse.filter (fun r => decide (first.toNat ≤ r.seq))).take count.toNat).take (pageSize s p 1)).flatMap recordWords) ∧
    (Granted p 0x0503 0x300 .observe false s →
      (∃ t, exec (.firstOutRead dt p 0) s = .next t ∧ t.spu.foCur = s.spu.foCur ∧
        Answered p 0x0503 0 (BitVec.ofNat 32 s.spu.foCur.length :: s.spu.foCur.flatMap recordWords) s t) ∧
      (∃ t, exec (.firstOutRead dt p 1) s = .next t ∧ t.spu.foPrev = s.spu.foPrev ∧
        Answered p 0x0503 0 (BitVec.ofNat 32 s.spu.foPrev.length :: s.spu.foPrev.flatMap recordWords) s t)) ∧
    (∀ (n : Fin 64) (f : EthFrame), s.dev.powered = true → isEth s n = true → (lane s n).pst = 0 → ethGood f = true →
      (vidMatches f (lf s.wire n 0x10) = false → ptpTakes s n f = false → ∃ t, exec (.ethFrameRx dt n f) s = .next t ∧
        (lane t n).ethDrop = sat32 (lane s n).ethDrop ∧ told t = []) ∧
      (vidMatches f (lf s.wire n 0x10) = true → f.kind = .arp (lf s.wire n 0x11) → ∃ t, exec (.ethFrameRx dt n f) s = .next t ∧
        told t = [.eth n 0] ∧ t.lanes = s.lanes))

/-! Rules of their own. -/

/-- R469. TX_ABORT makes a PENDING buffer ABORTED_HOST at once. A SENDING buffer keeps its state until its attempt ends, however it ends: SENT
when the attempt succeeds, ABORTED_HOST otherwise. (A TXB[2] that belongs to the safety island is refused, which is another rule.) -/
def Obligations.TxAbortTakesEffect : Prop :=
  ∀ (dt : Nat) (p : Fin 8) (n : Fin 4) (b : Fin 3) (s : State), FieldGranted p .token s → (b.val = 2 → islandOwns s n = false ∧ (can s n).safety = none) →
    ((txb s n b).st = 1 → ∃ t, exec (.txAbort dt p n (BitVec.ofNat 3 (2 ^ b.val))) s = .next t ∧ (txb t n b).st = 5) ∧
    ((txb s n b).st = 2 → (∀ c : Fin 3, c ≠ b → (txb s n c).st ≠ 2) →
      ∃ t, exec (.txAbort dt p n (BitVec.ofNat 3 (2 ^ b.val))) s = .next t ∧ (txb t n b).st = 2 ∧
        ∀ (dt2 : Nat) (e : CanEnd) (tdc : Nat), ∃ u, exec (.canTxAttemptEnd dt2 n e tdc) t = .next u ∧
          (txb u n b).st = if e = .success then 3 else 5)

/-- R243. PGROUP takes 0 to 15: a write above is OUT_OF_RANGE and no field changes. A new fault whose configured reaction is GROUP_BLOCK is held
with every channel covered whose PGROUP equals that of a channel in its scope, and no other. -/
def Obligations.GroupBlockCovers : Prop :=
  ∀ (s : State),
    (∀ (dt : Nat) (p : Fin 8) (c : Fin 256) (v : Word), Granted p 0x0302 0x300 .token true s → s.dev ≠ .fallback → 15 < v.toNat →
      ∃ t d, exec (.paramWrite dt p [(mkId 4 c 1, BitVec.ofNat 64 v.toNat)]) s = .next t ∧ Answered p 0x0302 0x21 d s t ∧
        t.par = s.par ∧ t.pend = s.pend) ∧
    (∀ (code kind index d0 d1 : Nat) (scope : List Nat), isHeld code kind index s = false → cfgReact s code = 3 →
      withdrawCode code = false → ∀ h ∈ (raise code kind index d0 d1 scope s).spu.held, sameFault code kind index h = true →
        ∀ c : Fin 256, h.covers c = true ↔ ∃ d ∈ scope, s.pn 4 c 1 = s.pn 4 d 1)

/-- Events that the pins, the links, the detectors and the island's monitors bring. -/
def Sys2Proof.Machine.eventOnly : Instr → Bool
  | .blockNFall .. | .blockNPulseEnd .. | .blockNQuietEnd .. | .faultInLatch .. | .clearsWhenHeld .. | .pkgRail .. | .tempMonitorUpdate ..
  | .bsdFastDecision .. | .bsdMissingClock .. | .sdclkReturn .. | .bsdStuckStream .. | .adcShadowStart .. | .adcCalStep .. | .adcCalDone ..
  | .laneSyncLost .. | .laneEthDown .. | .checkerLock .. | .checkerLockLost .. | .marginScanDone .. | .canTxStart ..
  | .canBusIntegration .. | .canBusOffRecovered .. | .soutOffPulse .. | .islandClockCheck .. | .islandMemoryCheck .. | .supplyTestOverdue ..
  | .emberExpired .. | .sfiPeerDisagree .. | .scTimeout .. | .beaconDue .. | .stateRepeat .. | .symbolLock .. | .frameDiscarded ..
  | .linkSupervision .. => true
  | _ => false

/-- An event that the pins, the links, the detectors or the island's monitors bring (`eventOnly` lists them), whatever fault it raises and whatever
reaction follows, does not touch what the host configured and who may operate: the fields and the writes that wait, the keys and counters of
the security unit, the grid-forming engine and the loop engine, the token, the staged sets, the order of waiting messages and the
transitions that wait (R256, R391, R511). -/
def Obligations.EventsKeepConfiguration : Prop :=
  ∀ (c : Instr) (s : State), eventOnly c = true → ∃ t, exec c s = .next t ∧ t.par = s.par ∧ t.pend = s.pend ∧ t.sec = s.sec ∧
    t.gfe = s.gfe ∧ t.lpe = s.lpe ∧ t.trans = s.trans ∧ t.hst.token = s.hst.token ∧ t.hst.staged = s.hst.staged ∧
    t.hst.order = s.hst.order
end

