-- ==== Sys2Proof/Laws/Bitstream.lean ====
section
/-! SUPPORT. Whatever table the device holds, the coefficients and taps in use keep the limits of R277 and R278. -/
namespace Sys2Proof.Machine

/-- Rounding to nearest answers the quotient or the next number. -/
theorem divEven_bounds (a d : Nat) : a / d ≤ divEven a d ∧ divEven a d ≤ a / d + 1 := by
  unfold divEven
  simp only
  split
  · omega
  · split
    · omega
    · exact ⟨Nat.le_refl _, Nat.le_succ _⟩

/-- R277: one coefficient of gain 1 for a decimation whose R^N is at least 2. -/
theorem compPlain_ok {rn : Nat} (h : 2 ≤ rn) : compOk rn (compPlain rn).1 (compPlain rn).2 = true := by
  have lo : 2 ^ Nat.log2 rn ≤ rn := Nat.log2_self_le (by omega)
  have hi : rn < 2 ^ (Nat.log2 rn + 1) := Nat.lt_log2_self
  obtain ⟨k, hk⟩ : ∃ k, Nat.log2 rn = k + 1 := ⟨Nat.log2 rn - 1, by
    have : Nat.log2 rn ≠ 0 := fun z => by rw [z] at hi; omega
    omega⟩
  rw [hk] at lo hi
  have e : (compPlain rn).1 = [((divEven (2 ^ (23 + k)) rn : Nat) : Int)] := by simp [compPlain, hk]
  have e2 : (compPlain rn).2 = k := by simp [compPlain, hk]
  have b := divEven_bounds (2 ^ (23 + k)) rn
  have q := Nat.div_add_mod (2 ^ (23 + k)) rn
  have m := Nat.mod_lt (2 ^ (23 + k)) (show 0 < rn by omega)
  have p : 2 ^ (23 + k) = 4194304 * 2 ^ (k + 1) := by rw [← Nat.pow_add 2 22 (k + 1)]; congr 1; omega
  have p2 : 2 ^ (3 + k) = 4 * 2 ^ (k + 1) := by rw [← Nat.pow_add 2 2 (k + 1)]; congr 1; omega
  have p3 : 2 ^ (k + 1 + 1) = 2 * 2 ^ (k + 1) := by rw [Nat.pow_succ, Nat.mul_comm]
  have f : 2 ^ (23 + k) / rn ≤ 4194304 := by
    rw [p]; exact Nat.div_le_of_le_mul (by omega)
  rw [e, e2]
  generalize divEven (2 ^ (23 + k)) rn = c at *
  generalize 2 ^ (23 + k) / rn = d at *
  have r1 : d * rn ≤ c * rn := Nat.mul_le_mul_right _ b.1
  have r2 : c * rn ≤ d * rn + rn := by
    rw [← Nat.succ_mul]; exact Nat.mul_le_mul_right _ b.2
  have q' : d * rn + 2 ^ (23 + k) % rn = 2 ^ (23 + k) := by rw [Nat.mul_comm]; exact q
  simp only [compOk, List.all_cons, List.all_nil, List.foldl_cons, List.foldl_nil, Bool.and_true, Bool.and_eq_true, decide_eq_true_eq]
  refine ⟨⟨by omega, by omega⟩, ?_⟩
  have g : ((0 + (c : Int)) * (rn : Int) - 2 ^ (23 + k)).natAbs ≤ rn := by
    have : ((2 : Int) ^ (23 + k)) = ((2 ^ (23 + k) : Nat) : Int) := by push_cast; rfl
    rw [this, Int.zero_add, ← Int.natCast_mul]
    omega
  exact decide_eq_true (Nat.le_trans g (show rn ≤ 2 ^ (3 + k) by omega))

/-- R277: 24-bit coefficients of gain 1 within 2^-20. -/
theorem compCoeff_ok (w : Nat → Wire) (n : Nat) (h : 2 ≤ decR w n ^ ordN w n) :
    compOk (decR w n ^ ordN w n) (compCoeff w n).1 (compCoeff w n).2 = true := by
  unfold compCoeff
  simp only
  split
  · assumption
  · exact compPlain_ok h

/-- R278: 18-bit taps that sum to 2^17 in each phase. -/
theorem resampTaps_ok (opt p : Nat) : tapsOk (resampTaps opt p) = true := by
  unfold resampTaps
  simp only
  split
  · assumption
  · decide

end Sys2Proof.Machine
end

