-- ==== Sys2Proof/Laws/State.lean ====
section
/-! SUPPORT. One lemma per field and per update of the state, so that no later proof unfolds a record update. -/
namespace Sys2Proof.Machine

/-! The start of a command. -/
@[simp] theorem State.begin_dev (dt : Nat) (s : State) : (s.begin dt).dev = s.dev := rfl
@[simp] theorem State.begin_trans (dt : Nat) (s : State) : (s.begin dt).trans = s.trans := rfl
@[simp] theorem State.begin_blockCause (dt : Nat) (s : State) : (s.begin dt).blockCause = s.blockCause := rfl
@[simp] theorem State.begin_hst (dt : Nat) (s : State) : (s.begin dt).hst = s.hst := rfl
@[simp] theorem State.begin_gfe (dt : Nat) (s : State) : (s.begin dt).gfe = s.gfe := rfl
@[simp] theorem State.begin_lpe (dt : Nat) (s : State) : (s.begin dt).lpe = s.lpe := rfl
@[simp] theorem State.begin_mod (dt : Nat) (s : State) : (s.begin dt).mod = s.mod := rfl
@[simp] theorem State.begin_plk (dt : Nat) (s : State) : (s.begin dt).plk = s.plk := rfl
@[simp] theorem State.begin_spu (dt : Nat) (s : State) : (s.begin dt).spu = s.spu := rfl
@[simp] theorem State.begin_bsd (dt : Nat) (s : State) : (s.begin dt).bsd = s.bsd := rfl
@[simp] theorem State.begin_adc (dt : Nat) (s : State) : (s.begin dt).adc = s.adc := rfl
@[simp] theorem State.begin_recd (dt : Nat) (s : State) : (s.begin dt).recd = s.recd := rfl
@[simp] theorem State.begin_rdn (dt : Nat) (s : State) : (s.begin dt).rdn = s.rdn := rfl
@[simp] theorem State.begin_can (dt : Nat) (s : State) : (s.begin dt).can = s.can := rfl
@[simp] theorem State.begin_lanes (dt : Nat) (s : State) : (s.begin dt).lanes = s.lanes := rfl
@[simp] theorem State.begin_clk (dt : Nat) (s : State) : (s.begin dt).clk = s.clk := rfl
@[simp] theorem State.begin_sfi (dt : Nat) (s : State) : (s.begin dt).sfi = s.sfi := rfl
@[simp] theorem State.begin_sys (dt : Nat) (s : State) : (s.begin dt).sys = s.sys := rfl
@[simp] theorem State.begin_sec (dt : Nat) (s : State) : (s.begin dt).sec = s.sec := rfl
@[simp] theorem State.begin_tx (dt : Nat) (s : State) : (s.begin dt).tx = s.tx := rfl
@[simp] theorem State.begin_pkg (dt : Nat) (s : State) : (s.begin dt).pkg = s.pkg := rfl
@[simp] theorem State.begin_par (dt : Nat) (s : State) : (s.begin dt).par = s.par := rfl
@[simp] theorem State.begin_pend (dt : Nat) (s : State) : (s.begin dt).pend = s.pend := rfl
@[simp] theorem State.begin_since (dt : Nat) (s : State) : (s.begin dt).since = s.since := rfl
@[simp] theorem State.begin_free (dt : Nat) (s : State) : (s.begin dt).free = s.free := rfl
@[simp] theorem State.begin_pending (dt : Nat) (s : State) : (s.begin dt).pending = s.pending := rfl

@[simp] theorem State.begin_out (dt : Nat) (s : State) : (s.begin dt).out = [] := rfl
@[simp] theorem State.begin_clock (dt : Nat) (s : State) : (s.begin dt).clock = s.clock + dt := rfl
theorem State.begin_alm (dt : Nat) (s : State) : (s.begin dt).alm = s.alm.advance dt := rfl

@[simp] theorem Alm.advance_coarse (n : Nat) (a : Alm) : (a.advance n).coarse = a.coarse := by
  unfold Alm.advance; split <;> (try split) <;> rfl
@[simp] theorem Alm.advance_running (n : Nat) (a : Alm) : (a.advance n).running = a.running := by
  unfold Alm.advance; split <;> (try split) <;> rfl
@[simp] theorem Alm.advance_launch (n : Nat) (a : Alm) : (a.advance n).launch = a.launch := by
  unfold Alm.advance; split <;> (try split) <;> rfl
@[simp] theorem Alm.advance_ppsOut (n : Nat) (a : Alm) : (a.advance n).ppsOut = a.ppsOut := by
  unfold Alm.advance; split <;> (try split) <;> rfl
@[simp] theorem Alm.advance_ppsEnd (n : Nat) (a : Alm) : (a.advance n).ppsEnd = a.ppsEnd := by
  unfold Alm.advance; split <;> (try split) <;> rfl
@[simp] theorem Alm.advance_trigOut (n : Nat) (a : Alm) : (a.advance n).trigOut = a.trigOut := by
  unfold Alm.advance; split <;> (try split) <;> rfl
@[simp] theorem Alm.advance_pulses (n : Nat) (a : Alm) : (a.advance n).pulses = a.pulses := by
  unfold Alm.advance; split <;> (try split) <;> rfl
@[simp] theorem Alm.advance_stamp (n : Nat) (a : Alm) : (a.advance n).stamp = a.stamp := by
  unfold Alm.advance; split <;> (try split) <;> rfl
@[simp] theorem Alm.advance_todSet (n : Nat) (a : Alm) : (a.advance n).todSet = a.todSet := by
  unfold Alm.advance; split <;> (try split) <;> rfl
@[simp] theorem Alm.advance_ptp (n : Nat) (a : Alm) : (a.advance n).ptp = a.ptp := by
  unfold Alm.advance; split <;> (try split) <;> rfl
@[simp] theorem Alm.advance_period (n : Nat) (a : Alm) : (a.advance n).period = a.period := by
  unfold Alm.advance; split <;> (try split) <;> rfl
@[simp] theorem Alm.advance_phaseW (n : Nat) (a : Alm) : (a.advance n).phaseW = a.phaseW := by
  unfold Alm.advance; split <;> (try split) <;> rfl
@[simp] theorem Alm.advance_origin (n : Nat) (a : Alm) : (a.advance n).origin = a.origin := by
  unfold Alm.advance; split <;> (try split) <;> rfl
@[simp] theorem Alm.advance_lcmd (n : Nat) (a : Alm) : (a.advance n).lcmd = a.lcmd := by
  unfold Alm.advance; split <;> (try split) <;> rfl
@[simp] theorem Alm.advance_tick (n : Nat) (a : Alm) : (a.advance n).tick = a.tick := by
  unfold Alm.advance; split <;> (try split) <;> rfl
@[simp] theorem Alm.advance_stage (n : Nat) (a : Alm) : (a.advance n).stage = a.stage := by
  unfold Alm.advance; split <;> (try split) <;> rfl
@[simp] theorem Alm.advance_acqDone (n : Nat) (a : Alm) : (a.advance n).acqDone = a.acqDone := by
  unfold Alm.advance; split <;> (try split) <;> rfl
@[simp] theorem State.begin_alm_coarse (dt : Nat) (s : State) : (s.begin dt).alm.coarse = s.alm.coarse := Alm.advance_coarse dt s.alm
@[simp] theorem State.begin_alm_running (dt : Nat) (s : State) : (s.begin dt).alm.running = s.alm.running := Alm.advance_running dt s.alm
@[simp] theorem State.begin_alm_launch (dt : Nat) (s : State) : (s.begin dt).alm.launch = s.alm.launch := Alm.advance_launch dt s.alm
@[simp] theorem State.begin_alm_ppsOut (dt : Nat) (s : State) : (s.begin dt).alm.ppsOut = s.alm.ppsOut := Alm.advance_ppsOut dt s.alm
@[simp] theorem State.begin_alm_ppsEnd (dt : Nat) (s : State) : (s.begin dt).alm.ppsEnd = s.alm.ppsEnd := Alm.advance_ppsEnd dt s.alm
@[simp] theorem State.begin_alm_trigOut (dt : Nat) (s : State) : (s.begin dt).alm.trigOut = s.alm.trigOut := Alm.advance_trigOut dt s.alm
@[simp] theorem State.begin_alm_pulses (dt : Nat) (s : State) : (s.begin dt).alm.pulses = s.alm.pulses := Alm.advance_pulses dt s.alm
@[simp] theorem State.begin_alm_stamp (dt : Nat) (s : State) : (s.begin dt).alm.stamp = s.alm.stamp := Alm.advance_stamp dt s.alm
@[simp] theorem State.begin_alm_todSet (dt : Nat) (s : State) : (s.begin dt).alm.todSet = s.alm.todSet := Alm.advance_todSet dt s.alm
@[simp] theorem State.begin_alm_ptp (dt : Nat) (s : State) : (s.begin dt).alm.ptp = s.alm.ptp := Alm.advance_ptp dt s.alm
@[simp] theorem State.begin_alm_period (dt : Nat) (s : State) : (s.begin dt).alm.period = s.alm.period := Alm.advance_period dt s.alm
@[simp] theorem State.begin_alm_phaseW (dt : Nat) (s : State) : (s.begin dt).alm.phaseW = s.alm.phaseW := Alm.advance_phaseW dt s.alm
@[simp] theorem State.begin_alm_origin (dt : Nat) (s : State) : (s.begin dt).alm.origin = s.alm.origin := Alm.advance_origin dt s.alm
@[simp] theorem State.begin_alm_lcmd (dt : Nat) (s : State) : (s.begin dt).alm.lcmd = s.alm.lcmd := Alm.advance_lcmd dt s.alm
@[simp] theorem State.begin_alm_tick (dt : Nat) (s : State) : (s.begin dt).alm.tick = s.alm.tick := Alm.advance_tick dt s.alm
@[simp] theorem State.begin_alm_stage (dt : Nat) (s : State) : (s.begin dt).alm.stage = s.alm.stage := Alm.advance_stage dt s.alm
@[simp] theorem State.begin_alm_acqDone (dt : Nat) (s : State) : (s.begin dt).alm.acqDone = s.alm.acqDone := Alm.advance_acqDone dt s.alm

/-! The transmitters. -/
@[simp] theorem transmit_dev (s : State) : (transmit s).dev = s.dev := rfl
@[simp] theorem transmit_trans (s : State) : (transmit s).trans = s.trans := rfl
@[simp] theorem transmit_blockCause (s : State) : (transmit s).blockCause = s.blockCause := rfl
@[simp] theorem transmit_alm (s : State) : (transmit s).alm = s.alm := rfl
@[simp] theorem transmit_hst (s : State) : (transmit s).hst = s.hst := rfl
@[simp] theorem transmit_gfe (s : State) : (transmit s).gfe = s.gfe := rfl
@[simp] theorem transmit_lpe (s : State) : (transmit s).lpe = s.lpe := rfl
@[simp] theorem transmit_mod (s : State) : (transmit s).mod = s.mod := rfl
@[simp] theorem transmit_plk (s : State) : (transmit s).plk = s.plk := rfl
@[simp] theorem transmit_spu (s : State) : (transmit s).spu = s.spu := rfl
@[simp] theorem transmit_bsd (s : State) : (transmit s).bsd = s.bsd := rfl
@[simp] theorem transmit_adc (s : State) : (transmit s).adc = s.adc := rfl
@[simp] theorem transmit_recd (s : State) : (transmit s).recd = s.recd := rfl
@[simp] theorem transmit_rdn (s : State) : (transmit s).rdn = s.rdn := rfl
@[simp] theorem transmit_can (s : State) : (transmit s).can = s.can := rfl
@[simp] theorem transmit_lanes (s : State) : (transmit s).lanes = s.lanes := rfl
@[simp] theorem transmit_clk (s : State) : (transmit s).clk = s.clk := rfl
@[simp] theorem transmit_sfi (s : State) : (transmit s).sfi = s.sfi := rfl
@[simp] theorem transmit_sys (s : State) : (transmit s).sys = s.sys := rfl
@[simp] theorem transmit_sec (s : State) : (transmit s).sec = s.sec := rfl
@[simp] theorem transmit_pkg (s : State) : (transmit s).pkg = s.pkg := rfl
@[simp] theorem transmit_par (s : State) : (transmit s).par = s.par := rfl
@[simp] theorem transmit_pend (s : State) : (transmit s).pend = s.pend := rfl
@[simp] theorem transmit_since (s : State) : (transmit s).since = s.since := rfl
@[simp] theorem transmit_clock (s : State) : (transmit s).clock = s.clock := rfl
@[simp] theorem transmit_free (s : State) : (transmit s).free = s.free := rfl
@[simp] theorem transmit_pending (s : State) : (transmit s).pending = s.pending := rfl

theorem mem_transmit {x : Out} {s : State} (h : x ∈ s.out) : x ∈ (transmit s).out := List.mem_append_left _ h

/-! The watch on timed conditions. -/
@[simp] theorem watch_dev (s : State) : (watch s).dev = s.dev := rfl
@[simp] theorem watch_trans (s : State) : (watch s).trans = s.trans := rfl
@[simp] theorem watch_blockCause (s : State) : (watch s).blockCause = s.blockCause := rfl
@[simp] theorem watch_alm (s : State) : (watch s).alm = s.alm := rfl
@[simp] theorem watch_hst (s : State) : (watch s).hst = s.hst := rfl
@[simp] theorem watch_gfe (s : State) : (watch s).gfe = s.gfe := rfl
@[simp] theorem watch_lpe (s : State) : (watch s).lpe = s.lpe := rfl
@[simp] theorem watch_mod (s : State) : (watch s).mod = s.mod := rfl
@[simp] theorem watch_plk (s : State) : (watch s).plk = s.plk := rfl
@[simp] theorem watch_spu (s : State) : (watch s).spu = s.spu := rfl
@[simp] theorem watch_bsd (s : State) : (watch s).bsd = s.bsd := rfl
@[simp] theorem watch_adc (s : State) : (watch s).adc = s.adc := rfl
@[simp] theorem watch_recd (s : State) : (watch s).recd = s.recd := rfl
@[simp] theorem watch_rdn (s : State) : (watch s).rdn = s.rdn := rfl
@[simp] theorem watch_can (s : State) : (watch s).can = s.can := rfl
@[simp] theorem watch_lanes (s : State) : (watch s).lanes = s.lanes := rfl
@[simp] theorem watch_clk (s : State) : (watch s).clk = s.clk := rfl
@[simp] theorem watch_sfi (s : State) : (watch s).sfi = s.sfi := rfl
@[simp] theorem watch_sys (s : State) : (watch s).sys = s.sys := rfl
@[simp] theorem watch_sec (s : State) : (watch s).sec = s.sec := rfl
@[simp] theorem watch_tx (s : State) : (watch s).tx = s.tx := rfl
@[simp] theorem watch_pkg (s : State) : (watch s).pkg = s.pkg := rfl
@[simp] theorem watch_par (s : State) : (watch s).par = s.par := rfl
@[simp] theorem watch_pend (s : State) : (watch s).pend = s.pend := rfl
@[simp] theorem watch_clock (s : State) : (watch s).clock = s.clock := rfl
@[simp] theorem watch_free (s : State) : (watch s).free = s.free := rfl
@[simp] theorem watch_out (s : State) : (watch s).out = s.out := rfl
@[simp] theorem watch_pending (s : State) : (watch s).pending = s.pending := rfl

/-! The pins at the end of a command. -/
@[simp] theorem settle_dev (s : State) : (settle s).dev = s.dev := rfl
@[simp] theorem settle_trans (s : State) : (settle s).trans = s.trans := rfl
@[simp] theorem settle_blockCause (s : State) : (settle s).blockCause = s.blockCause := rfl
@[simp] theorem settle_alm (s : State) : (settle s).alm = s.alm := rfl
@[simp] theorem settle_hst (s : State) : (settle s).hst = s.hst := rfl
@[simp] theorem settle_gfe (s : State) : (settle s).gfe = s.gfe := rfl
@[simp] theorem settle_lpe (s : State) : (settle s).lpe = s.lpe := rfl
@[simp] theorem settle_mod (s : State) : (settle s).mod = s.mod := rfl
@[simp] theorem settle_plk (s : State) : (settle s).plk = s.plk := rfl
@[simp] theorem settle_adc (s : State) : (settle s).adc = s.adc := rfl
@[simp] theorem settle_recd (s : State) : (settle s).recd = s.recd := rfl
@[simp] theorem settle_can (s : State) : (settle s).can = s.can := rfl
@[simp] theorem settle_lanes (s : State) : (settle s).lanes = s.lanes := rfl
@[simp] theorem settle_clk (s : State) : (settle s).clk = s.clk := rfl
@[simp] theorem settle_sys (s : State) : (settle s).sys = s.sys := rfl
@[simp] theorem settle_sec (s : State) : (settle s).sec = s.sec := rfl
@[simp] theorem settle_tx (s : State) : (settle s).tx = s.tx := rfl
@[simp] theorem settle_pkg (s : State) : (settle s).pkg = s.pkg := rfl
@[simp] theorem settle_par (s : State) : (settle s).par = s.par := rfl
@[simp] theorem settle_pend (s : State) : (settle s).pend = s.pend := rfl
@[simp] theorem settle_since (s : State) : (settle s).since = s.since := rfl
@[simp] theorem settle_clock (s : State) : (settle s).clock = s.clock := rfl
@[simp] theorem settle_free (s : State) : (settle s).free = s.free := rfl
@[simp] theorem settle_out (s : State) : (settle s).out = s.out := rfl
@[simp] theorem settle_pending (s : State) : (settle s).pending = s.pending := rfl

@[simp] theorem settle_spu_held (s : State) : (settle s).spu.held = s.spu.held := rfl
@[simp] theorem settle_spu_logSeq (s : State) : (settle s).spu.logSeq = s.spu.logSeq := rfl
@[simp] theorem settle_spu_due (s : State) : (settle s).spu.due = s.spu.due := rfl
@[simp] theorem settle_spu_log (s : State) : (settle s).spu.log = s.spu.log := rfl
@[simp] theorem settle_spu_foCur (s : State) : (settle s).spu.foCur = s.spu.foCur := rfl
@[simp] theorem settle_spu_foPrev (s : State) : (settle s).spu.foPrev = s.spu.foPrev := rfl
@[simp] theorem settle_spu_decisions (s : State) : (settle s).spu.decisions = s.spu.decisions := rfl
@[simp] theorem settle_spu_attempts (s : State) : (settle s).spu.attempts = s.spu.attempts := rfl
@[simp] theorem settle_spu_sweepRes (s : State) : (settle s).spu.sweepRes = s.spu.sweepRes := rfl
@[simp] theorem settle_spu_guardRes (s : State) : (settle s).spu.guardRes = s.spu.guardRes := rfl
@[simp] theorem settle_spu_prestart (s : State) : (settle s).spu.prestart = s.spu.prestart := rfl
@[simp] theorem settle_spu_sweeps (s : State) : (settle s).spu.sweeps = s.spu.sweeps := rfl
@[simp] theorem settle_spu_wireLow (s : State) : (settle s).spu.wireLow = s.spu.wireLow := rfl
@[simp] theorem settle_spu_fallStamp (s : State) : (settle s).spu.fallStamp = s.spu.fallStamp := rfl
@[simp] theorem settle_spu_pulseEnd (s : State) : (settle s).spu.pulseEnd = s.spu.pulseEnd := rfl
@[simp] theorem settle_spu_highSince (s : State) : (settle s).spu.highSince = s.spu.highSince := rfl
@[simp] theorem settle_spu_sw (s : State) : (settle s).spu.sw = s.spu.sw := rfl
@[simp] theorem settle_spu_clearBy (s : State) : (settle s).spu.clearBy = s.spu.clearBy := rfl
@[simp] theorem settle_spu_runs (s : State) : (settle s).spu.runs = s.spu.runs := rfl
@[simp] theorem settle_rdn_role (s : State) : (settle s).rdn.role = s.rdn.role := rfl
@[simp] theorem settle_rdn_partnerRole (s : State) : (settle s).rdn.partnerRole = s.rdn.partnerRole := rfl
@[simp] theorem settle_rdn_syncTicks (s : State) : (settle s).rdn.syncTicks = s.rdn.syncTicks := rfl
@[simp] theorem settle_rdn_joinState (s : State) : (settle s).rdn.joinState = s.rdn.joinState := rfl
@[simp] theorem settle_rdn_failovers (s : State) : (settle s).rdn.failovers = s.rdn.failovers := rfl
@[simp] theorem settle_rdn_dDiam (s : State) : (settle s).rdn.dDiam = s.rdn.dDiam := rfl
@[simp] theorem settle_rdn_pp (s : State) : (settle s).rdn.pp = s.rdn.pp := rfl
@[simp] theorem settle_rdn_lane (s : State) : (settle s).rdn.lane = s.rdn.lane := rfl
@[simp] theorem settle_rdn_hb (s : State) : (settle s).rdn.hb = s.rdn.hb := rfl
@[simp] theorem settle_rdn_partner (s : State) : (settle s).rdn.partner = s.rdn.partner := rfl
@[simp] theorem settle_rdn_mismatch (s : State) : (settle s).rdn.mismatch = s.rdn.mismatch := rfl
@[simp] theorem settle_rdn_snap (s : State) : (settle s).rdn.snap = s.rdn.snap := rfl
@[simp] theorem settle_rdn_fwd (s : State) : (settle s).rdn.fwd = s.rdn.fwd := rfl
@[simp] theorem settle_rdn_rmap (s : State) : (settle s).rdn.rmap = s.rdn.rmap := rfl
@[simp] theorem settle_rdn_ownMap (s : State) : (settle s).rdn.ownMap = s.rdn.ownMap := rfl
@[simp] theorem settle_rdn_dig (s : State) : (settle s).rdn.dig = s.rdn.dig := rfl
@[simp] theorem settle_rdn_pdig (s : State) : (settle s).rdn.pdig = s.rdn.pdig := rfl
@[simp] theorem settle_rdn_ownValues (s : State) : (settle s).rdn.ownValues = s.rdn.ownValues := rfl
@[simp] theorem settle_rdn_integrity (s : State) : (settle s).rdn.integrity = s.rdn.integrity := rfl
@[simp] theorem settle_rdn_gseq (s : State) : (settle s).rdn.gseq = s.rdn.gseq := rfl
@[simp] theorem settle_rdn_bseq (s : State) : (settle s).rdn.bseq = s.rdn.bseq := rfl
@[simp] theorem settle_rdn_gbWin (s : State) : (settle s).rdn.gbWin = s.rdn.gbWin := rfl
@[simp] theorem settle_rdn_bcWin (s : State) : (settle s).rdn.bcWin = s.rdn.bcWin := rfl
@[simp] theorem settle_rdn_typeWin (s : State) : (settle s).rdn.typeWin = s.rdn.typeWin := rfl
@[simp] theorem settle_rdn_txSeq (s : State) : (settle s).rdn.txSeq = s.rdn.txSeq := rfl
@[simp] theorem settle_rdn_vigil (s : State) : (settle s).rdn.vigil = s.rdn.vigil := rfl
@[simp] theorem settle_rdn_vigilOwn (s : State) : (settle s).rdn.vigilOwn = s.rdn.vigilOwn := rfl
@[simp] theorem settle_rdn_vseq (s : State) : (settle s).rdn.vseq = s.rdn.vseq := rfl
@[simp] theorem settle_rdn_perMis (s : State) : (settle s).rdn.perMis = s.rdn.perMis := rfl
@[simp] theorem settle_rdn_perMiss (s : State) : (settle s).rdn.perMiss = s.rdn.perMiss := rfl
@[simp] theorem settle_rdn_perOne (s : State) : (settle s).rdn.perOne = s.rdn.perOne := rfl
@[simp] theorem settle_rdn_perAdc (s : State) : (settle s).rdn.perAdc = s.rdn.perAdc := rfl
@[simp] theorem settle_rdn_perBsd (s : State) : (settle s).rdn.perBsd = s.rdn.perBsd := rfl
@[simp] theorem settle_rdn_perEcc (s : State) : (settle s).rdn.perEcc = s.rdn.perEcc := rfl
@[simp] theorem settle_rdn_eccUn (s : State) : (settle s).rdn.eccUn = s.rdn.eccUn := rfl
@[simp] theorem settle_rdn_swapAt (s : State) : (settle s).rdn.swapAt = s.rdn.swapAt := rfl
@[simp] theorem settle_rdn_buf (s : State) : (settle s).rdn.buf = s.rdn.buf := rfl
@[simp] theorem settle_rdn_joinRestarts (s : State) : (settle s).rdn.joinRestarts = s.rdn.joinRestarts := rfl
@[simp] theorem settle_rdn_failAt (s : State) : (settle s).rdn.failAt = s.rdn.failAt := rfl
@[simp] theorem settle_rdn_capture (s : State) : (settle s).rdn.capture = s.rdn.capture := rfl
@[simp] theorem settle_rdn_shadow (s : State) : (settle s).rdn.shadow = s.rdn.shadow := rfl
@[simp] theorem settle_rdn_cmp (s : State) : (settle s).rdn.cmp = s.rdn.cmp := rfl
@[simp] theorem settle_rdn_partnerFail (s : State) : (settle s).rdn.partnerFail = s.rdn.partnerFail := rfl
@[simp] theorem settle_rdn_helloAt (s : State) : (settle s).rdn.helloAt = s.rdn.helloAt := rfl
@[simp] theorem settle_rdn_topoAt (s : State) : (settle s).rdn.topoAt = s.rdn.topoAt := rfl
@[simp] theorem settle_rdn_vigilAt (s : State) : (settle s).rdn.vigilAt = s.rdn.vigilAt := rfl
@[simp] theorem settle_sfi_inForce (s : State) : (settle s).sfi.inForce = s.sfi.inForce := rfl
@[simp] theorem settle_sfi_firstCause (s : State) : (settle s).sfi.firstCause = s.sfi.firstCause := rfl
@[simp] theorem settle_sfi_forceAt (s : State) : (settle s).sfi.forceAt = s.sfi.forceAt := rfl
@[simp] theorem settle_sfi_setConfirmed (s : State) : (settle s).sfi.setConfirmed = s.sfi.setConfirmed := rfl
@[simp] theorem settle_sfi_confirmedCrc (s : State) : (settle s).sfi.confirmedCrc = s.sfi.confirmedCrc := rfl
@[simp] theorem settle_sfi_crcEff (s : State) : (settle s).sfi.crcEff = s.sfi.crcEff := rfl
@[simp] theorem settle_sfi_ember (s : State) : (settle s).sfi.ember = s.sfi.ember := rfl
@[simp] theorem settle_sfi_emberLeft (s : State) : (settle s).sfi.emberLeft = s.sfi.emberLeft := rfl
@[simp] theorem settle_sfi_supplyAge (s : State) : (settle s).sfi.supplyAge = s.sfi.supplyAge := rfl
@[simp] theorem settle_sfi_testPhase (s : State) : (settle s).sfi.testPhase = s.sfi.testPhase := rfl
@[simp] theorem settle_sfi_testAt (s : State) : (settle s).sfi.testAt = s.sfi.testAt := rfl
@[simp] theorem settle_sfi_testBad (s : State) : (settle s).sfi.testBad = s.sfi.testBad := rfl
@[simp] theorem settle_sfi_sin (s : State) : (settle s).sfi.sin = s.sfi.sin := rfl
@[simp] theorem settle_sfi_sc (s : State) : (settle s).sfi.sc = s.sfi.sc := rfl
@[simp] theorem settle_sfi_mon (s : State) : (settle s).sfi.mon = s.sfi.mon := rfl
@[simp] theorem settle_sfi_outBad (s : State) : (settle s).sfi.outBad = s.sfi.outBad := rfl
@[simp] theorem settle_sfi_latched (s : State) : (settle s).sfi.latched = s.sfi.latched := rfl
@[simp] theorem settle_sfi_detected (s : State) : (settle s).sfi.detected = s.sfi.detected := rfl
@[simp] theorem settle_sfi_resetReq (s : State) : (settle s).sfi.resetReq = s.sfi.resetReq := rfl
@[simp] theorem settle_sfi_resetTest (s : State) : (settle s).sfi.resetTest = s.sfi.resetTest := rfl
@[simp] theorem settle_sfi_xmLost (s : State) : (settle s).sfi.xmLost = s.sfi.xmLost := rfl
@[simp] theorem settle_bsd_inp (s : State) : (settle s).bsd.inp = s.bsd.inp := rfl
@[simp] theorem settle_bsd_grp (s : State) : (settle s).bsd.grp = s.bsd.grp := rfl
@[simp] theorem settle_bsd_patOut (s : State) : (settle s).bsd.patOut = s.bsd.patOut := rfl
@[simp] theorem settle_bsd_snap (s : State) : (settle s).bsd.snap = s.bsd.snap := rfl
@[simp] theorem settle_bsd_stat (s : State) : (settle s).bsd.stat = s.bsd.stat := rfl
@[simp] theorem settle_bsd_syncCount (s : State) : (settle s).bsd.syncCount = s.bsd.syncCount := rfl
@[simp] theorem settle_bsd_syncIgnored (s : State) : (settle s).bsd.syncIgnored = s.bsd.syncIgnored := rfl

/-! An output. -/
@[simp] theorem State.emit_dev (x : Out) (s : State) : (s.emit x).dev = s.dev := rfl
@[simp] theorem State.emit_trans (x : Out) (s : State) : (s.emit x).trans = s.trans := rfl
@[simp] theorem State.emit_blockCause (x : Out) (s : State) : (s.emit x).blockCause = s.blockCause := rfl
@[simp] theorem State.emit_alm (x : Out) (s : State) : (s.emit x).alm = s.alm := rfl
@[simp] theorem State.emit_hst (x : Out) (s : State) : (s.emit x).hst = s.hst := rfl
@[simp] theorem State.emit_gfe (x : Out) (s : State) : (s.emit x).gfe = s.gfe := rfl
@[simp] theorem State.emit_lpe (x : Out) (s : State) : (s.emit x).lpe = s.lpe := rfl
@[simp] theorem State.emit_mod (x : Out) (s : State) : (s.emit x).mod = s.mod := rfl
@[simp] theorem State.emit_plk (x : Out) (s : State) : (s.emit x).plk = s.plk := rfl
@[simp] theorem State.emit_spu (x : Out) (s : State) : (s.emit x).spu = s.spu := rfl
@[simp] theorem State.emit_bsd (x : Out) (s : State) : (s.emit x).bsd = s.bsd := rfl
@[simp] theorem State.emit_adc (x : Out) (s : State) : (s.emit x).adc = s.adc := rfl
@[simp] theorem State.emit_recd (x : Out) (s : State) : (s.emit x).recd = s.recd := rfl
@[simp] theorem State.emit_rdn (x : Out) (s : State) : (s.emit x).rdn = s.rdn := rfl
@[simp] theorem State.emit_can (x : Out) (s : State) : (s.emit x).can = s.can := rfl
@[simp] theorem State.emit_lanes (x : Out) (s : State) : (s.emit x).lanes = s.lanes := rfl
@[simp] theorem State.emit_clk (x : Out) (s : State) : (s.emit x).clk = s.clk := rfl
@[simp] theorem State.emit_sfi (x : Out) (s : State) : (s.emit x).sfi = s.sfi := rfl
@[simp] theorem State.emit_sys (x : Out) (s : State) : (s.emit x).sys = s.sys := rfl
@[simp] theorem State.emit_sec (x : Out) (s : State) : (s.emit x).sec = s.sec := rfl
@[simp] theorem State.emit_tx (x : Out) (s : State) : (s.emit x).tx = s.tx := rfl
@[simp] theorem State.emit_pkg (x : Out) (s : State) : (s.emit x).pkg = s.pkg := rfl
@[simp] theorem State.emit_par (x : Out) (s : State) : (s.emit x).par = s.par := rfl
@[simp] theorem State.emit_pend (x : Out) (s : State) : (s.emit x).pend = s.pend := rfl
@[simp] theorem State.emit_since (x : Out) (s : State) : (s.emit x).since = s.since := rfl
@[simp] theorem State.emit_clock (x : Out) (s : State) : (s.emit x).clock = s.clock := rfl
@[simp] theorem State.emit_free (x : Out) (s : State) : (s.emit x).free = s.free := rfl
@[simp] theorem State.emit_pending (x : Out) (s : State) : (s.emit x).pending = s.pending := rfl

@[simp] theorem State.emit_out (x : Out) (s : State) : (s.emit x).out = s.out ++ [x] := rfl

/-! setPar. -/
@[simp] theorem State.setPar_dev (id : Nat) (v : Wire) (s : State) : (s.setPar id v).dev = s.dev := rfl
@[simp] theorem State.setPar_trans (id : Nat) (v : Wire) (s : State) : (s.setPar id v).trans = s.trans := rfl
@[simp] theorem State.setPar_blockCause (id : Nat) (v : Wire) (s : State) : (s.setPar id v).blockCause = s.blockCause := rfl
@[simp] theorem State.setPar_alm (id : Nat) (v : Wire) (s : State) : (s.setPar id v).alm = s.alm := rfl
@[simp] theorem State.setPar_hst (id : Nat) (v : Wire) (s : State) : (s.setPar id v).hst = s.hst := rfl
@[simp] theorem State.setPar_gfe (id : Nat) (v : Wire) (s : State) : (s.setPar id v).gfe = s.gfe := rfl
@[simp] theorem State.setPar_lpe (id : Nat) (v : Wire) (s : State) : (s.setPar id v).lpe = s.lpe := rfl
@[simp] theorem State.setPar_mod (id : Nat) (v : Wire) (s : State) : (s.setPar id v).mod = s.mod := rfl
@[simp] theorem State.setPar_plk (id : Nat) (v : Wire) (s : State) : (s.setPar id v).plk = s.plk := rfl
@[simp] theorem State.setPar_spu (id : Nat) (v : Wire) (s : State) : (s.setPar id v).spu = s.spu := rfl
@[simp] theorem State.setPar_bsd (id : Nat) (v : Wire) (s : State) : (s.setPar id v).bsd = s.bsd := rfl
@[simp] theorem State.setPar_adc (id : Nat) (v : Wire) (s : State) : (s.setPar id v).adc = s.adc := rfl
@[simp] theorem State.setPar_recd (id : Nat) (v : Wire) (s : State) : (s.setPar id v).recd = s.recd := rfl
@[simp] theorem State.setPar_rdn (id : Nat) (v : Wire) (s : State) : (s.setPar id v).rdn = s.rdn := rfl
@[simp] theorem State.setPar_can (id : Nat) (v : Wire) (s : State) : (s.setPar id v).can = s.can := rfl
@[simp] theorem State.setPar_lanes (id : Nat) (v : Wire) (s : State) : (s.setPar id v).lanes = s.lanes := rfl
@[simp] theorem State.setPar_clk (id : Nat) (v : Wire) (s : State) : (s.setPar id v).clk = s.clk := rfl
@[simp] theorem State.setPar_sfi (id : Nat) (v : Wire) (s : State) : (s.setPar id v).sfi = s.sfi := rfl
@[simp] theorem State.setPar_sys (id : Nat) (v : Wire) (s : State) : (s.setPar id v).sys = s.sys := rfl
@[simp] theorem State.setPar_sec (id : Nat) (v : Wire) (s : State) : (s.setPar id v).sec = s.sec := rfl
@[simp] theorem State.setPar_tx (id : Nat) (v : Wire) (s : State) : (s.setPar id v).tx = s.tx := rfl
@[simp] theorem State.setPar_pkg (id : Nat) (v : Wire) (s : State) : (s.setPar id v).pkg = s.pkg := rfl
@[simp] theorem State.setPar_pend (id : Nat) (v : Wire) (s : State) : (s.setPar id v).pend = s.pend := rfl
@[simp] theorem State.setPar_since (id : Nat) (v : Wire) (s : State) : (s.setPar id v).since = s.since := rfl
@[simp] theorem State.setPar_clock (id : Nat) (v : Wire) (s : State) : (s.setPar id v).clock = s.clock := rfl
@[simp] theorem State.setPar_free (id : Nat) (v : Wire) (s : State) : (s.setPar id v).free = s.free := rfl
@[simp] theorem State.setPar_out (id : Nat) (v : Wire) (s : State) : (s.setPar id v).out = s.out := rfl
@[simp] theorem State.setPar_pending (id : Nat) (v : Wire) (s : State) : (s.setPar id v).pending = s.pending := rfl

/-! modHp. -/
@[simp] theorem State.modHp_dev (p : Nat) (f : Hp → Hp) (s : State) : (s.modHp p f).dev = s.dev := rfl
@[simp] theorem State.modHp_trans (p : Nat) (f : Hp → Hp) (s : State) : (s.modHp p f).trans = s.trans := rfl
@[simp] theorem State.modHp_blockCause (p : Nat) (f : Hp → Hp) (s : State) : (s.modHp p f).blockCause = s.blockCause := rfl
@[simp] theorem State.modHp_alm (p : Nat) (f : Hp → Hp) (s : State) : (s.modHp p f).alm = s.alm := rfl
@[simp] theorem State.modHp_gfe (p : Nat) (f : Hp → Hp) (s : State) : (s.modHp p f).gfe = s.gfe := rfl
@[simp] theorem State.modHp_lpe (p : Nat) (f : Hp → Hp) (s : State) : (s.modHp p f).lpe = s.lpe := rfl
@[simp] theorem State.modHp_mod (p : Nat) (f : Hp → Hp) (s : State) : (s.modHp p f).mod = s.mod := rfl
@[simp] theorem State.modHp_plk (p : Nat) (f : Hp → Hp) (s : State) : (s.modHp p f).plk = s.plk := rfl
@[simp] theorem State.modHp_spu (p : Nat) (f : Hp → Hp) (s : State) : (s.modHp p f).spu = s.spu := rfl
@[simp] theorem State.modHp_bsd (p : Nat) (f : Hp → Hp) (s : State) : (s.modHp p f).bsd = s.bsd := rfl
@[simp] theorem State.modHp_adc (p : Nat) (f : Hp → Hp) (s : State) : (s.modHp p f).adc = s.adc := rfl
@[simp] theorem State.modHp_recd (p : Nat) (f : Hp → Hp) (s : State) : (s.modHp p f).recd = s.recd := rfl
@[simp] theorem State.modHp_rdn (p : Nat) (f : Hp → Hp) (s : State) : (s.modHp p f).rdn = s.rdn := rfl
@[simp] theorem State.modHp_can (p : Nat) (f : Hp → Hp) (s : State) : (s.modHp p f).can = s.can := rfl
@[simp] theorem State.modHp_lanes (p : Nat) (f : Hp → Hp) (s : State) : (s.modHp p f).lanes = s.lanes := rfl
@[simp] theorem State.modHp_clk (p : Nat) (f : Hp → Hp) (s : State) : (s.modHp p f).clk = s.clk := rfl
@[simp] theorem State.modHp_sfi (p : Nat) (f : Hp → Hp) (s : State) : (s.modHp p f).sfi = s.sfi := rfl
@[simp] theorem State.modHp_sys (p : Nat) (f : Hp → Hp) (s : State) : (s.modHp p f).sys = s.sys := rfl
@[simp] theorem State.modHp_sec (p : Nat) (f : Hp → Hp) (s : State) : (s.modHp p f).sec = s.sec := rfl
@[simp] theorem State.modHp_tx (p : Nat) (f : Hp → Hp) (s : State) : (s.modHp p f).tx = s.tx := rfl
@[simp] theorem State.modHp_pkg (p : Nat) (f : Hp → Hp) (s : State) : (s.modHp p f).pkg = s.pkg := rfl
@[simp] theorem State.modHp_par (p : Nat) (f : Hp → Hp) (s : State) : (s.modHp p f).par = s.par := rfl
@[simp] theorem State.modHp_pend (p : Nat) (f : Hp → Hp) (s : State) : (s.modHp p f).pend = s.pend := rfl
@[simp] theorem State.modHp_since (p : Nat) (f : Hp → Hp) (s : State) : (s.modHp p f).since = s.since := rfl
@[simp] theorem State.modHp_clock (p : Nat) (f : Hp → Hp) (s : State) : (s.modHp p f).clock = s.clock := rfl
@[simp] theorem State.modHp_free (p : Nat) (f : Hp → Hp) (s : State) : (s.modHp p f).free = s.free := rfl
@[simp] theorem State.modHp_out (p : Nat) (f : Hp → Hp) (s : State) : (s.modHp p f).out = s.out := rfl
@[simp] theorem State.modHp_pending (p : Nat) (f : Hp → Hp) (s : State) : (s.modHp p f).pending = s.pending := rfl

/-! modPort. -/
@[simp] theorem State.modPort_dev (p : Nat) (f : Port → Port) (s : State) : (s.modPort p f).dev = s.dev := rfl
@[simp] theorem State.modPort_trans (p : Nat) (f : Port → Port) (s : State) : (s.modPort p f).trans = s.trans := rfl
@[simp] theorem State.modPort_blockCause (p : Nat) (f : Port → Port) (s : State) : (s.modPort p f).blockCause = s.blockCause := rfl
@[simp] theorem State.modPort_alm (p : Nat) (f : Port → Port) (s : State) : (s.modPort p f).alm = s.alm := rfl
@[simp] theorem State.modPort_hst (p : Nat) (f : Port → Port) (s : State) : (s.modPort p f).hst = s.hst := rfl
@[simp] theorem State.modPort_gfe (p : Nat) (f : Port → Port) (s : State) : (s.modPort p f).gfe = s.gfe := rfl
@[simp] theorem State.modPort_lpe (p : Nat) (f : Port → Port) (s : State) : (s.modPort p f).lpe = s.lpe := rfl
@[simp] theorem State.modPort_mod (p : Nat) (f : Port → Port) (s : State) : (s.modPort p f).mod = s.mod := rfl
@[simp] theorem State.modPort_spu (p : Nat) (f : Port → Port) (s : State) : (s.modPort p f).spu = s.spu := rfl
@[simp] theorem State.modPort_bsd (p : Nat) (f : Port → Port) (s : State) : (s.modPort p f).bsd = s.bsd := rfl
@[simp] theorem State.modPort_adc (p : Nat) (f : Port → Port) (s : State) : (s.modPort p f).adc = s.adc := rfl
@[simp] theorem State.modPort_recd (p : Nat) (f : Port → Port) (s : State) : (s.modPort p f).recd = s.recd := rfl
@[simp] theorem State.modPort_rdn (p : Nat) (f : Port → Port) (s : State) : (s.modPort p f).rdn = s.rdn := rfl
@[simp] theorem State.modPort_can (p : Nat) (f : Port → Port) (s : State) : (s.modPort p f).can = s.can := rfl
@[simp] theorem State.modPort_lanes (p : Nat) (f : Port → Port) (s : State) : (s.modPort p f).lanes = s.lanes := rfl
@[simp] theorem State.modPort_clk (p : Nat) (f : Port → Port) (s : State) : (s.modPort p f).clk = s.clk := rfl
@[simp] theorem State.modPort_sfi (p : Nat) (f : Port → Port) (s : State) : (s.modPort p f).sfi = s.sfi := rfl
@[simp] theorem State.modPort_sys (p : Nat) (f : Port → Port) (s : State) : (s.modPort p f).sys = s.sys := rfl
@[simp] theorem State.modPort_sec (p : Nat) (f : Port → Port) (s : State) : (s.modPort p f).sec = s.sec := rfl
@[simp] theorem State.modPort_tx (p : Nat) (f : Port → Port) (s : State) : (s.modPort p f).tx = s.tx := rfl
@[simp] theorem State.modPort_pkg (p : Nat) (f : Port → Port) (s : State) : (s.modPort p f).pkg = s.pkg := rfl
@[simp] theorem State.modPort_par (p : Nat) (f : Port → Port) (s : State) : (s.modPort p f).par = s.par := rfl
@[simp] theorem State.modPort_pend (p : Nat) (f : Port → Port) (s : State) : (s.modPort p f).pend = s.pend := rfl
@[simp] theorem State.modPort_since (p : Nat) (f : Port → Port) (s : State) : (s.modPort p f).since = s.since := rfl
@[simp] theorem State.modPort_clock (p : Nat) (f : Port → Port) (s : State) : (s.modPort p f).clock = s.clock := rfl
@[simp] theorem State.modPort_free (p : Nat) (f : Port → Port) (s : State) : (s.modPort p f).free = s.free := rfl
@[simp] theorem State.modPort_out (p : Nat) (f : Port → Port) (s : State) : (s.modPort p f).out = s.out := rfl
@[simp] theorem State.modPort_pending (p : Nat) (f : Port → Port) (s : State) : (s.modPort p f).pending = s.pending := rfl

/-! modTel. -/
@[simp] theorem State.modTel_dev (c : Nat) (f : Tel → Tel) (s : State) : (s.modTel c f).dev = s.dev := rfl
@[simp] theorem State.modTel_trans (c : Nat) (f : Tel → Tel) (s : State) : (s.modTel c f).trans = s.trans := rfl
@[simp] theorem State.modTel_blockCause (c : Nat) (f : Tel → Tel) (s : State) : (s.modTel c f).blockCause = s.blockCause := rfl
@[simp] theorem State.modTel_alm (c : Nat) (f : Tel → Tel) (s : State) : (s.modTel c f).alm = s.alm := rfl
@[simp] theorem State.modTel_hst (c : Nat) (f : Tel → Tel) (s : State) : (s.modTel c f).hst = s.hst := rfl
@[simp] theorem State.modTel_gfe (c : Nat) (f : Tel → Tel) (s : State) : (s.modTel c f).gfe = s.gfe := rfl
@[simp] theorem State.modTel_lpe (c : Nat) (f : Tel → Tel) (s : State) : (s.modTel c f).lpe = s.lpe := rfl
@[simp] theorem State.modTel_mod (c : Nat) (f : Tel → Tel) (s : State) : (s.modTel c f).mod = s.mod := rfl
@[simp] theorem State.modTel_spu (c : Nat) (f : Tel → Tel) (s : State) : (s.modTel c f).spu = s.spu := rfl
@[simp] theorem State.modTel_bsd (c : Nat) (f : Tel → Tel) (s : State) : (s.modTel c f).bsd = s.bsd := rfl
@[simp] theorem State.modTel_adc (c : Nat) (f : Tel → Tel) (s : State) : (s.modTel c f).adc = s.adc := rfl
@[simp] theorem State.modTel_recd (c : Nat) (f : Tel → Tel) (s : State) : (s.modTel c f).recd = s.recd := rfl
@[simp] theorem State.modTel_rdn (c : Nat) (f : Tel → Tel) (s : State) : (s.modTel c f).rdn = s.rdn := rfl
@[simp] theorem State.modTel_can (c : Nat) (f : Tel → Tel) (s : State) : (s.modTel c f).can = s.can := rfl
@[simp] theorem State.modTel_lanes (c : Nat) (f : Tel → Tel) (s : State) : (s.modTel c f).lanes = s.lanes := rfl
@[simp] theorem State.modTel_clk (c : Nat) (f : Tel → Tel) (s : State) : (s.modTel c f).clk = s.clk := rfl
@[simp] theorem State.modTel_sfi (c : Nat) (f : Tel → Tel) (s : State) : (s.modTel c f).sfi = s.sfi := rfl
@[simp] theorem State.modTel_sys (c : Nat) (f : Tel → Tel) (s : State) : (s.modTel c f).sys = s.sys := rfl
@[simp] theorem State.modTel_sec (c : Nat) (f : Tel → Tel) (s : State) : (s.modTel c f).sec = s.sec := rfl
@[simp] theorem State.modTel_tx (c : Nat) (f : Tel → Tel) (s : State) : (s.modTel c f).tx = s.tx := rfl
@[simp] theorem State.modTel_pkg (c : Nat) (f : Tel → Tel) (s : State) : (s.modTel c f).pkg = s.pkg := rfl
@[simp] theorem State.modTel_par (c : Nat) (f : Tel → Tel) (s : State) : (s.modTel c f).par = s.par := rfl
@[simp] theorem State.modTel_pend (c : Nat) (f : Tel → Tel) (s : State) : (s.modTel c f).pend = s.pend := rfl
@[simp] theorem State.modTel_since (c : Nat) (f : Tel → Tel) (s : State) : (s.modTel c f).since = s.since := rfl
@[simp] theorem State.modTel_clock (c : Nat) (f : Tel → Tel) (s : State) : (s.modTel c f).clock = s.clock := rfl
@[simp] theorem State.modTel_free (c : Nat) (f : Tel → Tel) (s : State) : (s.modTel c f).free = s.free := rfl
@[simp] theorem State.modTel_out (c : Nat) (f : Tel → Tel) (s : State) : (s.modTel c f).out = s.out := rfl
@[simp] theorem State.modTel_pending (c : Nat) (f : Tel → Tel) (s : State) : (s.modTel c f).pending = s.pending := rfl

/-! modChan. -/
@[simp] theorem State.modChan_dev (c : Nat) (f : Chan → Chan) (s : State) : (s.modChan c f).dev = s.dev := rfl
@[simp] theorem State.modChan_trans (c : Nat) (f : Chan → Chan) (s : State) : (s.modChan c f).trans = s.trans := rfl
@[simp] theorem State.modChan_blockCause (c : Nat) (f : Chan → Chan) (s : State) : (s.modChan c f).blockCause = s.blockCause := rfl
@[simp] theorem State.modChan_alm (c : Nat) (f : Chan → Chan) (s : State) : (s.modChan c f).alm = s.alm := rfl
@[simp] theorem State.modChan_hst (c : Nat) (f : Chan → Chan) (s : State) : (s.modChan c f).hst = s.hst := rfl
@[simp] theorem State.modChan_gfe (c : Nat) (f : Chan → Chan) (s : State) : (s.modChan c f).gfe = s.gfe := rfl
@[simp] theorem State.modChan_lpe (c : Nat) (f : Chan → Chan) (s : State) : (s.modChan c f).lpe = s.lpe := rfl
@[simp] theorem State.modChan_plk (c : Nat) (f : Chan → Chan) (s : State) : (s.modChan c f).plk = s.plk := rfl
@[simp] theorem State.modChan_spu (c : Nat) (f : Chan → Chan) (s : State) : (s.modChan c f).spu = s.spu := rfl
@[simp] theorem State.modChan_bsd (c : Nat) (f : Chan → Chan) (s : State) : (s.modChan c f).bsd = s.bsd := rfl
@[simp] theorem State.modChan_adc (c : Nat) (f : Chan → Chan) (s : State) : (s.modChan c f).adc = s.adc := rfl
@[simp] theorem State.modChan_recd (c : Nat) (f : Chan → Chan) (s : State) : (s.modChan c f).recd = s.recd := rfl
@[simp] theorem State.modChan_rdn (c : Nat) (f : Chan → Chan) (s : State) : (s.modChan c f).rdn = s.rdn := rfl
@[simp] theorem State.modChan_can (c : Nat) (f : Chan → Chan) (s : State) : (s.modChan c f).can = s.can := rfl
@[simp] theorem State.modChan_lanes (c : Nat) (f : Chan → Chan) (s : State) : (s.modChan c f).lanes = s.lanes := rfl
@[simp] theorem State.modChan_clk (c : Nat) (f : Chan → Chan) (s : State) : (s.modChan c f).clk = s.clk := rfl
@[simp] theorem State.modChan_sfi (c : Nat) (f : Chan → Chan) (s : State) : (s.modChan c f).sfi = s.sfi := rfl
@[simp] theorem State.modChan_sys (c : Nat) (f : Chan → Chan) (s : State) : (s.modChan c f).sys = s.sys := rfl
@[simp] theorem State.modChan_sec (c : Nat) (f : Chan → Chan) (s : State) : (s.modChan c f).sec = s.sec := rfl
@[simp] theorem State.modChan_tx (c : Nat) (f : Chan → Chan) (s : State) : (s.modChan c f).tx = s.tx := rfl
@[simp] theorem State.modChan_pkg (c : Nat) (f : Chan → Chan) (s : State) : (s.modChan c f).pkg = s.pkg := rfl
@[simp] theorem State.modChan_par (c : Nat) (f : Chan → Chan) (s : State) : (s.modChan c f).par = s.par := rfl
@[simp] theorem State.modChan_pend (c : Nat) (f : Chan → Chan) (s : State) : (s.modChan c f).pend = s.pend := rfl
@[simp] theorem State.modChan_since (c : Nat) (f : Chan → Chan) (s : State) : (s.modChan c f).since = s.since := rfl
@[simp] theorem State.modChan_clock (c : Nat) (f : Chan → Chan) (s : State) : (s.modChan c f).clock = s.clock := rfl
@[simp] theorem State.modChan_free (c : Nat) (f : Chan → Chan) (s : State) : (s.modChan c f).free = s.free := rfl
@[simp] theorem State.modChan_out (c : Nat) (f : Chan → Chan) (s : State) : (s.modChan c f).out = s.out := rfl
@[simp] theorem State.modChan_pending (c : Nat) (f : Chan → Chan) (s : State) : (s.modChan c f).pending = s.pending := rfl

/-! modTb. -/
@[simp] theorem State.modTb_dev (k : Nat) (f : Tb → Tb) (s : State) : (s.modTb k f).dev = s.dev := rfl
@[simp] theorem State.modTb_trans (k : Nat) (f : Tb → Tb) (s : State) : (s.modTb k f).trans = s.trans := rfl
@[simp] theorem State.modTb_blockCause (k : Nat) (f : Tb → Tb) (s : State) : (s.modTb k f).blockCause = s.blockCause := rfl
@[simp] theorem State.modTb_hst (k : Nat) (f : Tb → Tb) (s : State) : (s.modTb k f).hst = s.hst := rfl
@[simp] theorem State.modTb_gfe (k : Nat) (f : Tb → Tb) (s : State) : (s.modTb k f).gfe = s.gfe := rfl
@[simp] theorem State.modTb_lpe (k : Nat) (f : Tb → Tb) (s : State) : (s.modTb k f).lpe = s.lpe := rfl
@[simp] theorem State.modTb_mod (k : Nat) (f : Tb → Tb) (s : State) : (s.modTb k f).mod = s.mod := rfl
@[simp] theorem State.modTb_plk (k : Nat) (f : Tb → Tb) (s : State) : (s.modTb k f).plk = s.plk := rfl
@[simp] theorem State.modTb_spu (k : Nat) (f : Tb → Tb) (s : State) : (s.modTb k f).spu = s.spu := rfl
@[simp] theorem State.modTb_bsd (k : Nat) (f : Tb → Tb) (s : State) : (s.modTb k f).bsd = s.bsd := rfl
@[simp] theorem State.modTb_adc (k : Nat) (f : Tb → Tb) (s : State) : (s.modTb k f).adc = s.adc := rfl
@[simp] theorem State.modTb_recd (k : Nat) (f : Tb → Tb) (s : State) : (s.modTb k f).recd = s.recd := rfl
@[simp] theorem State.modTb_rdn (k : Nat) (f : Tb → Tb) (s : State) : (s.modTb k f).rdn = s.rdn := rfl
@[simp] theorem State.modTb_can (k : Nat) (f : Tb → Tb) (s : State) : (s.modTb k f).can = s.can := rfl
@[simp] theorem State.modTb_lanes (k : Nat) (f : Tb → Tb) (s : State) : (s.modTb k f).lanes = s.lanes := rfl
@[simp] theorem State.modTb_clk (k : Nat) (f : Tb → Tb) (s : State) : (s.modTb k f).clk = s.clk := rfl
@[simp] theorem State.modTb_sfi (k : Nat) (f : Tb → Tb) (s : State) : (s.modTb k f).sfi = s.sfi := rfl
@[simp] theorem State.modTb_sys (k : Nat) (f : Tb → Tb) (s : State) : (s.modTb k f).sys = s.sys := rfl
@[simp] theorem State.modTb_sec (k : Nat) (f : Tb → Tb) (s : State) : (s.modTb k f).sec = s.sec := rfl
@[simp] theorem State.modTb_tx (k : Nat) (f : Tb → Tb) (s : State) : (s.modTb k f).tx = s.tx := rfl
@[simp] theorem State.modTb_pkg (k : Nat) (f : Tb → Tb) (s : State) : (s.modTb k f).pkg = s.pkg := rfl
@[simp] theorem State.modTb_par (k : Nat) (f : Tb → Tb) (s : State) : (s.modTb k f).par = s.par := rfl
@[simp] theorem State.modTb_pend (k : Nat) (f : Tb → Tb) (s : State) : (s.modTb k f).pend = s.pend := rfl
@[simp] theorem State.modTb_since (k : Nat) (f : Tb → Tb) (s : State) : (s.modTb k f).since = s.since := rfl
@[simp] theorem State.modTb_clock (k : Nat) (f : Tb → Tb) (s : State) : (s.modTb k f).clock = s.clock := rfl
@[simp] theorem State.modTb_free (k : Nat) (f : Tb → Tb) (s : State) : (s.modTb k f).free = s.free := rfl
@[simp] theorem State.modTb_out (k : Nat) (f : Tb → Tb) (s : State) : (s.modTb k f).out = s.out := rfl
@[simp] theorem State.modTb_pending (k : Nat) (f : Tb → Tb) (s : State) : (s.modTb k f).pending = s.pending := rfl

/-! modSq. -/
@[simp] theorem State.modSq_dev (q : Nat) (f : Sq → Sq) (s : State) : (s.modSq q f).dev = s.dev := rfl
@[simp] theorem State.modSq_trans (q : Nat) (f : Sq → Sq) (s : State) : (s.modSq q f).trans = s.trans := rfl
@[simp] theorem State.modSq_blockCause (q : Nat) (f : Sq → Sq) (s : State) : (s.modSq q f).blockCause = s.blockCause := rfl
@[simp] theorem State.modSq_alm (q : Nat) (f : Sq → Sq) (s : State) : (s.modSq q f).alm = s.alm := rfl
@[simp] theorem State.modSq_gfe (q : Nat) (f : Sq → Sq) (s : State) : (s.modSq q f).gfe = s.gfe := rfl
@[simp] theorem State.modSq_lpe (q : Nat) (f : Sq → Sq) (s : State) : (s.modSq q f).lpe = s.lpe := rfl
@[simp] theorem State.modSq_mod (q : Nat) (f : Sq → Sq) (s : State) : (s.modSq q f).mod = s.mod := rfl
@[simp] theorem State.modSq_plk (q : Nat) (f : Sq → Sq) (s : State) : (s.modSq q f).plk = s.plk := rfl
@[simp] theorem State.modSq_spu (q : Nat) (f : Sq → Sq) (s : State) : (s.modSq q f).spu = s.spu := rfl
@[simp] theorem State.modSq_bsd (q : Nat) (f : Sq → Sq) (s : State) : (s.modSq q f).bsd = s.bsd := rfl
@[simp] theorem State.modSq_adc (q : Nat) (f : Sq → Sq) (s : State) : (s.modSq q f).adc = s.adc := rfl
@[simp] theorem State.modSq_recd (q : Nat) (f : Sq → Sq) (s : State) : (s.modSq q f).recd = s.recd := rfl
@[simp] theorem State.modSq_rdn (q : Nat) (f : Sq → Sq) (s : State) : (s.modSq q f).rdn = s.rdn := rfl
@[simp] theorem State.modSq_can (q : Nat) (f : Sq → Sq) (s : State) : (s.modSq q f).can = s.can := rfl
@[simp] theorem State.modSq_lanes (q : Nat) (f : Sq → Sq) (s : State) : (s.modSq q f).lanes = s.lanes := rfl
@[simp] theorem State.modSq_clk (q : Nat) (f : Sq → Sq) (s : State) : (s.modSq q f).clk = s.clk := rfl
@[simp] theorem State.modSq_sfi (q : Nat) (f : Sq → Sq) (s : State) : (s.modSq q f).sfi = s.sfi := rfl
@[simp] theorem State.modSq_sys (q : Nat) (f : Sq → Sq) (s : State) : (s.modSq q f).sys = s.sys := rfl
@[simp] theorem State.modSq_sec (q : Nat) (f : Sq → Sq) (s : State) : (s.modSq q f).sec = s.sec := rfl
@[simp] theorem State.modSq_tx (q : Nat) (f : Sq → Sq) (s : State) : (s.modSq q f).tx = s.tx := rfl
@[simp] theorem State.modSq_pkg (q : Nat) (f : Sq → Sq) (s : State) : (s.modSq q f).pkg = s.pkg := rfl
@[simp] theorem State.modSq_par (q : Nat) (f : Sq → Sq) (s : State) : (s.modSq q f).par = s.par := rfl
@[simp] theorem State.modSq_pend (q : Nat) (f : Sq → Sq) (s : State) : (s.modSq q f).pend = s.pend := rfl
@[simp] theorem State.modSq_since (q : Nat) (f : Sq → Sq) (s : State) : (s.modSq q f).since = s.since := rfl
@[simp] theorem State.modSq_clock (q : Nat) (f : Sq → Sq) (s : State) : (s.modSq q f).clock = s.clock := rfl
@[simp] theorem State.modSq_free (q : Nat) (f : Sq → Sq) (s : State) : (s.modSq q f).free = s.free := rfl
@[simp] theorem State.modSq_out (q : Nat) (f : Sq → Sq) (s : State) : (s.modSq q f).out = s.out := rfl
@[simp] theorem State.modSq_pending (q : Nat) (f : Sq → Sq) (s : State) : (s.modSq q f).pending = s.pending := rfl

/-! modGfi. -/
@[simp] theorem State.modGfi_dev (k : Nat) (f : Gfi → Gfi) (s : State) : (s.modGfi k f).dev = s.dev := rfl
@[simp] theorem State.modGfi_trans (k : Nat) (f : Gfi → Gfi) (s : State) : (s.modGfi k f).trans = s.trans := rfl
@[simp] theorem State.modGfi_blockCause (k : Nat) (f : Gfi → Gfi) (s : State) : (s.modGfi k f).blockCause = s.blockCause := rfl
@[simp] theorem State.modGfi_alm (k : Nat) (f : Gfi → Gfi) (s : State) : (s.modGfi k f).alm = s.alm := rfl
@[simp] theorem State.modGfi_hst (k : Nat) (f : Gfi → Gfi) (s : State) : (s.modGfi k f).hst = s.hst := rfl
@[simp] theorem State.modGfi_lpe (k : Nat) (f : Gfi → Gfi) (s : State) : (s.modGfi k f).lpe = s.lpe := rfl
@[simp] theorem State.modGfi_mod (k : Nat) (f : Gfi → Gfi) (s : State) : (s.modGfi k f).mod = s.mod := rfl
@[simp] theorem State.modGfi_plk (k : Nat) (f : Gfi → Gfi) (s : State) : (s.modGfi k f).plk = s.plk := rfl
@[simp] theorem State.modGfi_spu (k : Nat) (f : Gfi → Gfi) (s : State) : (s.modGfi k f).spu = s.spu := rfl
@[simp] theorem State.modGfi_bsd (k : Nat) (f : Gfi → Gfi) (s : State) : (s.modGfi k f).bsd = s.bsd := rfl
@[simp] theorem State.modGfi_adc (k : Nat) (f : Gfi → Gfi) (s : State) : (s.modGfi k f).adc = s.adc := rfl
@[simp] theorem State.modGfi_recd (k : Nat) (f : Gfi → Gfi) (s : State) : (s.modGfi k f).recd = s.recd := rfl
@[simp] theorem State.modGfi_rdn (k : Nat) (f : Gfi → Gfi) (s : State) : (s.modGfi k f).rdn = s.rdn := rfl
@[simp] theorem State.modGfi_can (k : Nat) (f : Gfi → Gfi) (s : State) : (s.modGfi k f).can = s.can := rfl
@[simp] theorem State.modGfi_lanes (k : Nat) (f : Gfi → Gfi) (s : State) : (s.modGfi k f).lanes = s.lanes := rfl
@[simp] theorem State.modGfi_clk (k : Nat) (f : Gfi → Gfi) (s : State) : (s.modGfi k f).clk = s.clk := rfl
@[simp] theorem State.modGfi_sfi (k : Nat) (f : Gfi → Gfi) (s : State) : (s.modGfi k f).sfi = s.sfi := rfl
@[simp] theorem State.modGfi_sys (k : Nat) (f : Gfi → Gfi) (s : State) : (s.modGfi k f).sys = s.sys := rfl
@[simp] theorem State.modGfi_sec (k : Nat) (f : Gfi → Gfi) (s : State) : (s.modGfi k f).sec = s.sec := rfl
@[simp] theorem State.modGfi_tx (k : Nat) (f : Gfi → Gfi) (s : State) : (s.modGfi k f).tx = s.tx := rfl
@[simp] theorem State.modGfi_pkg (k : Nat) (f : Gfi → Gfi) (s : State) : (s.modGfi k f).pkg = s.pkg := rfl
@[simp] theorem State.modGfi_par (k : Nat) (f : Gfi → Gfi) (s : State) : (s.modGfi k f).par = s.par := rfl
@[simp] theorem State.modGfi_pend (k : Nat) (f : Gfi → Gfi) (s : State) : (s.modGfi k f).pend = s.pend := rfl
@[simp] theorem State.modGfi_since (k : Nat) (f : Gfi → Gfi) (s : State) : (s.modGfi k f).since = s.since := rfl
@[simp] theorem State.modGfi_clock (k : Nat) (f : Gfi → Gfi) (s : State) : (s.modGfi k f).clock = s.clock := rfl
@[simp] theorem State.modGfi_free (k : Nat) (f : Gfi → Gfi) (s : State) : (s.modGfi k f).free = s.free := rfl
@[simp] theorem State.modGfi_out (k : Nat) (f : Gfi → Gfi) (s : State) : (s.modGfi k f).out = s.out := rfl
@[simp] theorem State.modGfi_pending (k : Nat) (f : Gfi → Gfi) (s : State) : (s.modGfi k f).pending = s.pending := rfl

end Sys2Proof.Machine
end

