-- ==== Sys2Proof/Laws/Shared.lean ====
section
/-! SUPPORT. What the operations every unit shares can do, said once each: which parts of the state they leave alone. -/
namespace Sys2Proof.Machine

/-! Vectors by index. -/

theorem vget_vmod {α : Type} {n : Nat} (v : Vector α n) (i j : Nat) (f : α → α) (d : α) :
    vget (vmod v i f) j d = if i = j ∧ i < n then f (vget v j d) else vget v j d := by
  unfold vget vmod
  by_cases hi : i < n
  · by_cases hj : j < n
    · simp only [hi, hj, dif_pos, and_true]
      by_cases e : i = j
      · subst e; simp
      · simp [e]
    · have e : i ≠ j := fun e => hj (e ▸ hi)
      simp [hi, hj, e]
  · simp [hi]

theorem State.hp_modHp (p q : Nat) (f : Hp → Hp) (s : State) :
    (s.modHp p f).hp q = if p = q ∧ p < 8 then f (s.hp q) else s.hp q := vget_vmod ..
@[simp] theorem State.hp_modHp_self (p : Fin 8) (f : Hp → Hp) (s : State) : (s.modHp p f).hp p = f (s.hp p) := by
  rw [State.hp_modHp, if_pos ⟨rfl, p.isLt⟩]

/-! Hears: a partition's interrupt flags. -/

/-- The partition apart from its interrupt flags. -/
def Hp.mute (h : Hp) : Hp := { h with irqStat := 0 }

/-- Only interrupt flags and the log's way to the host changed, and outputs were added. -/
def Hears (s t : State) : Prop :=
  ∃ h o, t = { s with hst := h, out := s.out ++ o } ∧ h.token = s.hst.token ∧ h.tokenChanges = s.hst.tokenChanges ∧
    h.tokenAt = s.hst.tokenAt ∧ h.staged = s.hst.staged ∧ h.order = s.hst.order ∧ h.sq = s.hst.sq ∧
    ∀ p, (vget h.hp p {}).mute = (vget s.hst.hp p {}).mute

theorem Hears.refl (s : State) : Hears s s :=
  ⟨s.hst, [], by simp, rfl, rfl, rfl, rfl, rfl, rfl, fun _ => rfl⟩
theorem Hears.trans {s t u : State} : Hears s t → Hears t u → Hears s u := by
  rintro ⟨h, o, rfl, a, b, c, d, e, f, g⟩ ⟨h', o', rfl, a', b', c', d', e', f', g'⟩
  refine ⟨h', o ++ o', ?_, a'.trans a, b'.trans b, c'.trans c, d'.trans d, e'.trans e, f'.trans f, fun p => (g' p).trans (g p)⟩
  simp [List.append_assoc]
theorem Hears.foldl {α : Type} (f : State → α → State) (hf : ∀ s x, Hears s (f s x)) (l : List α) (s : State) :
    Hears s (l.foldl f s) := by
  induction l generalizing s with
  | nil => exact .refl s
  | cons x l ih => exact (hf s x).trans (ih _)
theorem Hears.of (s : State) (h : Hst) (a : h.token = s.hst.token) (b : h.tokenChanges = s.hst.tokenChanges)
    (c : h.tokenAt = s.hst.tokenAt) (d : h.staged = s.hst.staged) (e : h.order = s.hst.order) (f : h.sq = s.hst.sq)
    (g : ∀ p, (vget h.hp p {}).mute = (vget s.hst.hp p {}).mute) : Hears s { s with hst := h } :=
  ⟨h, [], by simp, a, b, c, d, e, f, g⟩
theorem Hears.ite {c : Prop} [Decidable c] {s a b : State} (h1 : Hears s a) (h2 : Hears s b) : Hears s (if c then a else b) := by
  split <;> assumption

theorem emit_hears (x : Out) (s : State) : Hears s (s.emit x) :=
  ⟨s.hst, [x], rfl, rfl, rfl, rfl, rfl, rfl, rfl, fun _ => rfl⟩

theorem setIrq_hears (v p : Nat) (s : State) : Hears s (setIrq v p s) := by
  have h : Hears s (s.modHp p (fun h => { h with irqStat := (s.hp p).irqStat ||| BitVec.ofNat 4 (2 ^ v) })) := by
    refine .of s _ rfl rfl rfl rfl rfl rfl (fun q => ?_)
    dsimp only
    rw [vget_vmod]
    split <;> rfl
  exact .ite (.refl s) (.ite (.ite (h.trans (emit_hears ..)) (h.trans (emit_hears ..))) h)
theorem setEventAll_hears (s : State) : Hears s (setEventAll s) := .foldl _ (fun s _ => setIrq_hears 1 _ s) _ s
theorem holdRec_hears (r : LogRec) (s : State) : Hears s (holdRec r s) := by
  unfold holdRec
  split <;> exact .of s _ rfl rfl rfl rfl rfl rfl (fun _ => rfl)

/-! Talks: an answer. -/

/-- Only the host unit changed, and outputs were added. -/
def Talks (s t : State) : Prop := ∃ h o, t = { s with hst := h, out := s.out ++ o }

theorem Hears.talks {s t : State} : Hears s t → Talks s t
  | ⟨h, o, e, _⟩ => ⟨h, o, e⟩
theorem Talks.refl (s : State) : Talks s s := (Hears.refl s).talks
theorem Talks.trans {s t u : State} : Talks s t → Talks t u → Talks s u := by
  rintro ⟨_, o, rfl⟩ ⟨h, o', rfl⟩
  exact ⟨h, o ++ o', by simp [List.append_assoc]⟩
theorem modHp_talks (p : Nat) (f : Hp → Hp) (s : State) : Talks s (s.modHp p f) :=
  ⟨(s.modHp p f).hst, [], by simp [State.modHp]⟩

theorem answer_talks (p : Nat) (r : Resp) (s : State) : Talks s (answer p r s) := by
  unfold answer; dsimp only; split
  · exact (modHp_talks ..).trans (emit_hears ..).talks
  · exact ((modHp_talks ..).trans ((modHp_talks ..).trans (emit_hears ..).talks)).trans (setIrq_hears ..).talks
theorem respondWith_talks (p st : Nat) (ws : List Word) (m x : Bool) (s : State) : Talks s (respondWith p st ws m x s) := by
  unfold respondWith; dsimp only; split
  · exact modHp_talks ..
  · exact (modHp_talks ..).trans (answer_talks ..)
theorem respond_talks (p st : Nat) (ws : List Word) (m : Bool) (s : State) : Talks s (respond p st ws m s) :=
  respondWith_talks ..
theorem refuse_talks (p st d0 d1 : Nat) (s : State) : Talks s (refuse p st d0 d1 s) := respond_talks ..
theorem ok_talks (p : Nat) (ws : List Word) (s : State) : Talks s (ok p ws s) := respond_talks ..
theorem reply_talks (p : Nat) (ws : List Word) (s : State) : Talks s (reply p ws s) := by
  unfold reply; split
  · exact refuse_talks ..
  · exact ok_talks ..

/-- The response leaves, unless the request's response was to be discarded. -/
theorem respondWith_out (p : Fin 8) (st : Nat) (ws : List Word) (m x : Bool) (s : State) (hd : (s.hp p).drop = false) :
    Out.resp p { status := st, tag := ((s.hp p).msg.map (·.tag)).getD 0, opcode := ((s.hp p).msg.map (·.opcode)).getD 0, more := m,
                 saturated := x, payload := ws } ∈ (respondWith p st ws m x s).out := by
  unfold respondWith
  simp only [hd, Bool.false_eq_true, if_false]
  unfold answer
  dsimp only
  split
  · simp
  · generalize hy : State.emit _ _ = y
    obtain ⟨h, o, e, _⟩ := setIrq_hears 0 p y
    rw [e, ← hy]
    simp

/-! Logs: besides, the event log and its counter. -/

/-- A host that hears, with the log of the protection unit besides. -/
def Logs (s t : State) : Prop := ∃ n l, Hears { s with spu := { s.spu with logSeq := n, log := l } } t

theorem Hears.logs {s t : State} (h : Hears s t) : Logs s t := ⟨s.spu.logSeq, s.spu.log, h⟩
theorem Logs.refl (s : State) : Logs s s := (Hears.refl s).logs
theorem Logs.trans {s t u : State} : Logs s t → Logs t u → Logs s u := by
  rintro ⟨n, l, h⟩ ⟨n', l', h'⟩
  refine ⟨n', l', Hears.trans ?_ h'⟩
  obtain ⟨a, o, rfl, g⟩ := h
  exact ⟨a, o, rfl, g⟩
theorem logRec_logs (r : LogRec) (s : State) : Logs s (logRec r s) := by
  unfold logRec
  refine ⟨s.spu.logSeq + 1, (r :: s.spu.log).take 4096, Hears.trans ?_ ((holdRec_hears r _).trans (setEventAll_hears _))⟩
  exact .of _ _ rfl rfl rfl rfl rfl rfl (fun _ => rfl)
theorem logEvent_logs (c k i a b : Nat) (s : State) : Logs s (logEvent c k i a b s) := by
  unfold logEvent logAt; exact logRec_logs ..

/-! Reacts: what applying or ending a reaction may change. -/

/-- Besides the log: the device state with the cause of blocking, the modulator's channels and records, link frames, the recorder's
firings, the frames to peers, the pre-start sweeps it meets, a BIST in progress, and drawn free values. -/
def Reacts (s t : State) : Prop :=
  ∃ d b m p r n w y f, Logs { s with
    dev := d, blockCause := b, mod := m, plk := p, recd := r, rdn := n, free := f
    spu := { s.spu with sweeps := w }, sys := { s.sys with bist := y } } t

theorem Logs.reacts {s t : State} (h : Logs s t) : Reacts s t :=
  ⟨s.dev, s.blockCause, s.mod, s.plk, s.recd, s.rdn, s.spu.sweeps, s.sys.bist, s.free, h⟩
theorem Hears.reacts {s t : State} (h : Hears s t) : Reacts s t := h.logs.reacts
theorem Reacts.refl (s : State) : Reacts s s := (Logs.refl s).reacts
theorem Reacts.trans {s t u : State} : Reacts s t → Reacts t u → Reacts s u := by
  rintro ⟨d0, b0, m0, p0, r0, x0, w0, y0, f0, h⟩ ⟨d, b, m, p, r, x, w, y, f, h'⟩
  obtain ⟨n, l, a, o, rfl, g⟩ := h
  obtain ⟨n', l', a', o', rfl, g'⟩ := h'
  refine ⟨d, b, m, p, r, x, w, y, f, n', l', a', o ++ o', ?_, ?_⟩
  · simp [List.append_assoc]
  · obtain ⟨g1, g2, g3, g4, g5, g6, g7⟩ := g
    obtain ⟨k1, k2, k3, k4, k5, k6, k7⟩ := g'
    exact ⟨k1.trans g1, k2.trans g2, k3.trans g3, k4.trans g4, k5.trans g5, k6.trans g6, fun p => (k7 p).trans (g7 p)⟩
theorem Reacts.foldl {α : Type} (f : State → α → State) (hf : ∀ s x, Reacts s (f s x)) (l : List α) (s : State) :
    Reacts s (l.foldl f s) := by
  induction l generalizing s with
  | nil => exact .refl s
  | cons x l ih => exact (hf s x).trans (ih _)
theorem Reacts.ite {c : Prop} [Decidable c] {s a b : State} (h1 : Reacts s a) (h2 : Reacts s b) : Reacts s (if c then a else b) := by
  split <;> assumption
theorem Reacts.of (s : State) (d : Dev) (b : Option (Nat × Nat)) (m : Modr) (p : Plk) (r : Recs) (n : Rdn) (y f : Nat) :
    Reacts s { s with dev := d, blockCause := b, mod := m, plk := p, recd := r, rdn := n, free := f, sys := { s.sys with bist := y } } :=
  ⟨d, b, m, p, r, n, s.spu.sweeps, y, f, .refl _⟩
theorem Reacts.sweeps (s : State) (w : List Sweep) : Reacts s { s with spu := { s.spu with sweeps := w } } :=
  ⟨s.dev, s.blockCause, s.mod, s.plk, s.recd, s.rdn, w, s.sys.bist, s.free, .refl _⟩

theorem setDev_reacts (d : Dev) (c : Nat) (s : State) : Reacts s (setDev d c s) :=
  .ite (.refl s) ((Reacts.of s d s.blockCause s.mod s.plk s.recd s.rdn s.sys.bist s.free).trans (logEvent_logs ..).reacts)

theorem sendState_reacts (i : Bool) (e : Nat) (c : List Nat) (p : Nat) (s : State) : Reacts s (sendState i e c p s) :=
  have h : Reacts s { s with plk := _ } := .of s s.dev s.blockCause s.mod _ s.recd s.rdn s.sys.bist s.free
  .ite h (h.trans (emit_hears ..).reacts)
theorem immediateStates_reacts (old s : State) : Reacts s (immediateStates old s) :=
  .foldl _ (fun s _ => .ite (sendState_reacts ..) (.refl s)) _ s
theorem sendRelease_reacts (cs : List Nat) (e : Nat) (s : State) : Reacts s (sendRelease cs e s) :=
  .foldl _ (fun s _ => .ite (sendState_reacts ..) (.refl s)) _ s
theorem blockFrames_reacts (s : State) : Reacts s (blockFrames s) :=
  .foldl _ (fun s _ => .ite (sendState_reacts ..) (.refl s)) _ s
theorem discardChans_reacts (cs : List Nat) (s : State) : Reacts s (discardChans cs s) :=
  .of s s.dev s.blockCause _ s.plk s.recd s.rdn s.sys.bist s.free
theorem blockWith_reacts (op c d : Nat) (s : State) : Reacts s (blockWith op c d s) :=
  Reacts.trans (.of s s.dev _ _ s.plk s.recd s.rdn _ s.free) (.ite (setDev_reacts ..) (.refl _))

theorem nextSeq_eq (q : Nat) (f : PeerFrame) (s : State) : ∃ x n, nextSeq q f s = (x, { s with rdn := n }) := by
  unfold nextSeq; split <;> exact ⟨_, _, rfl⟩
theorem sendPeer_reacts (ps : List Nat) (f : PeerFrame) (s : State) : Reacts s (sendPeer ps f s) := by
  refine .foldl _ (fun s q => ?_) _ s
  obtain ⟨x, n, e⟩ := nextSeq_eq q f s
  rw [e]
  exact (Reacts.of s s.dev s.blockCause s.mod s.plk s.recd n s.sys.bist s.free).trans (emit_hears ..).reacts
theorem sendPair_reacts (f : PeerFrame) (s : State) : Reacts s (sendPair f s) := by
  unfold sendPair
  obtain ⟨x, n, e⟩ := nextSeq_eq 8 f s
  rw [e]
  exact (Reacts.of s s.dev s.blockCause s.mod s.plk s.recd n s.sys.bist s.free).trans
    (.foldl _ (fun s l => (emit_hears _ s).reacts) _ _)
theorem originateGb_reacts (s : State) : Reacts s (originateGb s) :=
  (Reacts.of s s.dev s.blockCause s.mod s.plk s.recd _ s.sys.bist s.free).trans (sendPeer_reacts ..)
theorem originateBc_reacts (k : Nat) (a : List Nat) (s : State) : Reacts s (originateBc k a s) :=
  (Reacts.of s s.dev s.blockCause s.mod s.plk s.recd _ s.sys.bist s.free).trans (sendPeer_reacts ..)

theorem modRst_reacts (i : Nat) (g : Rst → Rst) (s : State) : Reacts s (modRst i g s) :=
  .of s s.dev s.blockCause s.mod s.plk _ s.rdn s.sys.bist s.free
theorem fireStream_reacts (f : Fire) (i : Nat) (s : State) : Reacts s (fireStream f i s) :=
  .ite (.refl s) (.ite ((modRst_reacts ..).trans (originateBc_reacts ..)) (modRst_reacts ..))
theorem fireKind_reacts (k : Nat) (hit : Nat → Nat → Bool) (t a : Nat) (s : State) : Reacts s (fireKind k hit t a s) :=
  .foldl _ (fun s _ => .foldl _ (fun s _ => .ite (fireStream_reacts ..) (.refl s)) _ s) _ s
theorem fireMask_reacts (a b c : Nat) (s : State) : Reacts s (fireMask a b c s) :=
  .foldl _ (fun s _ => .ite (fireStream_reacts ..) (.refl s)) _ s

theorem applyLinks_reacts (old : State) (h : Held) (s : State) : Reacts s (applyLinks old h s) :=
  have t : ∀ cs, Reacts s (immediateStates old (discardChans cs s)) := fun _ =>
    (discardChans_reacts ..).trans (immediateStates_reacts ..)
  .ite (.refl s) (.ite (((t _).trans (.sweeps ..)).trans (blockWith_reacts ..)) ((t _).trans (.sweeps ..)))
theorem applyReaction_reacts (old : State) (h : Held) (s : State) : Reacts s (applyReaction old h s) :=
  .ite (.refl s) (((applyLinks_reacts old h s).trans (.ite (originateGb_reacts _) (.refl _))).trans
    (.ite (sendPair_reacts ..) (.refl _)))
theorem recData_reacts (c i a b : Nat) (s : State) : Reacts s (recData c i a b s).2 := by
  unfold recData; dsimp only; split
  · exact .refl s
  · split
    · exact .refl s
    · exact .of s s.dev s.blockCause s.mod s.plk s.recd s.rdn s.sys.bist _

/-! Rules: raising and clearing, which change the fault list besides. -/

/-- Besides what a reaction changes, the protection unit's fault list and its books. -/
def Rules (s t : State) : Prop := ∃ q, Reacts { s with spu := q } t

theorem Reacts.rules {s t : State} (h : Reacts s t) : Rules s t := ⟨s.spu, h⟩
theorem Rules.refl (s : State) : Rules s s := (Reacts.refl s).rules
theorem Rules.trans {s t u : State} : Rules s t → Rules t u → Rules s u := by
  rintro ⟨q, h⟩ ⟨q', h'⟩
  refine ⟨q', Reacts.trans ?_ h'⟩
  obtain ⟨d, b, m, p, r, x, _, y, f, n, l, a, o, rfl, g⟩ := h
  exact ⟨d, b, m, p, r, x, q'.sweeps, y, f, q'.logSeq, q'.log, a, o, rfl, g⟩
theorem Rules.foldl {α : Type} (f : State → α → State) (hf : ∀ s x, Rules s (f s x)) (l : List α) (s : State) :
    Rules s (l.foldl f s) := by
  induction l generalizing s with
  | nil => exact .refl s
  | cons x l ih => exact (hf s x).trans (ih _)
theorem Rules.ite {c : Prop} [Decidable c] {s a b : State} (h1 : Rules s a) (h2 : Rules s b) : Rules s (if c then a else b) := by
  split <;> assumption
theorem Rules.of (s : State) (q : Spu) : Rules s { s with spu := q } := ⟨q, .refl _⟩

theorem repeatFault_rules (c k i : Nat) (s : State) : Rules s (repeatFault c k i s) := by
  unfold repeatFault; dsimp only; split
  · exact .refl s
  · exact (Rules.of s _).trans ((holdRec_hears ..).trans (setEventAll_hears _)).reacts.rules

/-- A fault for which no pair member withdraws (R342): its decision is logged, held and applied. -/
theorem raiseWith_rules (cfg c k i a b : Nat) (sc : List Nat) (s : State) (hw : withdrawCode c = false) :
    Rules s (raiseWith cfg c k i a b sc s) := by
  unfold raiseWith; dsimp only; split
  · exact repeatFault_rules ..
  · rw [hw]
    simp only [Bool.false_and, Bool.false_eq_true, if_false]
    exact (recData_reacts c i a b s).rules.trans (((Rules.of _ _).trans (logRec_logs ..).reacts.rules).trans
      ((fireKind_reacts ..).trans (applyReaction_reacts ..)).rules)
theorem raise_rules (c k i a b : Nat) (sc : List Nat) (s : State) (hw : withdrawCode c = false) :
    Rules s (raise c k i a b sc s) := raiseWith_rules _ _ _ _ _ _ _ _ hw
theorem raiseDev_rules (c k i : Nat) (s : State) (hw : withdrawCode c = false) : Rules s (raiseDev c k i s) :=
  raise_rules _ _ _ _ _ _ _ hw
theorem clearHeld_rules (auto : Bool) (h : Held) (s : State) : Rules s (clearHeld auto h s) := by
  have h1 : ∀ q r, Rules s (logRec r { s with spu := q }) := fun q r => (Rules.of s q).trans (logRec_logs ..).reacts.rules
  have h2 : ∀ c lv k x, Rules x (rejoinChans c lv k x) := fun c lv k x =>
    ⟨(rejoinChans c lv k x).spu, x.dev, x.blockCause, (rejoinChans c lv k x).mod, x.plk, x.recd, x.rdn,
      (rejoinChans c lv k x).spu.sweeps, x.sys.bist, x.free, .refl _⟩
  exact .ite (h1 _ _) (.ite ((h1 _ _).trans ((immediateStates_reacts s _).rules.trans ((h2 _ _ _ _).trans (sendRelease_reacts ..).rules)))
    ((h1 _ _).trans (immediateStates_reacts s _).rules))
theorem clearWhere_rules (auto : Bool) (f : Held → Bool) (s : State) : Rules s (clearWhere auto f s) :=
  .foldl _ (fun _ _ => clearHeld_rules ..) _ s
theorem condHolds_rules (c k i : Nat) (s : State) : Rules s (condHolds c k i s) := (Rules.of s _).trans (clearWhere_rules ..)
theorem condHoldsCode_rules (c : Nat) (s : State) : Rules s (condHoldsCode c s) := (Rules.of s _).trans (clearWhere_rules ..)
theorem condFails_rules (c k i : Nat) (s : State) : Rules s (condFails c k i s) := .of s _
theorem runRaise_rules (c k i a b : Nat) (sc : List Nat) (x : Bool) (s : State) (hw : withdrawCode c = false) :
    Rules s (runRaise c k i a b sc x s) :=
  .ite (.ite (.refl s) ((Rules.of s _).trans (raise_rules _ _ _ _ _ _ _ hw))) (.of s _)

/-- After a decision for which no member withdraws the fault is held. -/
theorem raiseWith_held (cfg c k i a b : Nat) (sc : List Nat) (s : State) (hw : withdrawCode c = false) :
    isHeld c k i (raiseWith cfg c k i a b sc s) = true := by
  have keep : ∀ {x y : State}, Reacts x y → y.spu.held = x.spu.held := by
    intro x y h
    obtain ⟨d, b, m, p, r, n, w, z, g, h⟩ := h
    obtain ⟨n', l, a, o, rfl, h⟩ := h
    rfl
  unfold raiseWith; dsimp only; split
  · rename_i h
    unfold repeatFault; dsimp only; split
    · exact h
    · rename_i x hx
      show (State.spu _).held.any _ = true
      rw [keep ((holdRec_hears ..).trans (setEventAll_hears _)).reacts]
      have h' := List.any_eq_true.mp (show (s.spu.held.any (sameFault c k i)) = true from h)
      obtain ⟨y, hy, hs⟩ := h'
      have hxs := List.find?_some hx
      refine List.any_eq_true.mpr ⟨_, List.mem_map.mpr ⟨y, hy, rfl⟩, ?_⟩
      rw [if_pos hs]
      simpa [sameFault] using hxs
  · rw [hw]
    simp only [Bool.false_and, Bool.false_eq_true, if_false]
    have any : ∀ {l m : List Held}, l = m → m.any (sameFault c k i) = true → l.any (sameFault c k i) = true := fun e h => e ▸ h
    refine any (keep ((fireKind_reacts ..).trans (applyReaction_reacts ..))) (any (keep (logRec_logs ..).reacts) ?_)
    simp [sameFault, stampRec, stampAt]
theorem raise_held (c k i a b : Nat) (sc : List Nat) (s : State) (hw : withdrawCode c = false) :
    isHeld c k i (raise c k i a b sc s) = true := raiseWith_held _ _ _ _ _ _ _ _ hw
theorem raiseDev_held (c k i : Nat) (s : State) (hw : withdrawCode c = false) : isHeld c k i (raiseDev c k i s) = true :=
  raise_held _ _ _ _ _ _ _ hw

/-! What such a change leaves alone. -/

/-- What raising and clearing keep. -/
structure Undisturbed (s t : State) : Prop where
  transitions : t.trans = s.trans
  alm : t.alm = s.alm
  gfe : t.gfe = s.gfe
  lpe : t.lpe = s.lpe
  bsd : t.bsd = s.bsd
  adc : t.adc = s.adc
  can : t.can = s.can
  lanes : t.lanes = s.lanes
  clk : t.clk = s.clk
  sfi : t.sfi = s.sfi
  sec : t.sec = s.sec
  tx : t.tx = s.tx
  pkg : t.pkg = s.pkg
  par : t.par = s.par
  pend : t.pend = s.pend
  since : t.since = s.since
  clock : t.clock = s.clock
  pending : t.pending = s.pending
  sys : ∃ y, t.sys = { s.sys with bist := y }
  token : t.hst.token = s.hst.token
  tokenChanges : t.hst.tokenChanges = s.hst.tokenChanges
  tokenAt : t.hst.tokenAt = s.hst.tokenAt
  staged : t.hst.staged = s.hst.staged
  order : t.hst.order = s.hst.order
  sq : t.hst.sq = s.hst.sq
  hp : ∀ p, (t.hp p).mute = (s.hp p).mute
  out : ∀ x ∈ s.out, x ∈ t.out

theorem Rules.keep {s t : State} (h : Rules s t) : Undisturbed s t := by
  obtain ⟨q, h⟩ := h
  obtain ⟨d, b, m, p, r, n, w, y, f, h⟩ := h
  obtain ⟨k, l, a, o, rfl, h1, h2, h3, h4, h5, h6, h7⟩ := h
  constructor
  case sys => exact ⟨y, rfl⟩
  case out => intro x hx; simp [hx]
  all_goals first | rfl | assumption

/-- What an answer keeps: everything outside the host unit. -/
structure HostOnly (s t : State) : Prop where
  transitions : t.trans = s.trans
  dev : t.dev = s.dev
  blockCause : t.blockCause = s.blockCause
  alm : t.alm = s.alm
  gfe : t.gfe = s.gfe
  lpe : t.lpe = s.lpe
  mod : t.mod = s.mod
  plk : t.plk = s.plk
  spu : t.spu = s.spu
  bsd : t.bsd = s.bsd
  adc : t.adc = s.adc
  recd : t.recd = s.recd
  rdn : t.rdn = s.rdn
  can : t.can = s.can
  lanes : t.lanes = s.lanes
  clk : t.clk = s.clk
  sfi : t.sfi = s.sfi
  sys : t.sys = s.sys
  sec : t.sec = s.sec
  tx : t.tx = s.tx
  pkg : t.pkg = s.pkg
  par : t.par = s.par
  pend : t.pend = s.pend
  since : t.since = s.since
  clock : t.clock = s.clock
  free : t.free = s.free
  pending : t.pending = s.pending
  out : ∀ x ∈ s.out, x ∈ t.out

theorem Talks.keep {s t : State} (h : Talks s t) : HostOnly s t := by
  obtain ⟨g, o, rfl⟩ := h
  constructor
  case out => intro x hx; simp [hx]
  all_goals rfl

end Sys2Proof.Machine
end

