-- ==== Sys2Proof/Laws/Host.lean ====
section
/-! SUPPORT. What a host command that is accepted does: its body runs, and its answer leaves. -/
namespace Sys2Proof.Machine

@[simp] theorem State.begin_hp (dt p : Nat) (s : State) : (s.begin dt).hp p = s.hp p := rfl
theorem Accepts.begin {p op since : Nat} {s : State} (dt : Nat) (h : Accepts p op since s) : Accepts p op since (s.begin dt) := h
theorem Granted.begin {p op since : Nat} {r : Right} {a : Bool} {s : State} (dt : Nat) (h : Granted p op since r a s) :
    Granted p op since r a (s.begin dt) := ⟨h.1.begin dt, h.2.1, h.2.2⟩
theorem FieldGranted.begin {p : Nat} {r : Right} {s : State} (dt : Nat) (h : FieldGranted p r s) : FieldGranted p r (s.begin dt) :=
  ⟨h.1.begin dt, h.2⟩

/-- A message that starts to execute changes its partition and the order of doorbells alone. -/
theorem takeMsg_talks (p op : Nat) (s : State) : Talks s (takeMsg p op s) :=
  ⟨(takeMsg p op s).hst, [], by simp [takeMsg, State.modHp]⟩

theorem takeMsg_hp (p : Fin 8) (op : Nat) (s : State) : (takeMsg p op s).hp p = { s.hp p with
    lastMsg := s.now, reqBusy := true
    msg := some ((s.hp p).msg.getD
      { maj := (s.hp p).version / 256, min := (s.hp p).version % 256, opcode := op, tag := 0, payload := [] }) } := by
  unfold takeMsg; dsimp only; rw [State.hp_modHp_self]; rfl

theorem inSession_body {p : Fin 8} {op since : Nat} {s : State} (h : Accepts p op since s) (body : State → State) :
    inSession p op since body s = body (takeMsg p op s) := by
  obtain ⟨h1, h2, h3, h4, h5, h6⟩ := h
  unfold inSession
  have e := takeMsg_hp p op s
  have v : ((takeMsg p op s).hp p).version = (s.hp p).version := by rw [e]
  have m : ((((takeMsg p op s).hp p).msg.getD { maj := 0, min := 0, opcode := op, tag := 0, payload := [] }).maj * 256 +
      (((takeMsg p op s).hp p).msg.getD { maj := 0, min := 0, opcode := op, tag := 0, payload := [] }).min) = (s.hp p).version := by
    rw [e]
    dsimp only [Option.getD_some]
    cases hm : (s.hp p).msg with
    | none => simp only [Option.getD_none]; omega
    | some x => exact h5 x hm
  have d : (takeMsg p op s).dev = s.dev := rfl
  have ss : ((takeMsg p op s).hp p).session = true := by rw [e]; exact h2
  simp only [h1, ss, m, v, d, Nat.not_lt.mpr h4, if_false, Bool.not_true, Bool.false_eq_true, ne_eq, not_true]
  by_cases hf : s.dev = .fallback
  · simp [hf, h6 hf]
  · simp [hf]

theorem hostCmd_body {p : Fin 8} {op since : Nat} {right : Right} {acts : Bool} {s : State} (h : Granted p op since right acts s)
    (body : State → State) : hostCmd p op since right acts body s = body (takeMsg p op s) := by
  obtain ⟨h1, h2, h3⟩ := h
  unfold hostCmd
  rw [inSession_body h1]
  have r : rightRefusal (takeMsg p op s) p right = none := h2
  have n : (acts && notActive (takeMsg p op s)) = false := by
    cases acts with
    | false => rfl
    | true => exact h3 rfl
  simp only [n, r, Bool.false_eq_true, if_false]

theorem fieldCmd_body {p : Fin 8} {right : Right} {s : State} (h : FieldGranted p right s) (body : State → State) :
    fieldCmd p right body s = body (takeMsg p 0x0302 s) := by
  unfold fieldCmd
  rw [hostCmd_body h.1]
  have d : (takeMsg p 0x0302 s).dev = s.dev := rfl
  simp only [d, h.2, if_false]

/-- The answer to a message, given from a state in which the partition has changed in its interrupt flags alone since it was taken. -/
theorem respondWith_answered {p : Fin 8} {op since : Nat} {s x : State} (h : Accepts p op since s)
    (hx : (x.hp p).mute = ((takeMsg p op s).hp p).mute) (st : Nat) (ws : List Word) (m sat : Bool) :
    Answered p op st ws s (respondWith p st ws m sat x) := by
  have e := takeMsg_hp p op s
  have hm : (x.hp p).msg = ((takeMsg p op s).hp p).msg := by
    have := congrArg Hp.msg hx; exact this
  have hd : (x.hp p).drop = false := by
    have := congrArg Hp.drop hx
    rw [e] at this
    exact this.trans h.2.2.1
  refine ⟨_, respondWith_out p st ws m sat x hd, rfl, rfl, ?_, ?_⟩
  · rw [hm, e]
    dsimp only [Option.map_some, Option.getD_some]
    cases hs : (s.hp p).msg with
    | none => rfl
    | some y =>
      have h1 := h.1
      unfold mayRun at h1
      rw [hs] at h1
      simp only [Bool.and_eq_true, beq_iff_eq] at h1
      exact h1.2.1.1
  · rw [hm, e]
    cases (s.hp p).msg <;> rfl

theorem ok_answered {p : Fin 8} {op since : Nat} {s x : State} (h : Accepts p op since s)
    (hx : (x.hp p).mute = ((takeMsg p op s).hp p).mute) (ws : List Word) : Answered p op 0 ws s (ok p ws x) :=
  respondWith_answered h hx ..
theorem refuse_answered {p : Fin 8} {op since : Nat} {s x : State} (h : Accepts p op since s)
    (hx : (x.hp p).mute = ((takeMsg p op s).hp p).mute) (st d0 d1 : Nat) :
    Answered p op st [BitVec.ofNat 32 d0, BitVec.ofNat 32 d1] s (refuse p st d0 d1 x) :=
  respondWith_answered h hx ..
theorem Answered.settled {p op st : Nat} {ws : List Word} {s t : State} (h : Answered p op st ws s t) :
    Answered p op st ws s (settle t) := h

/-- An accepted field command, after its checks: answered, and carried out at once, or in a pair sent on and left pending. -/
theorem opCmd_body {p : Fin 8} {right : Right} {s : State} (h : FieldGranted p right s) (id val : Nat) (o : Op)
    (hc : o.check (takeMsg p 0x0302 s) = none) :
    opCmd p right id val o s = accepted p (runOp id val o (takeMsg p 0x0302 s)) := by
  unfold opCmd
  rw [fieldCmd_body h]
  simp only [hc]

/-- What an answer leaves of the host unit: the token, the staged sets, the order of doorbells, the queues, and of every partition its
session. -/
def KeepsHost (s t : State) : Prop :=
  t.hst.token = s.hst.token ∧ t.hst.staged = s.hst.staged ∧ t.hst.order = s.hst.order ∧ t.hst.sq = s.hst.sq ∧
    ∀ q, (t.hp q).session = (s.hp q).session ∧ (t.hp q).version = (s.hp q).version

theorem KeepsHost.trans {s t u : State} (h : KeepsHost s t) (k : KeepsHost t u) : KeepsHost s u :=
  ⟨k.1.trans h.1, k.2.1.trans h.2.1, k.2.2.1.trans h.2.2.1, k.2.2.2.1.trans h.2.2.2.1,
    fun q => ⟨(k.2.2.2.2 q).1.trans (h.2.2.2.2 q).1, (k.2.2.2.2 q).2.trans (h.2.2.2.2 q).2⟩⟩
theorem Rules.keepsHost {s t : State} (h : Rules s t) : KeepsHost s t :=
  ⟨h.keep.token, h.keep.staged, h.keep.order, h.keep.sq, fun q => ⟨by have := congrArg Hp.session (h.keep.hp q); exact this,
    by have := congrArg Hp.version (h.keep.hp q); exact this⟩⟩
theorem modHp_keepsHost (p : Nat) (f : Hp → Hp) (s : State) (h1 : ∀ h, (f h).session = h.session) (h2 : ∀ h, (f h).version = h.version) :
    KeepsHost s (s.modHp p f) :=
  ⟨rfl, rfl, rfl, rfl, fun q => by rw [State.hp_modHp]; split <;> simp [h1, h2]⟩
theorem answer_keepsHost (p : Nat) (r : Resp) (s : State) : KeepsHost s (answer p r s) := by
  unfold answer; dsimp only; split
  · refine .trans ?_ (emit_hears ..).reacts.rules.keepsHost
    exact modHp_keepsHost _ _ _ (fun _ => rfl) (fun _ => rfl)
  · refine .trans (.trans (.trans ?_ (modHp_keepsHost p (fun h => { h with rspReady := true }) _ (fun _ => rfl) (fun _ => rfl)))
      (emit_hears ..).reacts.rules.keepsHost) (setIrq_hears ..).reacts.rules.keepsHost
    exact modHp_keepsHost _ _ _ (fun _ => rfl) (fun _ => rfl)
theorem respondWith_keepsHost (p st : Nat) (ws : List Word) (m x : Bool) (s : State) : KeepsHost s (respondWith p st ws m x s) := by
  unfold respondWith; dsimp only; split
  · exact modHp_keepsHost _ _ _ (fun _ => rfl) (fun _ => rfl)
  · refine .trans ?_ (answer_keepsHost ..)
    exact modHp_keepsHost _ _ _ (fun _ => rfl) (fun _ => rfl)
theorem ok_keepsHost (p : Nat) (ws : List Word) (s : State) : KeepsHost s (ok p ws s) := respondWith_keepsHost ..
theorem refuse_keepsHost (p st d0 d1 : Nat) (s : State) : KeepsHost s (refuse p st d0 d1 s) := respondWith_keepsHost ..

/-! The token. -/

/-- The token has passed to `new`, and partitions changed in their interrupt flags alone. -/
def TokenIs (new : Nat) (s x : State) : Prop :=
  x.hst.token = new ∧ (∀ p, (x.hp p).mute = (s.hp p).mute) ∧ x.dev = s.dev ∧ x.par = s.par ∧ x.pend = s.pend

theorem TokenIs.logs {new : Nat} {s x y : State} (h : TokenIs new s x) (k : Logs x y) : TokenIs new s y := by
  have d : y.dev = x.dev := by obtain ⟨_, _, _, _, rfl, _⟩ := k; rfl
  have r := k.reacts.rules.keep
  exact ⟨r.token.trans h.1, fun p => (r.hp p).trans (h.2.1 p), d.trans h.2.2.1, r.par.trans h.2.2.2.1, r.pend.trans h.2.2.2.2⟩
theorem TokenIs.ite {new : Nat} {c : Prop} [Decidable c] {s a b : State} (h1 : TokenIs new s a) (h2 : TokenIs new s b) :
    TokenIs new s (if c then a else b) := by
  split <;> assumption
theorem TokenIs.foldl {α : Type} {new : Nat} {s : State} (f : State → α → State) (hf : ∀ x a, TokenIs new s x → TokenIs new s (f x a))
    (l : List α) (x : State) (h : TokenIs new s x) : TokenIs new s (l.foldl f x) := by
  induction l generalizing x with
  | nil => exact h
  | cons a l ih => exact ih _ (hf x a h)
theorem sendPair_dev (f : PeerFrame) (s : State) : (sendPair f s).dev = s.dev := by
  unfold sendPair
  obtain ⟨x, n, e⟩ := nextSeq_eq 8 f s
  rw [e]
  exact List.foldlRecOn (motive := fun (y : State) => y.dev = s.dev) (pairLanesUp s) _ rfl (fun _ h _ _ => h)
theorem forwardWrite_keeps (n : Int) (es : List (Nat × Wire)) (s : State) :
    (forwardWrite n es s).dev = s.dev ∧ Undisturbed s (forwardWrite n es s) := by
  unfold forwardWrite
  split
  · exact ⟨sendPair_dev .., (sendPair_reacts ..).rules.keep⟩
  · exact ⟨rfl, (Rules.refl s).keep⟩
theorem TokenIs.cancel {new : Nat} {s x : State} (q : Nat) (h : TokenIs new s x) : TokenIs new s (cancelLaunches q x) := by
  unfold cancelLaunches
  refine .foldl _ (fun _ _ h => h.logs (logEvent_logs ..)) _ _ ?_
  obtain ⟨d, k⟩ := forwardWrite_keeps x.tickNow
    ((x.alm.launch.filter (fun e => e.2.part == q && [0, 1, 2, 4].contains e.2.action)).map (fun e => (wrCancel, BitVec.ofNat 64 e.1))) x
  exact ⟨k.token.trans h.1, fun p => (k.hp p).trans (h.2.1 p), d.trans h.2.2.1, k.par.trans h.2.2.2.1, k.pend.trans h.2.2.2.2⟩

/-- After the token has moved, `new` has it. -/
theorem moveToken_spec (new cause : Nat) (s : State) : TokenIs new s (moveToken new cause s) := by
  unfold moveToken
  dsimp only
  refine if h : s.hst.token = new then ?_ else ?_
  · rw [if_pos h]; exact ⟨h, fun _ => rfl, rfl, rfl, rfl⟩
  · rw [if_neg h]
    have base : TokenIs new s (logEvent 2 0 0 (s.hst.token * 256 + new) cause
        { s with hst := { s.hst with token := new, tokenChanges := sat32 s.hst.tokenChanges, tokenAt := s.now } }) :=
      TokenIs.logs (x := { s with hst := { s.hst with token := new, tokenChanges := sat32 s.hst.tokenChanges, tokenAt := s.now } })
        ⟨rfl, fun _ => rfl, rfl, rfl, rfl⟩ (logEvent_logs ..)
    have b2 : TokenIs new s (if s.hst.token < 8 then cancelLaunches s.hst.token (setIrq 2 s.hst.token (logEvent 2 0 0 (s.hst.token * 256 + new) cause
        { s with hst := { s.hst with token := new, tokenChanges := sat32 s.hst.tokenChanges, tokenAt := s.now } }))
      else logEvent 2 0 0 (s.hst.token * 256 + new) cause
        { s with hst := { s.hst with token := new, tokenChanges := sat32 s.hst.tokenChanges, tokenAt := s.now } }) :=
      .ite (.cancel _ (base.logs (setIrq_hears ..).logs)) base
    exact .ite (b2.logs (setIrq_hears ..).logs) b2

end Sys2Proof.Machine
end

