-- ==== Sys2Proof/Laws/Memory.lean ====
section
/-! SUPPORT. The request buffer, the block's addressed memory: every write keeps its canonical form, and reads after a write. -/
namespace Sys2Proof.Machine

/-- The canonical form: no listed word reads as an unlisted one, and the addresses rise. -/
theorem bufferWf_iff (t : Tab Word) : bufferWf t = true ↔ (∀ e ∈ t, e.2 ≠ 0) ∧ t.Pairwise (fun x y => x.1 < y.1) := by
  induction t with
  | nil => simp [bufferWf]
  | cons x r ih =>
    obtain ⟨a, v⟩ := x
    cases r with
    | nil => simp [bufferWf]
    | cons y q =>
      obtain ⟨b, w⟩ := y
      simp only [bufferWf, Bool.and_eq_true, bne_iff_ne, ne_eq, decide_eq_true_eq, ih, List.pairwise_cons, List.mem_cons, forall_eq_or_imp]
      constructor
      · rintro ⟨⟨hv, hab⟩, ⟨hw, hq⟩, hb, hp⟩
        exact ⟨⟨hv, hw, hq⟩, ⟨hab, fun e he => Nat.lt_trans hab (hb e he)⟩, hb, hp⟩
      · rintro ⟨⟨hv, hw, hq⟩, ⟨hab, -⟩, hb, hp⟩
        exact ⟨⟨hv, hab⟩, ⟨hw, hq⟩, hb, hp⟩

theorem mem_tabPut {α : Type} {t : Tab α} {k : Nat} {v : α} {e : Nat × α} (h : e ∈ tabPut t k v) : e = (k, v) ∨ e ∈ t := by
  induction t with
  | nil => simpa [tabPut] using h
  | cons x r ih =>
    obtain ⟨i, w⟩ := x
    simp only [tabPut] at h
    split at h
    · rcases List.mem_cons.1 h with h | h
      · exact .inl h
      · exact .inr (List.mem_cons_of_mem _ h)
    · split at h
      · simpa using h
      · rcases List.mem_cons.1 h with h | h
        · exact .inr (h ▸ List.mem_cons_self ..)
        · exact (ih h).imp id (List.mem_cons_of_mem _)

theorem tabPut_pairwise {α : Type} {t : Tab α} (k : Nat) (v : α) (h : t.Pairwise (fun x y => x.1 < y.1)) :
    (tabPut t k v).Pairwise (fun x y => x.1 < y.1) := by
  induction t with
  | nil => simp [tabPut]
  | cons x r ih =>
    obtain ⟨i, w⟩ := x
    obtain ⟨hx, hr⟩ := List.pairwise_cons.1 h
    simp only [tabPut]
    split
    · rename_i e; subst e; exact List.pairwise_cons.2 ⟨hx, hr⟩
    · split
      · rename_i hk
        refine List.pairwise_cons.2 ⟨fun e he => ?_, h⟩
        rcases List.mem_cons.1 he with he | he
        · subst he; exact hk
        · exact Nat.lt_trans hk (hx e he)
      · refine List.pairwise_cons.2 ⟨fun e he => ?_, ih hr⟩
        rcases mem_tabPut he with he | he
        · subst he; show i < k; omega
        · exact hx e he

/-- A write of a word keeps the canonical form. -/
theorem bufferPut_wf (t : Tab Word) (i : Nat) (v : Word) (h : bufferWf t = true) : bufferWf (bufferPut t i v) = true := by
  obtain ⟨hv, hp⟩ := (bufferWf_iff t).1 h
  unfold bufferPut
  split
  · exact (bufferWf_iff _).2 ⟨fun e he => hv e (List.mem_filter.1 he).1, hp.filter _⟩
  · rename_i hn
    refine (bufferWf_iff _).2 ⟨fun e he => ?_, tabPut_pairwise i v hp⟩
    rcases mem_tabPut he with he | he
    · subst he; exact hn
    · exact hv e he

theorem tabGet_tabDel {α : Type} (t : Tab α) (i j : Nat) (d : α) : tabGet (tabDel t i) j d = if j = i then d else tabGet t j d := by
  induction t with
  | nil => simp [tabDel, tabGet]
  | cons x r ih =>
    obtain ⟨k, w⟩ := x
    simp only [tabDel, List.filter_cons] at ih ⊢
    by_cases hk : k = i
    · subst hk
      simp only [bne_self_eq_false, Bool.false_eq_true, if_false, ih, tabGet]
      by_cases hj : j = k
      · simp [hj]
      · simp [hj, Ne.symm hj]
    · simp only [bne_iff_ne, ne_eq, hk, not_false_iff, if_true, tabGet, ih]
      by_cases hj : k = j
      · subst hj; simp [hk]
      · simp [hj]

theorem tabGet_tabPut {α : Type} (t : Tab α) (i j : Nat) (v d : α) (h : t.Pairwise (fun x y => x.1 < y.1)) :
    tabGet (tabPut t i v) j d = if j = i then v else tabGet t j d := by
  induction t with
  | nil => simp [tabPut, tabGet, eq_comm]
  | cons x r ih =>
    obtain ⟨k, w⟩ := x
    have ih := ih (List.pairwise_cons.1 h).2
    simp only [tabPut]
    split
    · rename_i hk; subst hk
      by_cases hj : k = j
      · simp [tabGet, hj]
      · simp [tabGet, hj, Ne.symm hj]
    · split
      · by_cases hj : i = j
        · simp [tabGet, hj]
        · simp [tabGet, hj, Ne.symm hj]
      · rename_i hk _
        simp only [tabGet, ih]
        by_cases hj : k = j
        · subst hj; simp [hk]
        · simp [hj]

/-- A word reads as written, and every other word as before. -/
theorem bufferPut_read (t : Tab Word) (i j : Nat) (v : Word) (h : bufferWf t = true) :
    tabGet (bufferPut t i v) j 0 = if j = i then v else tabGet t j 0 := by
  unfold bufferPut
  split
  · rename_i hv; subst hv; exact tabGet_tabDel ..
  · exact tabGet_tabPut _ _ _ _ _ ((bufferWf_iff t).1 h).2

theorem reset_buffersHold : State.reset.buffersHold = true := by decide

end Sys2Proof.Machine
end

