-- ==== Sys2Proof/Laws/Settled.lean ====
section
/-! SUPPORT. Every meaning answers a next state whose pins have been settled. -/
namespace Sys2Proof.Machine

theorem execTickInstant_settled (dt : Nat) (edges : List SdEdge) (s : State) :
    ∃ t', execTickInstant dt edges s = done t' := by
  unfold execTickInstant; try dsimp only
  repeat (first | with_reducible exact ⟨_, rfl⟩ | split)
theorem execFwdSSend_settled (dt : Nat) (s : State) :
    ∃ t', execFwdSSend dt s = done t' := by
  unfold execFwdSSend; try dsimp only
  repeat (first | with_reducible exact ⟨_, rfl⟩ | split)
theorem execInputFreeze_settled (dt : Nat) (s : State) :
    ∃ t', execInputFreeze dt s = done t' := by
  unfold execInputFreeze; try dsimp only
  repeat (first | with_reducible exact ⟨_, rfl⟩ | split)
theorem execWritePhase_settled (dt : Nat) (s : State) :
    ∃ t', execWritePhase dt s = done t' := by
  unfold execWritePhase; try dsimp only
  repeat (first | with_reducible exact ⟨_, rfl⟩ | split)
theorem execRecLatch_settled (dt : Nat) (s : State) :
    ∃ t', execRecLatch dt s = done t' := by
  unfold execRecLatch; try dsimp only
  repeat (first | with_reducible exact ⟨_, rfl⟩ | split)
theorem execEdgeRecordRelease_settled (dt : Nat) (s : State) :
    ∃ t', execEdgeRecordRelease dt s = done t' := by
  unfold execEdgeRecordRelease; try dsimp only
  repeat (first | with_reducible exact ⟨_, rfl⟩ | split)
theorem execEdgeFrameFormation_settled (dt : Nat) (s : State) :
    ∃ t', execEdgeFrameFormation dt s = done t' := by
  unfold execEdgeFrameFormation; try dsimp only
  repeat (first | with_reducible exact ⟨_, rfl⟩ | split)
theorem execStateRepeat_settled (dt : Nat) (s : State) :
    ∃ t', execStateRepeat dt s = done t' := by
  unfold execStateRepeat; try dsimp only
  repeat (first | with_reducible exact ⟨_, rfl⟩ | split)
theorem execBeaconDue_settled (dt : Nat) (p : Fin 64) (s : State) :
    ∃ t', execBeaconDue dt p s = done t' := by
  unfold execBeaconDue; try dsimp only
  repeat (first | with_reducible exact ⟨_, rfl⟩ | split)
theorem execBeaconReplyRx_settled (dt : Nat) (p : Fin 64) (hop : Fin 4) (bseq tTurn : Nat) (corrDn corrUp : Int) (s : State) :
    ∃ t', execBeaconReplyRx dt p hop bseq tTurn corrDn corrUp s = done t' := by
  unfold execBeaconReplyRx; try dsimp only
  repeat (first | with_reducible exact ⟨_, rfl⟩ | split)
theorem execTelRx_settled (dt : Nat) (p : Fin 64) (pos : Fin 4) (sampleTime : Nat) (status : Word) (mask : BitVec 16) (items : List (BitVec 16)) (s : State) :
    ∃ t', execTelRx dt p pos sampleTime status mask items s = done t' := by
  unfold execTelRx; try dsimp only
  repeat (first | with_reducible exact ⟨_, rfl⟩ | split)
theorem execSymbolLock_settled (dt : Nat) (p : Fin 64) (s : State) :
    ∃ t', execSymbolLock dt p s = done t' := by
  unfold execSymbolLock; try dsimp only
  repeat (first | with_reducible exact ⟨_, rfl⟩ | split)
theorem execHelloWindowEnd_settled (dt : Nat) (p : Fin 64) (s : State) :
    ∃ t', execHelloWindowEnd dt p s = done t' := by
  unfold execHelloWindowEnd; try dsimp only
  repeat (first | with_reducible exact ⟨_, rfl⟩ | split)
theorem execCfgResponseRx_settled (dt : Nat) (p : Fin 64) (diag : Bool) (hop : Fin 4) (seq op status addr : Nat) (data : Word) (words : List Word) (s : State) :
    ∃ t', execCfgResponseRx dt p diag hop seq op status addr data words s = done t' := by
  unfold execCfgResponseRx; try dsimp only
  repeat (first | with_reducible exact ⟨_, rfl⟩ | split)
theorem execCfgRetry_settled (dt : Nat) (p : Fin 64) (diag : Bool) (hop : Fin 4) (seq : Nat) (s : State) :
    ∃ t', execCfgRetry dt p diag hop seq s = done t' := by
  unfold execCfgRetry; try dsimp only
  repeat (first | with_reducible exact ⟨_, rfl⟩ | split)
theorem execLinkSupervision_settled (dt : Nat) (p : Fin 64) (hop : Fin 4) (s : State) :
    ∃ t', execLinkSupervision dt p hop s = done t' := by
  unfold execLinkSupervision; try dsimp only
  repeat (first | with_reducible exact ⟨_, rfl⟩ | split)
theorem execTrainTimeout_settled (dt : Nat) (p : Fin 64) (s : State) :
    ∃ t', execTrainTimeout dt p s = done t' := by
  unfold execTrainTimeout; try dsimp only
  repeat (first | with_reducible exact ⟨_, rfl⟩ | split)
theorem execTrainRestart_settled (dt : Nat) (p : Fin 64) (s : State) :
    ∃ t', execTrainRestart dt p s = done t' := by
  unfold execTrainRestart; try dsimp only
  repeat (first | with_reducible exact ⟨_, rfl⟩ | split)
theorem execPrestartSweepStep_settled (dt : Nat) (p : Fin 64) (hop : Fin 4) (s : State) :
    ∃ t', execPrestartSweepStep dt p hop s = done t' := by
  unfold execPrestartSweepStep; try dsimp only
  repeat (first | with_reducible exact ⟨_, rfl⟩ | split)
theorem execAutoClearAttempt_settled (dt : Nat) (c : Fin 256) (s : State) :
    ∃ t', execAutoClearAttempt dt c s = done t' := by
  unfold execAutoClearAttempt; try dsimp only
  repeat (first | with_reducible exact ⟨_, rfl⟩ | split)
theorem execFaultClear_settled (dt : Nat) (p : Fin 8) (name : Word) (s : State) :
    ∃ t', execFaultClear dt p name s = done t' := by
  unfold execFaultClear; try dsimp only
  repeat (first | with_reducible exact ⟨_, rfl⟩ | split)
theorem execPrestartRun_settled (dt : Nat) (p : Fin 8) (s : State) :
    ∃ t', execPrestartRun dt p s = done t' := by
  unfold execPrestartRun; try dsimp only
  repeat (first | with_reducible exact ⟨_, rfl⟩ | split)
theorem execBlockNFall_settled (dt : Nat) (fall : Bool) (s : State) :
    ∃ t', execBlockNFall dt fall s = done t' := by
  unfold execBlockNFall; try dsimp only
  repeat (first | with_reducible exact ⟨_, rfl⟩ | split)
theorem execBlockNPulseEnd_settled (dt : Nat) (s : State) :
    ∃ t', execBlockNPulseEnd dt s = done t' := by
  unfold execBlockNPulseEnd; try dsimp only
  repeat (first | with_reducible exact ⟨_, rfl⟩ | split)
theorem execBlockNQuietEnd_settled (dt : Nat) (s : State) :
    ∃ t', execBlockNQuietEnd dt s = done t' := by
  unfold execBlockNQuietEnd; try dsimp only
  repeat (first | with_reducible exact ⟨_, rfl⟩ | split)
theorem execFaultInLatch_settled (dt : Nat) (pin : Fin 4) (width : Nat) (s : State) :
    ∃ t', execFaultInLatch dt pin width s = done t' := by
  unfold execFaultInLatch; try dsimp only
  repeat (first | with_reducible exact ⟨_, rfl⟩ | split)
theorem execFaultInClear_settled (dt : Nat) (p : Fin 8) (mask : BitVec 4) (low : BitVec 4) (s : State) :
    ∃ t', execFaultInClear dt p mask low s = done t' := by
  unfold execFaultInClear; try dsimp only
  repeat (first | with_reducible exact ⟨_, rfl⟩ | split)
theorem execForce_settled (dt : Nat) (p : Fin 8) (c : Fin 256) (v : BitVec 4) (s : State) :
    ∃ t', execForce dt p c v s = done t' := by
  unfold execForce; try dsimp only
  repeat (first | with_reducible exact ⟨_, rfl⟩ | split)
theorem execGfeAltReset_settled (dt : Nat) (p : Fin 8) (k : Fin 4) (s : State) :
    ∃ t', execGfeAltReset dt p k s = done t' := by
  unfold execGfeAltReset; try dsimp only
  repeat (first | with_reducible exact ⟨_, rfl⟩ | split)
theorem execAltReset_settled (dt : Nat) (p : Fin 8) (slot : Fin 64) (s : State) :
    ∃ t', execAltReset dt p slot s = done t' := by
  unfold execAltReset; try dsimp only
  repeat (first | with_reducible exact ⟨_, rfl⟩ | split)
theorem execInputHoldExpiry_settled (dt : Nat) (who : Fin 68) (s : State) :
    ∃ t', execInputHoldExpiry dt who s = done t' := by
  unfold execInputHoldExpiry; try dsimp only
  repeat (first | with_reducible exact ⟨_, rfl⟩ | split)
theorem execGfeRideTimeout_settled (dt : Nat) (k : Fin 4) (s : State) :
    ∃ t', execGfeRideTimeout dt k s = done t' := by
  unfold execGfeRideTimeout; try dsimp only
  repeat (first | with_reducible exact ⟨_, rfl⟩ | split)
theorem execRideExit_settled (dt : Nat) (k : Fin 4) (s : State) :
    ∃ t', execRideExit dt k s = done t' := by
  unfold execRideExit; try dsimp only
  repeat (first | with_reducible exact ⟨_, rfl⟩ | split)
theorem execGfeEnergizeFail_settled (dt : Nat) (k : Fin 4) (s : State) :
    ∃ t', execGfeEnergizeFail dt k s = done t' := by
  unfold execGfeEnergizeFail; try dsimp only
  repeat (first | with_reducible exact ⟨_, rfl⟩ | split)
theorem execSyncOk_settled (dt : Nat) (k : Fin 4) (s : State) :
    ∃ t', execSyncOk dt k s = done t' := by
  unfold execSyncOk; try dsimp only
  repeat (first | with_reducible exact ⟨_, rfl⟩ | split)
theorem execStopTimeout_settled (dt : Nat) (k : Fin 4) (s : State) :
    ∃ t', execStopTimeout dt k s = done t' := by
  unfold execStopTimeout; try dsimp only
  repeat (first | with_reducible exact ⟨_, rfl⟩ | split)
theorem execProbeWindowClose_settled (dt : Nat) (k : Fin 4) (s : State) :
    ∃ t', execProbeWindowClose dt k s = done t' := by
  unfold execProbeWindowClose; try dsimp only
  repeat (first | with_reducible exact ⟨_, rfl⟩ | split)
theorem execTimebaseSourceUpdate_settled (dt : Nat) (k : Fin 4) (offset : Int) (s : State) :
    ∃ t', execTimebaseSourceUpdate dt k offset s = done t' := by
  unfold execTimebaseSourceUpdate; try dsimp only
  repeat (first | with_reducible exact ⟨_, rfl⟩ | split)
theorem execHoldoverEntry_settled (dt : Nat) (k : Fin 4) (s : State) :
    ∃ t', execHoldoverEntry dt k s = done t' := by
  unfold execHoldoverEntry; try dsimp only
  repeat (first | with_reducible exact ⟨_, rfl⟩ | split)
theorem execTbHoldoverLong_settled (dt : Nat) (k : Fin 4) (s : State) :
    ∃ t', execTbHoldoverLong dt k s = done t' := by
  unfold execTbHoldoverLong; try dsimp only
  repeat (first | with_reducible exact ⟨_, rfl⟩ | split)
theorem execTbSlewLag_settled (dt : Nat) (s : State) :
    ∃ t', execTbSlewLag dt s = done t' := by
  unfold execTbSlewLag; try dsimp only
  repeat (first | with_reducible exact ⟨_, rfl⟩ | split)
theorem execAcqWaitExpiry_settled (dt : Nat) (s : State) :
    ∃ t', execAcqWaitExpiry dt s = done t' := by
  unfold execAcqWaitExpiry; try dsimp only
  repeat (first | with_reducible exact ⟨_, rfl⟩ | split)
theorem execPpsOutEdge_settled (dt : Nat) (rise : Bool) (s : State) :
    ∃ t', execPpsOutEdge dt rise s = done t' := by
  unfold execPpsOutEdge; try dsimp only
  repeat (first | with_reducible exact ⟨_, rfl⟩ | split)
theorem execPpsInEdge_settled (dt : Nat) (rise : Bool) (s : State) :
    ∃ t', execPpsInEdge dt rise s = done t' := by
  unfold execPpsInEdge; try dsimp only
  repeat (first | with_reducible exact ⟨_, rfl⟩ | split)
theorem execTrigInEdge_settled (dt : Nat) (pin : Fin 4) (rise : Bool) (s : State) :
    ∃ t', execTrigInEdge dt pin rise s = done t' := by
  unfold execTrigInEdge; try dsimp only
  repeat (first | with_reducible exact ⟨_, rfl⟩ | split)
theorem execLaunchFire_settled (dt : Nat) (e : Fin 32) (s : State) :
    ∃ t', execLaunchFire dt e s = done t' := by
  unfold execLaunchFire; try dsimp only
  repeat (first | with_reducible exact ⟨_, rfl⟩ | split)
theorem execPulseEnd_settled (dt : Nat) (pin : Fin 4) (s : State) :
    ∃ t', execPulseEnd dt pin s = done t' := by
  unfold execPulseEnd; try dsimp only
  repeat (first | with_reducible exact ⟨_, rfl⟩ | split)
theorem execPtpMessageRx_settled (dt : Nat) (lane : Fin 64) (m : PtpMsg) (s : State) :
    ∃ t', execPtpMessageRx dt lane m s = done t' := by
  unfold execPtpMessageRx; try dsimp only
  repeat (first | with_reducible exact ⟨_, rfl⟩ | split)
theorem execPtpMessageDue_settled (dt : Nat) (k : Fin 3) (lane : Fin 64) (m : PtpKind) (s : State) :
    ∃ t', execPtpMessageDue dt k lane m s = done t' := by
  unfold execPtpMessageDue; try dsimp only
  repeat (first | with_reducible exact ⟨_, rfl⟩ | split)
theorem execTimeStatRead_settled (dt : Nat) (p : Fin 8) (k : Fin 4) (s : State) :
    ∃ t', execTimeStatRead dt p k s = done t' := by
  unfold execTimeStatRead; try dsimp only
  repeat (first | with_reducible exact ⟨_, rfl⟩ | split)
theorem execAdcConversion_settled (dt : Nat) (pos : Fin 8) (slot : Nat) (raw : Int) (shadow : Option Int) (s : State) :
    ∃ t', execAdcConversion dt pos slot raw shadow s = done t' := by
  unfold execAdcConversion; try dsimp only
  repeat (first | with_reducible exact ⟨_, rfl⟩ | split)
theorem execAdcShadowStart_settled (dt : Nat) (s : State) :
    ∃ t', execAdcShadowStart dt s = done t' := by
  unfold execAdcShadowStart; try dsimp only
  repeat (first | with_reducible exact ⟨_, rfl⟩ | split)
theorem execAdcCalStep_settled (dt : Nat) (s : State) :
    ∃ t', execAdcCalStep dt s = done t' := by
  unfold execAdcCalStep; try dsimp only
  repeat (first | with_reducible exact ⟨_, rfl⟩ | split)
theorem execAdcCalDone_settled (dt : Nat) (ofs gain : Int) (res : List Int) (s : State) :
    ∃ t', execAdcCalDone dt ofs gain res s = done t' := by
  unfold execAdcCalDone; try dsimp only
  repeat (first | with_reducible exact ⟨_, rfl⟩ | split)
theorem execTqLoRead_settled (dt : Nat) (p : Fin 8) (s : State) :
    ∃ t', execTqLoRead dt p s = done t' := by
  unfold execTqLoRead; try dsimp only
  repeat (first | with_reducible exact ⟨_, rfl⟩ | split)
theorem execTqHiRead_settled (dt : Nat) (p : Fin 8) (s : State) :
    ∃ t', execTqHiRead dt p s = done t' := by
  unfold execTqHiRead; try dsimp only
  repeat (first | with_reducible exact ⟨_, rfl⟩ | split)
theorem execLvLoRead_settled (dt : Nat) (p : Fin 8) (n : Fin 32) (s : State) :
    ∃ t', execLvLoRead dt p n s = done t' := by
  unfold execLvLoRead; try dsimp only
  repeat (first | with_reducible exact ⟨_, rfl⟩ | split)
theorem execBsdFastDecision_settled (dt : Nat) (n : Fin 48) (bits : List Bool) (s : State) :
    ∃ t', execBsdFastDecision dt n bits s = done t' := by
  unfold execBsdFastDecision; try dsimp only
  repeat (first | with_reducible exact ⟨_, rfl⟩ | split)
theorem execBsdMissingClock_settled (dt : Nat) (g : Fin 6) (s : State) :
    ∃ t', execBsdMissingClock dt g s = done t' := by
  unfold execBsdMissingClock; try dsimp only
  repeat (first | with_reducible exact ⟨_, rfl⟩ | split)
theorem execBsdStuckStream_settled (dt : Nat) (n : Fin 48) (s : State) :
    ∃ t', execBsdStuckStream dt n s = done t' := by
  unfold execBsdStuckStream; try dsimp only
  repeat (first | with_reducible exact ⟨_, rfl⟩ | split)
theorem execSyncInEdge_settled (dt : Nat) (width : Nat) (s : State) :
    ∃ t', execSyncInEdge dt width s = done t' := by
  unfold execSyncInEdge; try dsimp only
  repeat (first | with_reducible exact ⟨_, rfl⟩ | split)
theorem execDecReset_settled (dt : Nat) (p : Fin 8) (s : State) :
    ∃ t', execDecReset dt p s = done t' := by
  unfold execDecReset; try dsimp only
  repeat (first | with_reducible exact ⟨_, rfl⟩ | split)
theorem execRecAutoTrigger_settled (dt : Nat) (k : Fin 4) (s : State) :
    ∃ t', execRecAutoTrigger dt k s = done t' := by
  unfold execRecAutoTrigger; try dsimp only
  repeat (first | with_reducible exact ⟨_, rfl⟩ | split)
theorem execRecTrigger_settled (dt : Nat) (p : Fin 8) (mask : BitVec 4) (s : State) :
    ∃ t', execRecTrigger dt p mask s = done t' := by
  unfold execRecTrigger; try dsimp only
  repeat (first | with_reducible exact ⟨_, rfl⟩ | split)
theorem execRecRestart_settled (dt : Nat) (p : Fin 8) (mask : BitVec 4) (s : State) :
    ∃ t', execRecRestart dt p mask s = done t' := by
  unfold execRecRestart; try dsimp only
  repeat (first | with_reducible exact ⟨_, rfl⟩ | split)
theorem execRecRingDrained_settled (dt : Nat) (k : Fin 4) (s : State) :
    ∃ t', execRecRingDrained dt k s = done t' := by
  unfold execRecRingDrained; try dsimp only
  repeat (first | with_reducible exact ⟨_, rfl⟩ | split)
theorem execSqPacketCommit_settled (dt : Nat) (producer : Fin 11) (poison : Bool) (s : State) :
    ∃ t', execSqPacketCommit dt producer poison s = done t' := by
  unfold execSqPacketCommit; try dsimp only
  repeat (first | with_reducible exact ⟨_, rfl⟩ | split)
theorem execSqDeliver_settled (dt : Nat) (q : Fin 16) (parity badLen dmaError : Bool) (s : State) :
    ∃ t', execSqDeliver dt q parity badLen dmaError s = done t' := by
  unfold execSqDeliver; try dsimp only
  repeat (first | with_reducible exact ⟨_, rfl⟩ | split)
theorem execSqIrqSignal_settled (dt : Nat) (q : Fin 16) (s : State) :
    ∃ t', execSqIrqSignal dt q s = done t' := by
  unfold execSqIrqSignal; try dsimp only
  repeat (first | with_reducible exact ⟨_, rfl⟩ | split)
theorem execClaim_settled (dt : Nat) (p : Fin 8) (q : Fin 16) (dma enable : Bool) (s : State) :
    ∃ t', execClaim dt p q dma enable s = done t' := by
  unfold execClaim; try dsimp only
  repeat (first | with_reducible exact ⟨_, rfl⟩ | split)
theorem execRelease_settled (dt : Nat) (p : Fin 8) (q : Fin 16) (s : State) :
    ∃ t', execRelease dt p q s = done t' := by
  unfold execRelease; try dsimp only
  repeat (first | with_reducible exact ⟨_, rfl⟩ | split)
theorem execSqRdAdv_settled (dt : Nat) (p : Fin 8) (q : Fin 16) (n : BitVec 17) (s : State) :
    ∃ t', execSqRdAdv dt p q n s = done t' := by
  unfold execSqRdAdv; try dsimp only
  repeat (first | with_reducible exact ⟨_, rfl⟩ | split)
theorem execHostRd_settled (dt : Nat) (p : Fin 8) (q : Fin 16) (off : BitVec 24) (s : State) :
    ∃ t', execHostRd dt p q off s = done t' := by
  unfold execHostRd; try dsimp only
  repeat (first | with_reducible exact ⟨_, rfl⟩ | split)
theorem execPairHbLoss_settled (dt : Nat) (s : State) :
    ∃ t', execPairHbLoss dt s = done t' := by
  unfold execPairHbLoss; try dsimp only
  repeat (first | with_reducible exact ⟨_, rfl⟩ | split)
theorem execPairLaneDown_settled (dt : Nat) (l : Fin 2) (s : State) :
    ∃ t', execPairLaneDown dt l s = done t' := by
  unfold execPairLaneDown; try dsimp only
  repeat (first | with_reducible exact ⟨_, rfl⟩ | split)
theorem execSnapRx_settled (dt : Nat) (lane : Fin 2) (seq : Nat) (snap : Snap) (s : State) :
    ∃ t', execSnapRx dt lane seq snap s = done t' := by
  unfold execSnapRx; try dsimp only
  repeat (first | with_reducible exact ⟨_, rfl⟩ | split)
theorem execRmapRx_settled (dt : Nat) (lane : Fin 2) (seq : Nat) (tick : Int) (map : BitVec 256) (s : State) :
    ∃ t', execRmapRx dt lane seq tick map s = done t' := by
  unfold execRmapRx; try dsimp only
  repeat (first | with_reducible exact ⟨_, rfl⟩ | split)
theorem execFwdSRx_settled (dt : Nat) (lane : Fin 2) (seq : Nat) (f : FwdS) (s : State) :
    ∃ t', execFwdSRx dt lane seq f s = done t' := by
  unfold execFwdSRx; try dsimp only
  repeat (first | with_reducible exact ⟨_, rfl⟩ | split)
theorem execDigRx_settled (dt : Nat) (lane : Fin 2) (seq : Nat) (d : Dig) (s : State) :
    ∃ t', execDigRx dt lane seq d s = done t' := by
  unfold execDigRx; try dsimp only
  repeat (first | with_reducible exact ⟨_, rfl⟩ | split)
theorem execWriteRx_settled (dt : Nat) (lane : Fin 2) (seq : Nat) (tick : Int) (es : List (Nat × Wire)) (s : State) :
    ∃ t', execWriteRx dt lane seq tick es s = done t' := by
  unfold execWriteRx; try dsimp only
  repeat (first | with_reducible exact ⟨_, rfl⟩ | split)
theorem execDecideRx_settled (dt : Nat) (lane : Fin 2) (seq : Nat) (time code kind index level : Nat) (cover : List Nat) (s : State) :
    ∃ t', execDecideRx dt lane seq time code kind index level cover s = done t' := by
  unfold execDecideRx; try dsimp only
  repeat (first | with_reducible exact ⟨_, rfl⟩ | split)
theorem execStxRx_settled (dt : Nat) (lane : Fin 2) (seq : Nat) (x : Stx) (s : State) :
    ∃ t', execStxRx dt lane seq x s = done t' := by
  unfold execStxRx; try dsimp only
  repeat (first | with_reducible exact ⟨_, rfl⟩ | split)
theorem execVigRx_settled (dt : Nat) (lane : Fin 2) (seq : Nat) (words : List Word) (s : State) :
    ∃ t', execVigRx dt lane seq words s = done t' := by
  unfold execVigRx; try dsimp only
  repeat (first | with_reducible exact ⟨_, rfl⟩ | split)
theorem execRoleRx_settled (dt : Nat) (lane : Fin 2) (seq : Nat) (op : Fin 5) (arg : Int) (s : State) :
    ∃ t', execRoleRx dt lane seq op arg s = done t' := by
  unfold execRoleRx; try dsimp only
  repeat (first | with_reducible exact ⟨_, rfl⟩ | split)
theorem execPeerHelloRx_settled (dt : Nat) (q : Fin 10) (seq : Nat) (h : HelloId) (s : State) :
    ∃ t', execPeerHelloRx dt q seq h s = done t' := by
  unfold execPeerHelloRx; try dsimp only
  repeat (first | with_reducible exact ⟨_, rfl⟩ | split)
theorem execPeerHelloDue_settled (dt : Nat) (s : State) :
    ∃ t', execPeerHelloDue dt s = done t' := by
  unfold execPeerHelloDue; try dsimp only
  repeat (first | with_reducible exact ⟨_, rfl⟩ | split)
theorem execPtimeDue_settled (dt : Nat) (s : State) :
    ∃ t', execPtimeDue dt s = done t' := by
  unfold execPtimeDue; try dsimp only
  repeat (first | with_reducible exact ⟨_, rfl⟩ | split)
theorem execPtimeRx_settled (dt : Nat) (q : Fin 10) (seq : Nat) (sec ns frac : Nat) (s : State) :
    ∃ t', execPtimeRx dt q seq sec ns frac s = done t' := by
  unfold execPtimeRx; try dsimp only
  repeat (first | with_reducible exact ⟨_, rfl⟩ | split)
theorem execPtimeReplyRx_settled (dt : Nat) (q : Fin 10) (seq turn : Nat) (s : State) :
    ∃ t', execPtimeReplyRx dt q seq turn s = done t' := by
  unfold execPtimeReplyRx; try dsimp only
  repeat (first | with_reducible exact ⟨_, rfl⟩ | split)
theorem execGbRx_settled (dt : Nat) (q : Fin 10) (origin gseq time : Nat) (s : State) :
    ∃ t', execGbRx dt q origin gseq time s = done t' := by
  unfold execGbRx; try dsimp only
  repeat (first | with_reducible exact ⟨_, rfl⟩ | split)
theorem execBcRx_settled (dt : Nat) (q : Fin 8) (origin bseq kind : Nat) (args : List Nat) (s : State) :
    ∃ t', execBcRx dt q origin bseq kind args s = done t' := by
  unfold execBcRx; try dsimp only
  repeat (first | with_reducible exact ⟨_, rfl⟩ | split)
theorem execTopoRx_settled (dt : Nat) (q : Fin 8) (h1 h2 best : Nat) (ids : List Nat) (s : State) :
    ∃ t', execTopoRx dt q h1 h2 best ids s = done t' := by
  unfold execTopoRx; try dsimp only
  repeat (first | with_reducible exact ⟨_, rfl⟩ | split)
theorem execTopoDue_settled (dt : Nat) (s : State) :
    ∃ t', execTopoDue dt s = done t' := by
  unfold execTopoDue; try dsimp only
  repeat (first | with_reducible exact ⟨_, rfl⟩ | split)
theorem execVigilReport_settled (dt : Nat) (scrub mram sched : Bool) (lane : Fin 64) (margin : Fin 1025) (s : State) :
    ∃ t', execVigilReport dt scrub mram sched lane margin s = done t' := by
  unfold execVigilReport; try dsimp only
  repeat (first | with_reducible exact ⟨_, rfl⟩ | split)
theorem execJoinReplayDone_settled (dt : Nat) (s : State) :
    ∃ t', execJoinReplayDone dt s = done t' := by
  unfold execJoinReplayDone; try dsimp only
  repeat (first | with_reducible exact ⟨_, rfl⟩ | split)
theorem execJoinBufferFull_settled (dt : Nat) (s : State) :
    ∃ t', execJoinBufferFull dt s = done t' := by
  unfold execJoinBufferFull; try dsimp only
  repeat (first | with_reducible exact ⟨_, rfl⟩ | split)
theorem execJoinComplete_settled (dt : Nat) (s : State) :
    ∃ t', execJoinComplete dt s = done t' := by
  unfold execJoinComplete; try dsimp only
  repeat (first | with_reducible exact ⟨_, rfl⟩ | split)
theorem execRoleSwap_settled (dt : Nat) (p : Fin 8) (s : State) :
    ∃ t', execRoleSwap dt p s = done t' := by
  unfold execRoleSwap; try dsimp only
  repeat (first | with_reducible exact ⟨_, rfl⟩ | split)
theorem execRoleSwapEffect_settled (dt : Nat) (s : State) :
    ∃ t', execRoleSwapEffect dt s = done t' := by
  unfold execRoleSwapEffect; try dsimp only
  repeat (first | with_reducible exact ⟨_, rfl⟩ | split)
theorem execSafetyCycle_settled (dt : Nat) (x : SafeIn) (s : State) :
    ∃ t', execSafetyCycle dt x s = done t' := by
  unfold execSafetyCycle; try dsimp only
  repeat (first | with_reducible exact ⟨_, rfl⟩ | split)
theorem execEmberExpired_settled (dt : Nat) (s : State) :
    ∃ t', execEmberExpired dt s = done t' := by
  unfold execEmberExpired; try dsimp only
  repeat (first | with_reducible exact ⟨_, rfl⟩ | split)
theorem execSoutOffPulse_settled (dt : Nat) (j : Fin 8) (s : State) :
    ∃ t', execSoutOffPulse dt j s = done t' := by
  unfold execSoutOffPulse; try dsimp only
  repeat (first | with_reducible exact ⟨_, rfl⟩ | split)
theorem execScSpduRx_settled (dt : Nat) (k : Fin 4) (bytes : List Byte) (s : State) :
    ∃ t', execScSpduRx dt k bytes s = done t' := by
  unfold execScSpduRx; try dsimp only
  repeat (first | with_reducible exact ⟨_, rfl⟩ | split)
theorem execScTimeout_settled (dt : Nat) (k : Fin 4) (s : State) :
    ∃ t', execScTimeout dt k s = done t' := by
  unfold execScTimeout; try dsimp only
  repeat (first | with_reducible exact ⟨_, rfl⟩ | split)
theorem execScStatusTx_settled (dt : Nat) (k : Fin 4) (s : State) :
    ∃ t', execScStatusTx dt k s = done t' := by
  unfold execScStatusTx; try dsimp only
  repeat (first | with_reducible exact ⟨_, rfl⟩ | split)
theorem execSupplyCutTestStep_settled (dt : Nat) (s : State) :
    ∃ t', execSupplyCutTestStep dt s = done t' := by
  unfold execSupplyCutTestStep; try dsimp only
  repeat (first | with_reducible exact ⟨_, rfl⟩ | split)
theorem execIslandClockCheck_settled (dt : Nat) (agrees : Bool) (s : State) :
    ∃ t', execIslandClockCheck dt agrees s = done t' := by
  unfold execIslandClockCheck; try dsimp only
  repeat (first | with_reducible exact ⟨_, rfl⟩ | split)
theorem execIslandMemoryCheck_settled (dt : Nat) (good : Bool) (s : State) :
    ∃ t', execIslandMemoryCheck dt good s = done t' := by
  unfold execIslandMemoryCheck; try dsimp only
  repeat (first | with_reducible exact ⟨_, rfl⟩ | split)
theorem execSfiPeerDisagree_settled (dt : Nat) (s : State) :
    ∃ t', execSfiPeerDisagree dt s = done t' := by
  unfold execSfiPeerDisagree; try dsimp only
  repeat (first | with_reducible exact ⟨_, rfl⟩ | split)
theorem execSupplyTestOverdue_settled (dt : Nat) (s : State) :
    ∃ t', execSupplyTestOverdue dt s = done t' := by
  unfold execSupplyTestOverdue; try dsimp only
  repeat (first | with_reducible exact ⟨_, rfl⟩ | split)
theorem execSgbDemand_settled (dt : Nat) (p : Fin 8) (s : State) :
    ∃ t', execSgbDemand dt p s = done t' := by
  unfold execSgbDemand; try dsimp only
  repeat (first | with_reducible exact ⟨_, rfl⟩ | split)
theorem execSgbReset_settled (dt : Nat) (p : Fin 8) (s : State) :
    ∃ t', execSgbReset dt p s = done t' := by
  unfold execSgbReset; try dsimp only
  repeat (first | with_reducible exact ⟨_, rfl⟩ | split)
theorem execSafeConfirm_settled (dt : Nat) (p : Fin 8) (v : Word) (s : State) :
    ∃ t', execSafeConfirm dt p v s = done t' := by
  unfold execSafeConfirm; try dsimp only
  repeat (first | with_reducible exact ⟨_, rfl⟩ | split)
theorem execMailboxDoorbell_settled (dt : Nat) (p : Fin 8) (len : BitVec 13) (s : State) :
    ∃ t', execMailboxDoorbell dt p len s = done t' := by
  unfold execMailboxDoorbell; try dsimp only
  repeat (first | with_reducible exact ⟨_, rfl⟩ | split)
theorem execRspAck_settled (dt : Nat) (p : Fin 8) (s : State) :
    ∃ t', execRspAck dt p s = done t' := by
  unfold execRspAck; try dsimp only
  repeat (first | with_reducible exact ⟨_, rfl⟩ | split)
theorem execAbort_settled (dt : Nat) (p : Fin 8) (s : State) :
    ∃ t', execAbort dt p s = done t' := by
  unfold execAbort; try dsimp only
  repeat (first | with_reducible exact ⟨_, rfl⟩ | split)
theorem execUdpMessageRx_settled (dt : Nat) (p : Fin 8) (ws : List Word) (s : State) :
    ∃ t', execUdpMessageRx dt p ws s = done t' := by
  unfold execUdpMessageRx; try dsimp only
  repeat (first | with_reducible exact ⟨_, rfl⟩ | split)
theorem execPcieFunctionReset_settled (dt : Nat) (f : Fin 8) (linkDown : Bool) (s : State) :
    ∃ t', execPcieFunctionReset dt f linkDown s = done t' := by
  unfold execPcieFunctionReset; try dsimp only
  repeat (first | with_reducible exact ⟨_, rfl⟩ | split)
theorem execTokenLeaseExpiry_settled (dt : Nat) (s : State) :
    ∃ t', execTokenLeaseExpiry dt s = done t' := by
  unfold execTokenLeaseExpiry; try dsimp only
  repeat (first | with_reducible exact ⟨_, rfl⟩ | split)
theorem execHello_settled (dt : Nat) (p : Fin 8) (maj min : Byte) (s : State) :
    ∃ t', execHello dt p maj min s = done t' := by
  unfold execHello; try dsimp only
  repeat (first | with_reducible exact ⟨_, rfl⟩ | split)
theorem execBye_settled (dt : Nat) (p : Fin 8) (s : State) :
    ∃ t', execBye dt p s = done t' := by
  unfold execBye; try dsimp only
  repeat (first | with_reducible exact ⟨_, rfl⟩ | split)
theorem execPing_settled (dt : Nat) (p : Fin 8) (w : Word) (s : State) :
    ∃ t', execPing dt p w s = done t' := by
  unfold execPing; try dsimp only
  repeat (first | with_reducible exact ⟨_, rfl⟩ | split)
theorem execInfo_settled (dt : Nat) (p : Fin 8) (s : State) :
    ∃ t', execInfo dt p s = done t' := by
  unfold execInfo; try dsimp only
  repeat (first | with_reducible exact ⟨_, rfl⟩ | split)
theorem execTokenAcquire_settled (dt : Nat) (p : Fin 8) (force : Bool) (s : State) :
    ∃ t', execTokenAcquire dt p force s = done t' := by
  unfold execTokenAcquire; try dsimp only
  repeat (first | with_reducible exact ⟨_, rfl⟩ | split)
theorem execTokenRelease_settled (dt : Nat) (p : Fin 8) (s : State) :
    ∃ t', execTokenRelease dt p s = done t' := by
  unfold execTokenRelease; try dsimp only
  repeat (first | with_reducible exact ⟨_, rfl⟩ | split)
theorem execTokenStatus_settled (dt : Nat) (p : Fin 8) (s : State) :
    ∃ t', execTokenStatus dt p s = done t' := by
  unfold execTokenStatus; try dsimp only
  repeat (first | with_reducible exact ⟨_, rfl⟩ | split)
theorem execArm_settled (dt : Nat) (p : Fin 8) (s : State) :
    ∃ t', execArm dt p s = done t' := by
  unfold execArm; try dsimp only
  repeat (first | with_reducible exact ⟨_, rfl⟩ | split)
theorem execArmedEntry_settled (dt : Nat) (s : State) :
    ∃ t', execArmedEntry dt s = done t' := by
  unfold execArmedEntry; try dsimp only
  repeat (first | with_reducible exact ⟨_, rfl⟩ | split)
theorem execStart_settled (dt : Nat) (p : Fin 8) (s : State) :
    ∃ t', execStart dt p s = done t' := by
  unfold execStart; try dsimp only
  repeat (first | with_reducible exact ⟨_, rfl⟩ | split)
theorem execPark_settled (dt : Nat) (p : Fin 8) (s : State) :
    ∃ t', execPark dt p s = done t' := by
  unfold execPark; try dsimp only
  repeat (first | with_reducible exact ⟨_, rfl⟩ | split)
theorem execResume_settled (dt : Nat) (p : Fin 8) (s : State) :
    ∃ t', execResume dt p s = done t' := by
  unfold execResume; try dsimp only
  repeat (first | with_reducible exact ⟨_, rfl⟩ | split)
theorem execBlock_settled (dt : Nat) (p : Fin 8) (s : State) :
    ∃ t', execBlock dt p s = done t' := by
  unfold execBlock; try dsimp only
  repeat (first | with_reducible exact ⟨_, rfl⟩ | split)
theorem execStateRead_settled (dt : Nat) (p : Fin 8) (s : State) :
    ∃ t', execStateRead dt p s = done t' := by
  unfold execStateRead; try dsimp only
  repeat (first | with_reducible exact ⟨_, rfl⟩ | split)
theorem execReset_settled (dt : Nat) (p : Fin 8) (reach : Word) (s : State) :
    ∃ t', execReset dt p reach s = done t' := by
  unfold execReset; try dsimp only
  repeat (first | with_reducible exact ⟨_, rfl⟩ | split)
theorem execParamRead_settled (dt : Nat) (p : Fin 8) (ids : List Word) (s : State) :
    ∃ t', execParamRead dt p ids s = done t' := by
  unfold execParamRead; try dsimp only
  repeat (first | with_reducible exact ⟨_, rfl⟩ | split)
theorem execParamWrite_settled (dt : Nat) (p : Fin 8) (es : List (Nat × Wire)) (s : State) :
    ∃ t', execParamWrite dt p es s = done t' := by
  unfold execParamWrite; try dsimp only
  repeat (first | with_reducible exact ⟨_, rfl⟩ | split)
theorem execParamStage_settled (dt : Nat) (p : Fin 8) (n : Word) (es : List (Nat × Wire)) (s : State) :
    ∃ t', execParamStage dt p n es s = done t' := by
  unfold execParamStage; try dsimp only
  repeat (first | with_reducible exact ⟨_, rfl⟩ | split)
theorem execParamUnstage_settled (dt : Nat) (p : Fin 8) (n : Word) (s : State) :
    ∃ t', execParamUnstage dt p n s = done t' := by
  unfold execParamUnstage; try dsimp only
  repeat (first | with_reducible exact ⟨_, rfl⟩ | split)
theorem execParamDescribe_settled (dt : Nat) (p : Fin 8) (id : Word) (s : State) :
    ∃ t', execParamDescribe dt p id s = done t' := by
  unfold execParamDescribe; try dsimp only
  repeat (first | with_reducible exact ⟨_, rfl⟩ | split)
theorem execTimeRead_settled (dt : Nat) (p : Fin 8) (mask : Word) (s : State) :
    ∃ t', execTimeRead dt p mask s = done t' := by
  unfold execTimeRead; try dsimp only
  repeat (first | with_reducible exact ⟨_, rfl⟩ | split)
theorem execReAcquire_settled (dt : Nat) (p : Fin 8) (tb : Word) (s : State) :
    ∃ t', execReAcquire dt p tb s = done t' := by
  unfold execReAcquire; try dsimp only
  repeat (first | with_reducible exact ⟨_, rfl⟩ | split)
theorem execTodWrite_settled (dt : Nat) (p : Fin 8) (tb : Word) (sec : Wire) (ns frac : Word) (s : State) :
    ∃ t', execTodWrite dt p tb sec ns frac s = done t' := by
  unfold execTodWrite; try dsimp only
  repeat (first | with_reducible exact ⟨_, rfl⟩ | split)
theorem execLaunchPlace_settled (dt : Nat) (p : Fin 8) (tb : Word) (sec : Wire) (ns frac action arg : Word) (s : State) :
    ∃ t', execLaunchPlace dt p tb sec ns frac action arg s = done t' := by
  unfold execLaunchPlace; try dsimp only
  repeat (first | with_reducible exact ⟨_, rfl⟩ | split)
theorem execLaunchCancel_settled (dt : Nat) (p : Fin 8) (e : Word) (s : State) :
    ∃ t', execLaunchCancel dt p e s = done t' := by
  unfold execLaunchCancel; try dsimp only
  repeat (first | with_reducible exact ⟨_, rfl⟩ | split)
theorem execLaunchList_settled (dt : Nat) (p : Fin 8) (s : State) :
    ∃ t', execLaunchList dt p s = done t' := by
  unfold execLaunchList; try dsimp only
  repeat (first | with_reducible exact ⟨_, rfl⟩ | split)
theorem execFaultList_settled (dt : Nat) (p : Fin 8) (first : Word) (s : State) :
    ∃ t', execFaultList dt p first s = done t' := by
  unfold execFaultList; try dsimp only
  repeat (first | with_reducible exact ⟨_, rfl⟩ | split)
theorem execLogRead_settled (dt : Nat) (p : Fin 8) (first count : Word) (s : State) :
    ∃ t', execLogRead dt p first count s = done t' := by
  unfold execLogRead; try dsimp only
  repeat (first | with_reducible exact ⟨_, rfl⟩ | split)
theorem execFirstOutRead_settled (dt : Nat) (p : Fin 8) (which : Word) (s : State) :
    ∃ t', execFirstOutRead dt p which s = done t' := by
  unfold execFirstOutRead; try dsimp only
  repeat (first | with_reducible exact ⟨_, rfl⟩ | split)
theorem execPatternLoad_settled (dt : Nat) (p : Fin 8) (offset : Word) (ws : List Word) (s : State) :
    ∃ t', execPatternLoad dt p offset ws s = done t' := by
  unfold execPatternLoad; try dsimp only
  repeat (first | with_reducible exact ⟨_, rfl⟩ | split)
theorem execPatternVerify_settled (dt : Nat) (p : Fin 8) (s : State) :
    ∃ t', execPatternVerify dt p s = done t' := by
  unfold execPatternVerify; try dsimp only
  repeat (first | with_reducible exact ⟨_, rfl⟩ | split)
theorem execPatternActivate_settled (dt : Nat) (p : Fin 8) (trialT : Word) (s : State) :
    ∃ t', execPatternActivate dt p trialT s = done t' := by
  unfold execPatternActivate; try dsimp only
  repeat (first | with_reducible exact ⟨_, rfl⟩ | split)
theorem execPatternConfirm_settled (dt : Nat) (p : Fin 8) (counter : Word) (s : State) :
    ∃ t', execPatternConfirm dt p counter s = done t' := by
  unfold execPatternConfirm; try dsimp only
  repeat (first | with_reducible exact ⟨_, rfl⟩ | split)
theorem execPatternRollback_settled (dt : Nat) (p : Fin 8) (s : State) :
    ∃ t', execPatternRollback dt p s = done t' := by
  unfold execPatternRollback; try dsimp only
  repeat (first | with_reducible exact ⟨_, rfl⟩ | split)
theorem execPatternStatus_settled (dt : Nat) (p : Fin 8) (s : State) :
    ∃ t', execPatternStatus dt p s = done t' := by
  unfold execPatternStatus; try dsimp only
  repeat (first | with_reducible exact ⟨_, rfl⟩ | split)
theorem execImageLoad_settled (dt : Nat) (p : Fin 8) (slot : Fin 2) (offset : Word) (ws : List Word) (s : State) :
    ∃ t', execImageLoad dt p slot offset ws s = done t' := by
  unfold execImageLoad; try dsimp only
  repeat (first | with_reducible exact ⟨_, rfl⟩ | split)
theorem execImageSelect_settled (dt : Nat) (p : Fin 8) (slot : Fin 2) (s : State) :
    ∃ t', execImageSelect dt p slot s = done t' := by
  unfold execImageSelect; try dsimp only
  repeat (first | with_reducible exact ⟨_, rfl⟩ | split)
theorem execImageStatus_settled (dt : Nat) (p : Fin 8) (s : State) :
    ∃ t', execImageStatus dt p s = done t' := by
  unfold execImageStatus; try dsimp only
  repeat (first | with_reducible exact ⟨_, rfl⟩ | split)
theorem execIdentityRead_settled (dt : Nat) (p : Fin 8) (item offset : Word) (s : State) :
    ∃ t', execIdentityRead dt p item offset s = done t' := by
  unfold execIdentityRead; try dsimp only
  repeat (first | with_reducible exact ⟨_, rfl⟩ | split)
theorem execAttest_settled (dt : Nat) (p : Fin 8) (offset : Word) (nonce : BitVec 256) (s : State) :
    ∃ t', execAttest dt p offset nonce s = done t' := by
  unfold execAttest; try dsimp only
  repeat (first | with_reducible exact ⟨_, rfl⟩ | split)
theorem execProvision_settled (dt : Nat) (p : Fin 8) (s : State) :
    ∃ t', execProvision dt p s = done t' := by
  unfold execProvision; try dsimp only
  repeat (first | with_reducible exact ⟨_, rfl⟩ | split)
theorem execOwnerKeySet_settled (dt : Nat) (p : Fin 8) (offset : Word) (ws : List Word) (s : State) :
    ∃ t', execOwnerKeySet dt p offset ws s = done t' := by
  unfold execOwnerKeySet; try dsimp only
  repeat (first | with_reducible exact ⟨_, rfl⟩ | split)
theorem execLifecycleAdvance_settled (dt : Nat) (p : Fin 8) (s : State) :
    ∃ t', execLifecycleAdvance dt p s = done t' := by
  unfold execLifecycleAdvance; try dsimp only
  repeat (first | with_reducible exact ⟨_, rfl⟩ | split)
theorem execRmaEnter_settled (dt : Nat) (p : Fin 8) (offset : Word) (ws : List Word) (s : State) :
    ∃ t', execRmaEnter dt p offset ws s = done t' := by
  unfold execRmaEnter; try dsimp only
  repeat (first | with_reducible exact ⟨_, rfl⟩ | split)
theorem execCounterAdvance_settled (dt : Nat) (p : Fin 8) (k v : Word) (s : State) :
    ∃ t', execCounterAdvance dt p k v s = done t' := by
  unfold execCounterAdvance; try dsimp only
  repeat (first | with_reducible exact ⟨_, rfl⟩ | split)
theorem execTamperClear_settled (dt : Nat) (p : Fin 8) (source : Word) (high : Bool) (s : State) :
    ∃ t', execTamperClear dt p source high s = done t' := by
  unfold execTamperClear; try dsimp only
  repeat (first | with_reducible exact ⟨_, rfl⟩ | split)
theorem execTamperLatch_settled (dt : Nat) (k : Fin 2) (s : State) :
    ∃ t', execTamperLatch dt k s = done t' := by
  unfold execTamperLatch; try dsimp only
  repeat (first | with_reducible exact ⟨_, rfl⟩ | split)
theorem execBistRun_settled (dt : Nat) (p : Fin 8) (mask : BitVec 2) (s : State) :
    ∃ t', execBistRun dt p mask s = done t' := by
  unfold execBistRun; try dsimp only
  repeat (first | with_reducible exact ⟨_, rfl⟩ | split)
theorem execBistComplete_settled (dt : Nat) (sig : BitVec 128) (pass : BitVec 2) (s : State) :
    ∃ t', execBistComplete dt sig pass s = done t' := by
  unfold execBistComplete; try dsimp only
  repeat (first | with_reducible exact ⟨_, rfl⟩ | split)
theorem execBistResult_settled (dt : Nat) (p : Fin 8) (s : State) :
    ∃ t', execBistResult dt p s = done t' := by
  unfold execBistResult; try dsimp only
  repeat (first | with_reducible exact ⟨_, rfl⟩ | split)
theorem execBlockReset_settled (dt : Nat) (p : Fin 8) (code : Word) (s : State) :
    ∃ t', execBlockReset dt p code s = done t' := by
  unfold execBlockReset; try dsimp only
  repeat (first | with_reducible exact ⟨_, rfl⟩ | split)
theorem execBlockResetComplete_settled (dt : Nat) (code : Nat) (idle : Bool) (s : State) :
    ∃ t', execBlockResetComplete dt code idle s = done t' := by
  unfold execBlockResetComplete; try dsimp only
  repeat (first | with_reducible exact ⟨_, rfl⟩ | split)
theorem execStartClear_settled (dt : Nat) (p : Fin 8) (s : State) :
    ∃ t', execStartClear dt p s = done t' := by
  unfold execStartClear; try dsimp only
  repeat (first | with_reducible exact ⟨_, rfl⟩ | split)
theorem execPowerOnReset_settled (dt : Nat) (low : Bool) (s : State) :
    ∃ t', execPowerOnReset dt low s = done t' := by
  unfold execPowerOnReset; try dsimp only
  repeat (first | with_reducible exact ⟨_, rfl⟩ | split)
theorem execResetN_settled (dt : Nat) (low : Bool) (s : State) :
    ∃ t', execResetN dt low s = done t' := by
  unfold execResetN; try dsimp only
  repeat (first | with_reducible exact ⟨_, rfl⟩ | split)
theorem execJtagReset_settled (dt : Nat) (s : State) :
    ∃ t', execJtagReset dt s = done t' := by
  unfold execJtagReset; try dsimp only
  repeat (first | with_reducible exact ⟨_, rfl⟩ | split)
theorem execResetReleaseStep_settled (dt : Nat) (s : State) :
    ∃ t', execResetReleaseStep dt s = done t' := by
  unfold execResetReleaseStep; try dsimp only
  repeat (first | with_reducible exact ⟨_, rfl⟩ | split)
theorem execReleaseWaitLimit_settled (dt : Nat) (s : State) :
    ∃ t', execReleaseWaitLimit dt s = done t' := by
  unfold execReleaseWaitLimit; try dsimp only
  repeat (first | with_reducible exact ⟨_, rfl⟩ | split)
theorem execStartTargetReached_settled (dt : Nat) (s : State) :
    ∃ t', execStartTargetReached dt s = done t' := by
  unfold execStartTargetReached; try dsimp only
  repeat (first | with_reducible exact ⟨_, rfl⟩ | split)
theorem execStartSuccess_settled (dt : Nat) (s : State) :
    ∃ t', execStartSuccess dt s = done t' := by
  unfold execStartSuccess; try dsimp only
  repeat (first | with_reducible exact ⟨_, rfl⟩ | split)
theorem execTrialExpiry_settled (dt : Nat) (s : State) :
    ∃ t', execTrialExpiry dt s = done t' := by
  unfold execTrialExpiry; try dsimp only
  repeat (first | with_reducible exact ⟨_, rfl⟩ | split)
theorem execKeeperSecond_settled (dt : Nat) (s : State) :
    ∃ t', execKeeperSecond dt s = done t' := by
  unfold execKeeperSecond; try dsimp only
  repeat (first | with_reducible exact ⟨_, rfl⟩ | split)
theorem execKeeperMirror_settled (dt : Nat) (s : State) :
    ∃ t', execKeeperMirror dt s = done t' := by
  unfold execKeeperMirror; try dsimp only
  repeat (first | with_reducible exact ⟨_, rfl⟩ | split)
theorem execRailsLoss_settled (dt : Nat) (s : State) :
    ∃ t', execRailsLoss dt s = done t' := by
  unfold execRailsLoss; try dsimp only
  repeat (first | with_reducible exact ⟨_, rfl⟩ | split)
theorem execMilLockstep_settled (dt : Nat) (s : State) :
    ∃ t', execMilLockstep dt s = done t' := by
  unfold execMilLockstep; try dsimp only
  repeat (first | with_reducible exact ⟨_, rfl⟩ | split)
theorem execMilWatchdog_settled (dt : Nat) (s : State) :
    ∃ t', execMilWatchdog dt s = done t' := by
  unfold execMilWatchdog; try dsimp only
  repeat (first | with_reducible exact ⟨_, rfl⟩ | split)
theorem execSramEcc_settled (dt : Nat) (corrected perTick tables : Bool) (s : State) :
    ∃ t', execSramEcc dt corrected perTick tables s = done t' := by
  unfold execSramEcc; try dsimp only
  repeat (first | with_reducible exact ⟨_, rfl⟩ | split)
theorem execSupplyMonitor_settled (dt : Nat) (rail : Fin 3) (inRange : Bool) (s : State) :
    ∃ t', execSupplyMonitor dt rail inRange s = done t' := by
  unfold execSupplyMonitor; try dsimp only
  repeat (first | with_reducible exact ⟨_, rfl⟩ | split)
theorem execPkgRail_settled (dt : Nat) (rail : Fin 10) (inRange : Bool) (s : State) :
    ∃ t', execPkgRail dt rail inRange s = done t' := by
  unfold execPkgRail; try dsimp only
  repeat (first | with_reducible exact ⟨_, rfl⟩ | split)
theorem execTempMonitorUpdate_settled (dt : Nat) (tj : Int) (s : State) :
    ∃ t', execTempMonitorUpdate dt tj s = done t' := by
  unfold execTempMonitorUpdate; try dsimp only
  repeat (first | with_reducible exact ⟨_, rfl⟩ | split)
theorem execLaneLos_settled (dt : Nat) (n : Fin 64) (s : State) :
    ∃ t', execLaneLos dt n s = done t' := by
  unfold execLaneLos; try dsimp only
  repeat (first | with_reducible exact ⟨_, rfl⟩ | split)
theorem execLaneLol_settled (dt : Nat) (n : Fin 64) (s : State) :
    ∃ t', execLaneLol dt n s = done t' := by
  unfold execLaneLol; try dsimp only
  repeat (first | with_reducible exact ⟨_, rfl⟩ | split)
theorem execLaneEthDown_settled (dt : Nat) (n : Fin 64) (s : State) :
    ∃ t', execLaneEthDown dt n s = done t' := by
  unfold execLaneEthDown; try dsimp only
  repeat (first | with_reducible exact ⟨_, rfl⟩ | split)
theorem execLaneL2Exit_settled (dt : Nat) (n : Fin 64) (eq : Fin 16) (s : State) :
    ∃ t', execLaneL2Exit dt n eq s = done t' := by
  unfold execLaneL2Exit; try dsimp only
  repeat (first | with_reducible exact ⟨_, rfl⟩ | split)
theorem execEthFrameRx_settled (dt : Nat) (n : Fin 64) (f : EthFrame) (s : State) :
    ∃ t', execEthFrameRx dt n f s = done t' := by
  unfold execEthFrameRx; try dsimp only
  repeat (first | with_reducible exact ⟨_, rfl⟩ | split)
theorem execMarginScan_settled (dt : Nat) (p : Fin 8) (n : Fin 64) (s : State) :
    ∃ t', execMarginScan dt p n s = done t' := by
  unfold execMarginScan; try dsimp only
  repeat (first | with_reducible exact ⟨_, rfl⟩ | split)
theorem execMarginScanDone_settled (dt : Nat) (n : Fin 64) (h : Fin 1025) (v : Nat) (s : State) :
    ∃ t', execMarginScanDone dt n h v s = done t' := by
  unfold execMarginScanDone; try dsimp only
  repeat (first | with_reducible exact ⟨_, rfl⟩ | split)
theorem execErrInj_settled (dt : Nat) (p : Fin 8) (n : Fin 64) (v : Word) (s : State) :
    ∃ t', execErrInj dt p n v s = done t' := by
  unfold execErrInj; try dsimp only
  repeat (first | with_reducible exact ⟨_, rfl⟩ | split)
theorem execPrbsChk_settled (dt : Nat) (p : Fin 8) (n : Fin 64) (v : Fin 5) (s : State) :
    ∃ t', execPrbsChk dt p n v s = done t' := by
  unfold execPrbsChk; try dsimp only
  repeat (first | with_reducible exact ⟨_, rfl⟩ | split)
theorem execPwrReq_settled (dt : Nat) (p : Fin 8) (n : Fin 64) (v : Fin 3) (s : State) :
    ∃ t', execPwrReq dt p n v s = done t' := by
  unfold execPwrReq; try dsimp only
  repeat (first | with_reducible exact ⟨_, rfl⟩ | split)
theorem execLoop_settled (dt : Nat) (p : Fin 8) (n : Fin 64) (v : Fin 4) (s : State) :
    ∃ t', execLoop dt p n v s = done t' := by
  unfold execLoop; try dsimp only
  repeat (first | with_reducible exact ⟨_, rfl⟩ | split)
theorem execXmLoss_settled (dt : Nat) (s : State) :
    ∃ t', execXmLoss dt s = done t' := by
  unfold execXmLoss; try dsimp only
  repeat (first | with_reducible exact ⟨_, rfl⟩ | split)
theorem execXsLoss_settled (dt : Nat) (s : State) :
    ∃ t', execXsLoss dt s = done t' := by
  unfold execXsLoss; try dsimp only
  repeat (first | with_reducible exact ⟨_, rfl⟩ | split)
theorem execRefMeasure_settled (dt : Nat) (x : Fin 2) (present : Bool) (ppm : Int) (s : State) :
    ∃ t', execRefMeasure dt x present ppm s = done t' := by
  unfold execRefMeasure; try dsimp only
  repeat (first | with_reducible exact ⟨_, rfl⟩ | split)
theorem execPllLock_settled (dt : Nat) (x : Fin 20) (s : State) :
    ∃ t', execPllLock dt x s = done t' := by
  unfold execPllLock; try dsimp only
  repeat (first | with_reducible exact ⟨_, rfl⟩ | split)
theorem execPllUnlock_settled (dt : Nat) (x : Fin 20) (s : State) :
    ∃ t', execPllUnlock dt x s = done t' := by
  unfold execPllUnlock; try dsimp only
  repeat (first | with_reducible exact ⟨_, rfl⟩ | split)
theorem execOpllRetune_settled (dt : Nat) (p : Fin 8) (ni nf dith seed : Word) (s : State) :
    ∃ t', execOpllRetune dt p ni nf dith seed s = done t' := by
  unfold execOpllRetune; try dsimp only
  repeat (first | with_reducible exact ⟨_, rfl⟩ | split)
theorem execClkoutDivChange_settled (dt : Nat) (p c : Fin 8) (tb : Bool) (v : Wire) (s : State) :
    ∃ t', execClkoutDivChange dt p c tb v s = done t' := by
  unfold execClkoutDivChange; try dsimp only
  repeat (first | with_reducible exact ⟨_, rfl⟩ | split)
theorem execOpllSteer_settled (dt : Nat) (s : State) :
    ∃ t', execOpllSteer dt s = done t' := by
  unfold execOpllSteer; try dsimp only
  repeat (first | with_reducible exact ⟨_, rfl⟩ | split)
theorem execTxReq_settled (dt : Nat) (p : Fin 8) (n : Fin 4) (mask : BitVec 3) (s : State) :
    ∃ t', execTxReq dt p n mask s = done t' := by
  unfold execTxReq; try dsimp only
  repeat (first | with_reducible exact ⟨_, rfl⟩ | split)
theorem execTxAbort_settled (dt : Nat) (p : Fin 8) (n : Fin 4) (mask : BitVec 3) (s : State) :
    ∃ t', execTxAbort dt p n mask s = done t' := by
  unfold execTxAbort; try dsimp only
  repeat (first | with_reducible exact ⟨_, rfl⟩ | split)
theorem execCanRecover_settled (dt : Nat) (p : Fin 8) (n : Fin 4) (s : State) :
    ∃ t', execCanRecover dt p n s = done t' := by
  unfold execCanRecover; try dsimp only
  repeat (first | with_reducible exact ⟨_, rfl⟩ | split)
theorem execCanTxStart_settled (dt : Nat) (n : Fin 4) (s : State) :
    ∃ t', execCanTxStart dt n s = done t' := by
  unfold execCanTxStart; try dsimp only
  repeat (first | with_reducible exact ⟨_, rfl⟩ | split)
theorem execCanTxAttemptEnd_settled (dt : Nat) (n : Fin 4) (e : CanEnd) (tdc : Nat) (s : State) :
    ∃ t', execCanTxAttemptEnd dt n e tdc s = done t' := by
  unfold execCanTxAttemptEnd; try dsimp only
  repeat (first | with_reducible exact ⟨_, rfl⟩ | split)
theorem execCanFrameRx_settled (dt : Nat) (n : Fin 4) (fr : CanFrame) (esi : Bool) (age : Nat) (s : State) :
    ∃ t', execCanFrameRx dt n fr esi age s = done t' := by
  unfold execCanFrameRx; try dsimp only
  repeat (first | with_reducible exact ⟨_, rfl⟩ | split)
theorem execCanBusOffRecovered_settled (dt : Nat) (n : Fin 4) (s : State) :
    ∃ t', execCanBusOffRecovered dt n s = done t' := by
  unfold execCanBusOffRecovered; try dsimp only
  repeat (first | with_reducible exact ⟨_, rfl⟩ | split)
theorem execRegisterWrite_settled (dt : Nat) (p : Fin 8) (off : BitVec 15) (v : Word) (s : State) :
    ∃ t', execRegisterWrite dt p off v s = done t' := by
  unfold execRegisterWrite; try dsimp only
  repeat (first | with_reducible exact ⟨_, rfl⟩ | split)
theorem execVbatInRange_settled (dt : Nat) (s : State) :
    ∃ t', execVbatInRange dt s = done t' := by
  unfold execVbatInRange; try dsimp only
  repeat (first | with_reducible exact ⟨_, rfl⟩ | split)
theorem execVbatLoss_settled (dt : Nat) (s : State) :
    ∃ t', execVbatLoss dt s = done t' := by
  unfold execVbatLoss; try dsimp only
  repeat (first | with_reducible exact ⟨_, rfl⟩ | split)
theorem execXmOkRising_settled (dt : Nat) (s : State) :
    ∃ t', execXmOkRising dt s = done t' := by
  unfold execXmOkRising; try dsimp only
  repeat (first | with_reducible exact ⟨_, rfl⟩ | split)
theorem execXsOkRising_settled (dt : Nat) (s : State) :
    ∃ t', execXsOkRising dt s = done t' := by
  unfold execXsOkRising; try dsimp only
  repeat (first | with_reducible exact ⟨_, rfl⟩ | split)
theorem execLosClear_settled (dt : Nat) (n : Fin 64) (s : State) :
    ∃ t', execLosClear dt n s = done t' := by
  unfold execLosClear; try dsimp only
  repeat (first | with_reducible exact ⟨_, rfl⟩ | split)
theorem execLaneSyncAcquired_settled (dt : Nat) (n : Fin 64) (s : State) :
    ∃ t', execLaneSyncAcquired dt n s = done t' := by
  unfold execLaneSyncAcquired; try dsimp only
  repeat (first | with_reducible exact ⟨_, rfl⟩ | split)
theorem execLaneSyncLost_settled (dt : Nat) (n : Fin 64) (s : State) :
    ∃ t', execLaneSyncLost dt n s = done t' := by
  unfold execLaneSyncLost; try dsimp only
  repeat (first | with_reducible exact ⟨_, rfl⟩ | split)
theorem execHeartbeatPresent_settled (dt : Nat) (s : State) :
    ∃ t', execHeartbeatPresent dt s = done t' := by
  unfold execHeartbeatPresent; try dsimp only
  repeat (first | with_reducible exact ⟨_, rfl⟩ | split)
theorem execPairLaneUp_settled (dt : Nat) (l : Fin 2) (s : State) :
    ∃ t', execPairLaneUp dt l s = done t' := by
  unfold execPairLaneUp; try dsimp only
  repeat (first | with_reducible exact ⟨_, rfl⟩ | split)
theorem execFrameDiscarded_settled (dt : Nat) (p : Fin 64) (s : State) :
    ∃ t', execFrameDiscarded dt p s = done t' := by
  unfold execFrameDiscarded; try dsimp only
  repeat (first | with_reducible exact ⟨_, rfl⟩ | split)
theorem execSlewPartEnd_settled (dt : Nat) (k : Fin 4) (s : State) :
    ∃ t', execSlewPartEnd dt k s = done t' := by
  unfold execSlewPartEnd; try dsimp only
  repeat (first | with_reducible exact ⟨_, rfl⟩ | split)
theorem execMilFaultReset_settled (dt : Nat) (s : State) :
    ∃ t', execMilFaultReset dt s = done t' := by
  unfold execMilFaultReset; try dsimp only
  repeat (first | with_reducible exact ⟨_, rfl⟩ | split)
theorem execCheckerLock_settled (dt : Nat) (n : Fin 64) (s : State) :
    ∃ t', execCheckerLock dt n s = done t' := by
  unfold execCheckerLock; try dsimp only
  repeat (first | with_reducible exact ⟨_, rfl⟩ | split)
theorem execCheckerLockLost_settled (dt : Nat) (n : Fin 64) (errs : Nat) (s : State) :
    ∃ t', execCheckerLockLost dt n errs s = done t' := by
  unfold execCheckerLockLost; try dsimp only
  repeat (first | with_reducible exact ⟨_, rfl⟩ | split)
theorem execCanBusIntegration_settled (dt : Nat) (n : Fin 4) (s : State) :
    ∃ t', execCanBusIntegration dt n s = done t' := by
  unfold execCanBusIntegration; try dsimp only
  repeat (first | with_reducible exact ⟨_, rfl⟩ | split)
theorem execCanReceiveError_settled (dt : Nat) (n : Fin 4) (primary : Bool) (s : State) :
    ∃ t', execCanReceiveError dt n primary s = done t' := by
  unfold execCanReceiveError; try dsimp only
  repeat (first | with_reducible exact ⟨_, rfl⟩ | split)
theorem execPcieLinkUp_settled (dt : Nat) (s : State) :
    ∃ t', execPcieLinkUp dt s = done t' := by
  unfold execPcieLinkUp; try dsimp only
  repeat (first | with_reducible exact ⟨_, rfl⟩ | split)
theorem execSdclkReturn_settled (dt : Nat) (g : Fin 6) (s : State) :
    ∃ t', execSdclkReturn dt g s = done t' := by
  unfold execSdclkReturn; try dsimp only
  repeat (first | with_reducible exact ⟨_, rfl⟩ | split)
theorem execClearsWhenHeld_settled (dt : Nat) (code : BitVec 16) (kind : BitVec 4) (index : BitVec 12) (s : State) :
    ∃ t', execClearsWhenHeld dt code kind index s = done t' := by
  unfold execClearsWhenHeld; try dsimp only
  repeat (first | with_reducible exact ⟨_, rfl⟩ | split)

/-- Every command answers a next state: it ends as a command does. -/
theorem exec_done (i : Instr) (s : State) : ∃ x, exec i s = done x := by
  unfold exec
  cases i
  case tickInstant => apply execTickInstant_settled
  case fwdSSend => apply execFwdSSend_settled
  case inputFreeze => apply execInputFreeze_settled
  case writePhase => apply execWritePhase_settled
  case recLatch => apply execRecLatch_settled
  case edgeRecordRelease => apply execEdgeRecordRelease_settled
  case edgeFrameFormation => apply execEdgeFrameFormation_settled
  case stateRepeat => apply execStateRepeat_settled
  case beaconDue => apply execBeaconDue_settled
  case beaconReplyRx => apply execBeaconReplyRx_settled
  case telRx => apply execTelRx_settled
  case symbolLock => apply execSymbolLock_settled
  case helloWindowEnd => apply execHelloWindowEnd_settled
  case cfgResponseRx => apply execCfgResponseRx_settled
  case cfgRetry => apply execCfgRetry_settled
  case linkSupervision => apply execLinkSupervision_settled
  case trainTimeout => apply execTrainTimeout_settled
  case trainRestart => apply execTrainRestart_settled
  case prestartSweepStep => apply execPrestartSweepStep_settled
  case autoClearAttempt => apply execAutoClearAttempt_settled
  case faultClear => apply execFaultClear_settled
  case prestartRun => apply execPrestartRun_settled
  case blockNFall => apply execBlockNFall_settled
  case blockNPulseEnd => apply execBlockNPulseEnd_settled
  case blockNQuietEnd => apply execBlockNQuietEnd_settled
  case faultInLatch => apply execFaultInLatch_settled
  case faultInClear => apply execFaultInClear_settled
  case force => apply execForce_settled
  case gfeAltReset => apply execGfeAltReset_settled
  case altReset => apply execAltReset_settled
  case inputHoldExpiry => apply execInputHoldExpiry_settled
  case gfeRideTimeout => apply execGfeRideTimeout_settled
  case rideExit => apply execRideExit_settled
  case gfeEnergizeFail => apply execGfeEnergizeFail_settled
  case syncOk => apply execSyncOk_settled
  case stopTimeout => apply execStopTimeout_settled
  case probeWindowClose => apply execProbeWindowClose_settled
  case timebaseSourceUpdate => apply execTimebaseSourceUpdate_settled
  case holdoverEntry => apply execHoldoverEntry_settled
  case tbHoldoverLong => apply execTbHoldoverLong_settled
  case tbSlewLag => apply execTbSlewLag_settled
  case acqWaitExpiry => apply execAcqWaitExpiry_settled
  case ppsOutEdge => apply execPpsOutEdge_settled
  case ppsInEdge => apply execPpsInEdge_settled
  case trigInEdge => apply execTrigInEdge_settled
  case launchFire => apply execLaunchFire_settled
  case pulseEnd => apply execPulseEnd_settled
  case ptpMessageRx => apply execPtpMessageRx_settled
  case ptpMessageDue => apply execPtpMessageDue_settled
  case timeStatRead => apply execTimeStatRead_settled
  case adcConversion => apply execAdcConversion_settled
  case adcShadowStart => apply execAdcShadowStart_settled
  case adcCalStep => apply execAdcCalStep_settled
  case adcCalDone => apply execAdcCalDone_settled
  case tqLoRead => apply execTqLoRead_settled
  case tqHiRead => apply execTqHiRead_settled
  case lvLoRead => apply execLvLoRead_settled
  case bsdFastDecision => apply execBsdFastDecision_settled
  case bsdMissingClock => apply execBsdMissingClock_settled
  case bsdStuckStream => apply execBsdStuckStream_settled
  case syncInEdge => apply execSyncInEdge_settled
  case decReset => apply execDecReset_settled
  case recAutoTrigger => apply execRecAutoTrigger_settled
  case recTrigger => apply execRecTrigger_settled
  case recRestart => apply execRecRestart_settled
  case recRingDrained => apply execRecRingDrained_settled
  case sqPacketCommit => apply execSqPacketCommit_settled
  case sqDeliver => apply execSqDeliver_settled
  case sqIrqSignal => apply execSqIrqSignal_settled
  case claim => apply execClaim_settled
  case release => apply execRelease_settled
  case sqRdAdv => apply execSqRdAdv_settled
  case hostRd => apply execHostRd_settled
  case pairHbLoss => apply execPairHbLoss_settled
  case pairLaneDown => apply execPairLaneDown_settled
  case snapRx => apply execSnapRx_settled
  case rmapRx => apply execRmapRx_settled
  case fwdSRx => apply execFwdSRx_settled
  case digRx => apply execDigRx_settled
  case writeRx => apply execWriteRx_settled
  case decideRx => apply execDecideRx_settled
  case stxRx => apply execStxRx_settled
  case vigRx => apply execVigRx_settled
  case roleRx => apply execRoleRx_settled
  case peerHelloRx => apply execPeerHelloRx_settled
  case peerHelloDue => apply execPeerHelloDue_settled
  case ptimeDue => apply execPtimeDue_settled
  case ptimeRx => apply execPtimeRx_settled
  case ptimeReplyRx => apply execPtimeReplyRx_settled
  case gbRx => apply execGbRx_settled
  case bcRx => apply execBcRx_settled
  case topoRx => apply execTopoRx_settled
  case topoDue => apply execTopoDue_settled
  case vigilReport => apply execVigilReport_settled
  case joinReplayDone => apply execJoinReplayDone_settled
  case joinBufferFull => apply execJoinBufferFull_settled
  case joinComplete => apply execJoinComplete_settled
  case roleSwap => apply execRoleSwap_settled
  case roleSwapEffect => apply execRoleSwapEffect_settled
  case safetyCycle => apply execSafetyCycle_settled
  case emberExpired => apply execEmberExpired_settled
  case soutOffPulse => apply execSoutOffPulse_settled
  case scSpduRx => apply execScSpduRx_settled
  case scTimeout => apply execScTimeout_settled
  case scStatusTx => apply execScStatusTx_settled
  case supplyCutTestStep => apply execSupplyCutTestStep_settled
  case islandClockCheck => apply execIslandClockCheck_settled
  case islandMemoryCheck => apply execIslandMemoryCheck_settled
  case sfiPeerDisagree => apply execSfiPeerDisagree_settled
  case supplyTestOverdue => apply execSupplyTestOverdue_settled
  case sgbDemand => apply execSgbDemand_settled
  case sgbReset => apply execSgbReset_settled
  case safeConfirm => apply execSafeConfirm_settled
  case mailboxDoorbell => apply execMailboxDoorbell_settled
  case rspAck => apply execRspAck_settled
  case abort => apply execAbort_settled
  case udpMessageRx => apply execUdpMessageRx_settled
  case pcieFunctionReset => apply execPcieFunctionReset_settled
  case tokenLeaseExpiry => apply execTokenLeaseExpiry_settled
  case hello => apply execHello_settled
  case bye => apply execBye_settled
  case ping => apply execPing_settled
  case info => apply execInfo_settled
  case tokenAcquire => apply execTokenAcquire_settled
  case tokenRelease => apply execTokenRelease_settled
  case tokenStatus => apply execTokenStatus_settled
  case arm => apply execArm_settled
  case armedEntry => apply execArmedEntry_settled
  case start => apply execStart_settled
  case park => apply execPark_settled
  case resume => apply execResume_settled
  case block => apply execBlock_settled
  case stateRead => apply execStateRead_settled
  case reset => apply execReset_settled
  case paramRead => apply execParamRead_settled
  case paramWrite => apply execParamWrite_settled
  case paramStage => apply execParamStage_settled
  case paramUnstage => apply execParamUnstage_settled
  case paramDescribe => apply execParamDescribe_settled
  case timeRead => apply execTimeRead_settled
  case reAcquire => apply execReAcquire_settled
  case todWrite => apply execTodWrite_settled
  case launchPlace => apply execLaunchPlace_settled
  case launchCancel => apply execLaunchCancel_settled
  case launchList => apply execLaunchList_settled
  case faultList => apply execFaultList_settled
  case logRead => apply execLogRead_settled
  case firstOutRead => apply execFirstOutRead_settled
  case patternLoad => apply execPatternLoad_settled
  case patternVerify => apply execPatternVerify_settled
  case patternActivate => apply execPatternActivate_settled
  case patternConfirm => apply execPatternConfirm_settled
  case patternRollback => apply execPatternRollback_settled
  case patternStatus => apply execPatternStatus_settled
  case imageLoad => apply execImageLoad_settled
  case imageSelect => apply execImageSelect_settled
  case imageStatus => apply execImageStatus_settled
  case identityRead => apply execIdentityRead_settled
  case attest => apply execAttest_settled
  case provision => apply execProvision_settled
  case ownerKeySet => apply execOwnerKeySet_settled
  case lifecycleAdvance => apply execLifecycleAdvance_settled
  case rmaEnter => apply execRmaEnter_settled
  case counterAdvance => apply execCounterAdvance_settled
  case tamperClear => apply execTamperClear_settled
  case tamperLatch => apply execTamperLatch_settled
  case bistRun => apply execBistRun_settled
  case bistComplete => apply execBistComplete_settled
  case bistResult => apply execBistResult_settled
  case blockReset => apply execBlockReset_settled
  case blockResetComplete => apply execBlockResetComplete_settled
  case startClear => apply execStartClear_settled
  case powerOnReset => apply execPowerOnReset_settled
  case resetN => apply execResetN_settled
  case jtagReset => apply execJtagReset_settled
  case resetReleaseStep => apply execResetReleaseStep_settled
  case releaseWaitLimit => apply execReleaseWaitLimit_settled
  case startTargetReached => apply execStartTargetReached_settled
  case startSuccess => apply execStartSuccess_settled
  case trialExpiry => apply execTrialExpiry_settled
  case keeperSecond => apply execKeeperSecond_settled
  case keeperMirror => apply execKeeperMirror_settled
  case railsLoss => apply execRailsLoss_settled
  case milLockstep => apply execMilLockstep_settled
  case milWatchdog => apply execMilWatchdog_settled
  case sramEcc => apply execSramEcc_settled
  case supplyMonitor => apply execSupplyMonitor_settled
  case pkgRail => apply execPkgRail_settled
  case tempMonitorUpdate => apply execTempMonitorUpdate_settled
  case laneLos => apply execLaneLos_settled
  case laneLol => apply execLaneLol_settled
  case laneEthDown => apply execLaneEthDown_settled
  case laneL2Exit => apply execLaneL2Exit_settled
  case ethFrameRx => apply execEthFrameRx_settled
  case marginScan => apply execMarginScan_settled
  case marginScanDone => apply execMarginScanDone_settled
  case errInj => apply execErrInj_settled
  case prbsChk => apply execPrbsChk_settled
  case pwrReq => apply execPwrReq_settled
  case loop => apply execLoop_settled
  case xmLoss => apply execXmLoss_settled
  case xsLoss => apply execXsLoss_settled
  case refMeasure => apply execRefMeasure_settled
  case pllLock => apply execPllLock_settled
  case pllUnlock => apply execPllUnlock_settled
  case opllRetune => apply execOpllRetune_settled
  case clkoutDivChange => apply execClkoutDivChange_settled
  case opllSteer => apply execOpllSteer_settled
  case txReq => apply execTxReq_settled
  case txAbort => apply execTxAbort_settled
  case canRecover => apply execCanRecover_settled
  case canTxStart => apply execCanTxStart_settled
  case canTxAttemptEnd => apply execCanTxAttemptEnd_settled
  case canFrameRx => apply execCanFrameRx_settled
  case canBusOffRecovered => apply execCanBusOffRecovered_settled
  case registerWrite => apply execRegisterWrite_settled
  case vbatInRange => apply execVbatInRange_settled
  case vbatLoss => apply execVbatLoss_settled
  case xmOkRising => apply execXmOkRising_settled
  case xsOkRising => apply execXsOkRising_settled
  case losClear => apply execLosClear_settled
  case laneSyncAcquired => apply execLaneSyncAcquired_settled
  case laneSyncLost => apply execLaneSyncLost_settled
  case heartbeatPresent => apply execHeartbeatPresent_settled
  case pairLaneUp => apply execPairLaneUp_settled
  case frameDiscarded => apply execFrameDiscarded_settled
  case slewPartEnd => apply execSlewPartEnd_settled
  case milFaultReset => apply execMilFaultReset_settled
  case checkerLock => apply execCheckerLock_settled
  case checkerLockLost => apply execCheckerLockLost_settled
  case canBusIntegration => apply execCanBusIntegration_settled
  case canReceiveError => apply execCanReceiveError_settled
  case pcieLinkUp => apply execPcieLinkUp_settled
  case sdclkReturn => apply execSdclkReturn_settled
  case clearsWhenHeld => apply execClearsWhenHeld_settled

/-- Its pins are settled. -/
theorem exec_settled (i : Instr) (s : State) : ∃ x, exec i s = .next (settle x) :=
  (exec_done i s).elim fun _ h => ⟨_, h⟩

end Sys2Proof.Machine
end

