-- ==== Sys2Proof/Laws/Pins.lean ====
section
/-! SUPPORT. The end of a command puts the pins in order, and changes nothing where they are. -/
namespace Sys2Proof.Machine

theorem settle_pinsHold (s : State) : (settle s).pinsHold = true := by
  have a : (settle s).awake = s.awake := rfl
  have d : drivesBlockN (settle s) = drivesBlockN s := rfl
  have e : enginesRun (settle s) = enginesRun s := rfl
  have k : sdclkPin (settle s) = sdclkPin s := rfl
  have p : (settle s).pairEn = s.pairEn := rfl
  unfold State.pinsHold
  rw [a, d, e, k, p]
  cases h : s.awake <;> simp [settle, h]

/-- An outcome is a next state whose pins hold. -/
theorem exec_pinsHold (c : Instr) (s : State) : ∃ t, exec c s = .next t ∧ t.pinsHold = true := by
  obtain ⟨x, h⟩ := exec_settled c s
  exact ⟨settle x, h, settle_pinsHold x⟩

/-- Pins that hold stay as they are while the device state, the fault list, the safe force and the pair's enable do. -/
theorem settle_of_pinsHold {s : State} (h : s.pinsHold = true) : settle s = s := by
  unfold State.pinsHold at h
  simp only [Bool.and_eq_true, Bool.or_eq_true, beq_iff_eq, Bool.not_eq_true', List.all_eq_true] at h
  obtain ⟨⟨⟨h1, h2⟩, h3⟩, h4⟩ := h
  have q : (if (s.spu.blockNLow && !drivesBlockN s) = true then some (s.now + 3000 * nsecQ) else s.spu.quietEnd) = s.spu.quietEnd := by
    rw [h1]; simp
  have e : (if s.awake = true then s.sfi.sout else s.sfi.sout.map (fun o => { o with level := false })) = s.sfi.sout := by
    rcases h2 with h2 | ⟨_, h2⟩
    · rw [if_pos h2]
    · split
      · rfl
      · apply Vector.toList_inj.mp
        rw [Vector.toList_map]
        refine (List.map_congr_left (fun o ho => ?_)).trans (List.map_id _)
        have := h2 o ho
        cases o; simp_all
  have f : (s.sfi.safeHigh && s.awake) = s.sfi.safeHigh := by
    rcases h2 with h2 | ⟨h2, _⟩ <;> rw [h2] <;> simp
  unfold settle
  dsimp only
  rw [q, e, f, ← h1, ← h3, ← h4]

end Sys2Proof.Machine
end

