-- ==== Sys2Proof/WellFormed.lean ====
section
/-! DEFINITION. Well-formed commands: operands that the formats of the manual can carry. `exec` gives every command a meaning; this
says which ones a sender can spell. -/
namespace Sys2Proof

/-- A 16-bit sequence number. -/
def seq16 (n : Nat) : Bool := decide (n < 65536)
/-- A signed 16-bit sample (R295). -/
def int16 (i : Int) : Bool := decide (-32768 ≤ i) && decide (i < 32768)
/-- Entries of a set: 32-bit parameter IDs, at most what one message holds (R402, R403). -/
def entriesOk (es : List (Nat × Wire)) : Bool := decide (es.length ≤ 340) && es.all (fun e => decide (e.1 < 2 ^ 32))
/-- What an Announce says, in the widths of IEEE 1588-2019 (R52). -/
def dsOk (d : PtpDs) : Bool :=
  [d.priority1, d.clockClass, d.accuracy, d.priority2].all (fun x => decide (x < 256)) &&
    [d.variance, d.steps, d.senderPort].all (fun x => decide (x < 65536)) && [d.identity, d.sender].all (fun x => decide (x < 2 ^ 64))
/-- Header fields of a PTP message (R52). -/
def ptpOk (m : PtpMsg) : Bool :=
  decide (m.majorSdoId < 16) && decide (m.minorSdoId < 256) && decide (m.domain < 256) && seq16 m.seq && seq16 m.srcPort && dsOk m.ds
/-- An 802.1Q VID of 12 bits, and what the frame carries (R440). -/
def ethOk (f : EthFrame) : Bool :=
  f.vid.all (fun v => decide (v < 4096)) && (match f.kind with | .ptp m => ptpOk m | _ => true)
/-- Bytes of a CAN data length code (R463, Table 18-2). -/
def dlcBytes (fdf : Bool) (dlc : Nat) : Nat :=
  if dlc ≤ 8 then dlc else if !fdf then 8 else [12, 16, 20, 24, 32, 48, 64].getD (dlc - 9) 64
/-- A CAN frame: identifier width, DLC, data. -/
def canOk (f : CanFrame) : Bool :=
  decide (f.id < if f.ide then 2 ^ 29 else 2 ^ 11) && decide (f.dlc < 16) && decide (f.data.length = if f.rtr then 0 else dlcBytes f.fdf f.dlc)

/-- A command whose operands the formats can carry. -/
def Instr.wf : Instr → Bool
  | .tickInstant _ edges => edges.all (fun e => decide (e.group < 6))
  | .fwdSSend _ => true
  | .inputFreeze _ => true
  | .writePhase _ => true
  | .recLatch _ => true
  | .edgeRecordRelease _ => true
  | .edgeFrameFormation _ => true
  | .stateRepeat _ => true
  | .beaconDue _ _ => true
  | .beaconReplyRx _ _ _ bseq _ _ _ => seq16 bseq
  | .telRx _ _ _ sampleTime _ _ items => decide (sampleTime < 2 ^ 44) && decide (items.length ≤ 16)
  | .symbolLock _ _ => true
  | .helloWindowEnd _ _ => true
  | .cfgResponseRx _ _ _ _ seq op _ addr _ _ => seq16 seq && decide (op < 16) && decide (addr < 65536)
  | .cfgRetry _ _ _ _ seq => seq16 seq
  | .linkSupervision _ _ _ => true
  | .trainTimeout _ _ => true
  | .trainRestart _ _ => true
  | .prestartSweepStep _ _ _ => true
  | .autoClearAttempt _ _ => true
  | .faultClear _ _ _ => true
  | .prestartRun _ _ => true
  | .blockNFall _ _ => true
  | .blockNPulseEnd _ => true
  | .blockNQuietEnd _ => true
  | .faultInLatch _ _ _ => true
  | .faultInClear _ _ _ _ => true
  | .force _ _ _ _ => true
  | .gfeAltReset _ _ _ => true
  | .altReset _ _ _ => true
  | .inputHoldExpiry _ _ => true
  | .gfeRideTimeout _ _ => true
  | .rideExit _ _ => true
  | .gfeEnergizeFail _ _ => true
  | .syncOk _ _ => true
  | .stopTimeout _ _ => true
  | .probeWindowClose _ _ => true
  | .timebaseSourceUpdate _ _ _ => true
  | .holdoverEntry _ _ => true
  | .tbHoldoverLong _ _ => true
  | .tbSlewLag _ => true
  | .acqWaitExpiry _ => true
  | .ppsOutEdge _ _ => true
  | .ppsInEdge _ _ => true
  | .trigInEdge _ _ _ => true
  | .launchFire _ _ => true
  | .pulseEnd _ _ => true
  | .ptpMessageRx _ _ m => ptpOk m
  | .ptpMessageDue _ _ _ _ => true
  | .timeStatRead _ _ _ => true
  | .adcConversion _ _ _ raw _ => int16 raw
  | .adcShadowStart _ => true
  | .adcCalStep _ => true
  | .adcCalDone _ _ _ _ => true
  | .tqLoRead _ _ => true
  | .tqHiRead _ _ => true
  | .lvLoRead _ _ _ => true
  | .bsdFastDecision _ _ _ => true
  | .bsdMissingClock _ _ => true
  | .bsdStuckStream _ _ => true
  | .syncInEdge _ _ => true
  | .decReset _ _ => true
  | .recAutoTrigger _ _ => true
  | .recTrigger _ _ _ => true
  | .recRestart _ _ _ => true
  | .recRingDrained _ _ => true
  | .sqPacketCommit _ _ _ => true
  | .sqDeliver _ _ _ _ _ => true
  | .sqIrqSignal _ _ => true
  | .claim _ _ _ _ _ => true
  | .release _ _ _ => true
  | .sqRdAdv _ _ _ _ => true
  | .hostRd _ _ _ _ => true
  | .pairHbLoss _ => true
  | .pairLaneDown _ _ => true
  | .snapRx _ _ seq _ => seq16 seq
  | .rmapRx _ _ seq _ _ => seq16 seq
  | .fwdSRx _ _ seq _ => seq16 seq
  | .digRx _ _ seq _ => seq16 seq
  | .writeRx _ _ seq _ es => seq16 seq && entriesOk es
  | .decideRx _ _ seq _ code kind index level cover => seq16 seq && decide (code < 65536) && decide (kind < 16) && decide (index < 4096) && decide (level ≤ 6) && cover.all (fun c => decide (c < 256))
  | .stxRx _ _ seq _ => seq16 seq
  | .vigRx _ _ seq _ => seq16 seq
  | .roleRx _ _ seq _ _ => seq16 seq
  | .peerHelloRx _ _ seq _ => seq16 seq
  | .peerHelloDue _ => true
  | .ptimeDue _ => true
  | .ptimeRx _ _ seq _ ns frac => seq16 seq && decide (ns < 1000000000) && decide (frac < 65536)
  | .ptimeReplyRx _ _ seq _ => seq16 seq
  | .gbRx _ _ _ gseq _ => seq16 gseq
  | .bcRx _ _ _ bseq _ _ => seq16 bseq
  | .topoRx _ _ _ _ _ _ => true
  | .topoDue _ => true
  | .vigilReport _ _ _ _ _ _ => true
  | .joinReplayDone _ => true
  | .joinBufferFull _ => true
  | .joinComplete _ => true
  | .roleSwap _ _ => true
  | .roleSwapEffect _ => true
  | .safetyCycle _ _ => true
  | .emberExpired _ => true
  | .soutOffPulse _ _ => true
  | .scSpduRx _ _ bytes => decide (bytes.length ≤ 64)
  | .scTimeout _ _ => true
  | .scStatusTx _ _ => true
  | .supplyCutTestStep _ => true
  | .islandClockCheck _ _ => true
  | .islandMemoryCheck _ _ => true
  | .sfiPeerDisagree _ => true
  | .supplyTestOverdue _ => true
  | .sgbDemand _ _ => true
  | .sgbReset _ _ => true
  | .safeConfirm _ _ _ => true
  | .mailboxDoorbell _ _ _ => true
  | .rspAck _ _ => true
  | .abort _ _ => true
  | .udpMessageRx _ _ ws => decide (ws.length ≤ 364)
  | .pcieFunctionReset _ _ _ => true
  | .tokenLeaseExpiry _ => true
  | .hello _ _ _ _ => true
  | .bye _ _ => true
  | .ping _ _ _ => true
  | .info _ _ => true
  | .tokenAcquire _ _ _ => true
  | .tokenRelease _ _ => true
  | .tokenStatus _ _ => true
  | .arm _ _ => true
  | .armedEntry _ => true
  | .start _ _ => true
  | .park _ _ => true
  | .resume _ _ => true
  | .block _ _ => true
  | .stateRead _ _ => true
  | .reset _ _ _ => true
  | .paramRead _ _ ids => decide (ids.length ≤ 1023)
  | .paramWrite _ _ es => entriesOk es
  | .paramStage _ _ _ es => entriesOk es
  | .paramUnstage _ _ _ => true
  | .paramDescribe _ _ _ => true
  | .timeRead _ _ _ => true
  | .reAcquire _ _ _ => true
  | .todWrite _ _ _ _ _ _ => true
  | .launchPlace _ _ _ _ _ _ _ _ => true
  | .launchCancel _ _ _ => true
  | .launchList _ _ => true
  | .faultList _ _ _ => true
  | .logRead _ _ _ _ => true
  | .firstOutRead _ _ _ => true
  | .patternLoad _ _ _ ws => decide (ws.length ≤ 1024)
  | .patternVerify _ _ => true
  | .patternActivate _ _ _ => true
  | .patternConfirm _ _ _ => true
  | .patternRollback _ _ => true
  | .patternStatus _ _ => true
  | .imageLoad _ _ _ _ ws => decide (ws.length ≤ 1024)
  | .imageSelect _ _ _ => true
  | .imageStatus _ _ => true
  | .identityRead _ _ _ _ => true
  | .attest _ _ _ _ => true
  | .provision _ _ => true
  | .ownerKeySet _ _ _ ws => decide (ws.length ≤ 1024)
  | .lifecycleAdvance _ _ => true
  | .rmaEnter _ _ _ ws => decide (ws.length ≤ 1024)
  | .counterAdvance _ _ _ _ => true
  | .tamperClear _ _ _ _ => true
  | .tamperLatch _ _ => true
  | .bistRun _ _ _ => true
  | .bistComplete _ _ _ => true
  | .bistResult _ _ => true
  | .blockReset _ _ _ => true
  | .blockResetComplete _ code _ => decide (code < 64)
  | .startClear _ _ => true
  | .powerOnReset _ _ => true
  | .resetN _ _ => true
  | .jtagReset _ => true
  | .resetReleaseStep _ => true
  | .releaseWaitLimit _ => true
  | .startTargetReached _ => true
  | .startSuccess _ => true
  | .trialExpiry _ => true
  | .keeperSecond _ => true
  | .keeperMirror _ => true
  | .railsLoss _ => true
  | .milLockstep _ => true
  | .milWatchdog _ => true
  | .sramEcc _ _ _ _ => true
  | .supplyMonitor _ _ _ => true
  | .pkgRail _ _ _ => true
  | .tempMonitorUpdate _ tj => decide (-128 ≤ tj) && decide (tj < 256)
  | .laneLos _ _ => true
  | .laneLol _ _ => true
  | .laneEthDown _ _ => true
  | .laneL2Exit _ _ _ => true
  | .ethFrameRx _ _ f => ethOk f
  | .marginScan _ _ _ => true
  | .marginScanDone _ _ _ _ => true
  | .errInj _ _ _ _ => true
  | .prbsChk _ _ _ _ => true
  | .pwrReq _ _ _ _ => true
  | .loop _ _ _ _ => true
  | .xmLoss _ => true
  | .xsLoss _ => true
  | .refMeasure _ _ _ _ => true
  | .pllLock _ _ => true
  | .pllUnlock _ _ => true
  | .opllRetune _ _ _ _ _ _ => true
  | .clkoutDivChange _ _ _ _ _ => true
  | .opllSteer _ => true
  | .txReq _ _ _ _ => true
  | .txAbort _ _ _ _ => true
  | .canRecover _ _ _ => true
  | .canTxStart _ _ => true
  | .canTxAttemptEnd _ _ _ tdc => decide (tdc < 256)
  | .canFrameRx _ _ fr _ _ => canOk fr
  | .canBusOffRecovered _ _ => true
  | .registerWrite _ _ _ _ => true
  | .vbatInRange _ => true
  | .vbatLoss _ => true
  | .xmOkRising _ => true
  | .xsOkRising _ => true
  | .losClear _ _ => true
  | .laneSyncAcquired _ _ => true
  | .laneSyncLost _ _ => true
  | .heartbeatPresent _ => true
  | .pairLaneUp _ _ => true
  | .frameDiscarded _ _ => true
  | .slewPartEnd _ _ => true
  | .milFaultReset _ => true
  | .checkerLock _ _ => true
  | .checkerLockLost _ _ _ => true
  | .canBusIntegration _ _ => true
  | .canReceiveError _ _ _ => true
  | .pcieLinkUp _ => true
  | .sdclkReturn _ _ => true
  | .clearsWhenHeld _ _ _ _ => true

end Sys2Proof
end

