-- ==== Sys2Proof/Tests/Slice0.lean ====
section
/-! SUPPORT. For each clause of each statement a state and operands that meet its hypotheses together; ill-formed commands; small steps
on fixed values. -/
open Sys2Proof Sys2Proof.Machine
namespace Sys2Proof.Tests
set_option maxRecDepth 10000
set_option Elab.async false

/-! Hypotheses as booleans. -/

def acceptsB (p op since : Nat) (s : State) : Bool :=
  mayRun p op s && (s.hp p).session && !(s.hp p).drop && decide (since ≤ (s.hp p).version) &&
    (s.hp p).msg.all (fun m => decide (m.maj * 256 + m.min = (s.hp p).version)) && (s.dev != .fallback || fallbackOp op)
theorem accepts_of {p op since : Nat} {s : State} (h : acceptsB p op since s = true) : Accepts p op since s := by
  simp only [acceptsB, Bool.and_eq_true, decide_eq_true_eq, Bool.or_eq_true, Bool.not_eq_true', bne_iff_ne, Option.all_eq_true] at h
  obtain ⟨⟨⟨⟨⟨a, b⟩, c⟩, d⟩, e⟩, f⟩ := h
  exact ⟨a, b, c, d, fun m hm => by simpa using e m hm, fun x => f.resolve_left (fun y => y x)⟩
theorem granted_of {p op since : Nat} {right : Right} {acts : Bool} {s : State}
    (h : (acceptsB p op since s && (rightRefusal s p right).isNone && (!acts || !notActive s)) = true) : Granted p op since right acts s := by
  simp only [Bool.and_eq_true, Option.isNone_iff_eq_none, Bool.or_eq_true, Bool.not_eq_true'] at h
  obtain ⟨⟨a, b⟩, c⟩ := h
  exact ⟨accepts_of a, b, fun x => c.resolve_left (by simp [x])⟩
theorem fieldGranted_of {p : Nat} {right : Right} {s : State}
    (h : (acceptsB p 0x0302 0x300 s && (rightRefusal s p right).isNone && (!right.acts || !notActive s) && s.dev != .fallback) = true) :
    FieldGranted p right s := by
  rw [Bool.and_eq_true] at h
  exact ⟨granted_of h.1, by simpa using h.2⟩
theorem firstCopy_of {s : State} {lane type seq : Nat}
    (h : (s.pairEn && (pairLane s lane).up && decide (seq < 65536) && ((tabGet s.rdn.typeWin type {}).take seq).isSome) = true) :
    FirstCopy s lane type seq := by
  simp only [Bool.and_eq_true, decide_eq_true_eq] at h
  obtain ⟨⟨⟨a, b⟩, c⟩, d⟩ := h
  exact ⟨a, b, c, d⟩

/-! States. -/

/-- Partition 1 on HSPI with every privilege, its session open at 4.2, holding the token; the device in state d. -/
def up (d : Dev) : State :=
  settle { State.reset with
    dev := d, sys := { State.reset.sys with step := 9 }, par := [(mkId 17 1 3, 63)]
    hst := { State.reset.hst with token := 1, hp := State.reset.hst.hp.set 1 { session := true, version := 0x402 } } }
def State.withHp (f : Hp → Hp) (s : State) : State := s.modHp 1 f
/-- A field of the state at the value v. -/
def setF (u i f v : Nat) (s : State) : State := s.setPar (mkId u i f) (BitVec.ofNat 64 v)
def armable : State := up .parked
theorem checkAll_armable : checkAll (fullCand (takeMsg 1 0x0201 (armable.begin 0)) []) = none := by decide

def nextOf : Host.Outcome State Fault Refusal → State
  | .next t => t
  | _ => State.reset
theorem nextOf_eq {o : Host.Outcome State Fault Refusal} (h : (match o with | .next _ => true | _ => false) = true) : o = .next (nextOf o) := by
  cases o with
  | next t => rfl
  | _ => cases h
/-- A held fault of a channel or unit. -/
def heldF (code kind index level : Nat) (ok : Bool) : Held :=
  { lr := { code := code, kind := kind, index := index, reactCfg := level, reactApplied := level }, time := 0, scope := [], cover := [], ok := ok }
def withHeld (hs : List Held) (s : State) : State := { s with spu := { s.spu with held := hs } }
/-- A pair member of the role r, both lanes up. -/
def paired (r : Nat) (d : Dev) : State :=
  settle { up d with
    par := tabPut (up d).par (mkId 10 0 1) 1
    rdn := { (up d).rdn with role := r, partnerRole := 3 - r, lane := Vector.replicate 2 { up := true }, hb := true, syncTicks := 1000
                             vigil := List.replicate 16 1 } }
def sendBuf : TxBuf := { st := 2 }
/-- CANFD[3] on, in the state st, TXB[b] in the state x. -/
def canUp (st : Nat) (b : Nat) (x : TxBuf) : State :=
  modTxb 3 b (fun _ => x) (modCan 3 (fun c => { c with st := st }) (setF 12 3 1 1 (setF 12 3 2 1 (setF 12 3 15 16 (up .run)))))
/-- Lane n of PROTO pr, in L0. -/
def laneUp (n pr : Nat) (f : Lane → Lane) : State := modLane n (fun x => f { x with pst := 0, los := false }) (setF 14 n 1 pr (up .armed))
def safePend : State := { up .run with pend := [{ id := mkId 11 0 1, val := 1, tick := 0 }], sfi := { (up .run).sfi with inForce := true } }
def aRx : CanRx := { time := 0, frame := { ide := false, id := 0, fdf := false, brs := false, rtr := false, dlc := 0, data := [] }, esi := false, lost := false, filter := 0 }
def fifo31 : List CanRx := List.replicate 31 aRx
/-- RUN with the timebases going. -/
def run_ : State := { up .run with alm := { (up .run).alm with running := true } }
def withTb (k : Nat) (f : Tb → Tb) (s : State) : State := { s with alm := { s.alm with tb := vmod s.alm.tb k f } }
/-- A launch table with its first n entries taken. -/
def fullLaunch (n : Nat) : State :=
  { run_ with alm := { run_.alm with launch := (List.range n).map (fun i => (i, { tb := 0, t := 0, action := 0, arg := 0, part := 0 })) } }
/-- PAIR[1] has brought sequence number 65535 of type 0x11. -/
def seenSeq : State := settle { paired 2 .run with rdn := { (paired 2 .run).rdn with typeWin := [(0x11, { high := some 65535, seen := [65535] })] } }
def capt : Capture := { tick := 0, dev := .run, gfe := State.reset.gfe, lpe := State.reset.lpe, mod := State.reset.mod, spu := State.reset.spu, ports := [], launch := [], pend := [], tel := [] }
theorem ok_of {α β : Type} [DecidableEq β] {o : Except α β} {r : β}
    (h : (match o with | .ok x => decide (x = r) | .error _ => false) = true) : o = .ok r := by
  cases o with
  | ok x => rw [of_decide_eq_true h]
  | error _ => cases h
theorem compile_idle : compileLpe (paired 3 .run).wire = .ok ([], 0) := ok_of (by decide +kernel)
def aHello : HelloId := { version := 0, member := 0, node := 0, firmware := 0, counter := 0, digest := 0 }
def aPk : Packet := { producer := 0, pseq := 0, poison := false, words := [] }
def bigWords : List Word := List.replicate 16383 0
/-- RUN with GFI[3] enabled, and many ticks gone. -/
def gfeUp (f : Gfi → Gfi) : State :=
  setF 1 3 1 1 { run_ with gfe := run_.gfe.set 3 (f (run_.gfi 3)), alm := { run_.alm with tick := 10 ^ 9 } }
def startable : State :=
  { up .armed with alm := { (up .armed).alm with running := true }, trans := [{ kind := 1, part := 1, tick := 1 }], spu := { (up .armed).spu with prestart := 2 } }
def withPort (p : Nat) (f : Port → Port) (s : State) : State := s.modPort p f
/-- An ARM waits and the clocks have locked. -/
def arming (s : State) : State :=
  { s with trans := [{ kind := 0, part := 1, tick := 1 }], clk := { s.clk with cpll := .locked, fpll := .locked, tpll := .locked, xmOk := true }
           alm := { s.alm with running := true } }
/-- A held satellite fault that may be tried again, on a channel that FORCE turns on. -/
def retryable : State :=
  withHeld [heldF 0x1001 1 255 2 false] (setF 3 255 7 12 (setF 4 0xE01 1 1 (setF 4 0x400 4 0 (setF 4 0x400 5 1
    (withPort 63 (fun q => { q with version := 0x21 }) run_)))))
def withSfi (f : Sfi → Sfi) (s : State) : State := { s with sfi := f s.sfi }
def withSc (k : Nat) (f : Sc → Sc) (s : State) : State := { s with sfi := { s.sfi with sc := vmod s.sfi.sc k f } }
def quietIn : SafeIn := { edges := [], mon := false, back := false, souts := 0, lockstep := false, supply := false, watchdog := false }
/-- A position of port 63 with UVLO_H and UVLO_L at v. -/
def served (v : Bool) (s : State) : State :=
  { (withPort 63 (fun q => { q with st := .ready, positions := 8 }) s) with
    plk := { (withPort 63 (fun q => { q with st := .ready, positions := 8 }) s).plk with tel := [(255, { status := if v then 0x18000000 else 0 })] } }
def spduBytes (cid seq : Nat) (r : BitVec 8) : List Byte :=
  let d := bytesBE 4 cid ++ bytesBE 4 seq ++ [r, 0, 0, 0, 0, 0, 0, 0]
  d ++ bytesBE 4 (crc32c d).toNat
def withSys (f : Sys → Sys) (s : State) : State := { s with sys := f s.sys }
def withSec (f : Sec → Sec) (s : State) : State := { s with sec := f s.sec }
theorem err_of {α β : Type} [DecidableEq β] {o : Except β α} {r : β}
    (h : (match o with | .error x => decide (x = r) | .ok _ => false) = true) : o = .error r := by
  cases o with
  | error x => rw [of_decide_eq_true h]
  | ok _ => cases h
def aRow (id : Nat) : Row :=
  (rowOf id).getD { unit := 0, i0 := 0, i1 := 0, f0 := 0, fn := 0, fs := 0, name := "", ty := .u32, cls := .live, rng := .finite, dflt := .w 0 }

/-- TB[3] slaved over lane 63 to a master that announces priority 0. -/
def master : PtpForeign := { lane := 63, ds := { priority1 := 0, identity := clockIdentity 3 + 1, sender := clockIdentity 3 + 1 }, last := 0, prev := some 0 }
def slavePtp : State :=
  { setF 6 3 0x20 1 (setF 6 0x13F 0x30 3 (setF 6 3 0x25 1 (setF 6 3 0x21 0 run_))) with
    alm := { run_.alm with ptp := run_.alm.ptp.set 2 { slaveLane := some 63, delay := some 0, foreign := [master] } } }
theorem slave_lane : (ptpOf (bmca 3 (stampNow (slavePtp.begin 0))) 3).slaveLane = some 63 := by
  have q : ptpQualified (stampNow (slavePtp.begin 0)) 3 = [master] := by
    have m : (ptpOf (stampNow (slavePtp.begin 0)) 3).foreign = [master] := rfl
    simp only [ptpQualified, m]
    rw [List.filter_cons_of_pos, List.filter_nil]
    decide +kernel
  have h : cmpDs (ownDs (stampNow (slavePtp.begin 0)) 3) 0 master.ds master.lane = 1 := by
    have n : (ownDs (stampNow (slavePtp.begin 0)) 3).identity ≠ master.ds.identity := by simp [ownDs, master]
    unfold cmpDs
    rw [if_neg n]
    rfl
  simp only [bmca, q, bestOf, List.foldl, h]
  rfl


theorem wit_RegisterWriteKeepsBuffers_0 : ∃ (dt : Nat) (p : Fin 8) (off : BitVec 15) (v : Word) (s : State) (t : State),
    (s.buffersHold = true) ∧ (exec (.registerWrite dt p off v) s = .next t) :=
  ⟨0, 1, 0x2000, 0, up .armed, nextOf (exec (.registerWrite 0 1 0x2000 0) (up .armed)), by decide, nextOf_eq (by decide)⟩

theorem wit_HostOnlyKeepsTheRest_0 : ∃ (c : Instr) (s : State),
    (hostOnly c = true) ∧ (s.pinsHold = true) :=
  ⟨.ping 0 1 7, up .run, by decide⟩

theorem wit_StatusAnswers_0 : ∃ (p : Fin 8) (s : State),
    (Accepts p 0x0003 0x300 s) :=
  ⟨1, up .armed, accepts_of (by decide)⟩

theorem wit_StatusAnswers_1 : ∃ (p : Fin 8) (s : State),
    (Accepts p 0x0103 0x300 s) :=
  ⟨1, up .armed, accepts_of (by decide)⟩

theorem wit_StatusAnswers_2 : ∃ (p : Fin 8) (s : State),
    (Accepts p 0x0206 0x300 s) :=
  ⟨1, up .armed, accepts_of (by decide)⟩

theorem wit_StatusAnswers_3 : ∃ (p : Fin 8) (s : State),
    (Accepts p 0x0004 0x300 s) :=
  ⟨1, up .armed, accepts_of (by decide)⟩

theorem wit_SessionOpensAndEnds_0 : ∃ (p : Fin 8) (s : State) (maj : Byte) (min : Byte),
    (mayRun p 1 s = true) ∧ ((s.hp p).drop = false) ∧ (0x300 ≤ maj.toNat * 256 + min.toNat) :=
  ⟨1, up .armed, 3, 0, by decide⟩

theorem wit_SessionOpensAndEnds_1 : ∃ (p : Fin 8) (s : State) (maj : Byte) (min : Byte),
    (mayRun p 1 s = true) ∧ ((s.hp p).drop = false) ∧ (maj.toNat * 256 + min.toNat < 0x300) :=
  ⟨1, up .fallback, 2, 255, by decide⟩

theorem wit_SessionOpensAndEnds_2 : ∃ (p : Fin 8) (s : State),
    (Accepts p 0x0002 0x300 s) :=
  ⟨1, up .armed, accepts_of (by decide)⟩

theorem wit_TokenMoves_0 : ∃ (p : Fin 8) (s : State) (force : Bool),
    (Granted p 0x0101 0x300 (.priv pvOperate) true s) ∧ (s.hst.token = 15 ∨ (force = true ∧ hasPriv s p pvService = true)) :=
  ⟨1, { up .armed with hst := { (up .armed).hst with token := 15 } }, false, granted_of (by decide), by decide⟩

theorem wit_TokenMoves_1 : ∃ (p : Fin 8) (s : State) (force : Bool),
    (Granted p 0x0101 0x300 (.priv pvOperate) true s) ∧ (s.hst.token ≠ 15) ∧ (¬(force = true ∧ hasPriv s p pvService = true)) :=
  ⟨1, { up .armed with hst := { (up .armed).hst with token := 0 } }, false, granted_of (by decide), by decide⟩

theorem wit_TokenMoves_2 : ∃ (p : Fin 8) (s : State),
    (Granted p 0x0102 0x300 .token false s) :=
  ⟨1, up .armed, granted_of (by decide)⟩

theorem wit_TokenMoves_3 : ∃ (dt : Nat) (s : State),
    (s.hst.token < 8) ∧ ((s.hp s.hst.token).lastMsg + s.ptn 17 s.hst.token 6 ≤ (s.begin dt).now) :=
  ⟨0, setF 17 1 6 0 (up .run), by decide⟩

theorem wit_TokenMoves_4 : ∃ (p : Fin 8) (s : State) (f : Fin 8),
    (s.hst.token = p.val) ∧ ((s.hp p).session = true) ∧ (s.pn 17 p 1 = 1) ∧ (s.pn 17 p 2 = f.val) :=
  ⟨0, { up .run with hst := { (up .run).hst with token := 0, hp := (up .run).hst.hp.set 0 { session := true, version := 0x300 } }, lanes := { (up .run).lanes with pcie := true } }, 0, by decide⟩

theorem wit_EmptyQueueIdles_0 : ∃ (s : State),
    (s.pending = []) :=
  ⟨up .run, by decide⟩

theorem wit_MailboxTurns_0 : ∃ (p : Fin 8) (s : State),
    (hasWindow s p = true) ∧ (attached s p = true) ∧ ((s.hp p).reqBusy = true) :=
  ⟨1, (up .run).modHp 1 (fun h => { h with reqBusy := true }), by decide⟩

theorem wit_MailboxTurns_1 : ∃ (p : Fin 8) (s : State),
    (hasWindow s p = true) ∧ (attached s p = true) ∧ ((s.hp p).reqBusy = false) ∧ ((s.hp p).rspReady = true) :=
  ⟨1, (up .run).modHp 1 (fun h => { h with rspReady := true }), by decide⟩

theorem wit_MailboxTurns_2 : ∃ (p : Fin 8) (len : BitVec 13) (s : State),
    (hasWindow s p = true) ∧ (attached s p = true) ∧ ((s.hp p).reqBusy = false) ∧ ((s.hp p).rspReady = false) ∧ (16 ≤ len.toNat) ∧ (len.toNat % 4 = 0) ∧ (len.toNat ≤ maxMsg s p) ∧ (lenField (bufferWords (s.hp p) len.toNat) + 16 = len.toNat) ∧ ((msgOf (bufferWords (s.hp p) len.toNat)).opcode ≠ 1) ∧ ((s.hp p).session = false) :=
  ⟨1, 16, (up .run).modHp 1 (fun h => { h with reqBuf := [(0, 0x04020003), (1, 0x00070000)], session := false }), by decide⟩

theorem wit_MailboxTurns_3 : ∃ (p : Fin 8) (len : BitVec 13) (s : State),
    (hasWindow s p = true) ∧ (attached s p = true) ∧ ((s.hp p).reqBusy = false) ∧ ((s.hp p).rspReady = false) ∧ (16 ≤ len.toNat) ∧ (len.toNat % 4 = 0) ∧ (len.toNat ≤ maxMsg s p) ∧ (lenField (bufferWords (s.hp p) len.toNat) + 16 = len.toNat) ∧ ((msgOf (bufferWords (s.hp p) len.toNat)).opcode ≠ 1) ∧ ((s.hp p).session = true) ∧ ((msgOf (bufferWords (s.hp p) len.toNat)).maj * 256 + (msgOf (bufferWords (s.hp p) len.toNat)).min = (s.hp p).version) ∧ ((opcodes.any (fun o => o.1 == (msgOf (bufferWords (s.hp p) len.toNat)).opcode && decide (o.2 ≤ (s.hp p).version))) = true) :=
  ⟨1, 16, (up .run).modHp 1 (fun h => { h with reqBuf := [(0, 0x04020003), (1, 0x00070000)] }), by decide⟩

theorem wit_MailboxTurns_4 : ∃ (p : Fin 8) (s : State),
    (hasWindow s p = true) ∧ ((s.hp p).rspReady = true) ∧ ((s.hp p).held = false) :=
  ⟨1, (up .run).modHp 1 (fun h => { h with rspReady := true }), by decide⟩

theorem wit_MailboxTurns_5 : ∃ (p : Fin 8) (s : State),
    (hasWindow s p = true) ∧ ((s.hp p).reqBusy = true) ∧ (waits s p = false) :=
  ⟨1, (up .run).modHp 1 (fun h => { h with reqBusy := true, msg := some {maj := 4, min := 2, opcode := 3, tag := 7, payload := []} }), by decide⟩

theorem wit_MailboxTurns_6 : ∃ (p : Fin 8) (s : State),
    (hasWindow s p = true) ∧ ((s.hp p).reqBusy = true) ∧ (waits s p = true) :=
  ⟨1, { ((up .armed).modHp 1 (fun h => { h with reqBusy := true })) with trans := [{ kind := 1, part := 1 }] }, by decide⟩

theorem wit_DatagramArrives_0 : ∃ (p : Fin 8) (ws : List Word) (s : State),
    (s.pn 17 p 1 = 3) ∧ (attached s p = true) ∧ ((s.hp p).msg = none) ∧ ((s.hp p).lastTag = some (msgOf ws).tag) :=
  ⟨1, [0x04020003, 0x00070000, 0, 0], (setF 17 1 1 3 (up .run)).modHp 1 (fun h => { h with lastTag := some 7 }), by decide⟩

theorem wit_DatagramArrives_1 : ∃ (p : Fin 8) (ws : List Word) (s : State),
    (s.pn 17 p 1 = 3) ∧ (attached s p = true) ∧ ((s.hp p).msg = none) ∧ ((s.hp p).lastTag ≠ some (msgOf ws).tag) ∧ ((s.hp p).behind = []) ∧ (headerRefusal s p (msgOf ws) (4 * ws.length) (lenField ws) = none) :=
  ⟨1, [0x04020003, 0x00070000, 0, 0], setF 17 1 1 3 (up .run), by decide⟩

theorem wit_WindowsAndLink_0 : ∃ (p : Fin 8) (s : State),
    (hasWindow s p = true) ∧ ((s.hp p).reqBusy = false) ∧ (bufferWf (s.hp p).reqBuf = true) :=
  ⟨1, up .run, by decide⟩

theorem wit_WindowsAndLink_1 : ∃ (p : Fin 8) (s : State),
    (hasWindow s p = true) :=
  ⟨1, up .run, by decide⟩

theorem wit_WindowsAndLink_2 : ∃ (p : Fin 8) (s : State),
    (hasWindow s p = true) :=
  ⟨1, up .run, by decide⟩

theorem wit_WindowsAndLink_3 : ∃ (s : State),
    (s.dev.powered = true) ∧ (s.dev ≠ .parked) :=
  ⟨up .run, by decide⟩

theorem wit_WindowsAndLink_4 : ∃ (p : Fin 8) (s : State),
    (hasWindow s p = true) :=
  ⟨1, up .run, by decide⟩

theorem wit_StateCommands_0 : ∃ (dt : Nat) (p : Fin 8) (s : State),
    (Granted p 0x0201 0x300 .token true s) ∧ (s.dev = .parked) ∧ (s.sys.bist ≠ 1) ∧ (checkAll (fullCand (takeMsg p 0x0201 (s.begin dt)) []) = none) :=
  ⟨0, 1, armable, granted_of (by decide), by decide, by decide, checkAll_armable⟩

theorem wit_StateCommands_1 : ∃ (p : Fin 8) (s : State),
    (Granted p 0x0203 0x300 .token true s) ∧ (s.dev = .armed) :=
  ⟨1, up .armed, granted_of (by decide), by decide⟩

theorem wit_StateCommands_2 : ∃ (p : Fin 8) (s : State),
    (Granted p 0x0202 0x300 .token true s) ∧ (s.dev = .armed) :=
  ⟨1, up .armed, granted_of (by decide), by decide⟩

theorem wit_StateCommands_3 : ∃ (p : Fin 8) (s : State),
    (Granted p 0x0204 0x300 .token true s) ∧ (s.dev = .blocked) :=
  ⟨1, up .blocked, granted_of (by decide), by decide⟩

theorem wit_StateCommands_4 : ∃ (dt : Nat) (p : Fin 8) (s : State) (c : Instr × Nat × Dev),
    (c ∈ [(Instr.start dt p, 0x0202, Dev.armed), (.park dt p, 0x0203, .armed), (.resume dt p, 0x0204, .blocked)]) ∧ (Granted p c.2.1 0x300 .token true s) ∧ (s.dev ≠ c.2.2) :=
  ⟨0, 1, up .armed, (Instr.resume 0 1, 0x0204, Dev.blocked), by decide, granted_of (by decide), by decide⟩

theorem wit_StateCommands_5 : ∃ (dt : Nat) (p : Fin 8) (s : State) (c : Instr × Nat),
    (c ∈ [(Instr.arm dt p, 0x0201), (.start dt p, 0x0202), (.park dt p, 0x0203), (.resume dt p, 0x0204)]) ∧ (Accepts p c.2 0x300 s) ∧ (s.hst.token ≠ p.val) ∧ (notActive s = false) :=
  ⟨0, 1, { up .parked with hst := { (up .armed).hst with token := 2 } }, (Instr.arm 0 1, 0x0201), by decide, accepts_of (by decide), by decide⟩

theorem wit_BlockAndResetAct_0 : ∃ (p : Fin 8) (s : State),
    (Granted p 0x0205 0x300 (.tokenOr pvSafety) (!hasPriv s p pvSafety) s) ∧ (s.dev = .run) :=
  ⟨1, up .run, granted_of (by decide), by decide⟩

theorem wit_BlockAndResetAct_1 : ∃ (p : Fin 8) (s : State),
    (Granted p 0x0207 0x300 (.priv pvService) false s) ∧ (s.dev.live = false) ∧ (s.sys.asserted = []) ∧ (s.sys.step = 9) ∧ (s.dev ≠ .boot) :=
  ⟨1, up .parked, granted_of (by decide), by decide⟩

theorem wit_BlockAndResetAct_2 : ∃ (p : Fin 8) (s : State) (reach : Word),
    (Granted p 0x0207 0x300 (.priv pvService) false s) ∧ (s.dev.live = false) ∧ (reach ≠ 1) ∧ (reach ≠ 2) :=
  ⟨1, up .parked, 3, granted_of (by decide), by decide⟩

theorem wit_FaultsClearByCommand_0 : ∃ (dt : Nat) (p : Fin 8) (s : State) (name : Word),
    (FieldGranted p .token s) ∧ (s.pairEn = false) ∧ ((∀ h ∈ s.spu.held, h.clearing = false)) ∧ ((name.toNat ≠ max32 → codeIsSafety (name.toNat / 65536) = false)) ∧ ((∀ h ∈ namedFaults s name.toNat, codeIsSafety h.lr.code = false ∧ latchedSat h = false ∧ clearable (s.begin dt) h = true)) :=
  ⟨0, 1, withHeld [heldF 0x1011 1 255 2 false, heldF 0x2140 8 0 2 true] (up .run), 0xFFFFFFFF, fieldGranted_of (by decide), by decide⟩

theorem wit_FaultsClearByCommand_1 : ∃ (dt : Nat) (p : Fin 8) (s : State) (name : Word) (h : Held),
    (FieldGranted p .token s) ∧ (s.pairEn = false) ∧ ((∀ x ∈ s.spu.held, x.clearing = false)) ∧ (name.toNat ≠ max32) ∧ (codeIsSafety (name.toNat / 65536) = false) ∧ (namedFaults s name.toNat = [h]) ∧ (clearable (s.begin dt) h = false) :=
  ⟨0, 1, withHeld [heldF 0x2140 8 0 2 false] (up .run), 0x21408000, heldF 0x2140 8 0 2 false, fieldGranted_of (by decide), by decide⟩

theorem wit_FaultsClearByCommand_2 : ∃ (p : Fin 8) (s : State) (name : Word),
    (FieldGranted p .token s) ∧ (s.pairEn = false) ∧ (name.toNat ≠ max32) ∧ (codeIsSafety (name.toNat / 65536) = true) :=
  ⟨1, up .armed, 0x60000000, fieldGranted_of (by decide), by decide⟩

theorem wit_FaultsClearByCommand_3 : ∃ (p : Fin 8) (s : State) (mask : BitVec 4) (low : BitVec 4),
    (FieldGranted p .token s) ∧ (s.pairEn = false) ∧ (mask &&& ~~~low = 0) :=
  ⟨1, { up .armed with mod := { (up .armed).mod with latch := 15 } }, 9, 9, fieldGranted_of (by decide), by decide⟩

theorem wit_FaultsClearByCommand_4 : ∃ (p : Fin 8) (s : State) (mask : BitVec 4) (low : BitVec 4),
    (FieldGranted p .token s) ∧ (s.pairEn = false) ∧ (mask &&& ~~~low ≠ 0) :=
  ⟨1, up .armed, 9, 1, fieldGranted_of (by decide), by decide⟩

theorem wit_TokenFieldsAct_0 : ∃ (p : Fin 8) (s : State),
    (FieldGranted p .token s) ∧ (s.pairEn = false) :=
  ⟨1, up .armed, fieldGranted_of (by decide), by decide⟩

theorem wit_TokenFieldsAct_1 : ∃ (p : Fin 8) (s : State),
    (FieldGranted p .token s) ∧ (s.pairEn = false) ∧ (s.dev = .armed) :=
  ⟨1, { setF 3 0x23F 1 2 (setF 5 63 1 1 (up .armed)) with plk := { (up .armed).plk with port := tabPut (up .armed).plk.port 63 { (State.reset.port 63) with st := .ready, sats := [{ hop := 0, verMax := 33, verMin := 32, first := 3, chans := 1 }], positions := 8 } } }, fieldGranted_of (by decide), by decide⟩

theorem wit_TokenFieldsAct_2 : ∃ (p : Fin 8) (s : State),
    (FieldGranted p .token s) ∧ (s.dev ≠ .armed) :=
  ⟨1, up .run, fieldGranted_of (by decide), by decide⟩

theorem wit_TokenFieldsAct_3 : ∃ (p : Fin 8) (s : State) (code : Word),
    (FieldGranted p .token s) ∧ (blockKnown code.toNat = true) ∧ (s.dev.live = true) :=
  ⟨1, up .run, 1, fieldGranted_of (by decide), by decide⟩

theorem wit_TokenFieldsAct_4 : ∃ (p : Fin 8) (s : State) (code : Word),
    (FieldGranted p .token s) ∧ (blockKnown code.toNat = true) ∧ (s.dev.live = false) :=
  ⟨1, up .parked, 63, fieldGranted_of (by decide), by decide⟩

theorem wit_TokenFieldsAct_5 : ∃ (p : Fin 8) (s : State),
    (Granted p 0x0302 0x300 (.priv pvService) false s) :=
  ⟨1, up .fallback, granted_of (by decide)⟩

theorem wit_AlternatesReset_0 : ∃ (p : Fin 8) (s : State) (k : Fin 4),
    (FieldGranted p .token s) ∧ (((s.gfi k).lossV.alt = true → (s.gfi k).lossV.priOk = true)) ∧ (((s.gfi k).lossI.alt = true → (s.gfi k).lossI.priOk = true)) :=
  ⟨1, { up .armed with gfe := (up .armed).gfe.set 3 { (State.reset.gfi 3) with lossV := { alt := true, priOk := true } } }, 3, fieldGranted_of (by decide), by decide⟩

theorem wit_AlternatesReset_1 : ∃ (p : Fin 8) (s : State) (k : Fin 4),
    (FieldGranted p .token s) ∧ ((s.gfi k).lossV.alt = true) ∧ ((s.gfi k).lossV.priOk = false) :=
  ⟨1, { up .armed with gfe := (up .armed).gfe.set 3 { (State.reset.gfi 3) with lossV := { alt := true, priOk := false } } }, 3, fieldGranted_of (by decide), by decide⟩

theorem wit_AlternatesReset_2 : ∃ (p : Fin 8) (s : State) (k : Fin 64),
    (FieldGranted p .token s) ∧ ((∀ e ∈ (s.slot k).inp, e.2.alt = true → e.2.priOk = true)) :=
  ⟨1, (up .armed).modSlot 63 (fun x => { x with inp := [(0, { alt := true, priOk := true })] }), 63, fieldGranted_of (by decide), by decide⟩

theorem wit_AlternatesReset_3 : ∃ (p : Fin 8) (s : State) (k : Fin 64) (e : Nat × Loss),
    (FieldGranted p .token s) ∧ ((s.slot k).inp = [e]) ∧ (e.2.alt = true) ∧ (e.2.priOk = false) :=
  ⟨1, (up .armed).modSlot 63 (fun x => { x with inp := [(0, { alt := true, priOk := false })] }), 63, (0, { alt := true, priOk := false }), fieldGranted_of (by decide), by decide⟩

theorem wit_AlternatesReset_6 : ∃ (k : Fin 4) (j : Fin 4),
    (j ≠ k) :=
  ⟨3, 1, by decide⟩

theorem wit_AlternatesReset_8 : ∃ (k : Fin 64) (j : Nat),
    (j ≠ k) :=
  ⟨3, 1, by decide⟩

theorem wit_FieldsWaitInPair_0 : ∃ (dt : Nat) (p : Fin 8) (s : State) (c : Instr) (id : Nat) (v : Nat),
    (FieldGranted p .token s) ∧ (s.pairEn = true) ∧ (s.dev = .armed) ∧ ((c, id, v) ∈ [(Instr.prestartRun dt p, mkId 4 0x400 0x31, 1), (.decReset dt p, mkId 7 0x200 1, 1)] ∨ (∃ (k : Fin 4), (s.gfi k).lossV.alt = false ∧ (s.gfi k).lossI.alt = false ∧ c = .gfeAltReset dt p k ∧ id = mkId 1 k 0x12 ∧ v = 1) ∨ (∃ (k : Fin 64), (s.slot k).inp = [] ∧ c = .altReset dt p k ∧ id = mkId 2 k 6 ∧ v = 1) ∨ (∃ m : BitVec 4, c = .faultInClear dt p m m ∧ id = mkId 3 0x400 1 ∧ v = m.toNat) ∨ (∃ (x : Fin 256) (m : BitVec 4), c = .force dt p x m ∧ id = mkId 3 x 7 ∧ v = m.toNat + (p.val + 1) * 2 ^ 32)) :=
  ⟨0, 1, paired 1 .armed, .force 0 1 255 15, mkId 3 255 7, 15 + 2 * 2 ^ 32, fieldGranted_of (by decide), by decide, by decide, Or.inr (Or.inr (Or.inr (Or.inr ⟨255, 15, rfl, rfl, rfl⟩)))⟩

theorem wit_StreamCommands_0 : ∃ (p : Fin 8) (s : State),
    (FieldGranted p .token s) ∧ (s.pairEn = false) ∧ (s.dev = .armed ∨ s.dev = .blocked) :=
  ⟨1, setF 7 0x105 5 1 (up .blocked), fieldGranted_of (by decide), by decide⟩

theorem wit_StreamCommands_1 : ∃ (p : Fin 8) (s : State),
    (FieldGranted p .token s) ∧ (s.dev ≠ .armed) ∧ (s.dev ≠ .blocked) ∧ (s.pinsHold = true) :=
  ⟨1, up .run, fieldGranted_of (by decide), by decide⟩

theorem wit_StreamCommands_2 : ∃ (p : Fin 8) (s : State),
    (FieldGranted p (.priv pvConfigure) s) ∧ (s.pairEn = false) :=
  ⟨1, { up .armed with recd := { (up .armed).recd with stream := (up .armed).recd.stream.set 3 { run := 1 } } }, fieldGranted_of (by decide), by decide⟩

theorem wit_StreamCommands_3 : ∃ (p : Fin 8) (s : State) (mask : BitVec 4),
    (FieldGranted p (.priv pvConfigure) s) ∧ (s.pairEn = false) ∧ ((∀ i : Fin 4, mask[i] = true → (rst s i).run ≠ 1)) :=
  ⟨1, { up .armed with recd := { (up .armed).recd with stream := (up .armed).recd.stream.set 3 { run := 2 } } }, 8, fieldGranted_of (by decide), by decide⟩

theorem wit_StreamCommands_4 : ∃ (p : Fin 8) (s : State) (mask : BitVec 4) (i : Fin 4),
    (FieldGranted p (.priv pvConfigure) s) ∧ (mask[i] = true) ∧ ((rst s i).run = 1) :=
  ⟨1, { up .armed with recd := { (up .armed).recd with stream := (up .armed).recd.stream.set 3 { run := 1 } } }, 8, 3, fieldGranted_of (by decide), by decide⟩

theorem wit_LaneCommands_0 : ∃ (p : Fin 8) (n : Fin 64) (s : State),
    (FieldGranted p .token s) ∧ (3 ≤ proto s n) :=
  ⟨1, 63, laneUp 63 5 id, fieldGranted_of (by decide), by decide⟩

theorem wit_LaneCommands_1 : ∃ (p : Fin 8) (n : Fin 64) (s : State) (v : Word),
    (FieldGranted p .token s) ∧ ((v.getLsbD 31 = true → v.toNat % 64 ≠ 1)) ∧ (lf s.wire n 10 ≠ 0) :=
  ⟨1, 63, setF 14 63 10 1 (laneUp 63 5 id), 0x80000000, fieldGranted_of (by decide), by decide⟩

theorem wit_LaneCommands_2 : ∃ (p : Fin 8) (n : Fin 64) (s : State),
    (FieldGranted p .token s) ∧ (laneReady s n = false) :=
  ⟨1, 63, laneUp 63 5 id, fieldGranted_of (by decide), by decide⟩

theorem wit_LaneCommands_3 : ∃ (p : Fin 8) (n : Fin 64) (s : State),
    (FieldGranted p .token s) ∧ ((lane s n).scanning = true) :=
  ⟨1, 63, laneUp 63 5 (fun x => { x with scanning := true }), fieldGranted_of (by decide), by decide⟩

theorem wit_LaneCommands_4 : ∃ (p : Fin 8) (n : Fin 64) (s : State),
    (FieldGranted p .token s) ∧ (3 ≤ proto s n) ∧ (s.dev ≠ .parked) ∧ (loopOf s n = 0) :=
  ⟨1, 63, laneUp 63 3 (fun x => { x with pst := 2 }), fieldGranted_of (by decide), by decide⟩

theorem wit_LaneCommands_5 : ∃ (p : Fin 8) (n : Fin 64) (s : State) (v : Fin 4),
    (FieldGranted p .token s) ∧ (proto s n = 5) ∧ (v.val = 0 ∨ s.dev = .armed ∨ s.dev = .blocked ∨ s.dev = .boot) ∧ ((v.val = 3 → lf s.wire n 10 = 0)) :=
  ⟨1, 63, laneUp 63 5 id, 3, fieldGranted_of (by decide), by decide⟩

theorem wit_ClocksAreSet_0 : ∃ (p : Fin 8) (s : State) (ni : Word) (nf : Word) (dith : Word) (seed : Word),
    (FieldGranted p .token s) ∧ ((opClkSet [(mkId 13 0x100 1, BitVec.ofNat 64 ni.toNat), (mkId 13 0x100 2, BitVec.ofNat 64 nf.toNat), (mkId 13 0x100 3, BitVec.ofNat 64 dith.toNat), (mkId 13 0x100 4, BitVec.ofNat 64 seed.toNat)]).check s = none) :=
  ⟨1, up .armed, 100, 0, 1, 1, fieldGranted_of (by decide), by decide⟩

theorem wit_ClocksAreSet_1 : ∃ (p : Fin 8) (s : State) (c : Fin 8) (v : Wire),
    (FieldGranted p .token s) ∧ ((opClkSet [(mkId 13 c 4, v)]).check s = none) :=
  ⟨1, up .armed, 7, 512, fieldGranted_of (by decide), by decide⟩

theorem wit_ClocksAreSet_2 : ∃ (dt : Nat) (s : State),
    (s.clk.opll ≠ .off) ∧ (s.clk.steer.natAbs ≤ 219902325) ∧ ((∀ a, s.clk.steerAt = some a → a + 16000000 ≤ s.clock + dt)) :=
  ⟨1600000000, { up .run with clk := { (up .run).clk with xmOk := true, xsOk := true, refOk := Vector.replicate 2 true, cpll := .locked, fpll := .locked, tpll := .locked, opll := .locked } }, by decide⟩

theorem wit_ClocksAreSet_3 : ∃ (dt : Nat) (s : State) (a : Nat),
    (s.clk.steerAt = some a) ∧ (s.clock + dt < a + 16000000) :=
  ⟨0, { up .run with clk := { (up .run).clk with steerAt := some 0 } }, 0, by decide⟩

theorem wit_ClocksAreSet_4 : ∃ (s : State) (width : Nat),
    (320 ≤ width) ∧ (s.dev = .run) ∧ (s.pinsHold = true) :=
  ⟨{ up .run with clk := { (up .run).clk with xmOk := true, xsOk := true, refOk := Vector.replicate 2 true, cpll := .locked, fpll := .locked, tpll := .locked, opll := .locked } }, 320, by decide⟩

theorem wit_ClocksAreSet_5 : ∃ (s : State) (width : Nat),
    (320 ≤ width) ∧ (s.dev = .armed ∨ s.dev = .blocked) :=
  ⟨setF 7 0x105 5 1 (up .armed), 320, by decide⟩

theorem wit_ClocksAreSet_6 : ∃ (s : State) (width : Nat),
    (width < 320) ∧ (s.pinsHold = true) :=
  ⟨{ up .run with clk := { (up .run).clk with xmOk := true, xsOk := true, refOk := Vector.replicate 2 true, cpll := .locked, fpll := .locked, tpll := .locked, opll := .locked } }, 319, by decide⟩

theorem wit_CanCommands_0 : ∃ (p : Fin 8) (n : Fin 4) (s : State) (mask : BitVec 3),
    (FieldGranted p .token s) ∧ ((opTxReq n mask.toNat).check s = none) :=
  ⟨1, 3, canUp 2 0 sendBuf, 7, fieldGranted_of (by decide), by decide⟩

theorem wit_CanCommands_1 : ∃ (p : Fin 8) (n : Fin 4) (s : State) (mask : BitVec 3),
    (FieldGranted p .token s) ∧ ((mask[2] = false ∨ islandOwns s n = false)) :=
  ⟨1, 3, canUp 2 0 sendBuf, 7, fieldGranted_of (by decide), by decide⟩

theorem wit_CanCommands_2 : ∃ (p : Fin 8) (n : Fin 4) (s : State),
    (FieldGranted p .token s) ∧ ((can s n).st = 4) :=
  ⟨1, 3, canUp 4 0 {}, fieldGranted_of (by decide), by decide⟩

theorem wit_CanCommands_3 : ∃ (p : Fin 8) (n : Fin 4) (s : State),
    (FieldGranted p .token s) ∧ ((can s n).st ≠ 4) :=
  ⟨1, 3, canUp 3 0 {}, fieldGranted_of (by decide), by decide⟩

theorem wit_SafetyAndSwapCommands_0 : ∃ (p : Fin 8) (s : State),
    (FieldGranted p (.priv pvSafety) s) :=
  ⟨1, up .armed, fieldGranted_of (by decide)⟩

theorem wit_SafetyAndSwapCommands_1 : ∃ (p : Fin 8) (s : State),
    (FieldGranted p (.priv pvSafety) s) ∧ (sf s 0x300 3 = 1) :=
  ⟨1, setF 11 0x300 3 1 (up .run), fieldGranted_of (by decide), by decide⟩

theorem wit_SafetyAndSwapCommands_2 : ∃ (p : Fin 8) (s : State),
    (FieldGranted p (.priv pvSafety) s) ∧ (sf s 0x300 3 ≠ 1) :=
  ⟨1, setF 11 0x300 3 0 (up .run), fieldGranted_of (by decide), by decide⟩

theorem wit_SafetyAndSwapCommands_3 : ∃ (p : Fin 8) (s : State) (v : Word),
    (FieldGranted p (.priv pvSafety) s) ∧ (safetyPend s = true) ∧ (v.toNat = crcPending s) :=
  ⟨1, safePend, BitVec.ofNat 32 (crcPending safePend), fieldGranted_of (by decide +kernel), by decide +kernel⟩

theorem wit_SafetyAndSwapCommands_4 : ∃ (p : Fin 8) (s : State) (v : Word),
    (FieldGranted p (.priv pvSafety) s) ∧ (safetyPend s = true) ∧ (v.toNat ≠ crcPending s) :=
  ⟨1, safePend, BitVec.ofNat 32 (crcPending safePend + 1), fieldGranted_of (by decide +kernel), by decide +kernel⟩

theorem wit_SafetyAndSwapCommands_5 : ∃ (p : Fin 8) (s : State),
    (FieldGranted p (.priv pvService) s) ∧ (s.pairEn = true) ∧ (s.rdn.role ≠ 0) ∧ (s.rdn.role ≠ 1) ∧ ((vget s.rdn.lane 0 {}).up = true) :=
  ⟨1, paired 2 .armed, fieldGranted_of (by decide), by decide⟩

theorem wit_SafetyAndSwapCommands_6 : ∃ (p : Fin 8) (s : State),
    (FieldGranted p (.priv pvService) s) ∧ (s.rdn.role = 1) ∧ (swapRefusal s = none) :=
  ⟨1, paired 1 .armed, fieldGranted_of (by decide), by decide⟩

theorem wit_CanFramesMove_0 : ∃ (n : Fin 4) (b : Fin 3) (s : State),
    ((can s n).st = 2 ∨ (can s n).st = 3) ∧ (cf s n 1 = 1) ∧ ((∀ c : Fin 3, (txb s n c).st ≠ 2)) ∧ ((txb s n b).st = 1) ∧ ((∀ c : Fin 3, c ≠ b → (txb s n c).st = 1 → if cf s n 14 = 1 then b < c else arbKey (bufFrame s n b) < arbKey (bufFrame s n c) ∨ (arbKey (bufFrame s n b) = arbKey (bufFrame s n c) ∧ b < c))) :=
  ⟨3, 0, modTxb 3 1 (fun _ => { st := 1 }) (canUp 2 0 { st := 1 }), by decide⟩

theorem wit_CanFramesMove_1 : ∃ (n : Fin 4) (fr : CanFrame) (f : Nat) (s : State),
    ((can s n).st = 2 ∨ (can s n).st = 3) ∧ ((fr.fdf = true → cf s n 2 ≠ 0)) ∧ (islandFrame s n fr = none) ∧ ((List.range 16).find? (filterHits s n fr) = some f) ∧ ((can s n).fifo.length < 32) :=
  ⟨3, { ide := false, id := 0x123, fdf := true, brs := false, rtr := false, dlc := 15, data := List.replicate 64 1 }, 0, modCan 3 (fun c => { c with fifo := fifo31 }) (setF 12 0x130 3 1 (canUp 2 0 {})), by decide⟩

theorem wit_CanFramesMove_2 : ∃ (n : Fin 4) (fr : CanFrame) (f : Nat) (s : State),
    ((can s n).st = 2 ∨ (can s n).st = 3) ∧ ((fr.fdf = true → cf s n 2 ≠ 0)) ∧ (islandFrame s n fr = none) ∧ ((List.range 16).find? (filterHits s n fr) = some f) ∧ (32 ≤ (can s n).fifo.length) :=
  ⟨3, { ide := false, id := 0x123, fdf := true, brs := false, rtr := false, dlc := 15, data := List.replicate 64 1 }, 0, modCan 3 (fun c => { c with fifo := aRx :: fifo31 }) (setF 12 0x130 3 1 (canUp 2 0 {})), by decide⟩

theorem wit_CanErrorStates_0 : ∃ (n : Fin 4) (s : State) (b : Fin 3),
    ((can s n).goOff = false) ∧ ((can s n).restart = false) ∧ ((can s n).st = 2 ∨ (can s n).st = 3) ∧ ((txb s n b).st = 2) ∧ ((∀ c : Fin 3, c < b → (txb s n c).st ≠ 2)) ∧ ((can s n).tec < 256) :=
  ⟨3, modCan 3 (fun c => { c with tec := 255 }) (canUp 2 2 sendBuf), 2, by decide⟩

theorem wit_CanErrorStates_1 : ∃ (n : Fin 4) (s : State) (b : Fin 3),
    ((can s n).goOff = false) ∧ ((can s n).restart = false) ∧ ((can s n).st = 2 ∨ (can s n).st = 3) ∧ ((txb s n b).st = 2) ∧ ((∀ c : Fin 3, c < b → (txb s n c).st ≠ 2)) ∧ ((can s n).tec < 248) ∧ ((txb s n b).abort = false) ∧ (16 ≤ cf s n 15) :=
  ⟨3, modCan 3 (fun c => { c with tec := 247 }) (canUp 2 2 sendBuf), 2, by decide⟩

theorem wit_CanErrorStates_2 : ∃ (n : Fin 4) (s : State) (b : Fin 3),
    ((can s n).goOff = false) ∧ ((can s n).restart = false) ∧ ((can s n).st = 2 ∨ (can s n).st = 3) ∧ ((txb s n b).st = 2) ∧ ((∀ c : Fin 3, c < b → (txb s n c).st ≠ 2)) ∧ (248 ≤ (can s n).tec) ∧ ((txb s n b).abort = false) ∧ (16 ≤ cf s n 15) :=
  ⟨3, modCan 3 (fun c => { c with tec := 248 }) (canUp 2 2 sendBuf), 2, by decide⟩

theorem wit_CanErrorStates_3 : ∃ (n : Fin 4) (s : State),
    ((can s n).goOff = false) ∧ ((can s n).restart = false) ∧ ((can s n).st = 2 ∨ (can s n).st = 3) ∧ (cf s n 1 = 1) ∧ ((can s n).tec < 256) :=
  ⟨3, modCan 3 (fun c => { c with tec := 255 }) (canUp 2 2 sendBuf), by decide⟩

theorem wit_CanErrorStates_4 : ∃ (n : Fin 4) (s : State),
    ((can s n).goOff = false) ∧ ((can s n).restart = false) ∧ ((can s n).st = 1) ∧ ((can s n).tec < 256) :=
  ⟨3, modCan 3 (fun c => { c with tec := 127 }) (canUp 1 2 sendBuf), by decide⟩

theorem wit_CanErrorStates_5 : ∃ (n : Fin 4) (s : State),
    ((can s n).goOff = false) ∧ ((can s n).restart = false) ∧ ((can s n).st = 4) ∧ ((can s n).counting = true) :=
  ⟨3, modCan 3 (fun c => { c with tec := 255, counting := true }) (canUp 4 2 sendBuf), by decide⟩

theorem wit_ReferencesAndPlls_0 : ∃ (s : State),
    (s.dev.powered = true) ∧ (s.clk.xmOk = true) :=
  ⟨{ up .run with clk := { (up .run).clk with xmOk := true, xsOk := true, refOk := Vector.replicate 2 true, cpll := .locked, fpll := .locked, tpll := .locked, opll := .locked } }, by decide⟩

theorem wit_ReferencesAndPlls_1 : ∃ (s : State),
    (s.dev.powered = true) :=
  ⟨{ up .run with clk := { (up .run).clk with xmOk := true, xsOk := true, refOk := Vector.replicate 2 true, cpll := .locked, fpll := .locked, tpll := .locked, opll := .locked } }, by decide⟩

theorem wit_ReferencesAndPlls_2 : ∃ (s : State),
    (s.dev.powered = true) :=
  ⟨{ up .run with clk := { (up .run).clk with xmOk := true, xsOk := true, refOk := Vector.replicate 2 true, cpll := .locked, fpll := .locked, tpll := .locked, opll := .locked } }, by decide⟩

theorem wit_ReferencesAndPlls_3 : ∃ (s : State),
    (s.dev.powered = true) :=
  ⟨{ up .run with clk := { (up .run).clk with xmOk := true, xsOk := true, refOk := Vector.replicate 2 true, cpll := .locked, fpll := .locked, tpll := .locked, opll := .locked } }, by decide⟩

theorem wit_ReferencesAndPlls_4 : ∃ (s : State) (x : Fin 2),
    (s.dev.powered = true) ∧ (s.pn 13 0x200 (1 + x) ≠ 0) :=
  ⟨setF 13 0x200 2 1 ({ up .run with clk := { (up .run).clk with xmOk := true, xsOk := true, refOk := Vector.replicate 2 true, cpll := .locked, fpll := .locked, tpll := .locked, opll := .locked } }), 1, by decide⟩

theorem wit_ReferencesAndPlls_5 : ∃ (s : State),
    (s.dev.powered = true) ∧ (s.clk.cpll = .locked) :=
  ⟨{ up .run with clk := { (up .run).clk with xmOk := true, xsOk := true, refOk := Vector.replicate 2 true, cpll := .locked, fpll := .locked, tpll := .locked, opll := .locked } }, by decide⟩

theorem wit_ReferencesAndPlls_6 : ∃ (s : State),
    (s.dev.powered = true) ∧ (s.clk.opll = .locked) :=
  ⟨{ up .run with clk := { (up .run).clk with xmOk := true, xsOk := true, refOk := Vector.replicate 2 true, cpll := .locked, fpll := .locked, tpll := .locked, opll := .locked } }, by decide⟩

theorem wit_ReferencesAndPlls_7 : ∃ (s : State),
    (s.dev.powered = true) ∧ (s.clk.xmOk = true) ∧ (s.clk.cpll ≠ .off) :=
  ⟨{ up .run with clk := { (up .run).clk with xmOk := true, xsOk := true, refOk := Vector.replicate 2 true, cpll := .locked, fpll := .locked, tpll := .locked, opll := .locked } }, by decide⟩

theorem wit_ReferencesAndPlls_8 : ∃ (s : State),
    (s.dev.powered = true) ∧ (s.clk.xmOk = true) ∧ (s.clk.tpll ≠ .off) :=
  ⟨{ up .run with clk := { (up .run).clk with xmOk := true, xsOk := true, refOk := Vector.replicate 2 true, cpll := .locked, fpll := .locked, tpll := .locked, opll := .locked } }, by decide⟩

theorem wit_LaneDetectors_0 : ∃ (n : Fin 64) (s : State),
    (detects s n = true) ∧ ((lane s n).los = false) :=
  ⟨63, laneUp 63 3 id, by decide⟩

theorem wit_LaneDetectors_1 : ∃ (n : Fin 64) (s : State),
    (detects s n = true) :=
  ⟨63, laneUp 63 3 id, by decide⟩

theorem wit_LaneDetectors_2 : ∃ (n : Fin 64) (s : State),
    ((lane s n).los = true) :=
  ⟨63, laneUp 63 3 (fun x => { x with los := true, lol := true }), by decide⟩

theorem wit_LaneDetectors_3 : ∃ (n : Fin 64) (s : State),
    (detects s n = true) :=
  ⟨63, laneUp 63 3 id, by decide⟩

theorem wit_LaneDetectors_4 : ∃ (n : Fin 64) (s : State),
    (detects s n = true) :=
  ⟨63, laneUp 63 3 id, by decide⟩

theorem wit_LaneDetectors_5 : ∃ (dt : Nat) (n : Fin 64) (s : State) (b : Nat),
    (isEth s n = true) ∧ ((lane s n).pst = 0) ∧ ((lane s n).badSince = some b) ∧ ((lane s n).badTold = false) ∧ (b + 16000000 ≤ s.clock + dt) :=
  ⟨16000000, 63, laneUp 63 3 (fun x => { x with badSince := some 0 }), 0, by decide⟩

theorem wit_LaneDetectors_6 : ∃ (n : Fin 64) (s : State),
    (lf s.wire n 11 ≠ 0) ∧ ((lane s n).prbsLock = false) ∧ ((lane s n).scanning = false) :=
  ⟨63, setF 14 63 11 1 (laneUp 63 5 id), by decide⟩

theorem wit_LaneDetectors_7 : ∃ (n : Fin 64) (s : State),
    ((lane s n).prbsLock = true) :=
  ⟨63, laneUp 63 5 (fun x => { x with prbsLock := true }), by decide⟩

theorem wit_LaneDetectors_8 : ∃ (n : Fin 64) (s : State) (v : Nat),
    ((lane s n).exitTo = some v) :=
  ⟨63, laneUp 63 3 (fun x => { x with pst := 2, exitTo := some 0 }), 0, by decide⟩

theorem wit_NoLeapInService_0 : ∃ (s : State),
    (s.dev.live = true) :=
  ⟨run_, by decide⟩

theorem wit_TimebaseServo_0 : ∃ (k : Fin 4) (s : State),
    (s.alm.running = true) ∧ ((k.val = 0 → tbSrc s 0 = 0 ∨ 4 ≤ tbSrc s 0)) ∧ (tbSrc s k ≠ 0) ∧ ((s.tb k).st = .locked ∨ (s.tb k).st = .slewing) ∧ ((tbSrc s k = 6 ∨ tbSrc s k = 7 → s.pn 13 0x200 (tbSrc s k - 5) ≠ 0 ∧ vget s.clk.refOk (tbSrc s k - 6) false = true)) :=
  ⟨3, setF 6 3 1 1 (withTb 3 (fun b => { b with st := .locked, leapt := true }) run_), by decide⟩

theorem wit_TimebaseServo_1 : ∃ (k : Fin 4) (s : State),
    (s.alm.running = true) ∧ (tbSrc s k = 6 ∨ tbSrc s k = 7) ∧ (vget s.clk.refOk (tbSrc s k - 6) false = false) :=
  ⟨3, setF 6 3 1 6 run_, by decide⟩

theorem wit_TimebaseServo_2 : ∃ (k : Fin 4) (s : State) (p : Fin 8) (ns : Word) (frac : Word),
    (s.alm.running = true) ∧ (Granted p 0x0403 0x300 (.priv pvTime) true s) ∧ (ns.toNat ≤ 999999999) ∧ (frac.toNat ≤ 65535) ∧ (tbSrc s k = 9) ∧ ((s.tb k).st = .locked ∨ (s.tb k).st = .slewing) :=
  ⟨3, setF 6 3 1 9 (withTb 3 (fun b => { b with st := .slewing, leapt := true }) run_), 1, 999999999, 65535, by decide, granted_of (by decide), by decide⟩

theorem wit_TimebaseServo_3 : ∃ (s : State) (p : Fin 8) (ns : Word),
    (s.alm.running = true) ∧ (Granted p 0x0403 0x300 (.priv pvTime) true s) ∧ (999999999 < ns.toNat) :=
  ⟨run_, 1, 1000000000, by decide, granted_of (by decide), by decide⟩

theorem wit_TimebaseServo_4 : ∃ (dt : Nat) (k : Fin 4) (s : State),
    (s.alm.running = true) ∧ (((s.begin dt).tb k).slewLeft = 0) ∧ ((s.tb k).slew ≠ 0) :=
  ⟨1, 3, withTb 3 (fun b => { b with st := .slewing, leapt := true, slew := 100 }) run_, by decide +kernel⟩

theorem wit_HoldoverAndReAcquire_0 : ∃ (dt : Nat) (s : State) (k : Fin 4),
    (updatesMissing (s.begin dt) k = false) :=
  ⟨1, setF 6 3 1 5 run_, 3, by decide +kernel⟩

theorem wit_HoldoverAndReAcquire_1 : ∃ (dt : Nat) (s : State) (k : Fin 4),
    (s.alm.running = true) ∧ (updatesMissing (s.begin dt) k = true) ∧ ((s.tb k).st = .locked ∨ (s.tb k).st = .slewing ∨ (s.tb k).st = .steering) :=
  ⟨1, withTb 3 (fun b => { b with st := .steering }) run_, 3, by decide⟩

theorem wit_HoldoverAndReAcquire_2 : ∃ (dt : Nat) (s : State) (k : Fin 4),
    (s.alm.running = true) ∧ (updatesMissing (s.begin dt) k = true) ∧ ((s.tb k).st = .acquiring) :=
  ⟨1, withTb 3 (fun b => { b with st := .acquiring }) run_, 3, by decide⟩

theorem wit_HoldoverAndReAcquire_3 : ∃ (dt : Nat) (s : State) (k : Fin 4),
    ((s.tb k).st = .holdover) ∧ (s.pn 6 k 7 * 65536000000000 * 2 ^ 40 ≤ ((s.begin dt).tb k).acc - (s.tb k).holdAt) :=
  ⟨1, withTb 3 (fun b => { b with st := .holdover }) (setF 6 3 7 0 run_), 3, by decide⟩

theorem wit_HoldoverAndReAcquire_4 : ∃ (dt : Nat) (s : State),
    ((s.tb 0).st = .slewing ∨ (s.tb 0).st = .steering) ∧ (10 * s.ptn 6 0 4 * 2 ^ 40 ≤ ((s.begin dt).tb 0).acc - (s.tb 0).slewAt) ∧ (offAlarm s 0 < ((s.tb 0).off.natAbs : Int)) :=
  ⟨1, setF 6 0 4 0 (withTb 0 (fun b => { b with st := .slewing, off := 10000000000000 }) run_), by decide⟩

theorem wit_HoldoverAndReAcquire_5 : ∃ (s : State) (p : Fin 8),
    (Granted p 0x0402 0x300 (.priv pvTime) true s) :=
  ⟨run_, 1, granted_of (by decide)⟩

theorem wit_AlmanacPins_0 : ∃ (dt : Nat) (s : State),
    (ppsRuns s = true) ∧ (s.alm.ppsOut = false) ∧ ((ppsNext (s.begin dt)).strikes ((ppsNext (s.begin dt)).pn 6 4 0x40) secQn ((ppsNext (s.begin dt)).pt 6 4 0x42) = true) :=
  ⟨0, setF 6 4 0x43 1 { run_ with sys := { run_.sys with inForce := true } }, by decide +kernel⟩

theorem wit_AlmanacPins_1 : ∃ (dt : Nat) (s : State),
    (ppsRuns s = true) ∧ (s.alm.ppsOut = false) ∧ ((ppsNext (s.begin dt)).strikes ((ppsNext (s.begin dt)).pn 6 4 0x40) secQn ((ppsNext (s.begin dt)).pt 6 4 0x42) = false) :=
  ⟨1, setF 6 4 0x43 1 { run_ with sys := { run_.sys with inForce := true } }, by decide +kernel⟩

theorem wit_AlmanacPins_2 : ∃ (dt : Nat) (s : State),
    (s.alm.ppsOut = true) ∧ (s.alm.ppsEnd.2 ≤ (s.begin dt).nowK s.alm.ppsEnd.1) :=
  ⟨0, { run_ with alm := { run_.alm with ppsOut := true } }, by decide⟩

theorem wit_AlmanacPins_3 : ∃ (s : State),
    (s.alm.running = true) :=
  ⟨run_, by decide⟩

theorem wit_AlmanacPins_4 : ∃ (s : State) (pin : Fin 4) (rise : Bool),
    (s.alm.running = true) ∧ (¬ (s.pn 6 4 0x46 / 4 ^ pin.val % 4 = 0 ∧ rise = false)) ∧ (¬ (s.pn 6 4 0x46 / 4 ^ pin.val % 4 = 1 ∧ rise = true)) :=
  ⟨setF 9 0x103 0x20 5 (setF 9 0x103 0x21 3 { run_ with recd := { run_.recd with stream := run_.recd.stream.set 3 { run := 1 } } }), 3, true, by decide⟩

theorem wit_AlmanacPins_5 : ∃ (dt : Nat) (s : State) (pin : Fin 4) (k : Nat) (e : Nat),
    (s.alm.trigOut.testBit pin = true) ∧ (s.alm.pulses.find? (fun x => x.1 == pin.val) = some (pin.val, k, e)) ∧ (e ≤ (s.begin dt).nowK k) :=
  ⟨0, { run_ with alm := { run_.alm with trigOut := 8, pulses := [(3, 0, 0)] } }, 3, 0, 0, by decide⟩

theorem wit_AlmanacPins_6 : ∃ (dt : Nat) (s : State) (pin : Fin 4) (k : Nat) (e : Nat),
    (s.alm.trigOut.testBit pin = true) ∧ (s.alm.pulses.find? (fun x => x.1 == pin.val) = some (pin.val, k, e)) ∧ ((s.begin dt).nowK k < e) :=
  ⟨0, { run_ with alm := { run_.alm with trigOut := 8, pulses := [(3, 0, 10 ^ 6)] } }, 3, 0, 10 ^ 6, by decide +kernel⟩

theorem wit_LaunchTable_0 : ∃ (dt : Nat) (p : Fin 8) (s : State) (tb : Word) (sec : Wire) (ns : Word) (frac : Word) (arg : Word) (a : Fin 7) (T : Nat) (i : Nat),
    (Granted p 0x0404 0x400 (launchRight a) (tokenAction a || (a == 3 && !hasPriv s p pvSafety) || decide (5 ≤ a.val)) s) ∧ (timeQ sec.toNat ns.toNat frac.toNat = some T) ∧ (launchRefusal (s.begin dt) tb.toNat T a arg.toNat = none) ∧ (freeEntry s = some i) :=
  ⟨0, 1, fullLaunch 31, 3, 0, 100000, 0, 15, 4, 6553600000, 31, granted_of (by decide +kernel), by decide +kernel⟩

theorem wit_LaunchTable_1 : ∃ (dt : Nat) (p : Fin 8) (s : State) (tb : Word) (sec : Wire) (ns : Word) (frac : Word) (arg : Word) (a : Fin 7) (T : Nat),
    (Granted p 0x0404 0x400 (launchRight a) (tokenAction a || (a == 3 && !hasPriv s p pvSafety) || decide (5 ≤ a.val)) s) ∧ (timeQ sec.toNat ns.toNat frac.toNat = some T) ∧ (launchRefusal (s.begin dt) tb.toNat T a arg.toNat = none) ∧ (freeEntry s = none) :=
  ⟨0, 1, fullLaunch 32, 3, 0, 100000, 0, 15, 4, 6553600000, granted_of (by decide +kernel), by decide +kernel⟩

theorem wit_LaunchTable_2 : ∃ (p : Fin 8) (s : State) (i : Word) (l : Launch),
    (Granted p 0x0405 0x400 .observe false s) ∧ (tabGet? s.alm.launch i.toNat = some l) ∧ (l.part = p.val ∨ hasPriv s p pvService = true) :=
  ⟨1, { run_ with sys := { run_.sys with inForce := true }, alm := { run_.alm with launch := [(31, { tb := 0, t := 0, action := 0, arg := 0, part := 0 })] } }, 31, { tb := 0, t := 0, action := 0, arg := 0, part := 0 }, granted_of (by decide), by decide⟩

theorem wit_LaunchTable_3 : ∃ (dt : Nat) (s : State) (e : Fin 32) (l : Launch),
    (tabGet? s.alm.launch e = some l) ∧ (s.alm.running = true) ∧ (l.t ≤ (s.begin dt).nowK l.tb) ∧ (l.action ≤ 2) :=
  ⟨1, { run_ with sys := { run_.sys with inForce := true }, alm := { run_.alm with launch := [(31, { tb := 0, t := 0, action := 2, arg := 0, part := 0 })] } }, 31, { tb := 0, t := 0, action := 2, arg := 0, part := 0 }, by decide⟩

theorem wit_LaunchTable_4 : ∃ (dt : Nat) (s : State) (e : Fin 32) (l : Launch),
    (tabGet? s.alm.launch e = some l) ∧ (s.alm.running = true) ∧ (l.t ≤ (s.begin dt).nowK l.tb) ∧ (l.action = 6) ∧ (s.sys.inForce = true) :=
  ⟨1, { run_ with sys := { run_.sys with inForce := true }, alm := { run_.alm with launch := [(31, { tb := 0, t := 0, action := 6, arg := 3 * 2 ^ 30 + 20, part := 0 })] } }, 31, { tb := 0, t := 0, action := 6, arg := 3 * 2 ^ 30 + 20, part := 0 }, by decide⟩

theorem wit_PtpMessages_0 : ∃ (dt : Nat) (lane : Fin 64) (k : Fin 3) (s : State),
    (ptpRuns s (k + 1) lane = true) ∧ (ptpMaster (bmca (k + 1) (stampNow (s.begin dt))) (k + 1) lane = true) :=
  ⟨0, 63, 2, setF 6 3 0x20 1 (setF 6 0x13F 0x30 3 (setF 6 3 0x25 1 run_)), by decide⟩

theorem wit_PtpMessages_1 : ∃ (dt : Nat) (lane : Fin 64) (k : Fin 3) (s : State),
    (ptpRuns s (k + 1) lane = true) ∧ (ptpMaster (bmca (k + 1) (stampNow (s.begin dt))) (k + 1) lane = true) :=
  ⟨0, 63, 2, setF 6 3 0x20 1 (setF 6 0x13F 0x30 3 (setF 6 3 0x25 1 run_)), by decide⟩

theorem wit_PtpMessages_2 : ∃ (dt : Nat) (lane : Fin 64) (k : Fin 3) (s : State),
    (ptpRuns s (k + 1) lane = true) ∧ ((ptpOf (bmca (k + 1) (stampNow (s.begin dt))) (k + 1)).slaveLane = some lane.val) ∧ (s.pn 6 (k + 1) 0x21 = 0) :=
  ⟨0, 63, 2, slavePtp, by decide, slave_lane, by decide⟩

theorem wit_PtpMessages_3 : ∃ (lane : Fin 64) (k : Fin 3) (s : State) (m : PtpMsg),
    (ptpRuns s (k + 1) lane = true) ∧ (m.majorSdoId = 0) ∧ (m.minorSdoId = 0) ∧ (m.domain = s.pn 6 (k + 1) 0x22) ∧ (m.kind = .sync) ∧ (m.twoStep = false) ∧ ((ptpOf s (k + 1)).slaveLane = some lane.val) :=
  ⟨63, 2, setF 6 3 0x21 0 { setF 6 3 0x20 1 (setF 6 0x13F 0x30 3 (setF 6 3 0x25 1 run_)) with alm := { run_.alm with ptp := run_.alm.ptp.set 2 { slaveLane := some 63, delay := some 0 } } }, { kind := .sync, majorSdoId := 0, minorSdoId := 0, domain := 0, seq := 65535, twoStep := false, srcPort := 1, time := 0, corr := 0 }, by decide⟩

theorem wit_PtpMessages_4 : ∃ (lane : Fin 64) (k : Fin 3) (s : State) (m : PtpMsg),
    (ptpRuns s (k + 1) lane = true) ∧ (m.majorSdoId = 0) ∧ (m.minorSdoId = 0) ∧ (m.domain = s.pn 6 (k + 1) 0x22) ∧ (m.kind = .delayReq) ∧ (s.pn 6 (k + 1) 0x21 = 0) ∧ (ptpMaster s (k + 1) lane = true) :=
  ⟨63, 2, setF 6 3 0x21 0 (setF 6 3 0x20 1 (setF 6 0x13F 0x30 3 (setF 6 3 0x25 1 run_))), { kind := .delayReq, majorSdoId := 0, minorSdoId := 0, domain := 0, seq := 65535, twoStep := false, srcPort := 1, time := 0, corr := 0 }, by decide⟩

theorem wit_PtpMessages_5 : ∃ (lane : Fin 64) (k : Fin 3) (s : State) (m : PtpMsg),
    (ptpRuns s (k + 1) lane = true) ∧ (m.majorSdoId = 0) ∧ (m.minorSdoId = 0) ∧ (m.domain = s.pn 6 (k + 1) 0x22) ∧ (m.kind = .announce) ∧ (m.ds.sender ≠ clockIdentity (k + 1)) ∧ (m.ds.steps < 255) :=
  ⟨63, 2, setF 6 3 0x21 0 (setF 6 3 0x20 1 (setF 6 0x13F 0x30 3 (setF 6 3 0x25 1 run_))), { kind := .announce, majorSdoId := 0, minorSdoId := 0, domain := 0, seq := 65535, twoStep := false, srcPort := 1, time := 0, corr := 0, ds := { sender := clockIdentity 3 + 1 } }, by and_intros <;> first | decide +kernel | exact (by simp)⟩

theorem wit_PtpMessages_6 : ∃ (lane : Fin 64) (k : Fin 3) (s : State) (m : PtpMsg),
    (ptpRuns s (k + 1) lane = true) ∧ (m.domain ≠ s.pn 6 (k + 1) 0x22) :=
  ⟨63, 2, setF 6 3 0x21 0 (setF 6 3 0x20 1 (setF 6 0x13F 0x30 3 (setF 6 3 0x25 1 run_))), { kind := .sync, majorSdoId := 0, minorSdoId := 0, domain := 255, seq := 65535, twoStep := false, srcPort := 1, time := 0, corr := 0 }, by decide⟩

theorem wit_PairLanesAndHeartbeat_0 : ∃ (s : State) (l : Fin 2),
    ((pairLane s l).dly.valid = false ∨ (pairLane s l).dly.value ≤ 1920) :=
  ⟨modPairLane 1 (fun x => { x with dly := { x.dly with valid := true, value := 1920 } }) (paired 1 .run), 1, by decide⟩

theorem wit_PairLanesAndHeartbeat_1 : ∃ (s : State),
    (s.pairEn = true) :=
  ⟨paired 1 .run, by decide⟩

theorem wit_PairLanesAndHeartbeat_4 : ∃ (s : State),
    (s.pairEn = true) ∧ (s.rdn.role = 1) ∧ (pairLanesUp s = []) :=
  ⟨{ paired 1 .run with rdn := { (paired 1 .run).rdn with lane := Vector.replicate 2 {} } }, by decide⟩

theorem wit_PairFrames_0 : ∃ (lane : Fin 2) (seq : Nat) (s : State),
    (FirstCopy s lane 0x10 seq) :=
  ⟨1, 65535, paired 2 .run, firstCopy_of (by decide)⟩

theorem wit_PairFrames_1 : ∃ (lane : Fin 2) (seq : Nat) (s : State),
    (FirstCopy s lane 0x11 seq) :=
  ⟨1, 65535, paired 2 .run, firstCopy_of (by decide)⟩

theorem wit_PairFrames_2 : ∃ (lane : Fin 2) (seq : Nat) (s : State),
    (FirstCopy s lane 0x12 seq) :=
  ⟨1, 65535, paired 2 .run, firstCopy_of (by decide)⟩

theorem wit_PairFrames_3 : ∃ (lane : Fin 2) (seq : Nat) (s : State),
    (FirstCopy s lane 0x13 seq) :=
  ⟨1, 65535, paired 2 .run, firstCopy_of (by decide)⟩

theorem wit_PairFrames_4 : ∃ (lane : Fin 2) (seq : Nat) (s : State) (ws : List Word),
    (FirstCopy s lane 0x17 seq) ∧ (ws.length = 16) ∧ (ws.getD 15 0 = crc32 ((ws.take 15).flatMap (fun x => bytesBE 4 x.toNat))) :=
  ⟨1, 65535, paired 2 .run, List.replicate 15 7 ++ [crc32 ((List.replicate 15 (7 : Word)).flatMap (fun x => bytesBE 4 x.toNat))], firstCopy_of (by decide +kernel), by decide +kernel⟩

theorem wit_PairFrames_5 : ∃ (dt : Nat) (lane : Fin 2) (seq : Nat) (s : State) (type : Nat) (c : Instr),
    ((tabGet s.rdn.typeWin type {}).take seq = none ∨ s.pairEn = false) ∧ ((type = 0x10 ∧ ∃ x, c = .snapRx dt lane seq x) ∨ (type = 0x11 ∧ ∃ n m, c = .rmapRx dt lane seq n m) ∨ (type = 0x12 ∧ ∃ f, c = .fwdSRx dt lane seq f) ∨ (type = 0x13 ∧ ∃ d, c = .digRx dt lane seq d) ∨ (type = 0x15 ∧ ∃ a b k i l cs, c = .decideRx dt lane seq a b k i l cs) ∨ (type = 0x17 ∧ ∃ w, c = .vigRx dt lane seq w)) ∧ (s.pinsHold = true) :=
  ⟨0, 1, 65535, seenSeq, 0x11, .rmapRx 0 1 65535 0 0, Or.inl (by decide), Or.inr (Or.inl ⟨rfl, 0, 0, rfl⟩), by decide⟩

theorem wit_PartnerDecides_0 : ∃ (lane : Fin 2) (seq : Nat) (s : State) (code : Nat) (kind : Nat) (index : Nat),
    (FirstCopy s lane 0x15 seq) ∧ (code ≠ 0) ∧ (isHeld code kind index s = false) :=
  ⟨0, 0, paired 2 .run, 0x2140, 8, 0, firstCopy_of (by decide), by decide⟩

theorem wit_PartnerDecides_1 : ∃ (lane : Fin 2) (seq : Nat) (s : State),
    (FirstCopy s lane 0x15 seq) ∧ (s.dev = .run) :=
  ⟨0, 0, paired 2 .run, firstCopy_of (by decide), by decide⟩

theorem wit_PartnerDecides_2 : ∃ (lane : Fin 2) (seq : Nat) (s : State),
    (FirstCopy s lane 0x14 seq) ∧ (s.rdn.role ≠ 1) :=
  ⟨0, 0, paired 2 .run, firstCopy_of (by decide), by decide⟩

theorem wit_RolesAndJoining_0 : ∃ (lane : Fin 2) (seq : Nat) (s : State),
    (FirstCopy s lane 0x18 seq) :=
  ⟨0, 0, paired 2 .run, firstCopy_of (by decide)⟩

theorem wit_RolesAndJoining_1 : ∃ (lane : Fin 2) (seq : Nat) (s : State),
    (FirstCopy s lane 0x18 seq) ∧ (s.rdn.role = 2) :=
  ⟨0, 0, paired 2 .run, firstCopy_of (by decide), by decide⟩

theorem wit_RolesAndJoining_2 : ∃ (lane : Fin 2) (seq : Nat) (s : State),
    (FirstCopy s lane 0x18 seq) ∧ (s.rdn.role = 1) :=
  ⟨0, 0, paired 1 .run, firstCopy_of (by decide), by decide⟩

theorem wit_RolesAndJoining_3 : ∃ (dt : Nat) (s : State) (k : Int),
    (s.rdn.swapAt = some k) ∧ (k ≤ (s.begin dt).tickNow) ∧ (s.rdn.role = 1) :=
  ⟨0, { paired 1 .run with rdn := { (paired 1 .run).rdn with swapAt := some 0 } }, 0, by decide⟩

theorem wit_RolesAndJoining_4 : ∃ (dt : Nat) (s : State) (k : Int),
    (s.rdn.swapAt = some k) ∧ (k ≤ (s.begin dt).tickNow) ∧ (s.rdn.role = 2) :=
  ⟨0, { paired 2 .run with rdn := { (paired 2 .run).rdn with swapAt := some 0 } }, 0, by decide⟩

theorem wit_RolesAndJoining_5 : ∃ (lane : Fin 2) (seq : Nat) (s : State),
    (FirstCopy s lane 0x16 seq) ∧ (s.rdn.role = 3) ∧ (s.rdn.joinState = 3) :=
  ⟨0, 0, { paired 3 .run with rdn := { (paired 3 .run).rdn with joinState := 3 } }, firstCopy_of (by decide), by decide⟩

theorem wit_RolesAndJoining_6 : ∃ (dt : Nat) (lane : Fin 2) (seq : Nat) (s : State) (c : Capture) (w : SeqWin),
    (s.pairEn = true) ∧ ((pairLane s lane).up = true) ∧ (seq < 65536) ∧ ((tabGet s.rdn.typeWin 0x16 {}).take seq = some w) ∧ (s.rdn.role = 3) ∧ (s.rdn.joinState = 6) ∧ (schedAgrees (modRdn (fun r => { r with typeWin := tabPut r.typeWin 0x16 w }) (s.begin dt)) c = true) :=
  ⟨0, 0, 0, { paired 3 .run with rdn := { (paired 3 .run).rdn with joinState := 6 } }, { capt with derived := derived ({ paired 3 .run with rdn := { (paired 3 .run).rdn with joinState := 6 } }) }, { high := some 0, seen := [0] }, by decide +kernel⟩

theorem wit_RolesAndJoining_7 : ∃ (s : State),
    (s.rdn.role = 3) ∧ (s.rdn.joinState = 7) ∧ (s.awake = true) :=
  ⟨{ paired 3 .run with rdn := { (paired 3 .run).rdn with joinState := 7 } }, by decide⟩

theorem wit_RolesAndJoining_8 : ∃ (s : State),
    (s.rdn.role = 3) ∧ (s.rdn.joinState = 6 ∨ s.rdn.joinState = 7) ∧ (512 ≤ s.rdn.buf.length) :=
  ⟨{ paired 3 .run with rdn := { (paired 3 .run).rdn with joinState := 7, buf := List.replicate 512 { tick := 0, latched := [], tel := [] }, joinRestarts := 2 } }, by decide +kernel⟩

theorem wit_RolesAndJoining_9 : ∃ (s : State),
    (s.rdn.role = 3) ∧ (s.rdn.joinState = 8) ∧ (s.pn 10 0 5 ≤ s.rdn.syncTicks) :=
  ⟨{ paired 3 .run with rdn := { (paired 3 .run).rdn with joinState := 8, syncTicks := 100000 } }, by decide⟩

theorem wit_PairSends_0 : ∃ (dt : Nat) (s : State),
    (s.pairEn = true) ∧ (s.rdn.role = 1) ∧ (s.awake = true) ∧ ((pairLane s 0).up = true) ∧ ((200 * nsecQ : Nat) ≤ (s.begin dt).phaseQ) :=
  ⟨3200, { paired 1 .run with alm := { (paired 1 .run).alm with running := true } }, by decide +kernel⟩

theorem wit_PairSends_1 : ∃ (dt : Nat) (s : State),
    (notActive s = true) ∧ (s.dev.live = true) ∧ ((pairLane s 0).up = true) ∧ (s.rdn.vigilAt + s.ptn 10 0x200 1 / stepQ ≤ s.clock + dt) :=
  ⟨16000000000, paired 2 .run, by decide +kernel⟩

theorem wit_PairSends_2 : ∃ (dt : Nat) (s : State) (q : Fin 8),
    ((pp s q).st ≠ 0) ∧ ((∀ a, s.rdn.helloAt = some a → a + msSteps ≤ s.clock + dt)) :=
  ⟨0, modPp 7 (fun x => { x with st := 1 }) (paired 1 .run), 7, by decide⟩

theorem wit_PairSends_3 : ∃ (dt : Nat) (s : State) (q : Fin 8),
    ((pp s q).st = 3) ∧ ((s.begin dt).strikes 0 (1000 * nsecQ) 0 = true) :=
  ⟨0, modPp 7 (fun x => { x with st := 3 }) (paired 1 .run), 7, by decide⟩

theorem wit_PairSends_4 : ∃ (dt : Nat) (s : State) (q : Fin 8),
    ((pp s q).st = 3) ∧ (upward s q = true) ∧ ((∀ a, s.rdn.topoAt = some a → a + msSteps ≤ s.clock + dt)) :=
  ⟨0, setF 10 0x107 2 0 (modPp 7 (fun x => { x with st := 3 }) (paired 1 .run)), 7, by decide⟩

theorem wit_PairSends_5 : ∃ (dt : Nat) (s : State) (a : Nat),
    (s.clock + dt < a + msSteps) ∧ (s.pinsHold = true) ∧ (s.rdn.helloAt = some a) :=
  ⟨0, { paired 1 .run with rdn := { (paired 1 .run).rdn with helloAt := some 0 } }, 0, by decide⟩

theorem wit_PairSends_6 : ∃ (dt : Nat) (s : State) (a : Nat),
    (s.clock + dt < a + msSteps) ∧ (s.pinsHold = true) ∧ (s.rdn.topoAt = some a) :=
  ⟨0, { paired 1 .run with rdn := { (paired 1 .run).rdn with topoAt := some 0 } }, 0, by decide⟩

theorem wit_PairSends_7 : ∃ (dt : Nat) (s : State),
    (s.pinsHold = true) ∧ ((s.begin dt).strikes 0 (1000 * nsecQ) 0 = false) :=
  ⟨1, { paired 1 .run with alm := { (paired 1 .run).alm with running := true } }, by decide +kernel⟩

theorem wit_PeerFrames_0 : ∃ (s : State) (q : Fin 10) (h : HelloId),
    (q.val < 8) ∧ ((pp s q).st = 1 ∨ (pp s q).st = 2 ∨ (pp s q).st = 3) ∧ (h.node = nodeId s) :=
  ⟨modPp 7 (fun x => { x with st := 3 }) (paired 1 .run), 7, aHello, by decide⟩

theorem wit_PeerFrames_1 : ∃ (s : State) (q : Fin 10),
    (q.val < 8) ∧ ((pp s q).st = 3) :=
  ⟨modPp 7 (fun x => { x with st := 3 }) (paired 1 .run), 7, by decide⟩

theorem wit_PeerFrames_2 : ∃ (s : State) (q : Fin 10) (seq : Nat) (tx : Nat),
    (q.val < 8) ∧ ((link s q).ptx.find? (fun e => e.1 == seq) = some (seq, tx)) :=
  ⟨modPp 7 (fun x => { x with st := 3, ptx := [(65535, 0)] }) (paired 1 .run), 7, 65535, 0, by decide⟩

theorem wit_PeerFrames_3 : ∃ (s : State) (q : Fin 10) (origin : Nat) (gseq : Nat),
    (carries s q = true) ∧ (origin ≠ nodeId s) ∧ (((tabGet s.rdn.gbWin origin {}).take gseq).isSome) ∧ (s.awake = true) :=
  ⟨modPp 7 (fun x => { x with st := 3 }) (paired 1 .run), 9, 3, 65535, by decide⟩

theorem wit_PeerFrames_4 : ∃ (s : State),
    (s.pinsHold = true) :=
  ⟨settle (modPp 7 (fun x => { x with st := 3 }) (paired 1 .run)), by decide⟩

theorem wit_PeerFrames_5 : ∃ (s : State) (q : Fin 8) (origin : Nat) (bseq : Nat),
    ((pp s q).st = 3) ∧ (origin ≠ nodeId s) ∧ (((tabGet s.rdn.bcWin origin {}).take bseq).isSome) :=
  ⟨modPp 6 (fun x => { x with st := 3 }) (modPp 7 (fun x => { x with st := 3 }) (paired 1 .run)), 7, 3, 65535, by decide⟩

theorem wit_PeerFrames_6 : ∃ (s : State) (q : Fin 8),
    ((pp s q).st = 3) ∧ (upward s q = false) ∧ (isRoot s = false) :=
  ⟨setF 10 0x107 2 1 (setF 6 0 1 8 (modPp 7 (fun x => { x with st := 3 }) (paired 1 .run))), 7, by decide⟩

theorem wit_QueuePackets_0 : ∃ (s : State) (r : LogRec) (rest : List LogItem),
    (s.dev.powered = true) ∧ (s.hst.logHold = .record r :: rest) ∧ (packetsBytes (s.sq 0).staged + 4 * (recordWords r).length + 4 ≤ 65536) :=
  ⟨{ up .run with hst := { (up .run).hst with logHold := [.record { seq := 1 }] } }, { seq := 1 }, [], by decide⟩

theorem wit_QueuePackets_1 : ∃ (s : State) (r : LogRec) (rest : List LogItem),
    (s.dev.powered = true) ∧ (s.hst.logHold = .record r :: rest) ∧ (65536 < packetsBytes (s.sq 0).staged + 4 * (recordWords r).length + 4) ∧ (s.pinsHold = true) :=
  ⟨{ ((up .run).modSq 0 (fun x => { x with staged := [{ producer := 0, pseq := 0, poison := false, words := bigWords }] })) with hst := { (((up .run).modSq 0 (fun x => { x with staged := [{ producer := 0, pseq := 0, poison := false, words := bigWords }] }))).hst with logHold := [.record { seq := 1 }] } }, { seq := 1 }, [], by decide +kernel⟩

theorem wit_QueuePackets_2 : ∃ (q : Fin 16) (s : State) (n : Nat),
    (s.dev.powered = true) ∧ (s.pn 8 0x200 1 = 0x10 + q) ∧ (tqClosed s.adc.tqTick s.alm.tick = n) ∧ (s.adc.tq.take n ≠ []) ∧ (packetsBytes (s.sq q).staged + 8 * (s.adc.tq.take n).length + 8 ≤ 65536) :=
  ⟨15, setF 8 0x200 1 31 { up .run with adc := { (up .run).adc with tq := [0xFFFFFFFFFFFFFFFF], tqTick := [-1] } }, 1, by decide⟩

theorem wit_QueuePackets_3 : ∃ (q : Fin 16) (s : State) (k : Packet),
    (s.dev.powered = true) ∧ ((s.sq q).enable = true) ∧ ((s.sq q).owner < 8) ∧ ((s.sq q).dma = false) ∧ (((s.sq q).staged.drop (s.sq q).vis).head? = some k) :=
  ⟨15, (up .run).modSq 15 (fun x => { x with enable := true, owner := 1, staged := [{ producer := 0, pseq := 0, poison := true, words := [7] }] }), { producer := 0, pseq := 0, poison := true, words := [7] }, by decide⟩

theorem wit_QueuePackets_4 : ∃ (q : Fin 16) (s : State) (k : Packet),
    (s.dev.powered = true) ∧ ((s.sq q).enable = true) ∧ ((s.sq q).owner < 8) ∧ (((s.sq q).staged.drop (s.sq q).vis).head? = some k) :=
  ⟨15, (up .run).modSq 15 (fun x => { x with enable := true, owner := 1, staged := [{ producer := 0, pseq := 0, poison := true, words := [7] }] }), { producer := 0, pseq := 0, poison := true, words := [7] }, by decide⟩

theorem wit_QueuePackets_5 : ∃ (dt : Nat) (q : Fin 16) (s : State) (p : Fin 8),
    (s.dev.powered = true) ∧ ((s.sq q).owner = p) ∧ ((s.sq q).unsig ≠ 0) ∧ ((s.sq q).irqTime ≠ 0) ∧ ((s.sq q).unsigAt + (s.sq q).irqTime * 65536000 ≤ (s.begin dt).now) :=
  ⟨16000, 15, (run_).modSq 15 (fun x => { x with owner := 1, unsig := 4, irqTime := 1, unsigAt := 0 }), 1, by decide +kernel⟩

theorem wit_QueueOwnership_0 : ∃ (p : Fin 8) (q : Fin 16) (s : State),
    (hasWindow s p = true) ∧ ((s.sq q).owner = 15) :=
  ⟨1, 15, up .run, by decide⟩

theorem wit_QueueOwnership_1 : ∃ (p : Fin 8) (q : Fin 16) (s : State),
    (hasWindow s p = true) ∧ ((s.sq q).owner ≠ 15) ∧ ((s.sq q).owner ≠ p) :=
  ⟨1, 15, (up .run).modSq 15 (fun x => { x with owner := 2 }), by decide⟩

theorem wit_QueueOwnership_2 : ∃ (p : Fin 8) (q : Fin 16) (s : State),
    (hasWindow s p = true) ∧ ((s.sq q).owner = p) :=
  ⟨1, 15, (up .run).modSq 15 (fun x => { x with owner := 1, dma := true }), by decide⟩

theorem wit_QueueOwnership_3 : ∃ (p : Fin 8) (q : Fin 16) (s : State) (k : Nat),
    (hasWindow s p = true) ∧ ((s.sq q).owner = p) ∧ (k ≤ (s.sq q).vis) ∧ (packetsBytes ((s.sq q).staged.take k) < 2 ^ 17) :=
  ⟨1, 15, (up .run).modSq 15 (fun x => { x with owner := 1, vis := 1, staged := [{ producer := 0, pseq := 0, poison := true, words := [7] }, { producer := 0, pseq := 0, poison := true, words := [7] }] }), 1, by decide⟩

theorem wit_QueueOwnership_4 : ∃ (p : Fin 8) (q : Fin 16) (s : State) (n : BitVec 17),
    (hasWindow s p = true) ∧ ((s.sq q).owner = p) ∧ (wholePackets ((s.sq q).staged.take (s.sq q).vis) n.toNat = none) :=
  ⟨1, 15, (up .run).modSq 15 (fun x => { x with owner := 1, vis := 1, staged := [{ producer := 0, pseq := 0, poison := true, words := [7] }] }), 4, by decide⟩

theorem wit_QueueOwnership_5 : ∃ (p : Fin 8) (q : Fin 16) (s : State) (off : BitVec 24),
    (hasWindow s p = true) ∧ ((s.sq q).owner = p) ∧ (off.toNat ≠ (s.sq q).hostRd) :=
  ⟨1, 15, (up .run).modSq 15 (fun x => { x with owner := 1, bounds := [8] }), 8, by decide⟩

theorem wit_QueueOwnership_6 : ∃ (dt : Nat) (p : Fin 8) (q : Fin 16) (s : State) (off : BitVec 24) (n : BitVec 17) (c : Instr),
    (hasWindow s p = true) ∧ ((s.sq q).owner ≠ p) ∧ ((s.sq q).owner ≠ 15) ∧ (s.pinsHold = true) ∧ (c ∈ [Instr.hostRd dt p q off, .sqRdAdv dt p q n, .release dt p q]) :=
  ⟨0, 1, 15, (up .run).modSq 15 (fun x => { x with owner := 2 }), 0xFFFFFC, 0x1FFFF, Instr.hostRd 0 1 15 0xFFFFFC, by decide⟩

theorem wit_RecorderRuns_0 : ∃ (dt : Nat) (s : State),
    (s.awake = true) ∧ (s.alm.stage = 3) ∧ (((s.alm.phaseW + 150 * nsecQ : Nat) : Int) ≤ (s.begin dt).phaseQ) ∧ ((∀ i : Fin 4, (rst s i).run = 0)) :=
  ⟨160000, setF 9 127 1 0 { run_ with alm := { run_.alm with stage := 3 } }, by decide +kernel⟩

theorem wit_RecorderRuns_1 : ∃ (dt : Nat) (s : State),
    (s.alm.stage ≠ 3 ∨ (s.begin dt).phaseQ < ((s.alm.phaseW + 150 * nsecQ : Nat) : Int)) ∧ (s.pinsHold = true) :=
  ⟨0, run_, by decide +kernel⟩

theorem wit_RecorderRuns_2 : ∃ (dt : Nat) (s : State) (i : Fin 4) (n : Int),
    ((rst s i).run = 1) ∧ ((rst s i).started = true) ∧ (0 < s.pt 9 (0x100 + i) 7) ∧ (0 < s.alm.period) ∧ (0 ≤ s.tickAt n) ∧ (((rst s i).lastFire : Int) + s.pt 9 (0x100 + i) 7 ≤ s.tickAt n) ∧ (s.tickAt n < (rst s i).lastFire + s.pt 9 (0x100 + i) 7 + s.alm.period) ∧ (s.tickAt n ≤ (s.begin dt).now) :=
  ⟨160000, setF 9 0x103 7 1 ({ run_ with recd := { run_.recd with stream := run_.recd.stream.set 3 { run := 1, started := true } } }), 3, 1, by decide +kernel⟩

theorem wit_RecorderRuns_3 : ∃ (s : State) (i : Fin 4),
    ((rst s i).run = 2) ∧ (s.pn 9 (0x100 + i) 8 = 1) ∧ ((rst s i).ring = []) ∧ ((rst s i).rows = []) :=
  ⟨setF 9 0x103 8 1 ({ run_ with recd := { run_.recd with stream := run_.recd.stream.set 3 { run := 2 } } }), 3, by decide⟩

theorem wit_RecorderRuns_4 : ∃ (s : State) (i : Fin 4),
    ((rst s i).run = 2) ∧ (s.pn 9 (0x100 + i) 8 ≠ 1) ∧ (s.pinsHold = true) :=
  ⟨setF 9 0x103 8 0 ({ run_ with recd := { run_.recd with stream := run_.recd.stream.set 3 { run := 2 } } }), 3, by decide⟩

theorem wit_AnalogueReadsAndRotation_0 : ∃ (dt : Nat) (s : State) (pos : Fin 8) (n : Nat),
    (s.dev.live = true) ∧ (0 < s.alm.period / (100 * nsecQ)) ∧ (tickInput s pos = some n) ∧ (((125 * nsecQ : Nat) : Int) ≤ (s.begin dt).phaseQ) ∧ ((∀ m j, s.adc.slots.getD pos none = some (m, j) → m < s.alm.tick)) :=
  ⟨2000, setF 8 31 1 2 run_, 7, 31, by decide +kernel, by decide +kernel, by decide +kernel, by decide +kernel, (fun m j h => by change none = some (m, j) at h; cases h)⟩

theorem wit_AnalogueReadsAndRotation_1 : ∃ (s : State) (p : Fin 8) (e : BitVec 64) (r : List (BitVec 64)),
    (hasWindow s p = true) ∧ (s.pn 8 0x200 1 = 0) ∧ (s.pn 8 0x200 2 = p) ∧ (s.adc.tq = e :: r) :=
  ⟨setF 8 0x200 2 1 { up .run with adc := { (up .run).adc with tq := [0xFFFFFFFFFFFFFFFF] } }, 1, 0xFFFFFFFFFFFFFFFF, [], by decide⟩

theorem wit_AnalogueReadsAndRotation_2 : ∃ (s : State) (p : Fin 8) (e : BitVec 64),
    (hasWindow s p = true) ∧ (s.pn 8 0x200 1 = 0) ∧ (s.pn 8 0x200 2 = p) ∧ ((s.hp p).tqHold = some e) ∧ ((e >>> 32).truncate 32 ≠ (0x00040000 : Word)) :=
  ⟨(setF 8 0x200 2 1 { up .run with adc := { (up .run).adc with tq := [0xFFFFFFFFFFFFFFFF] } }).modHp 1 (fun h => { h with tqHold := some 0xFFFFFFFFFFFFFFFF }), 1, 0xFFFFFFFFFFFFFFFF, by decide⟩

theorem wit_AnalogueReadsAndRotation_3 : ∃ (s : State) (p : Fin 8),
    (hasWindow s p = true) ∧ (s.pn 8 0x200 2 ≠ p) :=
  ⟨setF 8 0x200 2 2 (up .run), 1, by decide⟩

theorem wit_AnalogueReadsAndRotation_4 : ∃ (s : State) (p : Fin 8),
    (hasWindow s p = true) :=
  ⟨up .run, 1, by decide⟩

theorem wit_AnalogueReadsAndRotation_5 : ∃ (dt : Nat) (s : State),
    (s.dev.live = true) ∧ (s.adc.retired = 0) ∧ ((sliceOf s s.adc.free).passed = true) ∧ (stepNear (s.begin dt) = true) ∧ (s.adc.shadowing = false) :=
  ⟨0, withTb 0 (fun b => { b with acc := 12000000 * 65536 * 2 ^ 40 }) ({ run_ with alm := { run_.alm with tick := 0 }, adc := { run_.adc with stepNo := 7, slice := [(8, { passed := true })] } }), by decide +kernel⟩

theorem wit_AnalogueReadsAndRotation_6 : ∃ (dt : Nat) (s : State),
    (s.dev.live = true) ∧ (s.adc.retired = 0) ∧ (stepDue (s.begin dt) s.alm.tick = true) ∧ (s.adc.stepTick ≠ some s.alm.tick) ∧ ((sliceOf s s.adc.free).passed = true) :=
  ⟨0, { run_ with alm := { run_.alm with tick := 0 }, adc := { run_.adc with stepNo := 7, slice := [(8, { passed := true })] } }, by decide⟩

theorem wit_AnalogueReadsAndRotation_7 : ∃ (s : State),
    (s.dev.live = true) ∧ (s.adc.retired = 0) ∧ ((sliceOf s s.adc.free).passed = false) :=
  ⟨{ up .run with adc := { (up .run).adc with stepNo := 7, slice := [(8, { passed := false })] } }, by decide⟩

theorem wit_AnalogueReadsAndRotation_8 : ∃ (dt : Nat) (s : State),
    (s.dev.live = true) ∧ (s.adc.retired = 0) ∧ (stepDue (s.begin dt) s.alm.tick = false) :=
  ⟨0, { run_ with alm := { run_.alm with tick := 1 }, adc := { run_.adc with stepNo := 7, slice := [(8, { passed := true })] } }, by decide⟩

theorem wit_AnalogueReadsAndRotation_9 : ∃ (s : State) (res : List Int),
    (s.dev.live = true) ∧ (s.adc.retired = 0) ∧ (res.length = 3) ∧ ((∀ r ∈ res, r.natAbs ≤ 2)) :=
  ⟨{ up .run with adc := { (up .run).adc with stepNo := 7, slice := [(8, { fails := 2 })] } }, [2, -2, 0], by decide⟩

theorem wit_AnalogueReadsAndRotation_10 : ∃ (s : State) (r : Int) (res : List Int),
    (s.dev.live = true) ∧ (s.adc.retired = 0) ∧ (res.length = 3) ∧ (r ∈ res) ∧ (2 < r.natAbs) ∧ ((sliceOf s s.adc.free).fails = 2) :=
  ⟨{ up .run with adc := { (up .run).adc with stepNo := 7, slice := [(8, { fails := 2 })] } }, -3, [0, -3, 0], by decide⟩

theorem wit_BitstreamDetectors_0 : ∃ (s : State) (n : Fin 48),
    (s.dev.live = true) ∧ (s.pn 7 n 1 ≠ 0) ∧ (s.pn 7 n 0x10 = 1) :=
  ⟨setF 7 47 1 1 (setF 7 47 0x10 1 (setF 7 47 0x11 4 (setF 7 47 0x15 1 (setF 7 47 0x12 0 (setF 7 47 0x13 0 (up .run)))))), 47, by decide +kernel⟩

theorem wit_BitstreamDetectors_1 : ∃ (s : State),
    (s.dev.live = true) :=
  ⟨up .run, by decide⟩

theorem wit_BitstreamDetectors_2 : ∃ (s : State) (g : Fin 6),
    (s.dev.live = true) ∧ ((vget s.bsd.grp g {}).noClk = true) :=
  ⟨modGrp 5 (fun x => { x with noClk := true }) (up .run), 5, by decide⟩

theorem wit_BitstreamDetectors_3 : ∃ (s : State) (n : Fin 48),
    (s.dev.live = true) ∧ (s.pn 7 n 1 = 1) :=
  ⟨setF 7 47 1 1 (setF 7 47 0x10 1 (setF 7 47 0x11 4 (setF 7 47 0x15 1 (setF 7 47 0x12 0 (setF 7 47 0x13 0 (up .run)))))), 47, by decide⟩

theorem wit_GfeDecides_0 : ∃ (k : Fin 4) (s : State),
    (s.dev = .run) ∧ (gfeEnabled s k = true) ∧ ((s.gfi k).next = none) ∧ (rideOver s k s.alm.tick = true) :=
  ⟨3, gfeUp (fun g => { g with mode := .ride }), by decide +kernel⟩

theorem wit_GfeDecides_1 : ∃ (k : Fin 4) (s : State),
    (s.dev = .run) ∧ (gfeEnabled s k = true) ∧ ((s.gfi k).next = none) ∧ (rideEnds s k = true) ∧ (((s.gfi k).reqNew && (s.gfi k).reqHeld) = false) :=
  ⟨3, gfeUp (fun g => { g with mode := .ride, exitCnt := 2000, rideFrom := .island }), by decide +kernel⟩

theorem wit_GfeDecides_2 : ∃ (k : Fin 4) (s : State),
    (s.dev = .run) ∧ (gfeEnabled s k = true) ∧ ((s.gfi k).next = none) ∧ (rideEnds s k = true) ∧ ((s.gfi k).reqNew = true) ∧ ((s.gfi k).reqHeld = true) ∧ (reqClass (s.gfi k).rideFrom (s.pn 1 k 0x7F) = .accept) :=
  ⟨3, setF 1 3 0x7F 3 (gfeUp (fun g => { g with mode := .ride, rideFrom := .island, exitCnt := 2000, reqNew := true, reqHeld := true })), by decide +kernel⟩

theorem wit_GfeDecides_3 : ∃ (k : Fin 4) (s : State),
    (s.dev = .run) ∧ (gfeEnabled s k = true) ∧ ((s.gfi k).next = none) ∧ (energizeFails s k = true) :=
  ⟨3, gfeUp (fun g => { g with mode := .energize, lowCnt := 2000 }), by decide +kernel⟩

theorem wit_GfeDecides_4 : ∃ (k : Fin 4) (s : State),
    (s.dev = .run) ∧ (gfeEnabled s k = true) ∧ ((s.gfi k).mode = .sync) ∧ (n20 s ≤ (s.gfi k).syncCnt) :=
  ⟨3, setF 1 3 0x7F 5 (gfeUp (fun g => { g with mode := .sync, syncCnt := 2000, reqNew := true })), by decide +kernel⟩

theorem wit_GfeDecides_5 : ∃ (k : Fin 4) (s : State),
    (s.dev = .run) ∧ (gfeEnabled s k = true) ∧ ((s.gfi k).next = none) ∧ (stopEnds s k s.alm.tick = true) :=
  ⟨3, gfeUp (fun g => { g with mode := .stop }), by decide +kernel⟩

theorem wit_GfeDecides_6 : ∃ (k : Fin 4) (s : State),
    (s.dev = .run) ∧ (gfeEnabled s k = true) ∧ ((s.gfi k).probeOn = true) ∧ (nW s k ≤ (s.gfi k).count) :=
  ⟨3, gfeUp (fun g => { g with probeOn := true, count := 10 ^ 9 }), by decide +kernel⟩

theorem wit_GfeDecides_7 : ∃ (k : Fin 4) (s : State) (who : Fin 68),
    (s.dev = .run) ∧ (gfeEnabled s k = true) ∧ (who.val < 64) :=
  ⟨3, (gfeUp id).modSlot 63 (fun x => { x with inp := [(0, { cnt := 2 ^ 40 })] }), 63, by decide⟩

theorem wit_GfeDecides_8 : ∃ (k : Fin 4) (s : State),
    (s.dev = .run) ∧ (gfeEnabled s k = true) :=
  ⟨3, gfeUp (fun g => { g with lossV := { cnt := 2 ^ 40 } }), by decide⟩

theorem wit_TickPhases_0 : ∃ (dt : Nat) (s : State),
    (s.dev.live = true) ∧ (s.alm.running = true) ∧ (s.alm.tick ≠ (s.begin dt).tickNow) ∧ (s.pairEn = false) ∧ (s.rdn.swapAt = none) ∧ (s.rdn.shadow = none) ∧ (s.pend = []) ∧ (s.trans = []) :=
  ⟨160000, { gfeUp (fun g => { g with next := some (.form, 5) }) with alm := { run_.alm with tick := 0 } }, by decide +kernel⟩

theorem wit_TickPhases_1 : ∃ (dt : Nat) (s : State) (p : Fin 8) (x : Trans),
    (s.dev = .armed) ∧ (s.sys.step = 9) ∧ (s.alm.running = true) ∧ (s.alm.tick ≠ (s.begin dt).tickNow) ∧ (s.pairEn = false) ∧ (s.rdn.swapAt = none) ∧ (s.pend = []) ∧ (s.trans = [x]) ∧ (x.kind = 1) ∧ (x.part = p.val) ∧ (x.tick ≤ (s.begin dt).tickNow) ∧ ((s.hp p).drop = false) ∧ (runRefusal (atTick dt s) true = none) :=
  ⟨160000, startable, 1, { kind := 1, part := 1, tick := 1 }, by decide +kernel⟩

theorem wit_TickPhases_2 : ∃ (dt : Nat) (s : State),
    (runsAlone s) ∧ (s.alm.stage = 1) ∧ ((s.freezeQ : Int) ≤ (s.begin dt).phaseQ) ∧ ((s.begin dt).phaseQ ≤ (schedStartQ s.wire s.freezeQ : Int)) ∧ (lpeEndQ s ≤ s.alm.phaseW) :=
  ⟨4000, { run_ with alm := { (run_).alm with stage := 1 } }, ⟨by decide +kernel, by decide +kernel, by decide +kernel, by decide +kernel⟩, by decide +kernel⟩

theorem wit_TickPhases_3 : ∃ (dt : Nat) (s : State),
    (runsAlone s) ∧ (s.alm.stage = 1) ∧ ((s.freezeQ : Int) ≤ (s.begin dt).phaseQ) ∧ ((schedStartQ s.wire s.freezeQ : Int) < (s.begin dt).phaseQ) ∧ ((∃ k : Fin 4, gfeEnabled s k = true)) :=
  ⟨8000, { setF 1 3 1 1 run_ with alm := { (setF 1 3 1 1 run_).alm with stage := 1 } }, ⟨by decide +kernel, by decide +kernel, by decide +kernel, by decide +kernel⟩, by decide +kernel⟩

theorem wit_TickPhases_4 : ∃ (dt : Nat) (s : State),
    (runsAlone s) ∧ (s.alm.stage = 1) ∧ ((s.freezeQ : Int) ≤ (s.begin dt).phaseQ) ∧ (s.alm.phaseW < lpeEndQ s) :=
  ⟨4000, { run_ with alm := { (run_).alm with stage := 1, phaseW := 0 } }, ⟨by decide +kernel, by decide +kernel, by decide +kernel, by decide +kernel⟩, by decide +kernel⟩

theorem wit_TickPhases_5 : ∃ (dt : Nat) (s : State),
    (runsAlone s) ∧ ((s.alm.phaseW : Int) ≤ (s.begin dt).phaseQ) ∧ (s.alm.stage = 2) ∧ ((s.begin dt).phaseQ ≤ ((s.alm.phaseW + 150 * nsecQ : Nat) : Int)) ∧ (s.dev = .run) :=
  ⟨0, { run_ with alm := { (run_).alm with stage := 2, phaseW := 0 } }, ⟨by decide +kernel, by decide +kernel, by decide +kernel, by decide +kernel⟩, by decide +kernel⟩

theorem wit_TickPhases_6 : ∃ (dt : Nat) (s : State),
    (runsAlone s) ∧ ((s.alm.phaseW : Int) ≤ (s.begin dt).phaseQ) ∧ (s.alm.stage = 1) :=
  ⟨0, { run_ with alm := { (run_).alm with stage := 1, phaseW := 0 } }, ⟨by decide +kernel, by decide +kernel, by decide +kernel, by decide +kernel⟩, by decide +kernel⟩

theorem wit_TickPhases_7 : ∃ (dt : Nat) (s : State),
    (runsAlone s) ∧ ((s.alm.phaseW : Int) ≤ (s.begin dt).phaseQ) ∧ (s.alm.stage = 2) ∧ (((s.alm.phaseW + 150 * nsecQ : Nat) : Int) < (s.begin dt).phaseQ) :=
  ⟨16000, { run_ with alm := { (run_).alm with stage := 2, phaseW := 0 } }, ⟨by decide +kernel, by decide +kernel, by decide +kernel, by decide +kernel⟩, by decide +kernel⟩

theorem wit_TickPhases_8 : ∃ (dt : Nat) (s : State),
    (s.pinsHold = true) ∧ (s.alm.stage ≠ 1 ∨ (s.begin dt).phaseQ < (s.freezeQ : Int)) :=
  ⟨0, run_, by decide⟩

theorem wit_TickPhases_9 : ∃ (dt : Nat) (s : State),
    (s.pinsHold = true) ∧ ((s.begin dt).phaseQ < (s.alm.phaseW : Int)) :=
  ⟨0, run_, by decide +kernel⟩

theorem wit_AfterTheWindow_1 : ∃ (dt : Nat) (s : State),
    ((s.begin dt).strikes 0 (250 * nsecQ) 0 = true) :=
  ⟨160000, withPort 63 (fun q => { q with edges := [{ ch := 255, high := true, on := false, fclr := false, id := 0, exec := 5, release := 5 }] }) run_, by decide +kernel⟩

theorem wit_AfterTheWindow_2 : ∃ (dt : Nat) (s : State),
    ((s.begin dt).strikes 0 (10000 * nsecQ) 0 = true) :=
  ⟨160000, withPort 63 (fun q => { q with st := .ready }) run_, by decide +kernel⟩

theorem wit_AfterTheWindow_3 : ∃ (dt : Nat) (s : State),
    (s.pinsHold = true) ∧ ((s.begin dt).strikes 0 (250 * nsecQ) 0 = false) :=
  ⟨1, run_, by decide +kernel⟩

theorem wit_AfterTheWindow_4 : ∃ (dt : Nat) (s : State),
    (s.pinsHold = true) ∧ ((s.begin dt).strikes 0 (10000 * nsecQ) 0 = false) :=
  ⟨1, run_, by decide +kernel⟩

theorem wit_AfterTheWindow_5 : ∃ (dt : Nat) (s : State),
    (s.pinsHold = true) ∧ ((s.begin dt).strikes 0 s.alm.period s.alm.origin = false) :=
  ⟨1, run_, by decide +kernel⟩

theorem wit_AfterTheWindow_6 : ∃ (dt : Nat) (s : State) (x : Trans),
    ((s.begin dt).strikes 0 s.alm.period s.alm.origin = true) ∧ (s.trans = [x]) ∧ (x.kind = 0) ∧ (x.tick ≤ (s.begin dt).tickNow) ∧ (s.dev = .parked) ∧ (s.clk.cpll = .locked) ∧ (s.clk.fpll = .locked) ∧ (s.clk.tpll = .locked) ∧ (armWaits s = false) ∧ (s.rdn.role ≠ 3) ∧ (s.pend = []) ∧ (checkAll (armConfig { s.begin dt with trans := [], sys := { s.sys with revert := false } }) = none) ∧ ((compileLpe (armConfig { s.begin dt with trans := [], sys := { s.sys with revert := false } }).wire).isOk = true) :=
  ⟨160000, arming armable, { kind := 0, part := 1, tick := 1 }, by decide +kernel⟩

theorem wit_AfterTheWindow_7 : ∃ (dt : Nat) (s : State) (x : Trans) (e : Ref),
    ((s.begin dt).strikes 0 s.alm.period s.alm.origin = true) ∧ (s.trans = [x]) ∧ (x.kind = 0) ∧ (x.tick ≤ (s.begin dt).tickNow) ∧ (s.dev = .parked) ∧ (s.clk.cpll = .locked) ∧ (s.clk.fpll = .locked) ∧ (s.clk.tpll = .locked) ∧ (armWaits s = false) ∧ (s.rdn.role ≠ 3) ∧ (s.pend = []) ∧ (checkAll (armConfig { s.begin dt with trans := [], sys := { s.sys with revert := false } }) = some e) :=
  ⟨160000, arming (setF 17 0 1 2 armable), { kind := 0, part := 1, tick := 1 }, { status := 34, d0 := 285212674, d1 := 285216770 }, by decide +kernel⟩

theorem wit_AfterTheWindow_8 : ∃ (dt : Nat) (s : State) (p : Fin 64) (hop : Fin 4) (w : Sweep),
    ((∀ x ∈ s.spu.sweeps, x.step ≤ 3 → x.pos ∉ x.hit)) ∧ (sweepOf s p hop = some w) ∧ (((s.port p).reqs.any (fun r => r.hop == hop.val && (r.use == 2 || r.use == 3))) = false) ∧ (w.step = 0 ∨ w.step = 2 ∨ w.step = 4) ∧ ((s.begin dt).now < w.askedAt + sweepWait s w.step) :=
  ⟨0, { run_ with spu := { run_.spu with sweeps := [{ port := 63, hop := 3, pos := 0, step := 4, askedAt := 0 }] } }, 63, 3, { port := 63, hop := 3, pos := 0, step := 4, askedAt := 0 }, by decide +kernel⟩

theorem wit_AfterTheWindow_9 : ∃ (dt : Nat) (s : State) (p : Fin 64) (hop : Fin 4) (w : Sweep),
    ((∀ x ∈ s.spu.sweeps, x.step ≤ 3 → x.pos ∉ x.hit)) ∧ (sweepOf s p hop = some w) ∧ (((s.port p).reqs.any (fun r => r.hop == hop.val && (r.use == 2 || r.use == 3))) = false) ∧ (w.step = 0 ∨ w.step = 2 ∨ w.step = 4) ∧ (w.askedAt + sweepWait s w.step ≤ (s.begin dt).now) :=
  ⟨4000000, { run_ with spu := { run_.spu with sweeps := [{ port := 63, hop := 3, pos := 0, step := 4, askedAt := 0 }] } }, 63, 3, { port := 63, hop := 3, pos := 0, step := 4, askedAt := 0 }, by decide +kernel⟩

theorem wit_AfterTheWindow_10 : ∃ (dt : Nat) (s : State) (c : Fin 256) (h : Held),
    (s.spu.held.find? (fun h => h.lr.index == c.val && mayAutoClear (s.begin dt) s.alm.tick h) = some h) ∧ (givesTurnOn (startAttempt h (s.begin dt)) s.alm.tick c = true) :=
  ⟨0, retryable, 255, heldF 0x1001 1 255 2 false, by decide +kernel⟩

theorem wit_LinkOperates_0 : ∃ (dt : Nat) (s : State),
    (s.pinsHold = true) ∧ ((s.begin dt).strikes 0 (1000 * nsecQ) 0 = false) :=
  ⟨1, run_, by decide +kernel⟩

theorem wit_LinkOperates_1 : ∃ (dt : Nat) (p : Fin 64) (s : State),
    (linkSends (s.port p).st = true) ∧ ((s.begin dt).strikes 0 (1000 * nsecQ) 0 = true) :=
  ⟨0, 63, withPort 63 (fun q => { q with st := .refused }) (run_), by decide +kernel⟩

theorem wit_LinkOperates_2 : ∃ (p : Fin 64) (s : State) (bseq : Nat) (tx : Nat),
    (linkSends (s.port p).st = true) ∧ ((tabGet s.tx.beacons p []).find? (fun e => e.1 == bseq) = some (bseq, tx)) :=
  ⟨63, { withPort 63 (fun q => { q with st := .hello }) run_ with tx := { beacons := [(63, [(65535, 0)])] } }, 65535, 0, by decide⟩

theorem wit_LinkOperates_3 : ∃ (p : Fin 64) (s : State) (pos : Fin 4),
    (linkSends (s.port p).st = true) ∧ ((s.port p).positions.testBit pos = true) :=
  ⟨63, withPort 63 (fun q => { q with st := .ready, positions := 8 }) (run_), 3, by decide⟩

theorem wit_LinkOperates_4 : ∃ (p : Fin 64) (s : State),
    ((s.port p).st = .lock) :=
  ⟨63, withPort 63 (fun q => { q with st := .lock }) (run_), by decide⟩

theorem wit_LinkOperates_5 : ∃ (dt : Nat) (p : Fin 64) (s : State) (code : Nat),
    ((s.port p).st = .hello) ∧ ((s.port p).helloAt + 100000 * nsecQ ≤ (s.begin dt).now) ∧ (agree s p (s.port p).sats = .error code) :=
  ⟨1600000, 63, withPort 63 (fun q => { q with st := .hello }) (run_), 0x3004, by decide +kernel, by decide +kernel, by rfl⟩

theorem wit_LinkOperates_6 : ∃ (dt : Nat) (p : Fin 64) (s : State) (v : Nat),
    ((s.port p).st = .hello) ∧ ((s.port p).helloAt + 100000 * nsecQ ≤ (s.begin dt).now) ∧ (agree s p (s.port p).sats = .ok v) :=
  ⟨1600000, 63, withPort 63 (fun q => { q with st := .hello, sats := [{ hop := 0, verMax := 0x30, verMin := 0x21, first := 0, chans := 4 }] }) (setF 5 63 4 0x30 (setF 5 63 3 1 run_)), 0x30, by decide +kernel, by decide +kernel, ok_of (by decide +kernel)⟩

theorem wit_LinkOperates_7 : ∃ (p : Fin 64) (s : State),
    ((∀ x ∈ s.spu.sweeps, x.step ≤ 3 → x.pos ∉ x.hit)) ∧ ((s.port p).st = .hello) :=
  ⟨63, withPort 63 (fun q => { q with st := .hello }) (run_), by decide⟩

theorem wit_LinkOperates_8 : ∃ (p : Fin 64) (hop : Fin 4) (s : State) (seq : Nat) (op : Nat) (r : CfgReq),
    ((∀ x ∈ s.spu.sweeps, x.step ≤ 3 → x.pos ∉ x.hit)) ∧ (op ≠ 1) ∧ ((s.port p).st = .config) ∧ (r.use = 0) ∧ ((s.port p).reqs.find? (fun r => r.diag == false && r.seq == seq && r.sent && r.hop == hop.val) = some r) ∧ (((s.port p).reqs.any (fun x => !(x.diag == false && x.seq == seq) && x.use == 0)) = false) :=
  ⟨63, 3, withPort 63 (fun q => { q with st := .config, reqs := [{ hop := 3, seq := 65535, diag := false, op := 2, addr := 0x0100, data := 5, sent := true, tries := 0 }] }) (run_), 65535, 2, { hop := 3, seq := 65535, diag := false, op := 2, addr := 0x0100, data := 5, sent := true, tries := 0 }, by decide⟩

theorem wit_LinkOperates_9 : ∃ (dt : Nat) (p : Fin 64) (hop : Fin 4) (s : State) (diag : Bool) (seq : Nat) (r : CfgReq),
    ((s.port p).reqs.find? (fun r => r.diag == diag && r.seq == seq && r.sent && r.hop == hop.val) = some r) ∧ (r.at_ + s.ptn 5 p 10 ≤ (s.begin dt).now) ∧ (r.tries < s.pn 5 p 9) :=
  ⟨16000000, 63, 3, withPort 63 (fun q => { q with st := .ready, reqs := [{ hop := 3, seq := 65535, diag := true, op := 2, addr := 0x0100, data := 5, sent := true, tries := 0 }] }) (setF 5 63 9 1 run_), true, 65535, { hop := 3, seq := 65535, diag := true, op := 2, addr := 0x0100, data := 5, sent := true, tries := 0 }, by decide +kernel⟩

theorem wit_LinkOperates_10 : ∃ (dt : Nat) (p : Fin 64) (hop : Fin 4) (s : State) (diag : Bool) (seq : Nat) (r : CfgReq),
    ((s.port p).reqs.find? (fun r => r.diag == diag && r.seq == seq && r.sent && r.hop == hop.val) = some r) ∧ (r.at_ + s.ptn 5 p 10 ≤ (s.begin dt).now) ∧ (s.pn 5 p 9 ≤ r.tries) ∧ (isHeld 0x3011 3 (4 * p + hop) s = false) :=
  ⟨16000000, 63, 3, withPort 63 (fun q => { q with st := .ready, reqs := [{ hop := 3, seq := 65535, diag := false, op := 2, addr := 0x0100, data := 5, sent := true, tries := 1 }] }) (setF 5 63 9 1 run_), false, 65535, { hop := 3, seq := 65535, diag := false, op := 2, addr := 0x0100, data := 5, sent := true, tries := 1 }, by decide +kernel⟩

theorem wit_LinkOperates_11 : ∃ (dt : Nat) (p : Fin 64) (hop : Fin 4) (s : State),
    ((s.port p).st = .ready) ∧ (((s.port p).sats.any (fun a => a.hop == hop.val)) = true) ∧ ((s.port p).lastRx.getD hop 0 + supEffQ s p ≤ (s.begin dt).now) ∧ (isHeld 0x3012 3 (4 * p + hop) s = false) :=
  ⟨16000000000, 63, 3, withPort 63 (fun q => { q with st := .ready, sats := [{ hop := 3, verMax := 0, verMin := 0, first := 0, chans := 1 }] }) (run_), by decide +kernel⟩

theorem wit_LinkOperates_12 : ∃ (dt : Nat) (p : Fin 64) (s : State),
    ((s.port p).st ∉ [LinkSt.off, .ready, .refused, .down]) ∧ ((s.port p).trainAt + s.ptn 5 p 12 ≤ (s.begin dt).now) :=
  ⟨1600000000000, 63, withPort 63 (fun q => { q with st := .replica, trainAt := 0 }) (run_), by decide +kernel⟩

theorem wit_LinkOperates_13 : ∃ (dt : Nat) (p : Fin 64) (s : State),
    ((s.port p).st = .down) ∧ ((s.port p).failAt + 100000000 * nsecQ ≤ (s.begin dt).now) ∧ (s.dev.live = true ∨ s.dev = .boot) ∧ (s.pend = []) ∧ (s.pn 5 p 1 ≠ 0) ∧ (s.pn 14 p 8 = 0) :=
  ⟨1600000000, 63, withPort 63 (fun q => { q with st := .down }) (setF 5 63 1 1 run_), by decide +kernel⟩

theorem wit_TransmittersKeepOrder_0 : ∃ (s : State) (p : Nat) (t : Nat) (l : List (PlyFrame × Nat)) (e : PlyFrame × Nat),
    ((plyRule s p).pick t l = some e) :=
  ⟨run_, 63, 10, [(.cfg false 0 7 1 0 0, 0), (PlyFrame.state 5 true 0 [0, 0, 0, 0], 5)], (PlyFrame.state 5 true 0 [0, 0, 0, 0], 5), by decide⟩

theorem wit_TransmittersKeepOrder_1 : ∃ (s : State) (p : Nat) (t : Nat) (l : List (PlyFrame × Nat)) (e : PlyFrame × Nat),
    ((plyRule s p).pick t l = some e) :=
  ⟨run_, 63, 10, [(.cfg false 0 7 1 0 0, 0), (PlyFrame.state 5 true 0 [0, 0, 0, 0], 5)], (PlyFrame.state 5 true 0 [0, 0, 0, 0], 5), by decide⟩

theorem wit_TransmittersKeepOrder_2 : ∃ (s : State) (p : Nat) (t : Nat) (l : List (PlyFrame × Nat)) (e : PlyFrame × Nat) (x : PlyFrame × Nat),
    ((plyRule s p).pick t l = some e) ∧ (x ∈ l) ∧ (x.2 ≤ t) :=
  ⟨run_, 63, 10, [(.cfg false 0 7 1 0 0, 0), (PlyFrame.state 5 true 0 [0, 0, 0, 0], 5)], (PlyFrame.state 5 true 0 [0, 0, 0, 0], 5), (PlyFrame.cfg false 0 7 1 0 0, 0), by decide⟩

theorem wit_TransmittersKeepOrder_3 : ∃ (s : State) (t : Nat) (l : List ((Nat × PeerFrame) × Nat)) (e : (Nat × PeerFrame) × Nat),
    ((peerRule s).pick t l = some e) :=
  ⟨paired 1 .run, 10, [(((0, PeerFrame.vig []) : Nat × PeerFrame), 0), (((1, PeerFrame.gb 3 0 0) : Nat × PeerFrame), 5)], (((1, PeerFrame.gb 3 0 0) : Nat × PeerFrame), 5), by decide⟩

theorem wit_TransmittersKeepOrder_4 : ∃ (s : State) (t : Nat) (l : List ((Nat × PeerFrame) × Nat)) (e : (Nat × PeerFrame) × Nat),
    ((peerRule s).pick t l = some e) :=
  ⟨paired 1 .run, 10, [(((0, PeerFrame.vig []) : Nat × PeerFrame), 0), (((1, PeerFrame.gb 3 0 0) : Nat × PeerFrame), 5)], (((1, PeerFrame.gb 3 0 0) : Nat × PeerFrame), 5), by decide⟩

theorem wit_TransmittersKeepOrder_5 : ∃ (s : State) (t : Nat) (l : List ((Nat × PeerFrame) × Nat)) (e : (Nat × PeerFrame) × Nat) (x : (Nat × PeerFrame) × Nat),
    ((peerRule s).pick t l = some e) ∧ (x ∈ l) ∧ (x.2 ≤ t) ∧ (peerFrom s t x.1.2 ≤ t) :=
  ⟨run_, 10, [(((0, PeerFrame.vig []) : Nat × PeerFrame), 0), (((1, PeerFrame.gb 3 0 0) : Nat × PeerFrame), 5)], (((1, PeerFrame.gb 3 0 0) : Nat × PeerFrame), 5), (((0, PeerFrame.vig []) : Nat × PeerFrame), 0), by decide⟩

theorem wit_TransmittersKeepOrder_6 : ∃ (now : Nat) (free : Nat) (c : PlyFrame) (f : PlyFrame),
    (isCfg c = true) ∧ (isImmediate f = true) ∧ (now < free) :=
  ⟨0, 10, .cfg false 0 7 1 0 0, .state 0 true 0 [0, 0, 0, 0], by decide⟩

theorem wit_TransmittersKeepOrder_7 : ∃ (s : State) (p : Nat) (now : Nat) (later : Nat) (c : PlyFrame) (f : PlyFrame),
    (isCfg c = true) ∧ (isImmediate f = true) ∧ (now + 2 * charStep s p ≤ later) ∧ (later < now + 2 * charStep s p + frameChars f * charStep s p) :=
  ⟨run_, 63, 0, 2 * charStep run_ 63, .cfg false 0 7 1 0 0, .state 0 true 0 [0, 0, 0, 0], by decide⟩

theorem wit_TransmittersKeepOrder_8 : ∃ (s : State) (now : Nat) (t : Nat) (fs : List (Nat × PeerFrame)) (l : TxLine (Nat × PeerFrame)) (f : Nat × PeerFrame),
    (s.pairEn = true) ∧ (850 * nsecQ ≤ s.alm.period) ∧ (.start t f ∈ ((peerRule s).push now fs l).2) ∧ (5 ≤ peerRank f.2) :=
  ⟨withTb 0 (fun b => { b with acc := 700 * 65536 * 2 ^ 40 }) (paired 1 .run), 0, 0, [], { cur := none, free := 0, wait := [((0, PeerFrame.vig []), 0)] }, (0, PeerFrame.vig []), by decide +kernel⟩

theorem wit_TransmittersKeepOrder_9 : ∃ (s : State) (dt : Nat) (p : Fin 64),
    (linkSends (s.port p).st = true) ∧ ((s.begin dt).strikes 0 (1000 * nsecQ) 0 = true) ∧ (tabGet? s.tx.port p = none) :=
  ⟨withPort 63 (fun q => { q with st := .hello }) run_, 0, 63, by decide +kernel⟩

theorem wit_WiresAndMonitors_2 : ∃ (dt : Nat) (s : State) (e : Nat),
    (s.spu.pulseEnd = some e) ∧ (e ≤ (s.begin dt).now) :=
  ⟨0, { run_ with spu := { run_.spu with pulseEnd := some 0 } }, 0, by decide⟩

theorem wit_WiresAndMonitors_3 : ∃ (dt : Nat) (s : State) (e : Nat),
    (s.spu.quietEnd = some e) ∧ (e ≤ (s.begin dt).now) ∧ (s.pinsHold = true) :=
  ⟨0, { run_ with spu := { run_.spu with quietEnd := some 0 } }, 0, by decide⟩

theorem wit_WiresAndMonitors_4 : ∃ (s : State) (pin : Fin 4) (width : Nat),
    (s.dev.powered = true) ∧ (s.sys.step = 9) ∧ (s.mod.latch.getLsbD pin = false) ∧ (400 ≤ width) :=
  ⟨run_, 3, 400, by decide⟩

theorem wit_WiresAndMonitors_5 : ∃ (s : State) (pin : Fin 4) (width : Nat),
    (s.dev.powered = true) ∧ (s.sys.step = 9) ∧ (s.mod.latch.getLsbD pin = false) ∧ (width < 160) :=
  ⟨run_, 3, 159, by decide⟩

theorem wit_WiresAndMonitors_6 : ∃ (dt : Nat) (s : State) (code : BitVec 16) (index : BitVec 12),
    (timedHolds (s.begin dt) code.toNat index.toNat = true) :=
  ⟨16000000000, { withHeld [heldF 0x7301 0 0 1 false] run_ with clk := { run_.clk with xmOk := true }, since := [(0x7301 * 4096, 0)] }, 0x7301, 0, by decide⟩

theorem wit_WiresAndMonitors_7 : ∃ (s : State),
    (s.dev.powered = true) ∧ (synchronised s = false) :=
  ⟨run_, by decide⟩

theorem wit_WiresAndMonitors_8 : ∃ (s : State),
    (s.dev.powered = true) ∧ (synchronised s = false) :=
  ⟨run_, by decide⟩

theorem wit_WiresAndMonitors_9 : ∃ (s : State),
    (s.dev.powered = true) ∧ (synchronised s = false) :=
  ⟨run_, by decide⟩

theorem wit_WiresAndMonitors_10 : ∃ (s : State),
    (s.dev.powered = true) ∧ (synchronised s = false) :=
  ⟨run_, by decide⟩

theorem wit_WiresAndMonitors_11 : ∃ (dt : Nat) (s : State),
    (s.pinsHold = true) ∧ ((∀ h ∈ s.spu.held, h.lr.code = 0x7001 ∨ h.lr.code = 0x7002 → (s.begin dt).now < h.time + 10000000 * nsecQ)) :=
  ⟨0, run_, by decide⟩

theorem wit_WiresAndMonitors_12 : ∃ (dt : Nat) (s : State) (h : Held),
    (h ∈ s.spu.held) ∧ (h.lr.code = 0x7001 ∨ h.lr.code = 0x7002) ∧ (h.time + 10000000 * nsecQ ≤ (s.begin dt).now) ∧ (s.dev.powered = true) ∧ (s.dev ≠ .boot) ∧ (s.sys.step = 9) ∧ (s.sys.asserted = []) :=
  ⟨160000000, withHeld [heldF 0x7001 0 0 5 true] run_, heldF 0x7001 0 0 5 true, by decide +kernel⟩

theorem wit_WiresAndMonitors_14 : ∃ (s : State),
    (s.dev.powered = true) :=
  ⟨run_, by decide⟩

theorem wit_WiresAndMonitors_15 : ∃ (s : State),
    (s.dev.powered = true) :=
  ⟨run_, by decide⟩

theorem wit_WiresAndMonitors_16 : ∃ (s : State),
    (s.dev.powered = true) :=
  ⟨run_, by decide⟩

theorem wit_SafetyCycleDecides_0 : ∃ (s : State),
    (s.dev.powered = true) ∧ (demandWaiting s = true) ∧ ((∀ e ∈ s.sfi.detected, 0x6000 ≤ e.1 ∧ e.1 < 0x7000 ∧ e.1 ≠ 0x6007)) :=
  ⟨withSfi (fun x => { x with safeHigh := true, detected := [(0x6001, 0, [])] }) run_, by decide⟩

theorem wit_SafetyCycleDecides_1 : ∃ (x : SafeIn) (s : State),
    (s.dev.powered = true) ∧ (x.edges = []) ∧ (x.back = false) ∧ (x.mon = false) ∧ (x.lockstep = false) ∧ (x.supply = false) ∧ (x.watchdog = false) ∧ ((∀ i : Fin 8, sf s i 1 = 0 ∧ sf s (0x100 + i) 1 = 0 ∧ (sout s i).pulseEnd = none ∧ (sout s i).level = x.souts.getLsbD i)) ∧ (s.sfi.detected = []) ∧ (s.sfi.resetReq = true) ∧ (s.sfi.setConfirmed = true) ∧ (safetyPend s = false) ∧ (demandPresent s = false) ∧ (causePresent s = false) ∧ (emberCause s = false) ∧ (heldCode 0x6007 s = false) :=
  ⟨quietIn, withSfi (fun x => { x with resetReq := true, setConfirmed := true }) run_, by decide⟩

theorem wit_IslandEvents_0 : ∃ (s : State),
    (s.sfi.ember = true) ∧ (s.sfi.emberLeft = 0) ∧ (heldCode 0x6006 s = false) ∧ ((∀ e ∈ s.sfi.detected, e.1 ≠ 0x6006)) :=
  ⟨withSfi (fun x => { x with ember := true, emberLeft := 0 }) (run_), by decide⟩

theorem wit_IslandEvents_1 : ∃ (s : State),
    (sf s 0x300 6 < s.sfi.supplyAge) ∧ (heldCode 0x6035 s = false) ∧ ((∀ e ∈ s.sfi.detected, e.1 ≠ 0x6035)) :=
  ⟨withSfi (fun x => { x with supplyAge := 2 ^ 33 }) (run_), by decide⟩

theorem wit_IslandEvents_2 : ∃ (s : State),
    (s.dev.powered = true) ∧ (s.sfi.latched.contains 0x6013 = false) :=
  ⟨run_, by decide⟩

theorem wit_IslandEvents_3 : ∃ (s : State),
    (s.dev.powered = true) ∧ (s.clk.xmOk = false) ∧ (s.sfi.xmLost = false) :=
  ⟨run_, by decide⟩

theorem wit_IslandEvents_4 : ∃ (s : State),
    (s.dev.powered = true) ∧ (s.clk.xmOk = true) ∧ (s.sfi.latched.contains 0x6011 = false) :=
  ⟨{ run_ with clk := { run_.clk with xmOk := true } }, by decide⟩

theorem wit_IslandEvents_5 : ∃ (dt : Nat) (s : State),
    (s.pairEn = true) ∧ (s.sfi.inForce = true) ∧ (s.sfi.mon = true) ∧ (s.sfi.forceAt + 48000000 ≤ s.clock + dt) :=
  ⟨48000000, withSfi (fun x => { x with inForce := true, mon := true }) (paired 1 .run), by decide⟩

theorem wit_IslandEvents_6 : ∃ (dt : Nat) (s : State) (j : Fin 8),
    ((sout s j).level = true) ∧ ((∀ (k : Fin 8) (e : Nat), (sout s k).pulseEnd = some e → e + steps100us ≤ s.clock + dt)) ∧ ((∀ a, (sout s j).pulseAt = some a → a + sfT s (0x100 + j) 3 ≤ s.clock + dt)) :=
  ⟨0, withSfi (fun x => { x with sout := vmod x.sout 7 (fun o => { o with level := true }) }) (run_), 7, by decide +kernel⟩

theorem wit_IslandEvents_7 : ∃ (s : State) (k : Fin 4) (bs : List Byte),
    ((sc s k).st ≠ 0) ∧ (bs.length = 20) ∧ ((crc32c (bs.take 16)).toNat ≠ ofBytesBE (bs.drop 16)) :=
  ⟨withSc 3 (fun x => { x with st := 2 }) (run_), 3, List.replicate 19 0 ++ [1], by decide +kernel⟩

theorem wit_IslandEvents_8 : ∃ (s : State) (k : Fin 4) (bs : List Byte) (l : Nat),
    ((sc s k).st ≠ 0) ∧ (bs.length = 20) ∧ ((crc32c (bs.take 16)).toNat = ofBytesBE (bs.drop 16)) ∧ (ofBytesBE (bs.take 4) = sf s (0x200 + k) 3) ∧ ((sc s k).last = some l) ∧ (1 ≤ (ofBytesBE ((bs.drop 4).take 4) + 2 ^ 32 - l) % 2 ^ 32) ∧ ((ofBytesBE ((bs.drop 4).take 4) + 2 ^ 32 - l) % 2 ^ 32 ≤ 16) :=
  ⟨withSc 3 (fun x => { x with st := 2, last := some 0xFFFFFFF8, runPermit := true }) (setF 11 0x203 6 1 (setF 11 0x203 1 1 run_)), 3, spduBytes (sf run_ 0x203 3) 8 0, 0xFFFFFFF8, by decide +kernel⟩

theorem wit_IslandEvents_9 : ∃ (dt : Nat) (s : State) (k : Fin 4),
    ((sc s k).st = 1 ∨ (sc s k).st = 2) ∧ ((sc s k).wd + sfT s (0x200 + k) 5 ≤ s.clock + dt) :=
  ⟨16000000000000, withSc 3 (fun x => { x with st := 1 }) (setF 11 0x203 6 1 (setF 11 0x203 1 1 run_)), 3, by decide⟩

theorem wit_IslandEvents_10 : ∃ (dt : Nat) (s : State) (k : Fin 4),
    ((sc s k).st ≠ 0) ∧ (sf s (0x200 + k) 2 = 0) ∧ ((sc s k).txAt + sfT s (0x200 + k) 7 ≤ s.clock + dt) :=
  ⟨16000000000, withSc 3 (fun x => { x with st := 1 }) (run_), 3, by decide⟩

theorem wit_IslandEvents_11 : ∃ (s : State),
    (s.sfi.testPhase = 1) ∧ ((∀ c ∈ servedPositions s, uvloBoth s c false = true)) :=
  ⟨withSfi (fun x => { x with testPhase := 1, safeHigh := true }) (served false run_), by decide⟩

theorem wit_IslandEvents_12 : ∃ (s : State),
    (s.sfi.testPhase = 2) ∧ ((∀ c ∈ servedPositions s, uvloBoth s c true = true)) :=
  ⟨withSfi (fun x => { x with testPhase := 2 }) (served true run_), by decide⟩

theorem wit_IslandEvents_13 : ∃ (s : State),
    (s.sfi.testPhase = 3) ∧ (s.sfi.resetTest = false) ∧ ((∀ c ∈ servedPositions s, uvloBoth s c false = true)) :=
  ⟨withSfi (fun x => { x with testPhase := 3 }) (served false run_), by decide⟩

theorem wit_IslandEvents_14 : ∃ (dt : Nat) (s : State) (v : Bool),
    (s.sfi.testPhase = (if v then 2 else 3)) ∧ (((servedPositions s).filter (fun c => !uvloBoth s c v)) ≠ []) ∧ (s.sfi.testAt + sfT s 0x300 5 ≤ s.clock + dt) :=
  ⟨16000000000000, withSfi (fun x => { x with testPhase := 2 }) (served false run_), true, by decide⟩

theorem wit_StartsAndResets_0 : ∃ (s : State),
    (s.dev.powered = true) ∧ (s.sys.asserted.contains 1 = false) :=
  ⟨run_, by decide⟩

theorem wit_StartsAndResets_1 : ∃ (s : State),
    (s.dev.powered = true) ∧ (s.sys.asserted.contains 2 = false) :=
  ⟨run_, by decide⟩

theorem wit_StartsAndResets_2 : ∃ (s : State),
    (s.dev.powered = true) ∧ (s.sec.lifecycle ≠ 2) ∧ (s.sys.asserted = []) :=
  ⟨withSec (fun x => { x with lifecycle := 1 }) (run_), by decide⟩

theorem wit_StartsAndResets_3 : ∃ (s : State),
    (s.dev.powered = true) ∧ (s.sec.lifecycle = 2) :=
  ⟨withSec (fun x => { x with lifecycle := 2 }) (run_), by decide⟩

theorem wit_StartsAndResets_4 : ∃ (s : State),
    (s.dev.powered = true) ∧ (s.sys.asserted = [2]) ∧ (s.sys.step = 0) :=
  ⟨withSys (fun x => { x with asserted := [2], step := 0 }) (up .boot), by decide⟩

theorem wit_StartsAndResets_5 : ∃ (s : State),
    (s.sys.asserted = [1]) ∧ (s.sys.step = 0) ∧ (s.sys.reach = 1) :=
  ⟨withSys (fun x => { x with asserted := [1], step := 0, reach := 1 }) (up .boot), by decide⟩

theorem wit_StartsAndResets_6 : ∃ (dt : Nat) (s : State),
    (s.dev.powered = true) ∧ (s.sys.step ≤ 8) ∧ (s.sys.stepHeld = false) ∧ (stepOpen (s.begin dt) = false) ∧ (s.pinsHold = true) :=
  ⟨0, withSys (fun x => { x with step := 7, stepAt := 0, stepBefore := 1 }) (up .boot), by decide +kernel⟩

theorem wit_StartsAndResets_7 : ∃ (dt : Nat) (s : State),
    (s.dev.powered = true) ∧ (s.sys.stepHeld = false) ∧ (stepOpen (s.begin dt) = true) ∧ (stepMet s = true) ∧ (1 ≤ s.sys.step) ∧ (s.sys.step < 8) :=
  ⟨0, withSys (fun x => { x with step := 1 }) (up .boot), by decide⟩

theorem wit_StartsAndResets_8 : ∃ (dt : Nat) (s : State),
    (s.dev.powered = true) ∧ (s.sys.stepHeld = false) ∧ (stepOpen (s.begin dt) = true) ∧ (stepMet s = true) ∧ (s.sys.step = 6) :=
  ⟨0, { withSys (fun x => { x with step := 6 }) (up .boot) with clk := { run_.clk with tpll := .locked } }, by decide⟩

theorem wit_StartsAndResets_9 : ∃ (dt : Nat) (s : State),
    (s.dev.powered = true) ∧ (s.sys.stepHeld = false) ∧ (stepOpen (s.begin dt) = true) ∧ (stepMet s = true) ∧ (s.sys.step = 8) ∧ (s.dev.live = true) ∧ (s.sys.revert = false) :=
  ⟨0, withSys (fun x => { x with step := 8 }) (up .run), by decide⟩

theorem wit_StartsAndResets_10 : ∃ (dt : Nat) (s : State),
    (s.dev.powered = true) ∧ (limitPassed (s.begin dt) = true) ∧ (s.sys.stepHeld = false) ∧ (s.sys.asserted = []) :=
  ⟨1600000000000, withSys (fun x => { x with step := 6 }) (up .boot), by decide⟩

theorem wit_StartsAndResets_11 : ∃ (dt : Nat) (s : State),
    (s.sys.startClock + s.ptn 6 0 0xA / stepQ ≤ s.clock + dt) ∧ (bootTrains s = true) ∧ (s.pend = []) :=
  ⟨16000000000000, setF 5 63 1 1 (withSys (fun x => { x with inForce := true, opt := { x.opt with startTarget := 1 } }) (up .boot)), by decide +kernel⟩

theorem wit_StartsAndResets_12 : ∃ (dt : Nat) (s : State),
    (s.dev = .boot) ∧ (s.sys.step = 9) ∧ (s.sys.inForce = true) ∧ (s.sys.fallback = false) ∧ ((s.begin dt).strikes 0 s.alm.period s.alm.origin = true) ∧ (s.sys.opt.startTarget = 0) :=
  ⟨0, withSys (fun x => { x with inForce := true }) (up .boot), by decide⟩

theorem wit_StartsAndResets_13 : ∃ (dt : Nat) (s : State),
    (s.dev = .boot) ∧ (s.sys.step = 9) ∧ (s.sys.inForce = true) ∧ (s.sys.fallback = false) ∧ ((s.begin dt).strikes 0 s.alm.period s.alm.origin = true) ∧ (s.sys.opt.startTarget ≠ 0) ∧ (s.alm.acqDone = true) ∧ (portsSettled s = true) ∧ (armWaits s = false) ∧ (checkAll (s.begin dt) = none) ∧ ((compileLpe s.wire).isOk = true) :=
  ⟨0, { withSys (fun x => { x with inForce := true, opt := { x.opt with startTarget := 1 } }) (up .boot) with alm := { (up .boot).alm with acqDone := true } }, by decide +kernel⟩

theorem wit_StartsAndResets_14 : ∃ (dt : Nat) (s : State) (c : Nat),
    (s.sys.targetClock = some c) ∧ (s.sys.succeeded = false) ∧ (c + s.sys.opt.startOk * 16000000000 ≤ s.clock + dt) :=
  ⟨960000000000, withSys (fun x => { x with targetClock := some 0 }) (run_), 0, by decide⟩

theorem wit_StartsAndResets_15 : ∃ (s : State),
    (s.sys.trial = true) ∧ (s.sys.trialLeft = 0) ∧ (s.sys.inForce = true) ∧ (s.sys.revert = false) ∧ (s.awake = true) ∧ (s.sys.asserted = []) :=
  ⟨withSys (fun x => { x with trial := true, inForce := true }) (run_), by decide⟩

theorem wit_StartsAndResets_16 : ∃ (s : State),
    (s.sys.trial = true) ∧ (s.sys.trialLeft = 0) ∧ (s.sys.inForce = true) ∧ (s.sys.revert = false) ∧ (s.dev = .parked ∨ s.dev = .boot) ∧ (patStands s (prevPat s) = true) :=
  ⟨withSys (fun x => { x with trial := true, inForce := true, trialLeft := 0, cur := 0, slot := x.slot.set 1 { valid := true, counter := 7 } }) (up .parked), by decide⟩

theorem wit_KeeperAndBist_0 : ∃ (dt : Nat) (s : State),
    (keeperRuns s = true) ∧ (secondDue (s.begin dt) = true) :=
  ⟨0, up .parked, by decide⟩

theorem wit_KeeperAndBist_1 : ∃ (s : State),
    (s.dev.powered = true) ∧ (s.sys.mirrorSec + 10 ≤ s.sys.keepSec ∨ s.sys.keepSec < s.sys.mirrorSec) :=
  ⟨withSys (fun x => { x with keepSec := 10 }) (up .parked), by decide⟩

theorem wit_KeeperAndBist_2 : ∃ (s : State),
    (s.dev.powered = true) :=
  ⟨up .parked, by decide⟩

theorem wit_KeeperAndBist_5 : ∃ (s : State) (code : Nat) (n : Nat),
    (s.pend = []) ∧ (s.sys.blk.find? (fun e => e.1 == code) = some (code, n)) :=
  ⟨withSys (fun x => { x with blk := [(3, 0)] }) (run_), 3, 0, by decide⟩

theorem wit_KeeperAndBist_6 : ∃ (dt : Nat) (s : State) (code : Nat) (n : Nat),
    (s.pend = []) ∧ (s.sys.blk.find? (fun e => e.1 == code) = some (code, n)) ∧ (n + s.ptn 15 0 0x11 / stepQ ≤ s.clock + dt) :=
  ⟨16000000000000, withSys (fun x => { x with blk := [(3, 0)] }) (run_), 3, 0, by decide⟩

theorem wit_KeeperAndBist_7 : ∃ (p : Fin 8) (s : State),
    (Granted p 0x0801 0x300 (.priv pvService) false s) ∧ (s.dev = .parked ∨ s.dev = .armed) ∧ (s.sys.bist ≠ 1) :=
  ⟨1, up .parked, granted_of (by decide), by decide⟩

theorem wit_KeeperAndBist_8 : ∃ (p : Fin 8) (s : State),
    (Granted p 0x0801 0x300 (.priv pvService) false s) ∧ (s.dev ≠ .parked) ∧ (s.dev ≠ .armed) :=
  ⟨1, run_, granted_of (by decide), by decide⟩

theorem wit_KeeperAndBist_9 : ∃ (p : Fin 8) (s : State),
    (s.sys.bist = 1) ∧ (s.dev = .parked) ∧ (s.sys.bistPart = p.val) ∧ ((s.hp p).drop = false) :=
  ⟨1, withSys (fun x => { x with bist := 1, bistMask := 1, bistPart := 1 }) (up .parked), by decide⟩

theorem wit_KeeperAndBist_10 : ∃ (p : Fin 8) (s : State),
    (Accepts p 0x0802 0x300 s) :=
  ⟨1, up .parked, accepts_of (by decide)⟩

theorem wit_PatternCommands_0 : ∃ (p : Fin 8) (s : State) (ws : List Word),
    (Granted p 0x0601 0x300 (patRight s p) (patRight s p).acts s) ∧ (s.dev ≠ .fallback) ∧ (16 + 4 * (1 + ws.length) ≤ maxMsg s p) :=
  ⟨1, up .parked, [1, 2, 3], granted_of (by decide), by decide⟩

theorem wit_PatternCommands_2 : ∃ (dt : Nat) (p : Fin 8) (s : State) (r : Ref),
    (Granted p 0x0602 0x300 (patRight s p) (patRight s p).acts s) ∧ (s.dev ≠ .fallback) ∧ (verifyPat (takeMsg p 0x0602 (s.begin dt)) = .error r) :=
  ⟨0, 1, up .parked, ⟨0x55, 0, 0⟩, granted_of (by decide), by decide, err_of (by decide)⟩

theorem wit_PatternCommands_3 : ∃ (p : Fin 8) (s : State) (w : Word) (x : Pat),
    (Granted p 0x0603 0x300 (actRight s p) (actRight s p).acts s) ∧ (s.dev ≠ .fallback) ∧ (s.dev = .parked ∨ waitsPattern s = true) ∧ (s.sys.trial = false) ∧ (s.sys.verified = some x) ∧ (s.sys.patHigh < x.counter) ∧ (w = 0 ∨ (600 ≤ w.toNat ∧ w.toNat ≤ 86400)) ∧ (s.sys.cur < 2) :=
  ⟨1, withSys (fun x => { x with verified := some ({ valid := true, counter := 7 }) }) (up .parked), 600, { valid := true, counter := 7 }, granted_of (by decide), by decide⟩

theorem wit_PatternCommands_4 : ∃ (p : Fin 8) (s : State) (w : Word),
    (Granted p 0x0604 0x300 .token true s) ∧ (s.dev ≠ .fallback) ∧ (s.sys.trial = true) ∧ (s.sys.trialLeft ≠ 0) ∧ ((patOf s).counter = w.toNat) :=
  ⟨1, withSys (fun x => { x with trial := true, trialLeft := 600, cur := 0, slot := x.slot.set 0 ({ valid := true, counter := 7 }) }) (up .run), 7, granted_of (by decide), by decide⟩

theorem wit_PatternCommands_5 : ∃ (p : Fin 8) (s : State),
    (Granted p 0x0605 0x300 .token true s) ∧ (s.dev ≠ .fallback) ∧ (s.dev = .parked ∨ waitsPattern s = true) ∧ (patStands s (prevPat s) = true) ∧ (ctrOf s 1 ≤ (prevPat s).counter) :=
  ⟨1, withSys (fun x => { x with cur := 0, slot := x.slot.set 1 ({ valid := true, counter := 7 }) }) (up .parked), granted_of (by decide), by decide⟩

theorem wit_PatternCommands_6 : ∃ (p : Fin 8) (s : State),
    (Granted p 0x0606 0x300 .observe false s) ∧ (s.dev ≠ .fallback) :=
  ⟨1, up .parked, granted_of (by decide), by decide⟩

theorem wit_SecurityCommands_0 : ∃ (p : Fin 8) (s : State) (slot : Fin 2) (ws : List Word),
    (Granted p 0x0610 0x300 (.priv pvService) false s) ∧ (slot.val ≠ s.sys.runSlot) ∧ (16 + 4 * (2 + ws.length) ≤ maxMsg s p) :=
  ⟨1, up .parked, 1, [1, 2], granted_of (by decide), by decide⟩

theorem wit_SecurityCommands_2 : ∃ (p : Fin 8) (s : State) (slot : Fin 2),
    (Granted p 0x0611 0x300 (.priv pvService) false s) ∧ (imageGood s (imageBytes (fwSlot s slot)) = false) :=
  ⟨1, up .parked, 1, granted_of (by decide), (by rw [show imageBytes (fwSlot (up .parked) ((1 : Fin 2) : Nat)) = [] from (by decide)]; simp [imageGood, signedBy, sigLen])⟩

theorem wit_SecurityCommands_3 : ∃ (p : Fin 8) (s : State),
    (Granted p 0x0612 0x300 (.priv pvService) false s) :=
  ⟨1, up .parked, granted_of (by decide)⟩

theorem wit_SecurityCommands_4 : ∃ (p : Fin 8) (s : State),
    (Granted p 0x0701 0x400 .observe false s) :=
  ⟨1, up .parked, granted_of (by decide)⟩

theorem wit_SecurityCommands_5 : ∃ (p : Fin 8) (s : State) (item : Word),
    (Granted p 0x0701 0x400 .observe false s) ∧ (2 < item.toNat) :=
  ⟨1, up .parked, 3, granted_of (by decide), by decide⟩

theorem wit_SecurityCommands_6 : ∃ (p : Fin 8) (s : State),
    (Granted p 0x0702 0x400 .observe false s) ∧ (s.sec.idKey ≠ []) :=
  ⟨1, withSec (fun x => { x with idKey := [1], lifecycle := 1 }) (up .parked), granted_of (by decide), by decide⟩

theorem wit_SecurityCommands_7 : ∃ (p : Fin 8) (s : State),
    (Granted p 0x0702 0x400 .observe false s) ∧ (s.sec.idKey = []) :=
  ⟨1, up .parked, granted_of (by decide), by decide⟩

theorem wit_SecurityCommands_8 : ∃ (p : Fin 8) (s : State),
    (Granted p 0x0703 0x400 (.priv pvService) false s) ∧ (s.sec.lifecycle = 0) ∧ (maxMsg s p = 4096) :=
  ⟨1, up .parked, granted_of (by decide), by decide⟩

theorem wit_SecurityCommands_9 : ∃ (p : Fin 8) (s : State),
    (Granted p 0x0703 0x400 (.priv pvService) false s) ∧ (s.sec.lifecycle ≠ 0) :=
  ⟨1, withSec (fun x => { x with lifecycle := 1 }) (up .parked), granted_of (by decide), by decide⟩

theorem wit_SecurityCommands_10 : ∃ (p : Fin 8) (s : State) (ws : List Word),
    (Granted p 0x0703 0x400 (.priv pvService) false s) ∧ (s.dev = .parked ∨ s.dev = .boot) ∧ (s.sec.ownerKey = []) ∧ (s.sec.bufOp = 2) ∧ (s.sec.buf.length + 4 * ws.length = 2592) ∧ (s.sec.buf ≠ []) ∧ (16 + 4 * (2 + ws.length) ≤ maxMsg s p) :=
  ⟨1, withSec (fun x => { x with bufOp := 2, buf := [1, 2, 3, 4] }) (up .parked), List.replicate 647 0x01020304, granted_of (by decide +kernel), by decide +kernel⟩

theorem wit_SecurityCommands_11 : ∃ (p : Fin 8) (s : State),
    (Granted p 0x0703 0x400 (.priv pvService) false s) ∧ (s.sec.lifecycle = 1) ∧ (s.sec.cert ≠ []) :=
  ⟨1, withSec (fun x => { x with lifecycle := 1, cert := [1] }) (up .parked), granted_of (by decide), by decide⟩

theorem wit_SecurityCommands_13 : ∃ (p : Fin 8) (s : State) (k : Word) (v : Word),
    (Granted p 0x0703 0x400 (.priv pvService) false s) ∧ (16 ≤ k.toNat) ∧ (k.toNat ≤ 31) ∧ (ctrOf s k.toNat < v.toNat) :=
  ⟨1, up .parked, 31, 1, granted_of (by decide), by decide⟩

theorem wit_SecurityCommands_14 : ∃ (p : Fin 8) (s : State),
    (Granted p 0x0703 0x400 (.priv pvService) false s) :=
  ⟨1, withSec (fun x => { x with latch := 7 }) (up .parked), granted_of (by decide)⟩

theorem wit_SecurityCommands_15 : ∃ (s : State) (i : Fin 2),
    (keeperRuns s = true) ∧ (s.pn 16 i 1 = 1) ∧ (s.sec.latch.getLsbD i = false) :=
  ⟨setF 16 1 1 1 (setF 16 1 2 2 (withSec (fun x => { x with ownerKey := [1], idKey := [1] }) (run_))), 1, by decide⟩

theorem wit_ReadsAndParameters_0 : ∃ (p : Fin 8) (s : State) (ids : List Word),
    (Granted p 0x0301 0x300 .observe false s) ∧ (16 + 4 * (1 + ids.length) ≤ maxMsg s p) ∧ ((∀ w ∈ ids, (rowOf w.toNat).isSome = true)) ∧ (16 + 32 * ids.length ≤ maxMsg s p) :=
  ⟨1, up .run, [BitVec.ofNat 32 (mkId 1 3 1)], granted_of (by decide +kernel), by decide +kernel, (by simp only [List.mem_singleton, forall_eq]; decide +kernel), by decide +kernel⟩

theorem wit_ReadsAndParameters_1 : ∃ (p : Fin 8) (s : State) (ids : List Word) (i : Nat),
    (Granted p 0x0301 0x300 .observe false s) ∧ (16 + 4 * (1 + ids.length) ≤ maxMsg s p) ∧ (i < ids.length) ∧ (rowOf (ids.getD i 0).toNat = none) ∧ ((∀ j : Nat, j < i → rowOf (ids.getD j 0).toNat ≠ none)) :=
  ⟨1, up .run, [BitVec.ofNat 32 (mkId 1 3 1), 0xFFFFFFFF], 1, granted_of (by decide +kernel), by decide +kernel⟩

theorem wit_ReadsAndParameters_2 : ∃ (dt : Nat) (p : Fin 8) (s : State) (es : List (Nat × Wire)),
    (Granted p 0x0302 0x300 .observe false s) ∧ (s.dev ≠ .fallback) ∧ (16 + 4 * (1 + 3 * es.length) ≤ maxMsg s p) ∧ ((∀ e ∈ canonSet es, idUnit e.1 ≠ 13 ∧ idUnit e.1 ≠ 17 ∧ isCmd s e.1 = false)) ∧ (setRefusal (takeMsg p 0x0302 (s.begin dt)) p 0 (canonSet es) = none) :=
  ⟨0, 1, up .run, [(mkId 6 3 5, 5), (mkId 6 3 5, 6)], granted_of (by decide +kernel), by decide +kernel⟩

theorem wit_ReadsAndParameters_3 : ∃ (dt : Nat) (p : Fin 8) (s : State) (es : List (Nat × Wire)),
    (Granted p 0x0303 0x401 .observe false s) ∧ (16 + 4 * (2 + 3 * es.length) ≤ maxMsg s p) ∧ (es.length ≤ 256) ∧ (setRefusal (takeMsg p 0x0303 (s.begin dt)) p 0 (canonSet es) = none) :=
  ⟨0, 1, up .run, [(mkId 6 3 5, 5)], granted_of (by decide +kernel), by decide +kernel⟩

theorem wit_ReadsAndParameters_4 : ∃ (p : Fin 8) (s : State),
    (Granted p 0x0304 0x401 .token true s) :=
  ⟨1, { up .run with hst := { (up .run).hst with staged := [(15, [])] } }, granted_of (by decide)⟩

theorem wit_ReadsAndParameters_5 : ∃ (p : Fin 8) (s : State) (id : Word) (r : Row),
    (Granted p 0x0305 0x402 .observe false s) ∧ (rowOf id.toNat = some r) :=
  ⟨1, up .run, BitVec.ofNat 32 (mkId 1 3 1), aRow (mkId 1 3 1), granted_of (by decide +kernel), by decide +kernel⟩

theorem wit_ReadsAndParameters_6 : ∃ (p : Fin 8) (s : State) (id : Word),
    (Granted p 0x0305 0x402 .observe false s) ∧ (rowOf id.toNat = none) :=
  ⟨1, up .run, 0xFFFFFFFF, granted_of (by decide +kernel), by decide +kernel⟩

theorem wit_ReadsAndParameters_7 : ∃ (p : Fin 8) (s : State),
    (Granted p 0x0401 0x300 .observe false s) :=
  ⟨1, up .run, granted_of (by decide)⟩

theorem wit_ReadsAndParameters_8 : ∃ (p : Fin 8) (s : State),
    (Granted p 0x0406 0x400 .observe false s) :=
  ⟨1, up .run, granted_of (by decide)⟩

theorem wit_ReadsAndParameters_9 : ∃ (p : Fin 8) (s : State),
    (Granted p 0x0501 0x300 .observe false s) :=
  ⟨1, withHeld [heldF 0x1001 1 255 2 false] run_, granted_of (by decide)⟩

theorem wit_ReadsAndParameters_10 : ∃ (p : Fin 8) (s : State),
    (Granted p 0x0502 0x300 .observe false s) :=
  ⟨1, up .run, granted_of (by decide)⟩

theorem wit_ReadsAndParameters_11 : ∃ (p : Fin 8) (s : State),
    (Granted p 0x0503 0x300 .observe false s) :=
  ⟨1, up .run, granted_of (by decide)⟩

theorem wit_ReadsAndParameters_12 : ∃ (p : Fin 8) (s : State),
    (Granted p 0x0503 0x300 .observe false s) :=
  ⟨1, up .run, granted_of (by decide)⟩

theorem wit_ReadsAndParameters_13 : ∃ (s : State) (n : Fin 64) (f : EthFrame),
    (s.dev.powered = true) ∧ (isEth s n = true) ∧ ((lane s n).pst = 0) ∧ (ethGood f = true) ∧ (vidMatches f (lf s.wire n 0x10) = false) ∧ (ptpTakes s n f = false) :=
  ⟨laneUp 63 3 id, 63, { len := 64, fcsOk := true, vid := some 5, kind := .other }, by decide⟩

theorem wit_ReadsAndParameters_14 : ∃ (s : State) (n : Fin 64) (f : EthFrame),
    (s.dev.powered = true) ∧ (isEth s n = true) ∧ ((lane s n).pst = 0) ∧ (ethGood f = true) ∧ (vidMatches f (lf s.wire n 0x10) = true) ∧ (f.kind = .arp (lf s.wire n 0x11)) :=
  ⟨laneUp 63 3 id, 63, { len := 64, fcsOk := true, vid := none, kind := .arp (lf (laneUp 63 3 id).wire 63 0x11) }, by decide⟩

theorem wit_TxAbortTakesEffect_0 : ∃ (p : Fin 8) (n : Fin 4) (b : Fin 3) (s : State),
    (FieldGranted p .token s) ∧ ((b.val = 2 → islandOwns s n = false ∧ (can s n).safety = none)) ∧ ((txb s n b).st = 1) :=
  ⟨1, 3, 1, canUp 3 1 { st := 1 }, fieldGranted_of (by decide), by decide⟩

theorem wit_TxAbortTakesEffect_1 : ∃ (p : Fin 8) (n : Fin 4) (b : Fin 3) (s : State),
    (FieldGranted p .token s) ∧ ((b.val = 2 → islandOwns s n = false ∧ (can s n).safety = none)) ∧ ((txb s n b).st = 2) ∧ ((∀ c : Fin 3, c ≠ b → (txb s n c).st ≠ 2)) :=
  ⟨1, 3, 1, canUp 2 1 sendBuf, fieldGranted_of (by decide), by decide⟩

theorem wit_GroupBlockCovers_0 : ∃ (s : State) (p : Fin 8) (v : Word),
    (Granted p 0x0302 0x300 .token true s) ∧ (s.dev ≠ .fallback) ∧ (15 < v.toNat) :=
  ⟨up .armed, 1, 16, granted_of (by decide), by decide⟩

theorem wit_EventsKeepConfiguration_0 : ∃ (c : Instr),
    (eventOnly c = true) :=
  ⟨.linkSupervision 0 63 3, by decide⟩

/-- A fault that GROUP_BLOCK of channel 5's group answers is held, and the channel it covers with it is another of the group. -/
theorem wit_GroupBlockCovers_1 : ∃ (s : State) (h : Held), isHeld 0x2140 8 0 s = false ∧ cfgReact s 0x2140 = 3 ∧ withdrawCode 0x2140 = false ∧
    h ∈ (raise 0x2140 8 0 0 0 [5] s).spu.held ∧ sameFault 0x2140 8 0 h = true ∧ s.pn 4 7 1 = s.pn 4 5 1 ∧ s.pn 4 5 1 ≠ s.pn 4 6 1 := by
  have k := raise_held 0x2140 8 0 0 0 [5] (setF 4 0xF02 0x140 3 (setF 4 5 1 2 (setF 4 7 1 2 (up .run)))) (by decide)
  obtain ⟨h, a, b⟩ := List.any_eq_true.mp k
  exact ⟨_, h, by decide, by decide, by decide, a, b, by decide⟩

/-! Conditional witnesses: what signature checks answer is left to the implementation (Config), so these hold where it answers so. -/

/-- A signature block of KIND 0 by a key whose KEY_ID is eight zeros (Table 20-2). -/
def aSig : List Byte :=
  bytesBE 4 0x53494742 ++ List.replicate 12 0 ++ bytesBE 4 4627 ++ List.replicate 4628 0
theorem aSig_length : aSig.length = sigLen := by decide +kernel
theorem signed_of {key hd : List Byte} (hk : (Config.sha3 key).take 8 = List.replicate 8 0)
    (hv : Config.verify key (Config.sha3 hd) ((aSig.drop 20).take 4627) = true) : signedBy 0 key (hd ++ aSig) = true := by
  have e : (hd ++ aSig).length - sigLen = hd.length := by rw [List.length_append, aSig_length]; omega
  have l : sigLen ≤ (hd ++ aSig).length := by rw [List.length_append, aSig_length]; omega
  have h : fieldBE aSig 0 4 = 0x53494742 ∧ fieldBE aSig 4 1 = 0 ∧ (aSig.drop 8).take 8 = List.replicate 8 0 ∧ fieldBE aSig 16 4 = 4627 ∧
      fieldBE aSig 4647 1 = 0 := by decide +kernel
  obtain ⟨h1, h2, h3, h4, h5⟩ := h
  unfold signedBy
  simp only [e, List.drop_left, List.take_left, h1, h2, h3, h4, h5, hv, l, keyId, hk]
  rfl

/-- A firmware image that F1 accepts: any header, a key of zeros and its signature block (SecurityCommands). -/
theorem wit_SecurityCommands_1 (hk : Config.sha3 (List.replicate 2592 0) = Config.vk 0) (h8 : (Config.vk 0).take 8 = List.replicate 8 0)
    (hv : ∀ m : List Byte, Config.verify (List.replicate 2592 0) m ((aSig.drop 20).take 4627) = true) :
    ∃ bs : List Byte, imageGood State.reset bs = true := by
  refine ⟨List.replicate 2592 0 ++ aSig, ?_⟩
  have e : ((List.replicate 2592 (0 : Byte) ++ aSig).drop ((List.replicate 2592 (0 : Byte) ++ aSig).length - sigLen - 2592)).take 2592 =
      List.replicate 2592 0 := by
    rw [show (List.replicate 2592 (0 : Byte) ++ aSig).length - sigLen - 2592 = 0 by
      rw [List.length_append, aSig_length, List.length_replicate]; decide]
    simp
  unfold imageGood
  have c : ctrOf State.reset 0 = 0 := by decide
  simp only [e, hk, c, signed_of (hk ▸ h8) (hv _)]
  simp

theorem rma_length {s : State} {b : List Byte} (hb : s.sec.buf = b) (k : b.length = 4652) :
    s.sec.buf.length + 4 * [(0 : Word)].length = 8 + sigLen := by
  rw [hb, k, List.length_singleton]; decide
/-- An RMA authorisation that is accepted: the UID and its signature block, the last word sent with the command (SecurityCommands). -/
theorem wit_SecurityCommands_12 (hk : (Config.sha3 Config.rmaKey).take 8 = List.replicate 8 0)
    (hv : ∀ m : List Byte, Config.verify Config.rmaKey m ((aSig.drop 20).take 4627) = true) :
    ∃ (s : State) (ws : List Word), Granted 1 0x0703 0x400 (.priv pvService) false s ∧ s.sec.lifecycle ≠ 3 ∧ s.sec.bufOp = 4 ∧
      s.sec.buf.length + 4 * ws.length = 8 + sigLen ∧ s.sec.buf ≠ [] ∧ (s.sec.buf ++ wordBytes ws).take 8 = bytesBE 8 Config.uid.toNat ∧
      signedBy 0 Config.rmaKey (s.sec.buf ++ wordBytes ws) = true ∧ 16 + 4 * (2 + ws.length) ≤ maxMsg s 1 := by
  have n : (bytesBE 8 Config.uid.toNat).length = 8 := rfl
  have w : aSig = aSig.take 4644 ++ wordBytes [0] := by decide +kernel
  have l : (aSig.take 4644).length = 4644 := by decide +kernel
  refine ⟨withSec (fun x => { x with bufOp := 4, buf := bytesBE 8 Config.uid.toNat ++ aSig.take 4644 }) (up .parked), [0],
    granted_of (by rfl), by decide, rfl, ?_, ?_, ?_, ?_, by decide⟩
  · have k : (bytesBE 8 Config.uid.toNat ++ aSig.take 4644).length = 4652 := by rw [List.length_append, n, l]
    exact rma_length rfl k
  · show bytesBE 8 Config.uid.toNat ++ aSig.take 4644 ≠ []
    exact fun h => by have := congrArg List.length h; rw [List.length_append, n, l] at this; simp at this
  · show ((bytesBE 8 Config.uid.toNat ++ aSig.take 4644) ++ wordBytes [0]).take 8 = _
    rw [List.append_assoc, List.take_left' n]
  · show signedBy 0 Config.rmaKey ((bytesBE 8 Config.uid.toNat ++ aSig.take 4644) ++ wordBytes [0]) = true
    rw [List.append_assoc, ← w]
    exact signed_of hk (hv _)

/-- The staged bytes of a pattern without entries whose digest is sixty-four zeros: COUNTER 7, FW_MIN 0, part 0x8256A0 (Table 19-7). -/
def aPattern : List Byte :=
  bytesBE 4 0x47575054 ++ bytesBE 4 0x00010000 ++ bytesBE 4 7 ++ bytesBE 4 4776 ++ bytesBE 4 0x8256A000 ++ List.replicate 4756 0

theorem verify_of {s : State} (f : patFault s.sys.staging = none)
    (k : (decide (s.sys.staging.length < 32) || decide (s.sys.staging.length < patLength s.sys.staging)) = false ∧
      (decide (fieldBE s.sys.staging 16 4 / 256 ≠ 0x8256A0) || decide ((fwSlot s s.sys.runSlot).version < (parsePat s.sys.staging).fwMin)) = false ∧
      s.sec.ownerKey.isEmpty = true ∧ (decide (s.sec.lifecycle = 0) || decide (s.sec.lifecycle = 3) || s.sec.idKey.isEmpty) = false ∧
      ¬(parsePat s.sys.staging).counter ≤ s.sys.patHigh ∧ ¬(parsePat s.sys.staging).counter < ctrOf s 1 ∧
      patCheck s (parsePat s.sys.staging) = none) : verifyPat s = .ok (parsePat s.sys.staging) := by
  unfold verifyPat
  simp only [f, k, if_false, Bool.not_true, Bool.false_and, Bool.true_and, Bool.false_eq_true]
def verifiable : State :=
  takeMsg 1 0x0602 ((withSec (fun x => { x with idKey := [1], lifecycle := 1 }) (withSys (fun x => { x with staging := aPattern }) (up .parked))).begin 0)

/-- PATTERN_VERIFY accepts it on a device without an owner key (PatternCommands). -/
theorem wit_PatternCommands_1 (h : Config.sha3 [] = List.replicate 64 0) :
    ∃ (s : State) (x : Pat), Granted 1 0x0602 0x300 (patRight s 1) (patRight s 1).acts s ∧ s.dev ≠ .fallback ∧
      verifyPat (takeMsg 1 0x0602 (s.begin 0)) = .ok x := by
  have g : verifiable.sys.staging = aPattern := rfl
  have d : patDigest aPattern = List.replicate 64 0 := by
    unfold patDigest
    rw [show (aPattern.drop 128).take (12 * patCount aPattern) = [] by decide +kernel]; exact h
  have f : patFault verifiable.sys.staging = none := by
    rw [g]
    unfold patFault
    rw [d]; decide +kernel
  exact ⟨withSec (fun x => { x with idKey := [1], lifecycle := 1 }) (withSys (fun x => { x with staging := aPattern }) (up .parked)), _,
    granted_of (by decide +kernel), by decide, verify_of (s := verifiable) f (by decide +kernel)⟩

/-! Ill-formed commands are refused. -/

def aPtp : PtpMsg :=
  { kind := .sync, majorSdoId := 0, minorSdoId := 0, domain := 0, seq := 0, twoStep := true, srcPort := 1, time := 0, corr := 0 }
def aCan : CanFrame := { ide := false, id := 2047, fdf := true, brs := false, rtr := false, dlc := 9, data := List.replicate 12 0 }
def anEth : EthFrame := { len := 64, fcsOk := true, vid := none, kind := .other }

theorem wf_groups : (Instr.tickInstant 0 [{ group := 5, t := 0, bits := 0 }]).wf = true ∧
    (Instr.tickInstant 0 [{ group := 6, t := 0, bits := 0 }]).wf = false := by decide
theorem wf_link : (Instr.beaconReplyRx 0 0 0 65535 0 0 0).wf = true ∧ (Instr.beaconReplyRx 0 0 0 65536 0 0 0).wf = false ∧
    (Instr.telRx 0 0 0 (2 ^ 44) 0 0 []).wf = false ∧ (Instr.telRx 0 0 0 0 0 0 (List.replicate 17 0)).wf = false ∧
    (Instr.cfgResponseRx 0 0 false 0 0 16 0 0 0 []).wf = false ∧ (Instr.cfgResponseRx 0 0 false 0 0 0 0 65536 0 []).wf = false ∧
    (Instr.cfgResponseRx 0 0 false 0 65536 0 0 0 0 []).wf = false ∧ (Instr.cfgRetry 0 0 true 0 65536).wf = false := by decide
theorem wf_ptp : (Instr.ptpMessageRx 0 0 aPtp).wf = true ∧ (Instr.ptpMessageRx 0 0 { aPtp with majorSdoId := 16 }).wf = false ∧
    (Instr.ptpMessageRx 0 0 { aPtp with minorSdoId := 256 }).wf = false ∧ (Instr.ptpMessageRx 0 0 { aPtp with domain := 256 }).wf = false ∧
    (Instr.ptpMessageRx 0 0 { aPtp with seq := 65536 }).wf = false ∧ (Instr.ptpMessageRx 0 0 { aPtp with srcPort := 65536 }).wf = false ∧
    (Instr.ethFrameRx 0 0 { anEth with vid := some 4096 }).wf = false ∧
    (Instr.ethFrameRx 0 0 { anEth with kind := .ptp { aPtp with domain := 256 } }).wf = false ∧
    (Instr.ptpMessageRx 0 0 { aPtp with ds := { priority1 := 256 } }).wf = false ∧ (Instr.ptpMessageRx 0 0 { aPtp with ds := { steps := 65536 } }).wf = false ∧
    (Instr.ptpMessageRx 0 0 { aPtp with ds := { sender := 2 ^ 64 } }).wf = false := by decide
theorem wf_samples : (Instr.adcConversion 0 0 0 32767 none).wf = true ∧ (Instr.adcConversion 0 0 0 32768 none).wf = false ∧
    (Instr.adcConversion 0 0 0 (-32769) none).wf = false ∧ (Instr.tempMonitorUpdate 0 256).wf = false ∧
    (Instr.tempMonitorUpdate 0 (-129)).wf = false := by decide
theorem wf_pair : (Instr.writeRx 0 0 65536 0 []).wf = false ∧ (Instr.writeRx 0 0 0 0 [(2 ^ 32, 0)]).wf = false ∧
    (Instr.writeRx 0 0 0 0 (List.replicate 341 (0, 0))).wf = false ∧ (Instr.rmapRx 0 0 65536 0 0).wf = false ∧
    (Instr.vigRx 0 0 65536 []).wf = false ∧ (Instr.roleRx 0 0 65536 0 0).wf = false ∧ (Instr.decideRx 0 0 65536 0 0 0 0 0 []).wf = false ∧
    (Instr.decideRx 0 0 0 0 65536 0 0 0 []).wf = false ∧ (Instr.decideRx 0 0 0 0 0 16 0 0 []).wf = false ∧
    (Instr.decideRx 0 0 0 0 0 0 4096 0 []).wf = false ∧ (Instr.decideRx 0 0 0 0 0 0 0 7 []).wf = false ∧
    (Instr.decideRx 0 0 0 0 0 0 0 0 [256]).wf = false := by decide
theorem wf_peer : (Instr.ptimeRx 0 0 65536 0 0 0).wf = false ∧ (Instr.ptimeRx 0 0 0 0 1000000000 0).wf = false ∧
    (Instr.ptimeRx 0 0 0 0 0 65536).wf = false ∧ (Instr.ptimeReplyRx 0 0 65536 0).wf = false ∧ (Instr.gbRx 0 0 0 65536 0).wf = false ∧
    (Instr.bcRx 0 0 0 65536 0 []).wf = false ∧ (Instr.peerHelloRx 0 0 65536 aHello).wf = false ∧
    (Instr.scSpduRx 0 0 (List.replicate 65 0)).wf = false := by decide
theorem wf_host : (Instr.udpMessageRx 0 0 (List.replicate 365 0)).wf = false ∧ (Instr.paramWrite 0 0 [(2 ^ 32, 0)]).wf = false ∧
    (Instr.paramStage 0 0 0 [(2 ^ 32, 0)]).wf = false ∧ (Instr.blockResetComplete 0 64 true).wf = false := by decide
theorem wf_payloads : (Instr.paramRead 0 0 (List.replicate 1024 0)).wf = false ∧ (Instr.patternLoad 0 0 0 (List.replicate 1025 0)).wf = false ∧
    (Instr.imageLoad 0 0 0 0 (List.replicate 1025 0)).wf = false ∧ (Instr.ownerKeySet 0 0 0 (List.replicate 1025 0)).wf = false ∧
    (Instr.rmaEnter 0 0 0 (List.replicate 1025 0)).wf = false := by decide +kernel
theorem wf_can : (Instr.canFrameRx 0 0 aCan false 0).wf = true ∧ (Instr.canFrameRx 0 0 { aCan with id := 2048 } false 0).wf = false ∧
    (Instr.canFrameRx 0 0 { aCan with dlc := 16 } false 0).wf = false ∧ (Instr.canFrameRx 0 0 { aCan with data := [] } false 0).wf = false ∧
    (Instr.canTxAttemptEnd 0 0 .success 256).wf = false := by decide

/-! Worked figures of the manual. -/

theorem test_reset_pins : State.reset.pinsHold = true ∧ State.reset.buffersHold = true := by decide
theorem test_no_word_spells_a_command : decodeTableWord 32 0 = none ∧ State.reset.withFetchWord 32 0 = State.reset := ⟨rfl, rfl⟩
/-- spec/02_almanac_time.md, R38's example: SEC 1,000, NS 6,000, FRAC 0. -/
theorem test_execute_count : exCount (1000000006000 * 16) = 0xE8D4A527700 := by decide
/-- spec/03_grid_forming_engine.md: K_TICK at 50 Hz and 10 µs, and the increment at ω = 1. -/
theorem test_k_tick : kAngle (up .armed) 0 (usQ 10) = f64 0x20C49BA5E353F8 1 ∧ round64 (fm one (kAngle (up .armed) 0 (usQ 10))) = 0x20C49BA5E353F8#64 := by
  decide +kernel
/-- spec/14_host_partitions.md, worked exchange: the ID of P_SET of GFI[2] and binary64 0.70. -/
theorem test_p_set : mkId 1 2 0x30 = 0x01002030 ∧ (rowOf 0x01002030).map (·.name) = some "P_SET" ∧ f64 7 10 = 0x3FE6666666666666 := by
  decide +kernel
/-- Table 14-11 at 0.2 s: TOKEN_ACQUIRE without FORCE while partition 1 holds the token. -/
theorem test_token_held : (match exec (.tokenAcquire 0 5 false) ((setF 17 5 3 0x23 (up .blocked)).modHp 5 (fun h => { h with session := true, version := 0x402 })) with
    | .next t => decide (t.hst.token = 1) | _ => false) = true := by decide
/-- The check value of CRC-32C for the nine digits (from outside the manual, PRESUMED). -/
theorem test_crc32c : crc32c [0x31, 0x32, 0x33, 0x34, 0x35, 0x36, 0x37, 0x38, 0x39] = 0xE3069283#32 := by decide +kernel

/-- R180: requests from 0 to below 4 and negative ones are no bad DIRECT requests; 4 and a NaN are. -/
theorem test_direct_bad : directBadVal 0x40800000 = true ∧ directBadVal 0x407FFFFF = false ∧ directBadVal 0xBF800000 = false ∧
    directBadVal 0x7FC00000 = true := by decide +kernel

/-- R534: with IO_BANK_V at 0x0001, bank 0 at 1.8 V and the others at 3.3 V agree; bank 7 absent raises PKG_BANK_V. -/
theorem test_banks : isHeld 0x7601 0 0 (judgeBanks (withSys (fun y => { y with opt := { bankV := 1 } })
      { run_ with pkg := { run_.pkg with bankV := 0xAAA9 } })) = false ∧
    isHeld 0x7601 0 0 (judgeBanks (withSys (fun y => { y with opt := { bankV := 1 } })
      { run_ with pkg := { run_.pkg with bankV := 0x2AA9 } })) = true := by decide +kernel

end Sys2Proof.Tests
end

section
/-! The operator token (R391, R392): how sessions end, what an ending leaves alone, and how the token is taken, refused and lost. -/
namespace Sys2Proof.Machine

/-! Parameters of the host unit. -/

theorem tabGet?_tabPut_of_ne {α : Type} (t : Tab α) {j k : Nat} (v : α) (h : j ≠ k) : tabGet? (tabPut t k v) j = tabGet? t j := by
  induction t with
  | nil => simp [tabPut, tabGet?, h.symm]
  | cons e r ih =>
    obtain ⟨i, w⟩ := e
    unfold tabPut
    split
    · next hik => simp [tabGet?, hik, h.symm]
    · split
      · simp [tabGet?, h.symm]
      · simp [tabGet?, ih]

/-- Only five defaults are derived from other fields. -/
theorem dfltWire_congr {r : Row} (h : r.dflt ∉ [.dep 12, .dep 13, .dep 51, .dep 114, .dep 2]) (t t' : Tab Wire) (i f : Nat) :
    dfltWire t r i f = dfltWire t' r i f := by
  unfold dfltWire
  cases hd : r.dflt with
  | dep n => simp_all
  | _ => rfl

/-- No default of the host unit is derived from another field (Table 14-6). -/
theorem rowOf_host_dflt {id : Nat} {r : Row} (hu : idUnit id = 17) (h : rowOf id = some r) :
    r.dflt ∉ [.dep 12, .dep 13, .dep 51, .dep 114, .dep 2] := by
  have all : ∀ r ∈ rowsHst, r.dflt ∉ [.dep 12, .dep 13, .dep 51, .dep 114, .dep 2] := by decide
  unfold rowOf at h
  split at h
  · rw [hu] at h
    exact all r (List.mem_of_find?_eq_some h)
  · cases h

theorem wire_setPar_of_ne {id k : Nat} (hu : idUnit id = 17) (h : id ≠ k) (v : Wire) (s : State) :
    (s.setPar k v).wire id = s.wire id := by
  unfold State.wire
  rw [show (s.setPar k v).par = tabPut s.par k v from rfl, tabGet?_tabPut_of_ne s.par v h]
  cases hr : rowOf id with
  | none => rfl
  | some r => simp only [dfltWire_congr (rowOf_host_dflt hu hr) (tabPut s.par k v) s.par]

theorem wire_promoteWhere_of_not {id : Nat} (hu : idUnit id = 17) (f : Pend → Bool) (hf : ∀ e, f e = true → id ≠ e.id) (s : State) :
    (promoteWhere f s).wire id = s.wire id :=
  List.foldlRecOn (motive := fun (x : State) => x.wire id = s.wire id) (s.pend.filter f) _ rfl fun _ hx e he =>
    (wire_setPar_of_ne hu (hf e (List.mem_filter.1 he).2) e.val _).trans hx

@[simp] theorem promoteWhere_hst (f : Pend → Bool) (s : State) : (promoteWhere f s).hst = s.hst :=
  List.foldlRecOn (motive := fun (x : State) => x.hst = s.hst) (s.pend.filter f) _ rfl fun _ hx _ _ => hx

@[simp] theorem promoteHst_hst (q : Nat) (s : State) : (promoteHst q s).hst = s.hst := by
  unfold promoteHst
  split
  · rfl
  · exact promoteWhere_hst ..

theorem pn_congr {s t : State} (h : t.par = s.par) (u i f : Nat) : t.pn u i f = s.pn u i f := by
  unfold State.pn State.wire
  rw [h]

/-- The pending values of a partition that take effect are its own (R410). -/
theorem promoteHst_pn_of_ne {p q f : Nat} (hp : p < 4096) (hf : f < 4096) (h : q ≠ p) (s : State) :
    (promoteHst q s).pn 17 p f = s.pn 17 p f := by
  unfold promoteHst
  split
  · rfl
  · refine congrArg lo32 (wire_promoteWhere_of_not ?_ _ (fun e he hid => ?_) s)
    · unfold idUnit mkId; omega
    · simp only [← hid, Bool.and_eq_true, beq_iff_eq] at he
      unfold idInst mkId at he
      omega

/-! Sessions that end (R392). -/

theorem dropToken_of_ne {p : Nat} {s : State} (h : s.hst.token ≠ p) (cause : Nat) : dropToken p cause s = s := if_neg h
theorem dropToken_of_eq {p : Nat} {s : State} (h : s.hst.token = p) (cause : Nat) : dropToken p cause s = moveToken 15 cause s := if_pos h

/-- A partition that loses the token keeps everything but its interrupt flags, and its fields. -/
theorem dropToken_keeps (p cause : Nat) (s : State) :
    (∀ q, ((dropToken p cause s).hp q).mute = (s.hp q).mute) ∧ (dropToken p cause s).par = s.par := by
  by_cases h : s.hst.token = p
  · obtain ⟨_, hmute, _, hpar, _⟩ := moveToken_spec 15 cause s
    rw [dropToken_of_eq h]
    exact ⟨hmute, hpar⟩
  · rw [dropToken_of_ne h]
    exact ⟨fun _ => rfl, rfl⟩

theorem endSession_of_session {p : Nat} {s : State} (h : (s.hp p).session = true) (cause : Nat) :
    endSession p cause s =
      promoteHst p (releaseQueues p ((dropToken p cause s).modHp p (fun h => { h with session := false, version := 0 }))) := by
  simp [endSession, h]
theorem endSession_of_no_session {p : Nat} {s : State} (h : (s.hp p).session = false) (cause : Nat) : endSession p cause s = s := by
  simp [endSession, h]

theorem endSession_token_of_ne {p : Nat} {s : State} (h : s.hst.token ≠ p) (cause : Nat) :
    (endSession p cause s).hst.token = s.hst.token := by
  cases hs : (s.hp p).session with
  | false => rw [endSession_of_no_session hs]
  | true =>
    rw [endSession_of_session hs, promoteHst_hst, dropToken_of_ne h]
    rfl
/-- The holder's session takes the token with it. -/
theorem endSession_token_of_holder {p : Nat} {s : State} (h : s.hst.token = p) (hs : (s.hp p).session = true) (cause : Nat) :
    (endSession p cause s).hst.token = 15 := by
  rw [endSession_of_session hs, promoteHst_hst, dropToken_of_eq h]
  exact (moveToken_spec 15 cause s).1

theorem endSession_session_self (p : Fin 8) (cause : Nat) (s : State) : ((endSession p cause s).hp p).session = false := by
  cases hs : (s.hp p).session with
  | false => rwa [endSession_of_no_session hs]
  | true =>
    rw [endSession_of_session hs, State.hp, promoteHst_hst]
    exact congrArg Hp.session (State.hp_modHp_self p _ _)
theorem endSession_session_of_ne {p q : Nat} (h : q ≠ p) (cause : Nat) (s : State) :
    ((endSession q cause s).hp p).session = (s.hp p).session := by
  cases hs : (s.hp q).session with
  | false => rw [endSession_of_no_session hs]
  | true =>
    rw [endSession_of_session hs, State.hp, promoteHst_hst]
    refine (congrArg Hp.session (State.hp_modHp q p _ _)).trans ?_
    rw [if_neg (fun e => h e.1)]
    have hmute := congrArg Hp.session ((dropToken_keeps q cause s).1 p)
    exact hmute
theorem endSession_pn_of_ne {p q f : Nat} (hp : p < 4096) (hf : f < 4096) (h : q ≠ p) (cause : Nat) (s : State) :
    (endSession q cause s).pn 17 p f = s.pn 17 p f := by
  cases hs : (s.hp q).session with
  | false => rw [endSession_of_no_session hs]
  | true =>
    rw [endSession_of_session hs, promoteHst_pn_of_ne hp hf h]
    exact pn_congr (dropToken_keeps q cause s).2 ..

/-! A reset of a physical function (R392). -/

/-- What a reset of physical function f does to partition q. -/
def endFunction (f : Nat) (s : State) (q : Nat) : State :=
  if s.pn 17 q 1 = 1 && s.pn 17 q 2 = f then endSession q 4 s else s

theorem execPcieFunctionReset_eq (dt : Nat) (f : Fin 8) (s : State) :
    execPcieFunctionReset dt f false s = done ((List.range 8).foldl (endFunction f) (s.begin dt)) := rfl

/-- The end of a command leaves the host unit as it is. -/
theorem done_hst (s : State) : ∃ t, done s = .next t ∧ t.hst = s.hst := ⟨_, rfl, rfl⟩

/-- Partition p holds the token in a session over physical function f. -/
structure HoldsOver (f p : Nat) (s : State) : Prop where
  token : s.hst.token = p
  session : (s.hp p).session = true
  pcie : s.pn 17 p 1 = 1
  function : s.pn 17 p 2 = f

/-- Nobody holds the token, and partition p has no session. -/
def Bereft (p : Nat) (s : State) : Prop := s.hst.token = 15 ∧ (s.hp p).session = false

theorem HoldsOver.endFunction_of_ne {f p q : Nat} {s : State} (h : HoldsOver f p s) (hp : p < 8) (hq : q ≠ p) :
    HoldsOver f p (endFunction f s q) := by
  unfold endFunction
  split
  · exact ⟨(endSession_token_of_ne (h.token ▸ hq.symm) 4).trans h.token, (endSession_session_of_ne hq 4 s).trans h.session,
      (endSession_pn_of_ne (by omega) (by decide) hq 4 s).trans h.pcie,
      (endSession_pn_of_ne (by omega) (by decide) hq 4 s).trans h.function⟩
  · exact h

theorem HoldsOver.endFunction_self {f : Nat} {p : Fin 8} {s : State} (h : HoldsOver f p s) : Bereft p (endFunction f s p) := by
  unfold endFunction
  simp only [h.pcie, h.function, decide_true, Bool.and_self, if_true]
  exact ⟨endSession_token_of_holder h.token h.session 4, endSession_session_self p 4 s⟩

theorem Bereft.endFunction {f q : Nat} {p : Fin 8} {s : State} (h : Bereft p s) (hq : q < 8) : Bereft p (endFunction f s q) := by
  unfold Machine.endFunction
  split
  · refine ⟨(endSession_token_of_ne (by rw [h.1]; omega) 4).trans h.1, ?_⟩
    by_cases e : q = p
    · rw [e]; exact endSession_session_self p 4 s
    · exact (endSession_session_of_ne e 4 s).trans h.2
  · exact h

theorem Bereft.foldl_endFunction {f : Nat} {p : Fin 8} {s : State} (h : Bereft p s) (l : List Nat) (hl : ∀ q ∈ l, q < 8) :
    Bereft p (l.foldl (Machine.endFunction f) s) :=
  List.foldlRecOn (motive := Bereft p) l _ h fun _ hx q hq => hx.endFunction (hl q hq)

/-- The partitions before the holder leave it its token, its own turn takes it, and the ones after it find it gone. -/
theorem HoldsOver.foldl_endFunction {f : Nat} {p : Fin 8} (l : List Nat) (hl : ∀ q ∈ l, q < 8) (hp : p.val ∈ l) {s : State}
    (h : HoldsOver f p s) : Bereft p (l.foldl (endFunction f) s) := by
  induction l generalizing s with
  | nil => cases hp
  | cons q l ih =>
    obtain ⟨hq, hl⟩ := List.forall_mem_cons.1 hl
    by_cases e : q = p
    · rw [e]
      exact h.endFunction_self.foldl_endFunction l hl
    · exact ih hl ((List.mem_cons.1 hp).resolve_left (Ne.symm e)) (h.endFunction_of_ne p.isLt e)

/-! Answers to the token commands (R391). -/

theorem Answered.done {p op st : Nat} {ws : List Word} {s t : State} (h : Answered p op st ws s t) :
    Answered p op st ws s (settle (watch (transmit t))) := by
  obtain ⟨r, hr, h⟩ := h
  exact ⟨r, mem_transmit hr, h⟩

/-- The token moves, and the partition that asked for it is answered OK. -/
theorem ok_moveToken {p : Fin 8} {op since : Nat} {s : State} (h : Accepts p op since s) (new cause : Nat) :
    (ok p [] (moveToken new cause (takeMsg p op s))).hst.token = new ∧
      Answered p op 0 [] s (ok p [] (moveToken new cause (takeMsg p op s))) := by
  obtain ⟨htoken, hmute, _⟩ := moveToken_spec new cause (takeMsg p op s)
  obtain ⟨hkeep, _⟩ := ok_keepsHost p [] (moveToken new cause (takeMsg p op s))
  exact ⟨hkeep.trans htoken, ok_answered h (hmute p) []⟩

theorem execTokenAcquire_granted {p : Fin 8} {s : State} (h : Granted p 0x0101 0x300 (.priv pvOperate) true s) (dt : Nat) (force : Bool) :
    execTokenAcquire dt p force s = done
      (if s.hst.token = 15 then ok p [] (moveToken p 0 (takeMsg p 0x0101 (s.begin dt)))
       else if force && hasPriv s p pvService then ok p [] (moveToken p 5 (takeMsg p 0x0101 (s.begin dt)))
       else refuse p stTokenHeld s.hst.token 0 (takeMsg p 0x0101 (s.begin dt))) := by
  unfold execTokenAcquire
  rw [hostCmd_body (h.begin dt)]
  rfl

theorem tokenAcquire_takes {p : Fin 8} {s : State} (h : Granted p 0x0101 0x300 (.priv pvOperate) true s) (dt : Nat) {force : Bool}
    (hfree : s.hst.token = 15 ∨ (force = true ∧ hasPriv s p pvService = true)) :
    ∃ t, exec (.tokenAcquire dt p force) s = .next t ∧ t.hst.token = p.val ∧ Answered p 0x0101 0 [] s t := by
  have moved (cause : Nat) := ok_moveToken (h.begin dt).1 p cause
  refine ⟨_, execTokenAcquire_granted h dt force, ?_⟩
  by_cases hnone : s.hst.token = 15
  · rw [if_pos hnone]
    exact (moved 0).imp id Answered.done
  · obtain ⟨hforce, hservice⟩ := hfree.resolve_left hnone
    rw [if_neg hnone, hforce, hservice]
    exact (moved 5).imp id Answered.done

theorem tokenAcquire_refused {p : Fin 8} {s : State} (h : Granted p 0x0101 0x300 (.priv pvOperate) true s) (dt : Nat) {force : Bool}
    (hheld : s.hst.token ≠ 15) (hforce : ¬(force = true ∧ hasPriv s p pvService = true)) :
    ∃ t, exec (.tokenAcquire dt p force) s = .next t ∧ t.hst.token = s.hst.token ∧
      Answered p 0x0101 0x12 [BitVec.ofNat 32 s.hst.token, 0] s t := by
  refine ⟨_, execTokenAcquire_granted h dt force, ?_⟩
  rw [if_neg hheld, if_neg (by rwa [Bool.and_eq_true])]
  obtain ⟨hkeep, _⟩ := refuse_keepsHost p stTokenHeld s.hst.token 0 (takeMsg p 0x0101 (s.begin dt))
  exact ⟨hkeep, (refuse_answered (h.begin dt).1 rfl stTokenHeld s.hst.token 0).done⟩

theorem tokenRelease_gives_back {p : Fin 8} {s : State} (h : Granted p 0x0102 0x300 .token false s) (dt : Nat) :
    ∃ t, exec (.tokenRelease dt p) s = .next t ∧ t.hst.token = 15 ∧ Answered p 0x0102 0 [] s t := by
  refine ⟨_, congrArg done (hostCmd_body (h.begin dt) _), ?_⟩
  exact (ok_moveToken (h.begin dt).1 15 1).imp id Answered.done

theorem tokenLeaseExpiry_takes {dt : Nat} {s : State} (hheld : s.hst.token < 8)
    (hlease : (s.hp s.hst.token).lastMsg + s.ptn 17 s.hst.token 6 ≤ (s.begin dt).now) :
    ∃ t, exec (.tokenLeaseExpiry dt) s = .next t ∧ t.hst.token = 15 := by
  have ends : execTokenLeaseExpiry dt s = done (moveToken 15 7 (s.begin dt)) :=
    if_pos (Bool.and_eq_true_iff.2 ⟨decide_eq_true hheld, decide_eq_true hlease⟩)
  exact ⟨_, ends, (moveToken_spec 15 7 (s.begin dt)).1⟩

theorem pcieFunctionReset_takes {p f : Fin 8} {s : State} (h : HoldsOver f p s) (dt : Nat) :
    ∃ t, exec (.pcieFunctionReset dt f false) s = .next t ∧ t.hst.token = 15 ∧ (t.hp p).session = false := by
  have begun : HoldsOver f p (s.begin dt) := ⟨h.token, h.session, h.pcie, h.function⟩
  obtain ⟨htoken, hsession⟩ := begun.foldl_endFunction (List.range 8) (fun _ => List.mem_range.1) (List.mem_range.2 p.isLt)
  obtain ⟨t, ht, hhst⟩ := done_hst ((List.range 8).foldl (endFunction f) (s.begin dt))
  refine ⟨t, (execPcieFunctionReset_eq dt f s).trans ht, ?_, ?_⟩
  · rw [hhst, htoken]
  · rw [State.hp, hhst]; exact hsession

/-- Settles O9: the two answers to TOKEN_ACQUIRE, the release, the lease that ends and the reset of the holder's function. -/
theorem tokenMoves : Obligations.TokenMoves := by
  intro dt p s
  exact ⟨fun _ h hfree => tokenAcquire_takes h dt hfree, fun _ h hheld hforce => tokenAcquire_refused h dt hheld hforce,
    fun h => tokenRelease_gives_back h dt, tokenLeaseExpiry_takes,
    fun _ htoken hsession hpcie hfunction => pcieFunctionReset_takes ⟨htoken, hsession, hpcie, hfunction⟩ dt⟩

end Sys2Proof.Machine
end

section
/-! The transmit buffers of a CAN controller (R469): what TX_ABORT marks, and what the end of an attempt leaves of a buffer. -/
namespace Sys2Proof.Machine

/-! Controllers and buffers by index. -/

theorem can_modCan (n m : Nat) (f : CanCtl → CanCtl) (s : State) :
    can (modCan n f s) m = if n = m ∧ n < 4 then f (can s m) else can s m := vget_vmod ..
@[simp] theorem can_modCan_self (n : Fin 4) (f : CanCtl → CanCtl) (s : State) : can (modCan n f s) n = f (can s n) := by
  rw [can_modCan, if_pos ⟨rfl, n.isLt⟩]

theorem txb_congr {s t : State} (h : t.can = s.can) (n b : Nat) : txb t n b = txb s n b := by
  unfold txb can
  rw [h]

/-- The end of a command leaves the controllers as they are. -/
theorem done_can (s : State) : ∃ t, done s = .next t ∧ t.can = s.can := ⟨_, rfl, rfl⟩

/-- A change of a controller that spares its buffers. -/
theorem txb_modCan {f : CanCtl → CanCtl} (hf : ∀ c, (f c).txb = c.txb) (n m b : Nat) (s : State) :
    txb (modCan n f s) m b = txb s m b := by
  unfold txb
  rw [can_modCan]
  split
  · rw [hf]
  · rfl

theorem txb_modTxb (n : Fin 4) (b : Fin 3) (c : Nat) (f : TxBuf → TxBuf) (s : State) :
    txb (modTxb n b f s) n c = if b = c then f (txb s n c) else txb s n c := by
  unfold txb modTxb
  rw [can_modCan_self, vget_vmod]
  simp [b.isLt]
@[simp] theorem txb_modTxb_self (n : Fin 4) (b : Fin 3) (f : TxBuf → TxBuf) (s : State) :
    txb (modTxb n b f s) n b = f (txb s n b) := by
  rw [txb_modTxb, if_pos rfl]

/-! TX_ABORT. -/

/-- What TX_ABORT makes of a buffer it names: ABORTED_HOST at once, or marked for the end of its attempt. -/
def abortRequested (x : TxBuf) : TxBuf :=
  if x.st = 1 then { x with st := 5 } else if x.st = 2 then { x with abort := true } else x

theorem abortRequested_of_pending {x : TxBuf} (h : x.st = 1) : abortRequested x = { x with st := 5 } := if_pos h
theorem abortRequested_of_sending {x : TxBuf} (h : x.st = 2) : abortRequested x = { x with abort := true } := by
  simp [abortRequested, h]

/-- One turn of TX_ABORT, at buffer b. -/
def abortTurn (n mask : Nat) (s : State) (b : Nat) : State :=
  if !mask.testBit b then s
  else if (txb s n b).st = 1 then modTxb n b (fun x => { x with st := 5 }) s
  else if (txb s n b).st = 2 then modTxb n b (fun x => { x with abort := true }) s
  else s

theorem opTxAbort_act (n mask : Nat) (s : State) : (opTxAbort n mask).act s = (List.range 3).foldl (abortTurn n mask) s := rfl

theorem txb_abortTurn (n : Fin 4) (mask : Nat) (s : State) (b : Fin 3) (c : Nat) :
    txb (abortTurn n mask s b) n c = if b = c ∧ mask.testBit b = true then abortRequested (txb s n c) else txb s n c := by
  by_cases hc : b.val = c
  · subst hc
    cases hm : mask.testBit b with
    | false => simp [abortTurn, hm]
    | true =>
      simp only [abortTurn, abortRequested, hm, Bool.not_true, Bool.false_eq_true, and_self, if_true, if_false]
      split
      · simp
      · split <;> simp
  · rw [if_neg fun h => hc h.1]
    have other (f : TxBuf → TxBuf) : txb (modTxb n b f s) n c = txb s n c := by rw [txb_modTxb, if_neg hc]
    unfold abortTurn
    split
    · rfl
    · split
      · exact other _
      · split
        · exact other _
        · rfl

theorem safety_abortTurn (n : Fin 4) (mask : Nat) (s : State) (b : Nat) :
    (can (abortTurn n mask s b) n).safety = (can s n).safety := by
  have mod (f : TxBuf → TxBuf) : (can (modTxb n b f s) n).safety = (can s n).safety := by simp [modTxb]
  unfold abortTurn
  split
  · rfl
  · split
    · exact mod _
    · split
      · exact mod _
      · rfl

/-- TX_ABORT acts on the buffers of its mask, each on its own. -/
theorem txb_opTxAbort_act (n : Fin 4) (mask : Nat) (s : State) (b : Fin 3) :
    txb ((opTxAbort n mask).act s) n b = if mask.testBit b = true then abortRequested (txb s n b) else txb s n b := by
  have turns : (opTxAbort n mask).act s =
      abortTurn n mask (abortTurn n mask (abortTurn n mask s (0 : Fin 3)) (1 : Fin 3)) (2 : Fin 3) := opTxAbort_act ..
  simp only [turns, txb_abortTurn]
  match b with
  | 0 => simp
  | 1 => simp
  | 2 => simp

theorem safety_opTxAbort_act (n : Fin 4) (mask : Nat) (s : State) :
    (can ((opTxAbort n mask).act s) n).safety = (can s n).safety := by
  rw [opTxAbort_act]
  exact List.foldlRecOn (motive := fun (x : State) => (can x n).safety = (can s n).safety) (List.range 3) _ rfl
    fun x hx b _ => (safety_abortTurn n mask x b).trans hx

/-- A mask without the island's TXB[2] is not refused. -/
theorem opTxAbort_check {n mask : Nat} {s : State} (h : mask.testBit 2 = true → islandOwns s n = false) :
    (opTxAbort n mask).check s = none := by
  unfold opTxAbort
  cases hm : mask.testBit 2 with
  | false => rfl
  | true => simp [h hm]

/-- A CAN command is carried out at once, in a pair too (R403). -/
theorem runOp_can (n : Fin 4) (f : Fin 4096) (val : Nat) (o : Op) (s : State) : runOp (mkId 12 n f) val o s = o.act s := by
  have unit : idUnit (mkId 12 n f) = 12 := by
    unfold idUnit mkId
    omega
  simp [runOp, atInstant, mirrored, unit]

/-- An accepted TX_ABORT acts, and is answered. -/
theorem execTxAbort_accepted {p : Fin 8} {n : Fin 4} {mask : BitVec 3} {s : State} (h : FieldGranted p .token s)
    (hown : mask.toNat.testBit 2 = true → islandOwns s n = false) (dt : Nat) :
    ∃ t, exec (.txAbort dt p n mask) s = .next t ∧ t.can = ((opTxAbort n mask.toNat).act (takeMsg p 0x0302 (s.begin dt))).can := by
  have runs : opCmd p .token (mkId 12 n 0x15) mask.toNat (opTxAbort n mask.toNat) (s.begin dt) =
      accepted p ((opTxAbort n mask.toNat).act (takeMsg p 0x0302 (s.begin dt))) := by
    rw [opCmd_body (h.begin dt) _ _ _ (opTxAbort_check hown)]
    exact congrArg (accepted p) (runOp_can n 0x15 ..)
  obtain ⟨t, ht, hcan⟩ := done_can (accepted p ((opTxAbort n mask.toNat).act (takeMsg p 0x0302 (s.begin dt))))
  exact ⟨t, (congrArg done runs).trans ht, hcan.trans (ok_talks ..).keep.can⟩

theorem testBit_single (b : Fin 3) (c : Nat) : (BitVec.ofNat 3 (2 ^ b.val)).toNat.testBit c = decide (b.val = c) := by
  have small : 2 ^ b.val < 2 ^ 3 := Nat.pow_lt_pow_right (by decide) b.isLt
  rw [BitVec.toNat_ofNat, Nat.mod_eq_of_lt small, Nat.testBit_two_pow]

/-- TX_ABORT of a single buffer touches that buffer alone. -/
theorem txAbort_single {p : Fin 8} {n : Fin 4} {b : Fin 3} {s : State} (h : FieldGranted p .token s)
    (hown : b.val = 2 → islandOwns s n = false) (dt : Nat) :
    ∃ t, exec (.txAbort dt p n (BitVec.ofNat 3 (2 ^ b.val))) s = .next t ∧ txb t n b = abortRequested (txb s n b) ∧
      (∀ c : Fin 3, c ≠ b → txb t n c = txb s n c) ∧ (can t n).safety = (can s n).safety := by
  obtain ⟨t, ht, hcan⟩ := execTxAbort_accepted h (fun h2 => hown (by rwa [testBit_single, decide_eq_true_eq] at h2)) dt
  have bufs (c : Fin 3) : txb t n c = if b.val = c.val then abortRequested (txb s n c) else txb s n c := by
    rw [txb_congr hcan, txb_opTxAbort_act, testBit_single]
    simp only [decide_eq_true_eq]
    rfl
  refine ⟨t, ht, (bufs b).trans (if_pos rfl), fun c hc => (bufs c).trans (if_neg fun e => hc (Fin.ext e.symm)), ?_⟩
  have safety := safety_opTxAbort_act n (BitVec.ofNat 3 (2 ^ b.val)).toNat (takeMsg p 0x0302 (s.begin dt))
  unfold can at safety ⊢
  rw [hcan]
  exact safety

/-! What may follow an attempt spares every buffer that is not SENDING (R461, R470). -/

/-- Buffers that are not SENDING stay as they are. -/
def SparesUnsent (s t : State) : Prop := ∀ n b, (txb s n b).st ≠ 2 → txb t n b = txb s n b

theorem SparesUnsent.of_can {s t : State} (h : t.can = s.can) : SparesUnsent s t := fun n b _ => txb_congr h n b
theorem SparesUnsent.refl (s : State) : SparesUnsent s s := .of_can rfl
theorem SparesUnsent.trans {s t u : State} (h : SparesUnsent s t) (k : SparesUnsent t u) : SparesUnsent s u := by
  intro n b hb
  have ht := h n b hb
  exact (k n b (ht ▸ hb)).trans ht
theorem Rules.sparesUnsent {s t : State} (h : Rules s t) : SparesUnsent s t := .of_can h.keep.can
theorem modCan_sparesUnsent {f : CanCtl → CanCtl} (hf : ∀ c, (f c).txb = c.txb) (n : Nat) (s : State) :
    SparesUnsent s (modCan n f s) := fun m b _ => txb_modCan hf n m b s

theorem vget_map {α : Type} {n : Nat} (g : α → α) (v : Vector α n) (i : Nat) {d : α} (hd : g d = d) :
    vget (v.map g) i d = g (vget v i d) := by
  unfold vget
  split
  · simp
  · exact hd.symm

/-- A controller that stops sending puts its SENDING buffer back to PENDING. -/
theorem modCan_requeue_sparesUnsent {f : CanCtl → CanCtl}
    (hf : ∀ c, (f c).txb = c.txb.map (fun b => if b.st = 2 then { b with st := 1 } else b)) (n : Nat) (s : State) :
    SparesUnsent s (modCan n f s) := by
  intro m b hb
  unfold txb at hb ⊢
  rw [can_modCan]
  split
  · rw [hf, vget_map _ _ _ rfl, if_neg hb]
  · rfl

theorem canFault_not_withdrawn (n : Fin 4) : withdrawCode (0x3300 + n) = false ∧ withdrawCode (0x3310 + n) = false := by
  revert n
  decide

theorem canErrors_sparesUnsent (n : Fin 4) (s : State) : SparesUnsent s (canErrors n s) := by
  obtain ⟨passive, busOff⟩ := canFault_not_withdrawn n
  unfold canErrors
  dsimp only
  split
  · exact .refl s
  split
  · refine .trans ?_ (raiseDev_rules _ _ _ _ busOff).sparesUnsent
    exact modCan_requeue_sparesUnsent (fun _ => by rfl) n s
  split
  · split
    · exact .refl s
    · refine .trans ?_ (raiseDev_rules _ _ _ _ passive).sparesUnsent
      exact modCan_sparesUnsent (fun _ => by rfl) n s
  split
  · refine .trans ?_ (condHolds_rules ..).sparesUnsent
    exact modCan_sparesUnsent (fun _ => by rfl) n s
  · exact .refl s

theorem promoteCan_can (n : Nat) (s : State) : (promoteCan n s).can = s.can := by
  unfold promoteCan promoteWhere
  split
  · rfl
  · exact List.foldlRecOn (motive := fun (x : State) => x.can = s.can) _ _ rfl fun _ hx _ _ => hx

theorem canOff_sparesUnsent (n : Nat) (s : State) : SparesUnsent s (canOff n s) := modCan_requeue_sparesUnsent (fun _ => by rfl) n s

theorem canRefresh_sparesUnsent (n : Nat) (s : State) : SparesUnsent s (canRefresh n s) := by
  refine .trans (.of_can (promoteCan_can n s)) ?_
  unfold canRefresh
  dsimp only
  generalize promoteCan n s = x
  repeat' split
  · exact modCan_sparesUnsent (fun _ => by rfl) n x
  · exact modCan_sparesUnsent (fun _ => by rfl) n x
  · exact .refl x
  · exact modCan_sparesUnsent (fun _ => by rfl) n x
  · exact canOff_sparesUnsent n x

theorem frameEnd_sparesUnsent (n : Nat) (s : State) : SparesUnsent s (frameEnd n s) := by
  unfold frameEnd
  dsimp only
  split
  · exact (canOff_sparesUnsent n s).trans (canRefresh_sparesUnsent n _)
  split
  · exact modCan_sparesUnsent (fun _ => by rfl) n s
  · exact .refl s

/-! The end of an attempt. -/

/-- Buffer b alone is SENDING, TX_ABORT has marked it, and its frame is none of the island's. -/
structure AbortWaits (n : Fin 4) (b : Fin 3) (s : State) : Prop where
  sending : (txb s n b).st = 2
  alone : ∀ c : Fin 3, c ≠ b → (txb s n c).st ≠ 2
  marked : (txb s n b).abort = true
  noSpdu : b.val = 2 → (can s n).safety = none

theorem AbortWaits.begin {n : Fin 4} {b : Fin 3} {s : State} (h : AbortWaits n b s) (dt : Nat) : AbortWaits n b (s.begin dt) :=
  ⟨h.sending, h.alone, h.marked, h.noSpdu⟩

/-- The attempt is that of the buffer that is SENDING. -/
theorem AbortWaits.find?_sending {n : Fin 4} {b : Fin 3} {s : State} (h : AbortWaits n b s) :
    (List.range 3).find? (fun c => (txb s n c).st == 2) = some b.val := by
  rw [List.find?_range_eq_some]
  refine ⟨by simpa using h.sending, List.mem_range.2 b.isLt, fun c hlt => ?_⟩
  have := h.alone ⟨c, by omega⟩ (fun e => by simp [← e] at hlt)
  simpa using this

/-- A failed attempt of a buffer that TX_ABORT has marked ends in ABORTED_HOST, whatever the error counts become. -/
theorem attemptFailed_of_abort {n : Fin 4} {b : Fin 3} {f : CanCtl → CanCtl} (hf : ∀ c, (f c).txb = c.txb) {s : State}
    (h : (txb s n b).abort = true) : (txb (attemptFailed n b (modCan n f s)) n b).st = 5 := by
  have marked : (txb (modCan n f s) n b).abort = true := by rw [txb_modCan hf, h]
  simp [attemptFailed, marked]

/-- Noting the delay that was measured spares the buffer. -/
theorem AbortWaits.marked_noteDelay {n : Fin 4} {b : Fin 3} {s : State} (h : AbortWaits n b s) (tdc : Nat) (c : Bool) :
    (txb (if c = true then modCan n (fun k => { k with tdc := tdc }) s else s) n b).abort = true := by
  cases c
  · exact h.marked
  · exact (congrArg TxBuf.abort (txb_modCan (fun _ => by rfl) ..)).trans h.marked

/-- No SPDU of the island waits behind the frame (R475). -/
theorem AbortWaits.no_newer_spdu {n : Fin 4} {b : Fin 3} {s : State} (h : AbortWaits n b s) (x : Bool) :
    (b.val == 2 && (can s n).safety.isSome && x) = false := by
  by_cases hb : b.val = 2
  · simp [h.noSpdu hb]
  · simp [hb]

theorem AbortWaits.execCanTxAttemptEnd {n : Fin 4} {b : Fin 3} {s : State} (h : AbortWaits n b s) (dt : Nat) (e : CanEnd) (tdc : Nat) :
    ∃ x, Machine.execCanTxAttemptEnd dt n e tdc s = done (frameEnd n (canErrors n x)) ∧
      (txb x n b).st = if e = .success then 3 else 5 := by
  have marked := (h.begin dt).marked_noteDelay tdc
  unfold Machine.execCanTxAttemptEnd
  dsimp only
  rw [(h.begin dt).find?_sending]
  refine ⟨_, rfl, ?_⟩
  cases e with
  | success =>
    dsimp only
    rw [txb_congr (condHolds_rules ..).keep.can, txb_modTxb_self, (h.begin dt).no_newer_spdu]
    rfl
  | arbitration =>
    dsimp only
    rw [txb_modTxb_self]
    exact if_pos (marked _)
  | bitError => exact attemptFailed_of_abort (fun _ => by rfl) (marked _)
  | ackError dominant => exact attemptFailed_of_abort (fun _ => by rfl) (marked _)
  | stuffArb => exact attemptFailed_of_abort (fun _ => by rfl) (marked _)
  | other => exact attemptFailed_of_abort (fun _ => by rfl) (marked _)

/-- The buffer keeps the state in which its attempt ended: what follows an attempt spares it. -/
theorem AbortWaits.canTxAttemptEnd {n : Fin 4} {b : Fin 3} {s : State} (h : AbortWaits n b s) (dt : Nat) (e : CanEnd) (tdc : Nat) :
    ∃ t, exec (.canTxAttemptEnd dt n e tdc) s = .next t ∧ (txb t n b).st = if e = .success then 3 else 5 := by
  obtain ⟨x, hx, hst⟩ := h.execCanTxAttemptEnd dt e tdc
  have ended : (txb x n b).st ≠ 2 := by
    rw [hst]
    split <;> decide
  have spared := ((canErrors_sparesUnsent n x).trans (frameEnd_sparesUnsent n _)) n b ended
  obtain ⟨t, ht, hcan⟩ := done_can (frameEnd n (canErrors n x))
  exact ⟨t, hx.trans ht, by rw [txb_congr hcan, spared, hst]⟩

/-- Settles O58: the buffer that waits, and the one whose attempt is in progress. -/
theorem txAbortTakesEffect : Obligations.TxAbortTakesEffect := by
  intro dt p n b s h hisland
  obtain ⟨t, ht, hbuf, hothers, hsafety⟩ := txAbort_single h (fun h2 => (hisland h2).1) dt
  refine ⟨fun hpending => ⟨t, ht, ?_⟩, fun hsending halone => ?_⟩
  · rw [hbuf, abortRequested_of_pending hpending]
  · rw [abortRequested_of_sending hsending] at hbuf
    have waits : AbortWaits n b t :=
      { sending := hbuf ▸ hsending
        alone := fun c hc => hothers c hc ▸ halone c hc
        marked := hbuf ▸ rfl
        noSpdu := fun h2 => hsafety.trans (hisland h2).2 }
    exact ⟨t, ht, waits.sending, waits.canTxAttemptEnd⟩

end Sys2Proof.Machine
end

section
/-! The block as a whole: the queue, the state after reset, the pins, and what the end of a command adds to it. -/
namespace Sys2Proof.Machine

/-! The queue. -/

/-- Settles O1: the command put in front is the one the step takes. -/
theorem stepRunsFront : Obligations.StepRunsFront := fun _ _ => rfl

/-- Settles O2: the queue is empty, so the step has nothing to run. -/
theorem emptyQueueIdles : Obligations.EmptyQueueIdles := by
  intro s h
  unfold step
  rw [h]

/-- Settles O3: the reset state is a literal, so every clause is read off it. -/
theorem resetLeaves : Obligations.ResetLeaves :=
  ⟨rfl, rfl, rfl, rfl, rfl, rfl, rfl, by decide, by decide, reset_buffersHold⟩

/-- Settles O4: an idle step keeps the state with its pins, and every command ends by putting the pins in order. -/
theorem stepKeepsPins : Obligations.StepKeepsPins := by
  intro s
  unfold step
  split
  · exact ⟨s, rfl, id⟩
  · next c rest _ =>
    obtain ⟨t, ht, hpins⟩ := exec_pinsHold c { s with pending := rest }
    exact ⟨t, ht, fun _ => hpins⟩

/-! The end of a command. -/

/-- What the end of a command makes of the state its meaning leaves: the transmitters, the lasting conditions and the pins. -/
def ended (x : State) : State := settle (watch (transmit x))

theorem done_eq (x : State) : done x = .next (ended x) := rfl

/-- A command whose meaning ends in x leaves the ended x. -/
theorem exec_ends {c : Instr} {s x : State} {P : State → Prop} (h : exec c s = done x) (hP : P (ended x)) : ∃ t, exec c s = .next t ∧ P t :=
  ⟨ended x, h.trans (done_eq x), hP⟩

@[simp] theorem ended_dev (x : State) : (ended x).dev = x.dev := rfl
@[simp] theorem ended_trans (x : State) : (ended x).trans = x.trans := rfl
@[simp] theorem ended_alm (x : State) : (ended x).alm = x.alm := rfl
@[simp] theorem ended_hst (x : State) : (ended x).hst = x.hst := rfl
@[simp] theorem ended_sys (x : State) : (ended x).sys = x.sys := rfl
@[simp] theorem ended_mod (x : State) : (ended x).mod = x.mod := rfl
@[simp] theorem ended_hp (x : State) (p : Nat) : (ended x).hp p = x.hp p := rfl
@[simp] theorem ended_par (x : State) : (ended x).par = x.par := rfl
@[simp] theorem ended_pend (x : State) : (ended x).pend = x.pend := rfl

theorem mem_ended {o : Out} {x : State} (h : o ∈ x.out) : o ∈ (ended x).out := mem_transmit h

theorem Answered.ended {p op st : Nat} {ws : List Word} {s x : State} (h : Answered p op st ws s x) :
    Answered p op st ws s (ended x) := h.done

/-! What the transmitters send is not among what a command handed over. -/

theorem sentPly_sent (s : State) (p : Nat) (e : TxEv PlyFrame) : (sentPly s p e).sent = true := by cases e <;> rfl
theorem sentPeer_sent (s : State) (p : Nat) (e : TxEv (Nat × PeerFrame)) : (sentPeer s p e).sent = true := by cases e <;> rfl

theorem txRun_sent (s : State) : ∀ o ∈ (txRun s).2, o.sent = true := by
  have ply : ∀ o ∈ ((plyLines s).foldl (runPly s) (s.tx, [])).2, o.sent = true :=
    List.foldlRecOn (motive := fun (a : Tx × List Out) => ∀ o ∈ a.2, o.sent = true) _ _ (by simp) fun a ha p _ o ho => by
      rcases List.mem_append.1 ho with ho | ho
      · exact ha o ho
      · obtain ⟨e, _, rfl⟩ := List.mem_map.1 ho
        exact sentPly_sent s p e
  exact List.foldlRecOn (motive := fun (a : Tx × List Out) => ∀ o ∈ a.2, o.sent = true) (peerLines s) _ ply fun a ha p _ o ho => by
    rcases List.mem_append.1 ho with ho | ho
    · exact ha o ho
    · obtain ⟨e, _, rfl⟩ := List.mem_map.1 ho
      exact sentPeer_sent s p e

theorem told_ended (x : State) : told (ended x) = told x := by
  have none_told : (txRun x).2.filter (fun o => !o.sent) = [] := by
    simpa using txRun_sent x
  show (x.out ++ (txRun x).2).filter _ = _
  rw [List.filter_append, none_told, List.append_nil]
  rfl

end Sys2Proof.Machine
end

section
/-! A part of every partition that an operation leaves alone, and the request buffers under window writes (R396). -/
namespace Sys2Proof.Machine

/-- A view `g` of a partition reads the same in every partition. -/
structure KeepsHp {α : Type} (g : Hp → α) (s t : State) : Prop where
  same : ∀ q, g (t.hp q) = g (s.hp q)

section
variable {α : Type} {g : Hp → α} {s t u : State}

theorem KeepsHp.refl (g : Hp → α) (s : State) : KeepsHp g s s := ⟨fun _ => rfl⟩
theorem KeepsHp.trans (h : KeepsHp g s t) (k : KeepsHp g t u) : KeepsHp g s u :=
  ⟨fun q => (k.same q).trans (h.same q)⟩
theorem KeepsHp.of_hst (h : t.hst.hp = s.hst.hp := by rfl) : KeepsHp g s t := ⟨fun q => by unfold State.hp; rw [h]⟩
theorem KeepsHp.ite {c : Prop} [Decidable c] (h : KeepsHp g s t) (k : KeepsHp g s u) : KeepsHp g s (if c then t else u) := by
  split <;> assumption
theorem KeepsHp.foldl {β : Type} (f : State → β → State) (hf : ∀ s x, KeepsHp g s (f s x)) (l : List β) (s : State) :
    KeepsHp g s (l.foldl f s) :=
  List.foldlRecOn (motive := KeepsHp g s) l f (.refl g s) fun _ hx y _ => hx.trans (hf _ y)

theorem modHp_keepsHp (p : Nat) (f : Hp → Hp) (s : State) (hf : ∀ h, g (f h) = g h := by intro; rfl) : KeepsHp g s (s.modHp p f) where
  same q := by
    rw [State.hp_modHp]
    split
    · exact hf _
    · rfl

/-- Raising, clearing and logging change a partition in its interrupt flags alone. -/
theorem Rules.keepsHp (h : Rules s t) (hg : ∀ h : Hp, g h.mute = g h := by intro; rfl) : KeepsHp g s t :=
  ⟨fun q => by rw [← hg, h.keep.hp q, hg]⟩

/-- What an answer may change of a partition. -/
structure AnswerProof (g : Hp → α) : Prop where
  mute : ∀ h, g h.mute = g h
  answered : ∀ (h : Hp) (st : Nat) (r : List Word) (lr : Resp) (lt : Option Nat),
    g { countAnswer st h with rsp := r, lastRsp := lr, lastTag := lt } = g h
  ready : ∀ h : Hp, g { h with rspReady := true } = g h

theorem answer_keepsHp (hg : AnswerProof g) (p : Nat) (r : Resp) (s : State) : KeepsHp g s (answer p r s) := by
  unfold answer
  dsimp only
  have stored := modHp_keepsHp (g := g) p (fun h => { countAnswer r.status h with rsp := r.payload, lastRsp := r, lastTag := some r.tag }) s
    (fun h => hg.answered ..)
  split
  · exact stored.trans .of_hst
  · exact stored.trans ((modHp_keepsHp p _ _ hg.ready).trans
      (KeepsHp.trans (t := (State.emit _ _)) .of_hst ((setIrq_hears ..).reacts.rules.keepsHp hg.mute)))
end

/-! Request buffers (R396). -/

theorem buffersHold_iff (s : State) : s.buffersHold = true ↔ ∀ p : Fin 8, bufferWf (s.hp p).reqBuf = true := by
  have view (p : Fin 8) : s.hp p = s.hst.hp[p] := by simp [State.hp, vget]
  simp only [State.buffersHold, List.all_eq_true, view]
  constructor
  · intro h p
    exact h _ (by simp)
  · intro h x hx
    obtain ⟨i, hi, rfl⟩ := Vector.mem_iff_getElem.1 (Vector.mem_toList_iff.1 hx)
    exact h ⟨i, hi⟩

theorem KeepsHp.buffersHold {s t : State} (h : KeepsHp Hp.reqBuf s t) (hs : s.buffersHold = true) : t.buffersHold = true :=
  (buffersHold_iff t).2 fun p => h.same p ▸ (buffersHold_iff s).1 hs p

theorem reqBuf_answerProof : AnswerProof Hp.reqBuf := ⟨fun _ => rfl, fun _ _ _ _ _ => rfl, fun _ => rfl⟩

theorem frontRequest_keepsBuffers (p n : Nat) (s : State) : KeepsHp Hp.reqBuf s (frontRequest p n s) := by
  unfold frontRequest
  split
  · exact .refl ..
  · split
    · exact .refl ..
    · exact (modHp_keepsHp p _ s).trans (answer_keepsHp reqBuf_answerProof ..)

/-- The request of a doorbell taken from the buffer. -/
def rung (p n : Nat) (s : State) : State := s.modHp p (fun h => { h with
  msg := some (msgOf (bufferWords h n)), reqLen := n, reqBusy := true, held := h.rspReady, lastMsg := s.now })

theorem ringDoorbell_keepsBuffers (p n : Nat) (s : State) : KeepsHp Hp.reqBuf s (ringDoorbell p n s) := by
  have taken : KeepsHp Hp.reqBuf s (rung p n s) := modHp_keepsHp p _ s
  have front := taken.trans (frontRequest_keepsBuffers p n _)
  exact .ite (.refl ..) (.ite (modHp_keepsHp p _ s) (.ite (taken.trans .of_hst) (.ite (front.trans .of_hst) front)))

theorem ackResponse_keepsBuffers (p : Nat) (s : State) : KeepsHp Hp.reqBuf s (ackResponse p s) := by
  have freed : KeepsHp Hp.reqBuf s (s.modHp p (fun h => { h with rspReady := false, held := false })) := modHp_keepsHp p _ s
  unfold ackResponse
  dsimp only
  refine .ite (.refl ..) (.ite freed ?_)
  have front := freed.trans (frontRequest_keepsBuffers p
    ((s.modHp p (fun h => { h with rspReady := false, held := false })).hp p).reqLen _)
  exact .ite front (front.trans .of_hst)

theorem abortRequest_keepsBuffers (p : Nat) (s : State) : KeepsHp Hp.reqBuf s (abortRequest p s) :=
  .ite (.refl ..) (.ite (modHp_keepsHp p _ s)
    ((modHp_keepsHp p (fun h => { h with msg := none, held := false, reqBusy := false }) s).trans .of_hst))

theorem writeMailbox_keepsBuffers (p off : Nat) (v : Word) (s : State) : KeepsHp Hp.reqBuf s (writeMailbox p off v s) := by
  unfold writeMailbox
  split
  · exact modHp_keepsHp p _ s
  · exact ringDoorbell_keepsBuffers ..
  · exact .ite (ackResponse_keepsBuffers ..) (.refl ..)
  · exact modHp_keepsHp p _ s
  · exact modHp_keepsHp p _ s
  · exact .ite (abortRequest_keepsBuffers ..) (.refl ..)
  · exact .refl ..

/-! A queue's registers hold nothing of a partition. -/

theorem modSq_keepsHp {α : Type} (g : Hp → α) (q : Nat) (f : Sq → Sq) (s : State) : KeepsHp g s (s.modSq q f) := .of_hst

theorem writeSqCtrl_keepsHp {α : Type} {g : Hp → α} (hg : ∀ h : Hp, g h.mute = g h) (p q : Nat) (cl rl dma en : Bool) (s : State) :
    KeepsHp g s (writeSqCtrl p q cl rl dma en s) := by
  unfold writeSqCtrl
  refine KeepsHp.trans (t := if cl && (s.sq q).owner = 15 then s.modSq q (fun x => { x with owner := p }) else s)
    (.ite (modSq_keepsHp ..) (.refl ..)) ?_
  exact .ite (.refl ..) (.ite ((modSq_keepsHp ..).trans ((condHolds_rules ..).keepsHp hg)) (modSq_keepsHp ..))

theorem advanceSq_keepsHp {α : Type} (g : Hp → α) (p q n : Nat) (s : State) : KeepsHp g s (advanceSq p q n s) := by
  unfold advanceSq
  refine .ite (.refl ..) ?_
  split <;> exact modSq_keepsHp ..

theorem writeHostRd_keepsHp {α : Type} (g : Hp → α) (p q off : Nat) (s : State) : KeepsHp g s (writeHostRd p q off s) :=
  .ite (.refl ..) (.ite (modSq_keepsHp ..) (modSq_keepsHp ..))

theorem writeSqReg_keepsHp {α : Type} {g : Hp → α} (hg : ∀ h : Hp, g h.mute = g h) (p q r : Nat) (v : Word) (s : State) :
    KeepsHp g s (writeSqReg p q r v s) := by
  have guarded (c : Bool) (f : Sq → Sq) : KeepsHp g s (if c then s.modSq q f else s) := .ite (modSq_keepsHp ..) (.refl ..)
  unfold writeSqReg
  dsimp only
  split
  case h_2 => exact writeSqCtrl_keepsHp hg ..
  case h_3 => exact advanceSq_keepsHp ..
  case h_6 => exact .ite (guarded ..) (.refl ..)
  case h_7 => exact writeHostRd_keepsHp ..
  case h_12 => exact .refl ..
  all_goals exact guarded ..

/-- A write through the window of partition p: into the buffer itself the canonical write, elsewhere nothing of a buffer. -/
theorem windowWrite_buffersHold (p : Fin 8) (off : Nat) (v : Word) {s : State} (h : s.buffersHold = true) :
    (windowWrite p off v s).buffersHold = true := by
  unfold windowWrite
  split
  · exact h
  · split
    · exact (writeMailbox_keepsBuffers ..).buffersHold h
    · split
      · exact (writeSqReg_keepsHp (g := Hp.reqBuf) (fun _ => rfl) ..).buffersHold h
      · split
        · exact (modHp_keepsHp (g := Hp.reqBuf) p _ s).buffersHold h
        · split
          · exact (modHp_keepsHp (g := Hp.reqBuf) p _ s).buffersHold h
          · split
            · split
              · exact (modHp_keepsHp (g := Hp.reqBuf) p _ s).buffersHold h
              · refine (buffersHold_iff _).2 fun q => ?_
                rw [State.hp_modHp]
                split
                · exact bufferPut_wf _ _ _ ((buffersHold_iff s).1 h q)
                · exact (buffersHold_iff s).1 h q
            · exact h

/-- Settles O5: through a window that the partition has; without one nothing is written. -/
theorem registerWriteKeepsBuffers : Obligations.RegisterWriteKeepsBuffers := by
  intro dt p off v s t h ht
  have begun : (s.begin dt).buffersHold = true := h
  have runs : execRegisterWrite dt p off v s =
      .next (ended (if hasWindow (s.begin dt) p then windowWrite p off.toNat v (s.begin dt) else s.begin dt)) := by
    unfold execRegisterWrite
    dsimp only
    split <;> rfl
  obtain rfl : ended _ = t := Host.Outcome.next.inj (runs.symm.trans ht)
  show State.buffersHold (if _ then _ else _) = true
  split
  · exact windowWrite_buffersHold p _ v begun
  · exact begun

end Sys2Proof.Machine
end

section
/-! Sessions and status (R391, R392, R401): what a message that runs is answered, and what the end of a session leaves of a partition. -/
namespace Sys2Proof.Machine

/-! What leaves stays among the outputs. -/

theorem cancelLaunches_out (q : Nat) (s : State) : s.out ⊆ (cancelLaunches q s).out := by
  unfold cancelLaunches
  exact List.foldlRecOn (motive := fun (x : State) => s.out ⊆ x.out) _ _
    (fun _ => (forwardWrite_keeps ..).2.out _) fun _ hx _ _ _ ho => (logEvent_logs ..).reacts.rules.keep.out _ (hx ho)

theorem moveToken_out (new cause : Nat) (s : State) : s.out ⊆ (moveToken new cause s).out := by
  have irq (v q : Nat) (x : State) : x.out ⊆ (setIrq v q x).out := fun o => (setIrq_hears v q x).reacts.rules.keep.out o
  have logged {a b : Nat} (x : State) (h : x.out = s.out) : s.out ⊆ (logEvent 2 0 0 a b x).out := fun o ho =>
    (logEvent_logs 2 0 0 a b x).reacts.rules.keep.out o (h ▸ ho)
  have ite {c : Prop} [Decidable c] {x y : State} (h : s.out ⊆ x.out) (k : x.out ⊆ y.out) : s.out ⊆ (if c then y else x).out := by
    split
    · exact fun _ ho => k (h ho)
    · exact h
  unfold moveToken
  dsimp only
  split
  · exact fun _ => id
  · refine ite (ite ?_ (fun _ ho => cancelLaunches_out _ _ (irq _ _ _ ho))) (irq ..)
    exact logged _ rfl

theorem dropToken_out (p cause : Nat) (s : State) : s.out ⊆ (dropToken p cause s).out := by
  unfold dropToken
  split
  · exact moveToken_out ..
  · exact fun _ => id

theorem promoteWhere_out (f : Pend → Bool) (s : State) : (promoteWhere f s).out = s.out :=
  List.foldlRecOn (motive := fun (x : State) => x.out = s.out) (s.pend.filter f) _ rfl fun _ hx _ _ => hx

theorem promoteHst_out (p : Nat) (s : State) : (promoteHst p s).out = s.out := by
  unfold promoteHst
  split
  · rfl
  · exact promoteWhere_out ..

theorem endSession_out (p cause : Nat) (s : State) : s.out ⊆ (endSession p cause s).out := by
  cases hs : (s.hp p).session with
  | false => rw [endSession_of_no_session hs]; exact fun _ => id
  | true =>
    rw [endSession_of_session hs, promoteHst_out]
    exact dropToken_out ..

/-- The end of a session keeps everything of a partition but its session, its version and its interrupt flags. -/
theorem endSession_keepsHp {α : Type} {g : Hp → α} (p cause : Nat) (s : State) (hmute : ∀ h : Hp, g h.mute = g h := by intro; rfl)
    (hend : ∀ h : Hp, g { h with session := false, version := 0 } = g h := by intro; rfl) : KeepsHp g s (endSession p cause s) := by
  cases hs : (s.hp p).session with
  | false => rw [endSession_of_no_session hs]; exact .refl ..
  | true =>
    rw [endSession_of_session hs]
    have dropped : KeepsHp g s (dropToken p cause s) := ⟨fun q => by rw [← hmute, (dropToken_keeps p cause s).1, hmute]⟩
    exact (dropped.trans (modHp_keepsHp p _ _ hend)).trans (.of_hst (by rw [promoteHst_hst]; rfl))

/-! Answers. -/

theorem Accepts.observed {p op since : Nat} {s : State} (h : Accepts p op since s) : Granted p op since .observe false s :=
  ⟨h, rfl, fun e => absurd e (by decide)⟩

theorem takeMsg_tag (p : Fin 8) (op : Nat) (s : State) :
    (((takeMsg p op s).hp p).msg.map (·.tag)).getD 0 = ((s.hp p).msg.map (·.tag)).getD 0 := by
  rw [takeMsg_hp]
  cases (s.hp p).msg <;> rfl

/-- The message that runs is one of the row's opcode. -/
theorem takeMsg_opcode {p : Fin 8} {op : Nat} {s : State} (h : mayRun p op s = true) :
    (((takeMsg p op s).hp p).msg.map (·.opcode)).getD 0 = op := by
  rw [takeMsg_hp]
  unfold mayRun at h
  cases hm : (s.hp p).msg with
  | none => rfl
  | some m =>
    simp only [hm, Bool.and_eq_true, beq_iff_eq] at h
    exact h.2.1.1

/-- An answer to the message that runs, whatever became of its session meanwhile. -/
theorem respondWith_answers {p : Fin 8} {op : Nat} {s x : State} (hrun : mayRun p op s = true) (hdrop : (x.hp p).drop = false)
    (hmsg : (x.hp p).msg = ((takeMsg p op s).hp p).msg) (st : Nat) (ws : List Word) (m sat : Bool) :
    Answered p op st ws s (respondWith p st ws m sat x) :=
  ⟨_, respondWith_out p st ws m sat x hdrop, rfl, rfl, (congrArg (fun m => (m.map Msg.opcode).getD 0) hmsg).trans (takeMsg_opcode hrun),
    (congrArg (fun m => (m.map Msg.tag).getD 0) hmsg).trans (takeMsg_tag p op s)⟩

theorem takeMsg_drop (p : Fin 8) (op : Nat) (s : State) : ((takeMsg p op s).hp p).drop = (s.hp p).drop := by rw [takeMsg_hp]

/-- A command open to every session that answers with words read from the state. -/
theorem observed_ok {p : Fin 8} {op since : Nat} {s : State} (h : Accepts p op since s) (dt : Nat) (f : State → List Word) :
    ∃ t, done (hostCmd p op since .observe false (fun s => ok p (f s) s) (s.begin dt)) = .next t ∧
      Answered p op 0 (f (takeMsg p op (s.begin dt))) s t :=
  ⟨_, congrArg done (hostCmd_body (h.observed.begin dt) _), (ok_answered (h.begin dt) rfl _).ended⟩

/-- Settles O7: each of the four reads its words from the state as the message is taken. -/
theorem statusAnswers : Obligations.StatusAnswers := by
  intro dt p s
  refine ⟨fun w h => observed_ok h dt (fun x => w :: secNs x.now), fun h => observed_ok h dt _, fun h => observed_ok h dt _, fun h => ?_⟩
  obtain ⟨t, ht, hanswer⟩ := observed_ok h dt infoWords
  exact ⟨t, _, ht, hanswer, rfl, rfl, rfl⟩

/-! Sessions. -/

theorem mayRun_not_waits {p op : Nat} {s : State} (h : mayRun p op s = true) : waits s p = false := by
  unfold mayRun at h
  simp only [Bool.and_eq_true, Bool.not_eq_true'] at h
  exact h.1.2

/-- The four words of HELLO's answer (Table 14-8). -/
def helloWords (p : Fin 8) (s : State) : List Word :=
  [BitVec.ofNat 32 p, BitVec.ofNat 32 (privOf s p), BitVec.ofNat 32 (maxMsg s p), BitVec.ofNat 32 (s.ptn 17 p 6 / secQn)]

/-- The partition's old session ended, and a new one open at a version. -/
def reopened (p : Fin 8) (v : Nat) (s : State) : State :=
  (endSession p 3 s).modHp p (fun h => { h with session := true, version := v })

theorem execHello_accepted {p : Fin 8} {s : State} (hrun : mayRun p 1 s = true) (dt : Nat) (maj min : Byte)
    (hv : 0x300 ≤ Nat.min (maj.toNat * 256 + min.toNat) topVersion) :
    exec (.hello dt p maj min) s = done
      (ok p (helloWords p (reopened p (Nat.min (maj.toNat * 256 + min.toNat) topVersion) (takeMsg p 1 (s.begin dt))))
        (reopened p (Nat.min (maj.toNat * 256 + min.toNat) topVersion) (takeMsg p 1 (s.begin dt)))) := by
  have runs : mayRun p 1 (s.begin dt) = true := hrun
  show execHello dt p maj min s = _
  unfold execHello
  simp only [mayRun_not_waits runs, runs, Nat.not_lt.2 hv, Bool.and_false, Bool.false_and, Bool.not_true, Bool.false_eq_true, if_false]
  rfl

theorem execHello_refused {p : Fin 8} {s : State} (hrun : mayRun p 1 s = true) (dt : Nat) (maj min : Byte)
    (hv : Nat.min (maj.toNat * 256 + min.toNat) topVersion < 0x300) :
    exec (.hello dt p maj min) s = done (refuse p stVersion topVersion 0 (takeMsg p 1 (s.begin dt))) := by
  have runs : mayRun p 1 (s.begin dt) = true := hrun
  show execHello dt p maj min s = _
  unfold execHello
  simp only [mayRun_not_waits runs, runs, hv, Bool.and_false, Bool.false_and, Bool.not_true, Bool.false_eq_true, if_false, if_true]

theorem hello_opens {p : Fin 8} {s : State} (hrun : mayRun p 1 s = true) (hdrop : (s.hp p).drop = false) (dt : Nat) {maj min : Byte}
    (hv : 0x300 ≤ maj.toNat * 256 + min.toNat) :
    ∃ t, exec (.hello dt p maj min) s = .next t ∧ (t.hp p).session = true ∧
      (t.hp p).version = Nat.min (maj.toNat * 256 + min.toNat) 0x402 ∧ ∃ ws, Answered p 0x0001 0 ws s t := by
  refine exec_ends (execHello_accepted hrun dt maj min (Nat.le_min.2 ⟨hv, by decide⟩)) ?_
  generalize hx : reopened p (Nat.min (maj.toNat * 256 + min.toNat) topVersion) (takeMsg p 1 (s.begin dt)) = x
  have opened : x.hp p = { (endSession p 3 (takeMsg p 1 (s.begin dt))).hp p with
      session := true, version := Nat.min (maj.toNat * 256 + min.toNat) topVersion } := by
    rw [← hx]
    exact State.hp_modHp_self ..
  have hmsg : (x.hp p).msg = ((takeMsg p 1 (s.begin dt)).hp p).msg := by
    rw [opened]
    exact (endSession_keepsHp (g := Hp.msg) p 3 _).same p
  have hkept : (x.hp p).drop = false := by
    rw [opened]
    exact ((endSession_keepsHp (g := Hp.drop) p 3 _).same p).trans ((takeMsg_drop p 1 _).trans hdrop)
  obtain ⟨-, -, -, -, hsession⟩ := ok_keepsHost p (helloWords p x) x
  rw [ended_hp, (hsession p).1, (hsession p).2, opened]
  exact ⟨rfl, rfl, _, Answered.ended (respondWith_answers (s := s.begin dt) hrun hkept hmsg ..)⟩

theorem hello_refused {p : Fin 8} {s : State} (hrun : mayRun p 1 s = true) (hdrop : (s.hp p).drop = false) (dt : Nat) {maj min : Byte}
    (hv : maj.toNat * 256 + min.toNat < 0x300) :
    ∃ t, exec (.hello dt p maj min) s = .next t ∧ (t.hp p).session = (s.hp p).session ∧ Answered p 0x0001 0x02 [0x402, 0] s t := by
  refine exec_ends (execHello_refused hrun dt maj min (Nat.lt_of_le_of_lt (Nat.min_le_left ..) hv)) ⟨?_, ?_⟩
  · obtain ⟨-, -, -, -, hsession⟩ := refuse_keepsHost p stVersion topVersion 0 (takeMsg p 1 (s.begin dt))
    rw [ended_hp, (hsession p).1, takeMsg_hp]
    rfl
  · have kept : ((takeMsg p 1 (s.begin dt)).hp p).drop = false := (takeMsg_drop p 1 _).trans hdrop
    exact Answered.ended (respondWith_answers (s := s.begin dt) hrun kept rfl stVersion _ false false)

theorem bye_ends {p : Fin 8} {s : State} (h : Accepts p 0x0002 0x300 s) (dt : Nat) :
    ∃ t, exec (.bye dt p) s = .next t ∧ (t.hp p).session = false ∧ t.hst.token ≠ p.val ∧ Answered p 0x0002 0 [] s t := by
  refine exec_ends (congrArg done (hostCmd_body (h.observed.begin dt) _)) ⟨?_, ?_, ?_⟩
  · rw [ended_hp, endSession_session_self]
  · rw [ended_hst]
    generalize hx : ok p [] (takeMsg p 0x0002 (s.begin dt)) = x
    have open_ : (x.hp p).session = true := by
      obtain ⟨-, -, -, -, hsession⟩ := ok_keepsHost p [] (takeMsg p 0x0002 (s.begin dt))
      rw [← hx, (hsession p).1, takeMsg_hp]
      exact h.2.1
    by_cases held : x.hst.token = p
    · rw [endSession_token_of_holder held open_]
      omega
    · rwa [endSession_token_of_ne held]
  · obtain ⟨r, hr, answered⟩ := ok_answered (h.begin dt) (x := takeMsg p 0x0002 (s.begin dt)) rfl []
    exact ⟨r, mem_ended (endSession_out p 2 _ hr), answered⟩

/-- Settles O8: HELLO of a version the device speaks, of an older one, and BYE. -/
theorem sessionOpensAndEnds : Obligations.SessionOpensAndEnds := fun dt _ _ =>
  ⟨fun _ _ hrun hdrop hv => hello_opens hrun hdrop dt hv, fun _ _ hrun hdrop hv => hello_refused hrun hdrop dt hv, fun h => bye_ends h dt⟩

end Sys2Proof.Machine
end

section
/-! Mailboxes and datagrams (R388, R396, R400, R401, R407): where a request goes when its doorbell rings or its datagram arrives. -/
namespace Sys2Proof.Machine

/-! What an answer by the header alone leaves. -/

theorem answer_out (p : Nat) (r : Resp) (s : State) : Out.resp p r ∈ (answer p r s).out := by
  unfold answer
  dsimp only
  split
  · exact List.mem_append_right _ (List.mem_singleton_self _)
  · exact (setIrq_hears ..).reacts.rules.keep.out _ (List.mem_append_right _ (List.mem_singleton_self _))

theorem answerHeader_out (p : Nat) (m : Msg) (r : Nat × Nat) (s : State) :
    ∃ x, Out.resp p x ∈ (answerHeader p m r s).out ∧ x.status = r.1 ∧ x.tag = m.tag :=
  ⟨_, answer_out .., rfl, rfl⟩

theorem reqBusy_answerProof : AnswerProof Hp.reqBusy := ⟨fun _ => rfl, fun _ _ _ _ _ => rfl, fun _ => rfl⟩

/-! The check of a header. -/

/-- A well-sized message other than HELLO is checked for its session, its version and its opcode, in this order (R401). -/
theorem headerRefusal_sized {s : State} {p n len : Nat} {m : Msg} (h16 : 16 ≤ n) (h4 : n % 4 = 0) (hmax : n ≤ maxMsg s p)
    (hlen : len + 16 = n) (hop : m.opcode ≠ 1) :
    headerRefusal s p m n len =
      if !(s.hp p).session then some (stNoSession, 0)
      else if m.maj * 256 + m.min ≠ (s.hp p).version then some (stVersion, (s.hp p).version)
      else match opcodes.find? (fun o => o.1 == m.opcode && decide (o.2 ≤ (s.hp p).version)) with
        | some _ => none
        | none => some (stUnknown, m.opcode) := by
  unfold headerRefusal
  simp only [Nat.not_lt.2 h16, Nat.not_lt.2 hmax, h4, hlen, hop, ne_eq, not_true, decide_false, Bool.or_self, Bool.false_eq_true, if_false] <;>
    rfl

theorem headerRefusal_no_session {s : State} {p n len : Nat} {m : Msg} (h16 : 16 ≤ n) (h4 : n % 4 = 0) (hmax : n ≤ maxMsg s p)
    (hlen : len + 16 = n) (hop : m.opcode ≠ 1) (hs : (s.hp p).session = false) : headerRefusal s p m n len = some (stNoSession, 0) := by
  rw [headerRefusal_sized h16 h4 hmax hlen hop, hs]
  rfl

theorem headerRefusal_passes {s : State} {p n len : Nat} {m : Msg} (h16 : 16 ≤ n) (h4 : n % 4 = 0) (hmax : n ≤ maxMsg s p)
    (hlen : len + 16 = n) (hop : m.opcode ≠ 1) (hs : (s.hp p).session = true) (hv : m.maj * 256 + m.min = (s.hp p).version)
    (hknown : opcodes.any (fun o => o.1 == m.opcode && decide (o.2 ≤ (s.hp p).version)) = true) : headerRefusal s p m n len = none := by
  rw [headerRefusal_sized h16 h4 hmax hlen hop, hs, if_neg (by decide), if_neg (Classical.not_not.2 hv)]
  obtain ⟨o, ho⟩ := Option.isSome_iff_exists.1 (List.find?_isSome.2 (List.any_eq_true.1 hknown))
  rw [ho]

/-- The check reads the fields, and of the partition its session and version. -/
theorem headerRefusal_congr {s t : State} {p : Nat} (hpar : t.par = s.par) (hs : (t.hp p).session = (s.hp p).session)
    (hv : (t.hp p).version = (s.hp p).version) (m : Msg) (n len : Nat) : headerRefusal t p m n len = headerRefusal s p m n len := by
  unfold headerRefusal maxMsg
  dsimp only
  rw [pn_congr hpar, hs, hv]

/-! A doorbell. -/

theorem rung_hp (p : Fin 8) (n : Nat) (s : State) : (rung p n s).hp p = { s.hp p with
    msg := some (msgOf (bufferWords (s.hp p) n)), reqLen := n, reqBusy := true, held := (s.hp p).rspReady, lastMsg := s.now } :=
  State.hp_modHp_self ..

theorem headerRefusal_rung (p : Fin 8) (n : Nat) (s : State) (m : Msg) (k len : Nat) :
    headerRefusal (rung p n s) p m k len = headerRefusal s p m k len :=
  headerRefusal_congr (s := s) (t := rung p n s) rfl (by rw [rung_hp]) (by rw [rung_hp]) m k len

section
variable {p : Fin 8} {n : Nat} {s : State} (hw : hasWindow s p = true) (ha : attached s p = true)
include hw ha

theorem ringDoorbell_busy (hb : (s.hp p).reqBusy = true) : ringDoorbell p n s = s.modHp p (fun h => { h with overrun := true }) := by
  unfold ringDoorbell
  simp [hw, ha, hb]

theorem ringDoorbell_held (hb : (s.hp p).reqBusy = false) (hr : (s.hp p).rspReady = true) :
    ringDoorbell p n s = { rung p n s with hst := { (rung p n s).hst with order := s.hst.order ++ [p.val] } } := by
  unfold ringDoorbell
  simp only [hw, ha, hb, hr, Bool.not_true, Bool.or_self, Bool.false_eq_true, if_false, if_true]
  rfl

theorem ringDoorbell_front (hb : (s.hp p).reqBusy = false) (hr : (s.hp p).rspReady = false) :
    ringDoorbell p n s =
      if ((frontRequest p n (rung p n s)).hp p).reqBusy then
        { frontRequest p n (rung p n s) with
          hst := { (frontRequest p n (rung p n s)).hst with order := (frontRequest p n (rung p n s)).hst.order ++ [p.val] } }
      else frontRequest p n (rung p n s) := by
  unfold ringDoorbell
  simp only [hw, ha, hb, hr, Bool.not_true, Bool.or_self, Bool.false_eq_true, if_false]
  rfl
end

theorem frontRequest_rung_refused {p : Fin 8} {n : Nat} {s : State} {r : Nat × Nat}
    (h : headerRefusal s p (msgOf (bufferWords (s.hp p) n)) n (lenField (bufferWords (s.hp p) n)) = some r) :
    frontRequest p n (rung p n s) =
      answerHeader p (msgOf (bufferWords (s.hp p) n)) r ((rung p n s).modHp p (fun h => { h with msg := none, reqBusy := false })) := by
  have check : headerRefusal (rung p n s) p (msgOf (bufferWords (s.hp p) n)) n (lenField (bufferWords ((rung p n s).hp p) n)) = some r := by
    rw [headerRefusal_rung, rung_hp]
    exact h
  unfold frontRequest
  rw [show ((rung p n s).hp p).msg = some (msgOf (bufferWords (s.hp p) n)) by rw [rung_hp]]
  simp only [check]

theorem frontRequest_rung_passes {p : Fin 8} {n : Nat} {s : State}
    (h : headerRefusal s p (msgOf (bufferWords (s.hp p) n)) n (lenField (bufferWords (s.hp p) n)) = none) :
    frontRequest p n (rung p n s) = rung p n s := by
  have check : headerRefusal (rung p n s) p (msgOf (bufferWords (s.hp p) n)) n (lenField (bufferWords ((rung p n s).hp p) n)) = none := by
    rw [headerRefusal_rung, rung_hp]
    exact h
  unfold frontRequest
  rw [show ((rung p n s).hp p).msg = some (msgOf (bufferWords (s.hp p) n)) by rw [rung_hp]]
  simp only [check]

/-- A request whose header does not pass is answered, and its buffer is free again. -/
theorem ringDoorbell_refused {p : Fin 8} {n : Nat} {s : State} (hw : hasWindow s p = true) (ha : attached s p = true)
    (hb : (s.hp p).reqBusy = false) (hr : (s.hp p).rspReady = false) {r : Nat × Nat}
    (h : headerRefusal s p (msgOf (bufferWords (s.hp p) n)) n (lenField (bufferWords (s.hp p) n)) = some r) :
    ∃ x, Out.resp p x ∈ (ringDoorbell p n s).out ∧ x.status = r.1 ∧ x.tag = (msgOf (bufferWords (s.hp p) n)).tag ∧
      ((ringDoorbell p n s).hp p).reqBusy = false := by
  have free : ((frontRequest p n (rung p n s)).hp p).reqBusy = false := by
    rw [frontRequest_rung_refused h]
    exact ((answer_keepsHp reqBusy_answerProof ..).same p).trans (by rw [State.hp_modHp_self])
  rw [ringDoorbell_front hw ha hb hr, free, if_neg (by decide)]
  obtain ⟨x, hx, hstatus, htag⟩ := answerHeader_out p (msgOf (bufferWords (s.hp p) n)) r
    ((rung p n s).modHp p (fun h => { h with msg := none, reqBusy := false }))
  exact ⟨x, by rwa [frontRequest_rung_refused h], hstatus, htag, free⟩

theorem ringDoorbell_passes {p : Fin 8} {n : Nat} {s : State} (hw : hasWindow s p = true) (ha : attached s p = true)
    (hb : (s.hp p).reqBusy = false) (hr : (s.hp p).rspReady = false)
    (h : headerRefusal s p (msgOf (bufferWords (s.hp p) n)) n (lenField (bufferWords (s.hp p) n)) = none) :
    ringDoorbell p n s = { rung p n s with hst := { (rung p n s).hst with order := s.hst.order ++ [p.val] } } := by
  rw [ringDoorbell_front hw ha hb hr, frontRequest_rung_passes h, rung_hp, if_pos rfl]
  rfl

/-- A mailbox register: the window is there, and the response or the request is. -/
theorem ackResponse_not_held {p : Fin 8} {s : State} (hw : hasWindow s p = true) (hr : (s.hp p).rspReady = true) (hh : (s.hp p).held = false) :
    ackResponse p s = s.modHp p (fun h => { h with rspReady := false, held := false }) := by
  unfold ackResponse
  simp [hw, hr, hh]

theorem abortRequest_waiting {p : Fin 8} {s : State} (hw : hasWindow s p = true) (hb : (s.hp p).reqBusy = true) (hn : waits s p = false) :
    abortRequest p s = { s.modHp p (fun h => { h with msg := none, held := false, reqBusy := false }) with
      hst := { (s.modHp p (fun h => { h with msg := none, held := false, reqBusy := false })).hst with order := s.hst.order.erase p.val } } := by
  unfold abortRequest
  simp only [hw, hb, hn, Bool.not_true, Bool.or_self, Bool.false_eq_true, if_false]
  rfl

theorem abortRequest_executing {p : Fin 8} {s : State} (hw : hasWindow s p = true) (hb : (s.hp p).reqBusy = true) (hn : waits s p = true) :
    abortRequest p s = s.modHp p (fun h => { h with drop := true, msg := none, reqBusy := false, rspReady := false }) := by
  unfold abortRequest
  simp [hw, hb, hn]

theorem exec_mailboxDoorbell (dt : Nat) (p : Fin 8) (len : BitVec 13) (s : State) :
    exec (.mailboxDoorbell dt p len) s = .next (ended (ringDoorbell p len.toNat (s.begin dt))) := rfl

/-- Settles O10: the five ends of a doorbell, the acknowledgement, and the two ends of ABORT. -/
theorem mailboxTurns : Obligations.MailboxTurns := by
  refine ⟨fun dt p len s hw ha => ⟨fun hb => ?_, fun hb hr => ?_, fun hb hr h16 h4 hmax hlen hop => ⟨fun hs => ?_, fun hs hv hknown => ?_⟩⟩,
    fun dt p s hw => ⟨fun hr hh => ?_, fun hb hn => ?_, fun hb hn => ?_⟩⟩
  · refine ⟨_, exec_mailboxDoorbell .., ?_⟩
    rw [ringDoorbell_busy (s := s.begin dt) hw ha hb, ended_hp, State.hp_modHp_self]
    exact ⟨rfl, rfl⟩
  · refine ⟨_, exec_mailboxDoorbell .., ?_⟩
    rw [ringDoorbell_held (s := s.begin dt) hw ha hb hr]
    have taken := rung_hp p len.toNat (s.begin dt)
    exact ⟨(congrArg Hp.held taken).trans hr, congrArg Hp.reqBusy taken, congrArg Hp.msg taken, rfl⟩
  · obtain ⟨x, hx, hstatus, htag, hfree⟩ := ringDoorbell_refused (s := s.begin dt) hw ha hb hr
      (headerRefusal_no_session (s := s.begin dt) h16 h4 hmax hlen hop hs)
    exact ⟨_, x, exec_mailboxDoorbell .., mem_ended hx, hstatus, htag, hfree⟩
  · refine ⟨_, exec_mailboxDoorbell .., ?_⟩
    rw [ringDoorbell_passes (s := s.begin dt) hw ha hb hr (headerRefusal_passes (s := s.begin dt) h16 h4 hmax hlen hop hs hv hknown)]
    have taken := rung_hp p len.toNat (s.begin dt)
    exact ⟨(congrArg Hp.held taken).trans hr, congrArg Hp.reqBusy taken, congrArg Hp.msg taken, rfl⟩
  · refine ⟨_, congrArg done (ackResponse_not_held (s := s.begin dt) hw hr hh), ?_⟩
    have freed := State.hp_modHp_self p (fun h => { h with rspReady := false, held := false }) (s.begin dt)
    exact ⟨(congrArg Hp.rspReady freed).trans rfl, (congrArg Hp.msg freed).trans rfl, rfl⟩
  · refine ⟨_, congrArg done (abortRequest_waiting (s := s.begin dt) hw hb hn), ?_⟩
    have gone := State.hp_modHp_self p (fun h => { h with msg := none, held := false, reqBusy := false }) (s.begin dt)
    exact ⟨congrArg Hp.reqBusy gone, congrArg Hp.msg gone, rfl⟩
  · refine ⟨_, congrArg done (abortRequest_executing (s := s.begin dt) hw hb hn), ?_⟩
    have gone := State.hp_modHp_self p (fun h => { h with drop := true, msg := none, reqBusy := false, rspReady := false }) (s.begin dt)
    exact ⟨congrArg Hp.reqBusy gone, congrArg Hp.drop gone, rfl⟩

/-! A datagram. -/

/-- The partition of a datagram: over UDP, attached, with no message of its own waiting. -/
structure Listens (p : Fin 8) (s : State) : Prop where
  udp : s.pn 17 p 1 = 3
  attached : attached s p = true
  idle : (s.hp p).msg = none

/-- The datagram renews the lease. -/
def leased (p : Fin 8) (s : State) : State := s.modHp p (fun h => { h with lastMsg := s.now })

theorem leased_hp (p : Fin 8) (s : State) : (leased p s).hp p = { s.hp p with lastMsg := s.now } := State.hp_modHp_self ..

theorem headerRefusal_leased (p : Fin 8) (s : State) (m : Msg) (k len : Nat) :
    headerRefusal (leased p s) p m k len = headerRefusal s p m k len :=
  headerRefusal_congr (s := s) (t := leased p s) rfl (by rw [leased_hp]) (by rw [leased_hp]) m k len

theorem udpMessage_repeat {p : Fin 8} {s : State} (h : Listens p s) (n : Nat) {ws : List Word} (hlast : (s.hp p).lastTag = some (msgOf ws).tag) :
    udpMessage p n ws s = (leased p s).emit (.resp p (s.hp p).lastRsp) := by
  unfold udpMessage
  simp only [h.udp, h.attached, h.idle, hlast, ne_eq, not_true, decide_false, Bool.not_true, Bool.or_self, Bool.false_eq_true, if_false,
    decide_true, Option.isNone_none, Bool.and_self, if_true]
  rfl

theorem udpMessage_waits {p : Fin 8} {s : State} (h : Listens p s) {n : Nat} {ws : List Word} (hnew : (s.hp p).lastTag ≠ some (msgOf ws).tag)
    (hbehind : (s.hp p).behind = []) (hpass : headerRefusal s p (msgOf ws) n (lenField ws) = none) :
    udpMessage p n ws s = State.modHp { leased p s with hst := { (leased p s).hst with order := s.hst.order ++ [p.val] } } p
      (fun x => { x with msg := some (msgOf ws), reqBusy := true }) := by
  have check : headerRefusal (leased p s) p (msgOf ws) n (lenField ws) = none := (headerRefusal_leased ..).trans hpass
  unfold leased at check
  unfold udpMessage
  simp only [h.udp, h.attached, h.idle, hnew, hbehind, check, ne_eq, not_true, decide_false, Bool.not_true, Bool.or_self, Bool.false_eq_true,
    if_false, Bool.false_and, Option.toList_none, List.append_nil, List.any_nil, Option.isNone_none, if_true]
  rfl

/-- The state in which the datagram is looked at, its frame stamped where the Almanac runs. -/
def datagramStamped (dt : Nat) (p : Fin 8) (s : State) : State :=
  if (s.begin dt).alm.running && (s.begin dt).pn 17 p 1 == 3 && attached (s.begin dt) p then stampNow (s.begin dt) else s.begin dt

theorem datagramStamped_eq (dt : Nat) (p : Fin 8) (s : State) :
    ∃ a, datagramStamped dt p s = { s.begin dt with alm := { (s.begin dt).alm with stamp := a } } := by
  unfold datagramStamped
  split
  · exact ⟨_, rfl⟩
  · exact ⟨(s.begin dt).alm.stamp, rfl⟩

/-- Settles O11: the repeat of the last TAG, and a new one whose header passes. -/
theorem datagramArrives : Obligations.DatagramArrives := by
  intro dt p ws s hudp hattached hidle
  obtain ⟨a, stamped⟩ := datagramStamped_eq dt p s
  have runs : exec (.udpMessageRx dt p ws) s = .next (ended (udpMessage p (4 * ws.length) ws (datagramStamped dt p s))) := rfl
  rw [stamped] at runs
  have listens : Listens p { s.begin dt with alm := { (s.begin dt).alm with stamp := a } } := ⟨hudp, hattached, hidle⟩
  refine ⟨fun hlast => ?_, fun hnew hbehind hpass => ?_⟩
  · rw [udpMessage_repeat listens _ hlast] at runs
    refine ⟨_, runs, told_ended _, ?_, rfl⟩
    exact (congrArg Hp.msg (leased_hp p _)).trans hidle
  · rw [udpMessage_waits listens hnew hbehind hpass] at runs
    have placed := State.hp_modHp_self p (fun x => { x with msg := some (msgOf ws), reqBusy := true })
      { leased p { s.begin dt with alm := { (s.begin dt).alm with stamp := a } } with
        hst := { (leased p { s.begin dt with alm := { (s.begin dt).alm with stamp := a } }).hst with order := s.hst.order ++ [p.val] } }
    exact ⟨_, runs, congrArg Hp.msg placed, congrArg Hp.reqBusy placed, rfl⟩

end Sys2Proof.Machine
end

section
/-! What a command that only reads, stages, rings or acknowledges leaves alone (R385, R395, R399). -/
namespace Sys2Proof.Machine

/-- Only the host unit, the outputs, the count of free values and the planes of the newest stamped event changed. -/
def Hosts (s t : State) : Prop :=
  ∃ h o f a, t = { s with hst := h, out := o, free := f, alm := { s.alm with stamp := a } }

theorem Talks.hosts {s t : State} : Talks s t → Hosts s t
  | ⟨h, o, e⟩ => ⟨h, s.out ++ o, s.free, s.alm.stamp, e⟩
theorem Hosts.refl (s : State) : Hosts s s := (Talks.refl s).hosts
theorem Hosts.trans {s t u : State} : Hosts s t → Hosts t u → Hosts s u := by
  rintro ⟨_, _, _, _, rfl⟩ ⟨h, o, f, a, rfl⟩
  exact ⟨h, o, f, a, rfl⟩
theorem Hosts.ite {c : Prop} [Decidable c] {s a b : State} (h1 : Hosts s a) (h2 : Hosts s b) : Hosts s (if c then a else b) := by
  split <;> assumption

theorem emit_hosts (x : Out) (s : State) : Hosts s (s.emit x) := (emit_hears x s).talks.hosts
theorem modHp_hosts (p : Nat) (f : Hp → Hp) (s : State) : Hosts s (s.modHp p f) := (modHp_talks p f s).hosts
theorem Hosts.of_hst (s : State) (h : Hst) : Hosts s { s with hst := h } := ⟨h, s.out, s.free, s.alm.stamp, rfl⟩
theorem freeWord_hosts (s : State) : Hosts s s.freeWord.2 := ⟨s.hst, s.out, s.free + 1, s.alm.stamp, rfl⟩
theorem ok_hosts (p : Nat) (ws : List Word) (s : State) : Hosts s (ok p ws s) := (ok_talks ..).hosts
theorem refuse_hosts (p st d0 d1 : Nat) (s : State) : Hosts s (refuse p st d0 d1 s) := (refuse_talks ..).hosts
theorem respond_hosts (p st : Nat) (ws : List Word) (m : Bool) (s : State) : Hosts s (respond p st ws m s) := (respond_talks ..).hosts
theorem reply_hosts (p : Nat) (ws : List Word) (s : State) : Hosts s (reply p ws s) := (reply_talks ..).hosts
theorem replyBytes_hosts (p n : Nat) (bs : List Byte) (s : State) : Hosts s (replyBytes p n bs s) := respond_hosts ..

/-! Command bodies. -/

theorem inSession_hosts (p op since : Nat) {body : State → State} (hb : ∀ s, Hosts s (body s)) (s : State) :
    Hosts s (inSession p op since body s) := by
  have taken := (takeMsg_talks p op s).hosts
  unfold inSession
  exact .ite (.refl s) (taken.trans (.ite (refuse_hosts ..) (.ite (refuse_hosts ..) (.ite (refuse_hosts ..) (.ite (refuse_hosts ..) (hb _))))))

theorem hostCmd_hosts (p op since : Nat) (right : Right) (acts : Bool) {body : State → State} (hb : ∀ s, Hosts s (body s)) (s : State) :
    Hosts s (hostCmd p op since right acts body s) := by
  refine inSession_hosts _ _ _ (fun x => .ite (refuse_hosts ..) ?_) s
  split
  · exact refuse_hosts ..
  · exact hb x

theorem sized_hosts (p n : Nat) {body : State → State} (hb : ∀ s, Hosts s (body s)) (s : State) : Hosts s (sized p n body s) :=
  .ite (refuse_hosts ..) (hb s)
theorem notFallback_hosts (p : Nat) {body : State → State} (hb : ∀ s, Hosts s (body s)) (s : State) : Hosts s (notFallback p body s) :=
  .ite (refuse_hosts ..) (hb s)
theorem pinsFor_hosts (es : List (Nat × Wire)) (s : State) : Hosts s (pinsFor es s).2 := by
  unfold pinsFor
  split
  · exact freeWord_hosts s
  · exact .refl s

/-! Mailboxes and datagrams. -/

theorem answerHeader_hosts (p : Nat) (m : Msg) (r : Nat × Nat) (s : State) : Hosts s (answerHeader p m r s) := (answer_talks ..).hosts

theorem frontRequest_hosts (p n : Nat) (s : State) : Hosts s (frontRequest p n s) := by
  unfold frontRequest
  split
  · exact .refl s
  · split
    · exact .refl s
    · exact (modHp_hosts ..).trans (answerHeader_hosts ..)

theorem ringDoorbell_hosts (p n : Nat) (s : State) : Hosts s (ringDoorbell p n s) := by
  have taken : Hosts s (rung p n s) := modHp_hosts ..
  have front := taken.trans (frontRequest_hosts p n _)
  exact .ite (.refl s) (.ite (modHp_hosts ..) (.ite (taken.trans (.of_hst ..)) (.ite (front.trans (.of_hst ..)) front)))

theorem ackResponse_hosts (p : Nat) (s : State) : Hosts s (ackResponse p s) := by
  have freed : Hosts s (s.modHp p (fun h => { h with rspReady := false, held := false })) := modHp_hosts ..
  have front := freed.trans (frontRequest_hosts p ((s.modHp p (fun h => { h with rspReady := false, held := false })).hp p).reqLen _)
  exact .ite (.refl s) (.ite freed (.ite front (front.trans (.of_hst ..))))

theorem abortRequest_hosts (p : Nat) (s : State) : Hosts s (abortRequest p s) :=
  .ite (.refl s) (.ite (modHp_hosts ..)
    ((modHp_hosts p (fun h => { h with msg := none, held := false, reqBusy := false }) s).trans (.of_hst ..)))

theorem udpMessage_hosts (p n : Nat) (ws : List Word) (s : State) : Hosts s (udpMessage p n ws s) := by
  have renewed : Hosts s (s.modHp p (fun h => { h with lastMsg := s.now })) := modHp_hosts ..
  unfold udpMessage
  refine .ite (.refl s) (renewed.trans (.ite (emit_hosts ..) (.ite (.refl _) ?_)))
  split
  · exact answerHeader_hosts ..
  · exact (Hosts.of_hst ..).trans (.ite (modHp_hosts ..) (.ite (modHp_hosts ..) (modHp_hosts ..)))

theorem stampNow_hosts (s : State) : Hosts s (stampNow s) := ⟨s.hst, s.out, s.free, _, rfl⟩

/-! The commands. -/

/-- The outcome of a command that changes no more than that. -/
def EndsHosting (s : State) (o : Host.Outcome State Fault Refusal) : Prop := ∃ x, o = done x ∧ Hosts s x

theorem EndsHosting.of {s x : State} (h : Hosts s x) : EndsHosting s (done x) := ⟨x, rfl, h⟩

theorem launchList_hosting (dt : Nat) (p : Fin 8) (s : State) : EndsHosting (s.begin dt) (execLaunchList dt p s) :=
  .of (hostCmd_hosts _ _ _ _ _ (fun _ => reply_hosts ..) _)

theorem timeRead_hosting (dt : Nat) (p : Fin 8) (mask : Word) (s : State) : EndsHosting (s.begin dt) (execTimeRead dt p mask s) :=
  .of (hostCmd_hosts _ _ _ _ _ (fun _ => (respondWith_talks ..).hosts) _)

theorem paramRead_hosting (dt : Nat) (p : Fin 8) (ids : List Word) (s : State) : EndsHosting (s.begin dt) (execParamRead dt p ids s) := by
  refine .of (hostCmd_hosts _ _ _ _ _ (sized_hosts _ _ fun x => ?_) _)
  split
  · exact refuse_hosts ..
  · exact reply_hosts ..

theorem paramDescribe_hosting (dt : Nat) (p : Fin 8) (id : Word) (s : State) : EndsHosting (s.begin dt) (execParamDescribe dt p id s) := by
  refine .of (hostCmd_hosts _ _ _ _ _ (fun x => ?_) _)
  dsimp only
  split
  · exact refuse_hosts ..
  · have drawn : Hosts x x.freeWord.2.freeWord.2 := (freeWord_hosts x).trans (freeWord_hosts _)
    exact Hosts.trans (.ite (.refl x) drawn) (ok_hosts ..)

theorem patternStatus_hosting (dt : Nat) (p : Fin 8) (s : State) : EndsHosting (s.begin dt) (execPatternStatus dt p s) :=
  .of (hostCmd_hosts _ _ _ _ _ (notFallback_hosts p fun _ => ok_hosts ..) _)

theorem imageStatus_hosting (dt : Nat) (p : Fin 8) (s : State) : EndsHosting (s.begin dt) (execImageStatus dt p s) :=
  .of (hostCmd_hosts _ _ _ _ _ (fun _ => ok_hosts ..) _)

theorem bistResult_hosting (dt : Nat) (p : Fin 8) (s : State) : EndsHosting (s.begin dt) (execBistResult dt p s) :=
  .of (hostCmd_hosts _ _ _ _ _ (fun _ => .ite (ok_hosts ..) (ok_hosts ..)) _)

theorem identityRead_hosting (dt : Nat) (p : Fin 8) (item off : Word) (s : State) :
    EndsHosting (s.begin dt) (execIdentityRead dt p item off s) := by
  refine .of (hostCmd_hosts _ _ _ _ _ (fun x => ?_) _)
  split
  · exact replyBytes_hosts ..
  · exact replyBytes_hosts ..
  · exact replyBytes_hosts ..
  · exact refuse_hosts ..

theorem attest_hosting (dt : Nat) (p : Fin 8) (off : Word) (nonce : BitVec 256) (s : State) :
    EndsHosting (s.begin dt) (execAttest dt p off nonce s) :=
  .of (hostCmd_hosts _ _ _ _ _ (fun _ => .ite (.ite (refuse_hosts ..) ((modHp_hosts ..).trans (replyBytes_hosts ..)))
    (.ite (refuse_hosts ..) (replyBytes_hosts ..))) _)

theorem timeStatRead_hosting (dt : Nat) (p : Fin 8) (k : Fin 4) (s : State) : EndsHosting (s.begin dt) (execTimeStatRead dt p k s) := by
  unfold execTimeStatRead
  dsimp only
  split
  · exact .of (.refl _)
  · exact .of ((modHp_hosts ..).trans (emit_hosts ..))

theorem lvLoRead_hosting (dt : Nat) (p : Fin 8) (n : Fin 32) (s : State) : EndsHosting (s.begin dt) (execLvLoRead dt p n s) := by
  unfold execLvLoRead
  dsimp only
  split
  · exact .of (.refl _)
  · exact .of ((modHp_hosts ..).trans (emit_hosts ..))

theorem tqLoRead_hosting (dt : Nat) (p : Fin 8) (s : State) : EndsHosting (s.begin dt) (execTqLoRead dt p s) := by
  unfold execTqLoRead
  dsimp only
  split
  · exact .of (.refl _)
  · split
    · exact .of (emit_hosts ..)
    · split
      · exact .of ((modHp_hosts ..).trans (emit_hosts ..))
      · exact .of ((modHp_hosts ..).trans (emit_hosts ..))

theorem paramStage_hosting (dt : Nat) (p : Fin 8) (n : Word) (es : List (Nat × Wire)) (s : State) :
    EndsHosting (s.begin dt) (execParamStage dt p n es s) := by
  refine .of (hostCmd_hosts _ _ _ _ _ (sized_hosts _ _ fun x => ?_) _)
  refine .ite (refuse_hosts ..) (.ite (refuse_hosts ..) ((pinsFor_hosts (canonSet es) x).trans ?_))
  dsimp only
  split
  · exact refuse_hosts ..
  · exact (Hosts.of_hst ..).trans (ok_hosts ..)

theorem paramUnstage_hosting (dt : Nat) (p : Fin 8) (n : Word) (s : State) : EndsHosting (s.begin dt) (execParamUnstage dt p n s) :=
  .of (hostCmd_hosts _ _ _ _ _ (fun _ => .ite (refuse_hosts ..) ((Hosts.of_hst ..).trans (ok_hosts ..))) _)

theorem firstOutRead_hosting (dt : Nat) (p : Fin 8) (which : Word) (s : State) : EndsHosting (s.begin dt) (execFirstOutRead dt p which s) :=
  .of (hostCmd_hosts _ _ _ _ _ (fun _ => .ite (refuse_hosts ..) (ok_hosts ..)) _)

theorem udpMessageRx_hosting (dt : Nat) (p : Fin 8) (ws : List Word) (s : State) : EndsHosting (s.begin dt) (execUdpMessageRx dt p ws s) :=
  .of (Hosts.trans (.ite (stampNow_hosts _) (.refl _)) (udpMessage_hosts ..))

theorem hostOnly_hosting (c : Instr) (s : State) (h : hostOnly c = true) : ∃ d, EndsHosting (s.begin d) (exec c s) := by
  cases c
  case ping => exact ⟨_, .of (hostCmd_hosts _ _ _ _ _ (fun _ => ok_hosts ..) _)⟩
  case info => exact ⟨_, .of (hostCmd_hosts _ _ _ _ _ (fun _ => ok_hosts ..) _)⟩
  case tokenStatus => exact ⟨_, .of (hostCmd_hosts _ _ _ _ _ (fun _ => ok_hosts ..) _)⟩
  case stateRead => exact ⟨_, .of (hostCmd_hosts _ _ _ _ _ (fun _ => ok_hosts ..) _)⟩
  case faultList => exact ⟨_, .of (hostCmd_hosts _ _ _ _ _ (fun _ => respond_hosts ..) _)⟩
  case logRead => exact ⟨_, .of (hostCmd_hosts _ _ _ _ _ (fun _ => respond_hosts ..) _)⟩
  case firstOutRead => exact ⟨_, firstOutRead_hosting ..⟩
  case launchList => exact ⟨_, launchList_hosting ..⟩
  case timeRead => exact ⟨_, timeRead_hosting ..⟩
  case paramRead => exact ⟨_, paramRead_hosting ..⟩
  case paramDescribe => exact ⟨_, paramDescribe_hosting ..⟩
  case patternStatus => exact ⟨_, patternStatus_hosting ..⟩
  case imageStatus => exact ⟨_, imageStatus_hosting ..⟩
  case bistResult => exact ⟨_, bistResult_hosting ..⟩
  case identityRead => exact ⟨_, identityRead_hosting ..⟩
  case attest => exact ⟨_, attest_hosting ..⟩
  case timeStatRead => exact ⟨_, timeStatRead_hosting ..⟩
  case lvLoRead => exact ⟨_, lvLoRead_hosting ..⟩
  case tqLoRead => exact ⟨_, tqLoRead_hosting ..⟩
  case mailboxDoorbell => exact ⟨_, .of (ringDoorbell_hosts ..)⟩
  case rspAck => exact ⟨_, .of (ackResponse_hosts ..)⟩
  case abort => exact ⟨_, .of (abortRequest_hosts ..)⟩
  case udpMessageRx => exact ⟨_, udpMessageRx_hosting ..⟩
  case paramStage => exact ⟨_, paramStage_hosting ..⟩
  case paramUnstage => exact ⟨_, paramUnstage_hosting ..⟩
  all_goals exact absurd h Bool.false_ne_true

/-- The pins read nothing of the host unit, the outputs and the free values, and of the Almanac the origin of its grid alone. -/
theorem pinsHold_begin {dt : Nat} {s : State} (hpins : s.pinsHold = true) (h : Hst) (o : List Out) (f : Nat) (a : List Nat) (x : Tx)
    (e : Tab Nat) :
    State.pinsHold { s.begin dt with hst := h, out := o, free := f, tx := x, since := e, alm := { (s.begin dt).alm with stamp := a } } = true := by
  have clocks : sdclkPin { s.begin dt with hst := h, out := o, free := f, tx := x, since := e, alm := { (s.begin dt).alm with stamp := a } } =
      sdclkPin s := by
    funext g
    show sdclkPin { s with alm := { (s.begin dt).alm with stamp := a } } g = _
    unfold sdclkPin
    simp only [State.begin_alm_origin]
    rfl
  unfold State.pinsHold at hpins ⊢
  rw [clocks]
  exact hpins

/-- Settles O6: pins that hold need no settling, and nothing else of these commands reaches beyond the host unit. -/
theorem hostOnlyKeepsTheRest : Obligations.HostOnlyKeepsTheRest := by
  intro c s hc hpins
  obtain ⟨d, x, hx, h, o, f, a, rfl⟩ := hostOnly_hosting c s hc
  refine ⟨d, h, _, f, _, _, a, hx.trans (congrArg Host.Outcome.next (settle_of_pinsHold ?_))⟩
  exact pinsHold_begin hpins ..

end Sys2Proof.Machine
end

section
/-! What sending frames and clearing a fault change, in full: the finer relatives of `Reacts` and `Rules`. -/
namespace Sys2Proof.Machine

/-! Frames that are handed to the transmitters. -/

/-- Ports keep what they last sent, the peer links count their frames, and outputs were added. -/
def Sends (s t : State) : Prop :=
  ∃ p a b c o, t = { s with plk := p, rdn := { s.rdn with txSeq := a, gseq := b, bseq := c }, out := s.out ++ o }

theorem Sends.refl (s : State) : Sends s s := ⟨s.plk, s.rdn.txSeq, s.rdn.gseq, s.rdn.bseq, [], by simp⟩
theorem Sends.trans {s t u : State} : Sends s t → Sends t u → Sends s u := by
  rintro ⟨_, _, _, _, o, rfl⟩ ⟨p, a, b, c, o', rfl⟩
  exact ⟨p, a, b, c, o ++ o', by simp [List.append_assoc]⟩
theorem Sends.ite {c : Prop} [Decidable c] {s a b : State} (h1 : Sends s a) (h2 : Sends s b) : Sends s (if c then a else b) := by
  split <;> assumption
theorem Sends.foldl {α : Type} (f : State → α → State) (hf : ∀ s x, Sends s (f s x)) (l : List α) (s : State) : Sends s (l.foldl f s) :=
  List.foldlRecOn (motive := Sends s) l f (.refl s) fun _ hx y _ => hx.trans (hf _ y)
theorem Sends.of_plk (s : State) (p : Plk) : Sends s { s with plk := p } := ⟨p, s.rdn.txSeq, s.rdn.gseq, s.rdn.bseq, [], by simp⟩
theorem Sends.of_seq (s : State) (a : Tab Nat) (b c : Nat) : Sends s { s with rdn := { s.rdn with txSeq := a, gseq := b, bseq := c } } :=
  ⟨s.plk, a, b, c, [], by simp⟩
theorem emit_sends (x : Out) (s : State) : Sends s (s.emit x) := ⟨s.plk, s.rdn.txSeq, s.rdn.gseq, s.rdn.bseq, [x], rfl⟩

theorem sendState_sends (i : Bool) (e : Nat) (c : List Nat) (p : Nat) (s : State) : Sends s (sendState i e c p s) :=
  .ite (.of_plk ..) ((Sends.of_plk s _).trans (emit_sends ..))
theorem immediateStates_sends (old s : State) : Sends s (immediateStates old s) :=
  .foldl _ (fun _ _ => .ite (sendState_sends ..) (.refl _)) _ s
theorem sendRelease_sends (cs : List Nat) (e : Nat) (s : State) : Sends s (sendRelease cs e s) :=
  .foldl _ (fun _ _ => .ite (sendState_sends ..) (.refl _)) _ s
theorem blockFrames_sends (s : State) : Sends s (blockFrames s) :=
  .foldl _ (fun _ _ => .ite (sendState_sends ..) (.refl _)) _ s

theorem nextSeq_sends (q : Nat) (f : PeerFrame) (s : State) : Sends s (nextSeq q f s).2 := by
  unfold nextSeq
  split
  case h_5 => exact .of_seq s _ s.rdn.gseq s.rdn.bseq
  all_goals exact .refl s
theorem sendPeer_sends (ps : List Nat) (f : PeerFrame) (s : State) : Sends s (sendPeer ps f s) :=
  .foldl _ (fun s q => (nextSeq_sends q f s).trans (emit_sends ..)) ps s
theorem sendPair_sends (f : PeerFrame) (s : State) : Sends s (sendPair f s) :=
  (nextSeq_sends 8 f s).trans (.foldl _ (fun _ _ => emit_sends ..) _ _)
theorem originateGb_sends (s : State) : Sends s (originateGb s) :=
  (Sends.of_seq s s.rdn.txSeq _ s.rdn.bseq).trans (sendPeer_sends ..)
theorem forwardWrite_sends (n : Int) (es : List (Nat × Wire)) (s : State) : Sends s (forwardWrite n es s) :=
  .ite (sendPair_sends ..) (.refl s)

/-! A fault that clears (R256, R259). -/

/-- The protection unit's fault list, log and switches, the modulator's channels, what the ports last sent, and the host's interrupts. -/
def Clears (s t : State) : Prop :=
  ∃ p c h n l w, Hears { s with
    plk := p, mod := { s.mod with ch := c }, spu := { s.spu with held := h, logSeq := n, log := l, sw := w } } t

theorem Hears.clears {s t : State} (h : Hears s t) : Clears s t :=
  ⟨s.plk, s.mod.ch, s.spu.held, s.spu.logSeq, s.spu.log, s.spu.sw, h⟩
theorem Clears.refl (s : State) : Clears s s := (Hears.refl s).clears
theorem Clears.trans {s t u : State} : Clears s t → Clears t u → Clears s u := by
  rintro ⟨_, _, _, _, _, _, a, o, rfl, g⟩ ⟨p, c, h, n, l, w, b, o', rfl, k⟩
  exact ⟨p, c, h, n, l, w, Hears.trans ⟨a, o, rfl, g⟩ ⟨b, o', by simp, k⟩⟩
theorem Clears.ite {c : Prop} [Decidable c] {s a b : State} (h1 : Clears s a) (h2 : Clears s b) : Clears s (if c then a else b) := by
  split <;> assumption
theorem Clears.foldl {α : Type} (f : State → α → State) (hf : ∀ s x, Clears s (f s x)) (l : List α) (s : State) :
    Clears s (l.foldl f s) :=
  List.foldlRecOn (motive := Clears s) l f (.refl s) fun _ hx y _ => hx.trans (hf _ y)
theorem Logs.clears {s t : State} : Logs s t → Clears s t
  | ⟨n, l, h⟩ => ⟨s.plk, s.mod.ch, s.spu.held, n, l, s.spu.sw, h⟩
theorem held_clears (s : State) (l : List Held) : Clears s { s with spu := { s.spu with held := l } } :=
  ⟨s.plk, s.mod.ch, l, s.spu.logSeq, s.spu.log, s.spu.sw, .refl _⟩

theorem plk_clears (s : State) (p : Plk) : Clears s { s with plk := p } :=
  ⟨p, s.mod.ch, s.spu.held, s.spu.logSeq, s.spu.log, s.spu.sw, .refl _⟩

/-- STATE frames alone change the ports alone. -/
theorem sendState_clears (i : Bool) (e : Nat) (c : List Nat) (p : Nat) (s : State) : Clears s (sendState i e c p s) := by
  exact .ite (plk_clears ..) ((plk_clears ..).trans (emit_hears ..).clears)
theorem immediateStates_clears (old s : State) : Clears s (immediateStates old s) :=
  .foldl _ (fun _ _ => .ite (sendState_clears ..) (.refl _)) _ s
theorem sendRelease_clears (cs : List Nat) (e : Nat) (s : State) : Clears s (sendRelease cs e s) :=
  .foldl _ (fun _ _ => .ite (sendState_clears ..) (.refl _)) _ s
theorem rejoinChans_clears (freed : List Nat) (lv : Nat → Bool × Bool) (r : Option Int) (s : State) : Clears s (rejoinChans freed lv r s) :=
  ⟨s.plk, (rejoinChans freed lv r s).mod.ch, s.spu.held, s.spu.logSeq, s.spu.log, (rejoinChans freed lv r s).spu.sw, .refl _⟩

/-- The part of a clear that follows the end of the fault itself. -/
theorem clearHeld_clears (auto : Bool) (h : Held) (s : State) : Clears s (clearHeld auto h s) := by
  have ended (r : LogRec) (l : List Held) : Clears s (logRec r { s with spu := { s.spu with held := l } }) :=
    (held_clears s l).trans (logRec_logs ..).clears
  exact .ite (ended ..) (.ite ((ended ..).trans ((immediateStates_clears ..).trans
    ((rejoinChans_clears ..).trans (sendRelease_clears ..)))) ((ended ..).trans (immediateStates_clears ..)))
theorem clearWhere_clears (auto : Bool) (f : Held → Bool) (s : State) : Clears s (clearWhere auto f s) :=
  .foldl _ (fun _ _ => clearHeld_clears ..) _ s
theorem condHolds_clears (c k i : Nat) (s : State) : Clears s (condHolds c k i s) := (held_clears s _).trans (clearWhere_clears ..)
theorem condHoldsCode_clears (c : Nat) (s : State) : Clears s (condHoldsCode c s) := (held_clears s _).trans (clearWhere_clears ..)
theorem condFails_clears (c k i : Nat) (s : State) : Clears s (condFails c k i s) := held_clears s _

theorem Clears.rules {s t : State} : Clears s t → Rules s t := by
  rintro ⟨p, c, h, n, l, w, hears⟩
  exact ⟨{ s.spu with held := h, logSeq := n, log := l, sw := w }, s.dev, s.blockCause, { s.mod with ch := c }, p, s.recd, s.rdn,
    s.spu.sweeps, s.sys.bist, s.free, n, l, hears⟩

/-- What a clear keeps besides what every change of the fault list keeps. -/
structure ClearKeeps (s t : State) : Prop where
  dev : t.dev = s.dev
  blockCause : t.blockCause = s.blockCause
  recd : t.recd = s.recd
  rdn : t.rdn = s.rdn
  sys : t.sys = s.sys
  free : t.free = s.free
  mod : ∃ c, t.mod = { s.mod with ch := c }
  spu : ∃ h n l w, t.spu = { s.spu with held := h, logSeq := n, log := l, sw := w }

theorem Clears.keeps {s t : State} : Clears s t → ClearKeeps s t := by
  rintro ⟨p, c, h, n, l, w, a, o, rfl, -⟩
  exact ⟨rfl, rfl, rfl, rfl, rfl, rfl, ⟨c, rfl⟩, ⟨h, n, l, w, rfl⟩⟩

/-- A cleared fault is gone from the held ones, and no other. -/
theorem clearHeld_held (auto : Bool) (h : Held) (s : State) :
    (clearHeld auto h s).spu.held = s.spu.held.filter (fun x => !(sameFault h.lr.code h.lr.kind h.lr.index x)) := by
  have logs {x y : State} : Logs x y → y.spu.held = x.spu.held := by
    rintro ⟨n, l, a, o, rfl, -⟩
    rfl
  have sends {x y : State} : Sends x y → y.spu = x.spu := by
    rintro ⟨p, a, b, c, o, rfl⟩
    rfl
  unfold clearHeld
  dsimp only
  split
  · exact logs (logRec_logs ..)
  · split
    · rw [sends (sendRelease_sends ..), rejoinChans]
      dsimp only
      rw [sends (immediateStates_sends ..)]
      exact logs (logRec_logs ..)
    · rw [sends (immediateStates_sends ..)]
      exact logs (logRec_logs ..)

end Sys2Proof.Machine
end

section
/-! BLOCK and RESET by command (R24, R27, R478, Tables 1-4 and 19-2). -/
namespace Sys2Proof.Machine

theorem Logs.dev {s t : State} : Logs s t → t.dev = s.dev := by
  rintro ⟨_, _, _, _, rfl, _⟩
  rfl
theorem Logs.mod {s t : State} : Logs s t → t.mod = s.mod := by
  rintro ⟨_, _, _, _, rfl, _⟩
  rfl
theorem Logs.sys {s t : State} : Logs s t → t.sys = s.sys := by
  rintro ⟨_, _, _, _, rfl, _⟩
  rfl
theorem Sends.dev {s t : State} : Sends s t → t.dev = s.dev := by
  rintro ⟨_, _, _, _, _, rfl⟩
  rfl
theorem Sends.mod {s t : State} : Sends s t → t.mod = s.mod := by
  rintro ⟨_, _, _, _, _, rfl⟩
  rfl
theorem Logs.out {s t : State} (h : Logs s t) : s.out ⊆ t.out := fun o => h.reacts.rules.keep.out o

@[simp] theorem setDev_dev (d : Dev) (c : Nat) (s : State) : (setDev d c s).dev = d := by
  unfold setDev
  split
  · assumption
  · exact (logEvent_logs ..).dev
@[simp] theorem setDev_mod (d : Dev) (c : Nat) (s : State) : (setDev d c s).mod = s.mod := by
  unfold setDev
  split
  · rfl
  · exact (logEvent_logs ..).mod
@[simp] theorem setDev_sys (d : Dev) (c : Nat) (s : State) : (setDev d c s).sys = s.sys := by
  unfold setDev
  split
  · rfl
  · exact (logEvent_logs ..).sys
theorem setDev_out (d : Dev) (c : Nat) (s : State) : s.out ⊆ (setDev d c s).out := fun o => (setDev_reacts d c s).rules.keep.out o
@[simp] theorem setDev_token (d : Dev) (c : Nat) (s : State) : (setDev d c s).hst.token = s.hst.token := (setDev_reacts d c s).rules.keep.token

/-! BLOCK. -/

theorem discardChans_all (s : State) : ∀ e ∈ (discardChans (List.range 256) s).mod.unrel, 256 ≤ e.ch := by
  intro e he
  have outside := (List.mem_filter.1 he).2
  simpa using outside

theorem blockWith_eq_of_run {s : State} (h : s.dev = .run) (op code detail : Nat) :
    blockWith op code detail s = setDev .blocked op (discardChans (List.range 256)
      { noteCause code detail s with sys := { s.sys with bist := if s.sys.bist = 1 then 0 else s.sys.bist } }) := by
  unfold blockWith
  exact if_pos h

/-- Out of RUN, a blocking cause leads to BLOCKED, and what the modulator has not released is gone. -/
theorem blockWith_of_run {s : State} (h : s.dev = .run) (op code detail : Nat) :
    (blockWith op code detail s).dev = .blocked ∧ ∀ e ∈ (blockWith op code detail s).mod.unrel, 256 ≤ e.ch := by
  rw [blockWith_eq_of_run h, setDev_dev, setDev_mod]
  exact ⟨rfl, discardChans_all _⟩

/-- The frames of a BLOCK command: to the ports, and in a pair the decision to the partner. -/
def blockSent (part : Nat) (s : State) : State :=
  let x := blockFrames (blockWith 0x0205 0 part s)
  if x.pairEn then sendPair (.decide x.now 0 0 part 4 []) x else x

theorem blockCmd_eq (part : Nat) (s : State) :
    blockCmd 0x0205 part s = logCommand part 0x0205 (blockSent part s).tickNow (blockSent part s) := by
  unfold blockCmd blockSent blockByCommand
  dsimp only
  rw [if_neg (by decide)]

theorem blockSent_sends (part : Nat) (s : State) : Sends (blockWith 0x0205 0 part s) (blockSent part s) :=
  (blockFrames_sends _).trans (.ite (sendPair_sends ..) (.refl _))
theorem logCommand_logs (part op : Nat) (n : Int) (s : State) : Logs s (logCommand part op n s) := logEvent_logs ..

theorem blockCmd_of_run {s : State} (h : s.dev = .run) (part : Nat) :
    (blockCmd 0x0205 part s).dev = .blocked ∧ ∀ e ∈ (blockCmd 0x0205 part s).mod.unrel, 256 ≤ e.ch := by
  rw [blockCmd_eq, (logCommand_logs ..).dev, (logCommand_logs ..).mod, (blockSent_sends part s).dev, (blockSent_sends part s).mod]
  exact blockWith_of_run h ..

theorem blockSent_reacts (part : Nat) (s : State) : Reacts (blockWith 0x0205 0 part s) (blockSent part s) :=
  (blockFrames_reacts _).trans (.ite (sendPair_reacts ..) (.refl _))
theorem blockCmd_rules (part : Nat) (s : State) : Rules s (blockCmd 0x0205 part s) := by
  rw [blockCmd_eq]
  exact ((blockWith_reacts 0x0205 0 part s).trans ((blockSent_reacts part s).trans (logCommand_logs ..).reacts)).rules

theorem block_leaves_run {p : Fin 8} {s : State} (h : Granted p 0x0205 0x300 (.tokenOr pvSafety) (!hasPriv s p pvSafety) s)
    (hrun : s.dev = .run) (dt : Nat) :
    ∃ t, exec (.block dt p) s = .next t ∧ t.dev = .blocked ∧ (∀ e ∈ t.mod.unrel, 256 ≤ e.ch) ∧ Answered p 0x0205 0 [] s t := by
  obtain ⟨hdev, hmod⟩ := blockCmd_of_run (s := takeMsg p 0x0205 (s.begin dt)) hrun p
  have talks := (ok_talks p [] (blockCmd 0x0205 p (takeMsg p 0x0205 (s.begin dt)))).keep
  refine exec_ends (congrArg done (hostCmd_body (h.begin dt) _)) ⟨?_, ?_, ?_⟩
  · rw [ended_dev, talks.dev, hdev]
  · rwa [ended_mod, talks.mod]
  · exact (ok_answered (h.begin dt).1 ((blockCmd_rules p _).keep.hp p) []).ended

/-! RESET. -/

theorem clearByReset_logs (s : State) : ∃ l, Logs { s with spu := { s.spu with held := l } } (clearByReset s) := by
  unfold clearByReset
  refine List.foldlRecOn (motive := fun (x : State) => ∃ l, Logs { s with spu := { s.spu with held := l } } x) _ _ ⟨s.spu.held, .refl s⟩ ?_
  rintro x ⟨l, n, g, a, o, rfl, k⟩ h -
  exact ⟨l.erase h, Logs.trans ⟨n, g, a, o, rfl, k⟩ (logRec_logs ..)⟩

theorem clearByReset_sys (s : State) : (clearByReset s).sys = s.sys := by
  obtain ⟨l, h⟩ := clearByReset_logs s
  exact h.sys
theorem clearByReset_out (s : State) : s.out ⊆ (clearByReset s).out := by
  obtain ⟨l, h⟩ := clearByReset_logs s
  exact h.out

theorem failStart_out (s : State) : (failStart s).out = s.out := by
  unfold failStart
  split <;> rfl

/-- A pulse of a reset of reach SYSTEM, in a device that has left its release order. -/
theorem assertReset_system {s : State} (hasserted : s.sys.asserted = []) (hstep : s.sys.step = 9) (src cause : Nat) :
    (assertReset 2 src cause false s).dev = .boot ∧ (assertReset 2 src cause false s).sys.step = 2 ∧
      (assertReset 2 src cause false s).sys.cause = 2 * 256 + src ∧ (assertReset 2 src cause false s).hst.token = 15 ∧
      s.out ⊆ (assertReset 2 src cause false s).out := by
  refine ⟨setDev_dev .boot cause _, ?_, ?_, setDev_token .boot cause _, fun o ho => ?_⟩
  · simp [assertReset, hasserted, hstep, firstStep]
  · simp [assertReset, hasserted, hstep, firstStep]
  · refine setDev_out .boot cause _ ?_
    show o ∈ (failStart s |> clearByReset).out
    exact clearByReset_out _ (by rwa [failStart_out])

theorem abandonStart_sys (s : State) :
    (abandonStart s).sys.asserted = s.sys.asserted ∧ (abandonStart s).sys.step = s.sys.step ∧ (abandonStart s).out = s.out := by
  unfold abandonStart setAtt mirrorCounts modSys
  dsimp only
  split
  · exact ⟨rfl, rfl, rfl⟩
  · split <;> exact ⟨rfl, rfl, rfl⟩

theorem execReset_outside_live {p : Fin 8} {s : State} (h : Granted p 0x0207 0x300 (.priv pvService) false s) (hlive : s.dev.live = false)
    (dt : Nat) (reach : Word) :
    exec (.reset dt p reach) s = done
      (if reach ≠ 1 && reach ≠ 2 then refuse p stRange reach.toNat 0 (takeMsg p 0x0207 (s.begin dt))
       else opReset reach.toNat (ok p [] (logCommand p 0x0207 (takeMsg p 0x0207 (s.begin dt)).tickNow (takeMsg p 0x0207 (s.begin dt))))) := by
  have live : (takeMsg p 0x0207 (s.begin dt)).dev.live = false := hlive
  show execReset dt p reach s = _
  unfold execReset
  rw [hostCmd_body (h.begin dt)]
  simp only [live, Bool.false_and, Bool.false_eq_true, if_false]

theorem reset_system {p : Fin 8} {s : State} (h : Granted p 0x0207 0x300 (.priv pvService) false s) (hlive : s.dev.live = false)
    (hasserted : s.sys.asserted = []) (hstep : s.sys.step = 9) (dt : Nat) :
    ∃ t, exec (.reset dt p 1) s = .next t ∧ t.dev = .boot ∧ t.sys.step = 2 ∧ t.sys.cause = 0x0206 ∧ t.hst.token = 15 ∧
      Answered p 0x0207 0 [] s t := by
  have logged : Logs (takeMsg p 0x0207 (s.begin dt)) (logCommand p 0x0207 (takeMsg p 0x0207 (s.begin dt)).tickNow (takeMsg p 0x0207 (s.begin dt))) :=
    logCommand_logs ..
  generalize hx : logCommand p 0x0207 (takeMsg p 0x0207 (s.begin dt)).tickNow (takeMsg p 0x0207 (s.begin dt)) = x at logged
  have sys : (ok p [] x).sys = s.sys := (ok_talks p [] x).keep.sys.trans logged.sys
  obtain ⟨ha, hs, ho⟩ := abandonStart_sys (ok p [] x)
  obtain ⟨hdev, hstep', hcause, htoken, hout⟩ := assertReset_system (ha.trans ((congrArg Sys.asserted sys).trans hasserted))
    (hs.trans ((congrArg Sys.step sys).trans hstep)) 6 0x0207
  have runs : exec (.reset dt p 1) s = done (assertReset 2 6 0x0207 false (abandonStart (ok p [] x))) := by
    rw [execReset_outside_live h hlive, hx, if_neg (by decide), opReset, if_pos (by decide)]
  refine exec_ends runs ?_
  rw [ended_dev, ended_sys, ended_hst]
  refine ⟨hdev, hstep', hcause, htoken, ?_⟩
  obtain ⟨r, hr, answered⟩ := ok_answered (h.begin dt).1 (logged.reacts.rules.keep.hp p) []
  exact ⟨r, mem_ended (hout (ho.symm ▸ hr)), answered⟩

theorem reset_out_of_range {p : Fin 8} {s : State} (h : Granted p 0x0207 0x300 (.priv pvService) false s) (hlive : s.dev.live = false)
    {reach : Word} (h1 : reach ≠ 1) (h2 : reach ≠ 2) (dt : Nat) :
    ∃ t, exec (.reset dt p reach) s = .next t ∧ t.dev = s.dev ∧ Answered p 0x0207 0x21 [reach, 0] s t := by
  have runs := execReset_outside_live h hlive dt reach
  have none : (decide (reach ≠ 1) && decide (reach ≠ 2)) = true := by
    rw [decide_eq_true h1, decide_eq_true h2, Bool.and_self]
  rw [if_pos none] at runs
  have answered := refuse_answered (h.begin dt).1 (x := takeMsg p 0x0207 (s.begin dt)) rfl stRange reach.toNat 0
  rw [BitVec.ofNat_toNat, BitVec.setWidth_eq] at answered
  refine exec_ends runs ⟨?_, answered.ended⟩
  rw [ended_dev, (refuse_talks ..).keep.dev]
  rfl

/-- Settles O14: BLOCK out of RUN, RESET of reach SYSTEM, and a reach that is none. -/
theorem blockAndResetAct : Obligations.BlockAndResetAct :=
  ⟨fun dt _ _ h hrun => block_leaves_run h hrun dt, fun dt _ _ h hlive =>
    ⟨fun hasserted hstep _ => reset_system h hlive hasserted hstep dt, fun _ h1 h2 => reset_out_of_range h hlive h1 h2 dt⟩⟩

end Sys2Proof.Machine
end

section
/-! Command fields (R403): their answers, and FAULT_CLEAR and FAULT_IN_CLEAR (R188, R259). -/
namespace Sys2Proof.Machine

/-! The answer to an accepted field, and to a refused one. -/

theorem applyTick_congr {s t : State} (halm : t.alm = s.alm) (hpair : t.pairEn = s.pairEn) : applyTick t = applyTick s := by
  unfold applyTick State.tickNow State.now State.nowK State.tb
  rw [halm, hpair]

theorem pairEn_congr {s t : State} (h : t.par = s.par) : t.pairEn = s.pairEn := by
  unfold State.pairEn
  rw [pn_congr h]

/-- An accepted field is answered with the tick instant at which it acts, from whatever state its effect has left. -/
theorem accepted_answered {p : Fin 8} {right : Right} {s x : State} (h : FieldGranted p right s) {dt : Nat}
    (hx : (x.hp p).mute = ((takeMsg p 0x0302 (s.begin dt)).hp p).mute) (halm : x.alm = (s.begin dt).alm) (hpair : x.pairEn = s.pairEn) :
    TickAnswered dt p s (ended (accepted p x)) := by
  have tick : applyTick x = applyTick (s.begin dt) := applyTick_congr halm hpair
  unfold accepted
  rw [tick]
  exact (ok_answered (h.begin dt).1.1 hx _).ended

theorem Rules.accepted {p : Fin 8} {right : Right} {s x : State} (h : FieldGranted p right s) {dt : Nat}
    (hx : Rules (takeMsg p 0x0302 (s.begin dt)) x) : TickAnswered dt p s (ended (accepted p x)) :=
  accepted_answered h (hx.keep.hp p) hx.keep.alm (pairEn_congr hx.keep.par)

theorem opCmd_refused {p : Fin 8} {right : Right} {s : State} (h : FieldGranted p right s) (id val : Nat) {o : Op} {st d0 d1 : Nat}
    (hc : o.check (takeMsg p 0x0302 s) = some (st, d0, d1)) :
    opCmd p right id val o s = refuse p st d0 d1 (takeMsg p 0x0302 s) := by
  unfold opCmd
  rw [fieldCmd_body h]
  simp only [hc]

theorem runOp_alone {s : State} (h : s.pairEn = false) {id : Nat} (hid : atInstant id = false) (val : Nat) (o : Op) :
    runOp id val o s = o.act s := by
  simp [runOp, h, hid]

theorem refuse_field {p : Fin 8} {right : Right} {s : State} (h : FieldGranted p right s) (dt st d0 d1 : Nat) :
    Answered p 0x0302 st [BitVec.ofNat 32 d0, BitVec.ofNat 32 d1] s (ended (refuse p st d0 d1 (takeMsg p 0x0302 (s.begin dt)))) :=
  (refuse_answered (h.begin dt).1.1 rfl st d0 d1).ended

@[simp] theorem ended_held (x : State) : (ended x).spu.held = x.spu.held := rfl

/-! Faults by their names (Table 8-9). -/

/-- The faults that a name means. -/
def named (name : Nat) (h : Held) : Bool := name == max32 || faultName h == name

theorem namedFaults_eq (s : State) (name : Nat) : namedFaults s name = s.spu.held.filter (named name) := rfl

theorem named_of_sameFault {h x : Held} (hs : sameFault h.lr.code h.lr.kind h.lr.index x = true) (name : Nat) : named name x = named name h := by
  simp only [sameFault, Bool.and_eq_true, beq_iff_eq] at hs
  unfold named faultName
  rw [hs.1.1, hs.1.2, hs.2]

/-- The name of one fault that a name means, means no other. -/
theorem named_of_faultName {h x : Held} {name : Nat} (hh : named name h = true) (hx : named (faultName h) x = true) : named name x = true := by
  simp only [named, Bool.or_eq_true, beq_iff_eq] at *
  omega

/-- Of the faults that F means, some are cleared, and of the others none. -/
structure ClearedAmong (F : Held → Bool) (s x : State) : Prop where
  clears : Clears s x
  kept : ∃ g, x.spu.held = s.spu.held.filter g ∧ ∀ h, F h = false → g h = true

theorem ClearedAmong.refl (F : Held → Bool) (s : State) : ClearedAmong F s s := ⟨.refl s, fun _ => true, (List.filter_eq_self.2 fun _ _ => rfl).symm, fun _ _ => rfl⟩

theorem ClearedAmong.clearHeld {F : Held → Bool} {s x : State} (h : ClearedAmong F s x) {f : Held}
    (hF : ∀ y, sameFault f.lr.code f.lr.kind f.lr.index y = true → F y = true) : ClearedAmong F s (clearHeld false f x) := by
  obtain ⟨hc, g, hg, hk⟩ := h
  refine ⟨hc.trans (clearHeld_clears ..), fun y => g y && !(sameFault f.lr.code f.lr.kind f.lr.index y), ?_, fun y hy => ?_⟩
  · rw [clearHeld_held, hg, List.filter_filter]
    simp only [Bool.and_comm]
  · have other : sameFault f.lr.code f.lr.kind f.lr.index y = false := by
      rw [Bool.eq_false_iff]
      intro same
      rw [hF y same] at hy
      cases hy
    simp [hk y hy, other]

theorem ClearedAmong.mem {F : Held → Bool} {s x : State} (h : ClearedAmong F s x) {f : Held} (hf : f ∈ x.spu.held) : f ∈ s.spu.held := by
  obtain ⟨-, g, hg, -⟩ := h
  rw [hg] at hf
  exact (List.mem_filter.1 hf).1

/-- What decides whether a fault may be cleared stays through clears. -/
theorem Clears.clearable {s x : State} (h : Clears s x) (f : Held) : clearable x f = clearable s f := by
  obtain ⟨p, c, l, n, k, w, a, o, rfl, -⟩ := h
  rfl

theorem mem_clearHeld_held {auto : Bool} {f y : Held} {x : State} (h : y ∈ (clearHeld auto f x).spu.held) : y ∈ x.spu.held ∧ y ≠ f := by
  rw [clearHeld_held] at h
  obtain ⟨hy, hn⟩ := List.mem_filter.1 h
  refine ⟨hy, fun e => ?_⟩
  simp [e, sameFault] at hn

/-- The faults of a name among those that F means, all of which may be cleared. -/
theorem clearNamed_clears {F : Held → Bool} {s x : State} (hF : ∀ {f y : Held}, F f = true → sameFault f.lr.code f.lr.kind f.lr.index y = true → F y = true)
    (free : ∀ f ∈ s.spu.held, F f = true → codeIsSafety f.lr.code = false ∧ clearable s f = true) (h : ClearedAmong F s x) {n : Nat}
    (hn : ∀ f, named n f = true → F f = true) :
    ClearedAmong F s (clearNamed n x) ∧ ∀ f ∈ (clearNamed n x).spu.held, f ∈ x.spu.held ∧ named n f = false := by
  have go (l : List Held) (hl : ∀ f ∈ l, f ∈ s.spu.held ∧ F f = true) (y : State) (hy : ClearedAmong F s y) :
      ClearedAmong F s (l.foldl (fun s h => if codeIsSafety h.lr.code || !clearable s h then s else clearHeld false h s) y) ∧
        ∀ f ∈ (l.foldl (fun s h => if codeIsSafety h.lr.code || !clearable s h then s else clearHeld false h s) y).spu.held,
          f ∈ y.spu.held ∧ f ∉ l := by
    induction l generalizing y with
    | nil => exact ⟨hy, fun f hf => ⟨hf, by simp⟩⟩
    | cons f l ih =>
      obtain ⟨⟨hmem, hf⟩, hl⟩ := List.forall_mem_cons.1 hl
      obtain ⟨hs, hc⟩ := free f hmem hf
      have acts : (codeIsSafety f.lr.code || !clearable y f) = false := by rw [hy.clears.clearable, hs, hc]; rfl
      simp only [List.foldl_cons, acts, Bool.false_eq_true, if_false]
      obtain ⟨ihc, ihm⟩ := ih hl _ (hy.clearHeld (f := f) fun _ same => hF hf same)
      refine ⟨ihc, fun z hz => ?_⟩
      obtain ⟨hz1, hz2⟩ := ihm z hz
      obtain ⟨hz3, hne⟩ := mem_clearHeld_held hz1
      exact ⟨hz3, by simp [hne, hz2]⟩
  obtain ⟨hc, hm⟩ := go (namedFaults x n) (fun f hf => ⟨h.mem (List.mem_filter.1 hf).1, hn f (List.mem_filter.1 hf).2⟩) x h
  refine ⟨hc, fun f hf => ⟨(hm f hf).1, ?_⟩⟩
  rw [Bool.eq_false_iff]
  exact fun named => (hm f hf).2 (List.mem_filter.2 ⟨(hm f hf).1, named⟩)

/-! FAULT_CLEAR. -/

theorem clearOne_free {h : Held} {s : State} (hpair : s.pairEn = false) (hs : codeIsSafety h.lr.code = false) (hl : latchedSat h = false)
    (hc : clearable s h = true) (o : Option (Nat × Nat)) : clearOne h (s, o) = (clearNamed (faultName h) s, o) := by
  have runs : finishClear h s = clearNamed (faultName h) s := runOp_alone (id := idFaultClear) hpair (by decide) _ _
  unfold clearOne
  simp [hs, hl, hc, runs]

theorem clearOne_stays {h : Held} {s : State} (hc : clearable s h = false) : clearOne h (s, none) = (s, some (h.lr.code, h.lr.index)) := by
  unfold clearOne
  simp [hc]

/-- Every fault of a name whose condition holds: they are gone one after the other, and no other goes with them. -/
theorem foldl_clearOne {name : Nat} {s : State} (hpair : s.pairEn = false)
    (free : ∀ h ∈ namedFaults s name, codeIsSafety h.lr.code = false ∧ latchedSat h = false ∧ clearable s h = true) :
    ∃ x, (namedFaults s name).foldl (fun acc h => clearOne h acc) (s, none) = (x, none) ∧ Clears s x ∧
      x.spu.held = s.spu.held.filter (fun h => !(named name h)) := by
  have same {f y : Held} (hf : named name f = true) (h : sameFault f.lr.code f.lr.kind f.lr.index y = true) : named name y = true :=
    (named_of_sameFault h name).trans hf
  have may : ∀ f ∈ s.spu.held, named name f = true → codeIsSafety f.lr.code = false ∧ clearable s f = true := fun f hf hn =>
    ⟨(free f (List.mem_filter.2 ⟨hf, hn⟩)).1, (free f (List.mem_filter.2 ⟨hf, hn⟩)).2.2⟩
  have go (l : List Held) (hl : ∀ f ∈ l, f ∈ namedFaults s name) (y : State) (hy : ClearedAmong (named name) s y) :
      ∃ x, l.foldl (fun acc h => clearOne h acc) (y, none) = (x, none) ∧ ClearedAmong (named name) s x ∧
        ∀ f ∈ x.spu.held, f ∈ y.spu.held ∧ f ∉ l := by
    induction l generalizing y with
    | nil => exact ⟨y, rfl, hy, fun f hf => ⟨hf, by simp⟩⟩
    | cons f l ih =>
      obtain ⟨hf, hl⟩ := List.forall_mem_cons.1 hl
      obtain ⟨hs, hlatch, hc⟩ := free f hf
      have hn : named name f = true := (List.mem_filter.1 hf).2
      have turn := clearOne_free (s := y) ((pairEn_congr hy.clears.rules.keep.par).trans hpair) hs hlatch (by rw [hy.clears.clearable, hc]) none
      obtain ⟨hyc, hym⟩ := clearNamed_clears same may hy (n := faultName f) fun z hz => named_of_faultName hn hz
      obtain ⟨x, hx, hxc, hxm⟩ := ih hl _ hyc
      refine ⟨x, by rw [List.foldl_cons, turn, hx], hxc, fun z hz => ?_⟩
      obtain ⟨hz1, hz2⟩ := hxm z hz
      obtain ⟨hz3, hz4⟩ := hym z hz1
      refine ⟨hz3, fun e => ?_⟩
      rcases List.mem_cons.1 e with rfl | e
      · simp [named] at hz4
      · exact hz2 e
  obtain ⟨x, hx, ⟨hc, g, hg, hk⟩, hm⟩ := go (namedFaults s name) (fun _ => id) s (.refl ..)
  refine ⟨x, hx, hc, hg.trans (List.filter_congr fun f hf => ?_)⟩
  cases hn : named name f with
  | false => exact hk f hn
  | true =>
    rw [Bool.not_true, Bool.eq_false_iff]
    exact fun hgf => (hm f (hg ▸ List.mem_filter.2 ⟨hf, hgf⟩)).2 (List.mem_filter.2 ⟨hf, hn⟩)

theorem faultClear_not_safety {name : Nat} (hsafe : name ≠ max32 → codeIsSafety (name / 65536) = false) {p : Nat} {s x : State} {r : Option (Nat × Nat)}
    (hx : (namedFaults s name).foldl (fun acc h => clearOne h acc) (s, none) = (x, r)) (hclearing : x.spu.held.any (·.clearing) = false) :
    faultClear p name s = match r with
      | none => accepted p x
      | some (code, i) => refuse p stSourceActive code i x := by
  have passes : ¬(name ≠ max32 && codeIsSafety (name / 65536)) = true := by
    by_cases hn : name = max32
    · simp [hn]
    · simp [hsafe hn]
  unfold faultClear
  rw [if_neg passes]
  rcases r with _ | ⟨code, i⟩
  · simp only [hx, hclearing, Bool.false_eq_true, if_false]
  · simp only [hx, hclearing, Bool.false_eq_true, if_false]

theorem not_clearing {s : State} (h : ∀ x ∈ s.spu.held, x.clearing = false) : s.spu.held.any (·.clearing) = false := by
  rw [List.any_eq_false]
  exact fun x hx => by rw [h x hx]; exact Bool.false_ne_true

section
variable {p : Fin 8} {s : State} (h : FieldGranted p .token s) (dt : Nat)
include h

theorem faultClear_clears (hpair : s.pairEn = false) {name : Word} (hclearing : ∀ x ∈ s.spu.held, x.clearing = false)
    (hsafe : name.toNat ≠ max32 → codeIsSafety (name.toNat / 65536) = false)
    (free : ∀ f ∈ namedFaults s name.toNat, codeIsSafety f.lr.code = false ∧ latchedSat f = false ∧ clearable (s.begin dt) f = true) :
    ∃ t, exec (.faultClear dt p name) s = .next t ∧ TickAnswered dt p s t ∧
      t.spu.held = s.spu.held.filter (fun f => !(name.toNat == max32 || faultName f == name.toNat)) := by
  obtain ⟨x, hx, hc, hheld⟩ := foldl_clearOne (s := takeMsg p 0x0302 (s.begin dt)) (name := name.toNat) hpair free
  have still : x.spu.held.any (·.clearing) = false := not_clearing fun f hf => hclearing f (List.mem_filter.1 (hheld ▸ hf)).1
  have runs : exec (.faultClear dt p name) s = done (accepted p x) :=
    congrArg done ((fieldCmd_body (h.begin dt) _).trans (faultClear_not_safety hsafe hx still))
  refine exec_ends runs ⟨hc.rules.accepted h, ?_⟩
  rw [ended_held, accepted, (ok_talks ..).keep.spu, hheld]
  rfl

theorem faultClear_stays {name : Word} {f : Held} (hclearing : ∀ x ∈ s.spu.held, x.clearing = false) (hmax : name.toNat ≠ max32)
    (hsafe : codeIsSafety (name.toNat / 65536) = false) (hname : namedFaults s name.toNat = [f]) (hactive : clearable (s.begin dt) f = false) :
    ∃ t, exec (.faultClear dt p name) s = .next t ∧ t.spu.held = s.spu.held ∧
      Answered p 0x0302 0x40 [BitVec.ofNat 32 f.lr.code, BitVec.ofNat 32 f.lr.index] s t := by
  have stays : (namedFaults (takeMsg p 0x0302 (s.begin dt)) name.toNat).foldl (fun acc h => clearOne h acc)
      (takeMsg p 0x0302 (s.begin dt), none) = (takeMsg p 0x0302 (s.begin dt), some (f.lr.code, f.lr.index)) := by
    rw [show namedFaults (takeMsg p 0x0302 (s.begin dt)) name.toNat = [f] from hname]
    exact clearOne_stays hactive
  have runs : exec (.faultClear dt p name) s = done (refuse p stSourceActive f.lr.code f.lr.index (takeMsg p 0x0302 (s.begin dt))) :=
    congrArg done ((fieldCmd_body (h.begin dt) _).trans (faultClear_not_safety (fun _ => hsafe) stays (not_clearing hclearing)))
  refine exec_ends runs ⟨?_, refuse_field h ..⟩
  rw [ended_held, (refuse_talks ..).keep.spu]
  rfl

theorem faultClear_safety {name : Word} (hmax : name.toNat ≠ max32) (hsafe : codeIsSafety (name.toNat / 65536) = true) :
    ∃ t, exec (.faultClear dt p name) s = .next t ∧ t.spu.held = s.spu.held ∧
      Answered p 0x0302 0x45 [BitVec.ofNat 32 (name.toNat / 65536), 0] s t := by
  have runs : exec (.faultClear dt p name) s = done (refuse p 0x45 (name.toNat / 65536) 0 (takeMsg p 0x0302 (s.begin dt))) := by
    refine congrArg done ((fieldCmd_body (h.begin dt) _).trans ?_)
    unfold faultClear
    rw [if_pos (by simp [hmax, hsafe])]
  refine exec_ends runs ⟨?_, refuse_field h ..⟩
  rw [ended_held, (refuse_talks ..).keep.spu]
  rfl
end

/-! FAULT_IN_CLEAR. -/

/-- The latches of a mask gone, the frames that follow sent and their conditions marked. -/
def unlatched (mask : Nat) (s : State) : State :=
  (List.range 4).foldl (fun t i => if (BitVec.ofNat 4 mask).getLsbD i && s.mod.latch.getLsbD i then condHolds (0x2301 + i) 9 i t else t)
    (immediateStates s { s with mod := { s.mod with latch := s.mod.latch &&& ~~~(BitVec.ofNat 4 mask) } })

theorem unlatched_clears (mask : Nat) (s : State) :
    Clears { s with mod := { s.mod with latch := s.mod.latch &&& ~~~(BitVec.ofNat 4 mask) } } (unlatched mask s) :=
  (immediateStates_clears ..).trans (.foldl _ (fun _ _ => .ite (condHolds_clears ..) (.refl _)) _ _)

theorem clearLatches_eq (mask : Nat) (s : State) : ∃ d freed lv, clearLatches mask s =
    if (unlatched mask s).dev = .run then
      rejoinChans freed lv none { unlatched mask s with mod := { (unlatched mask s).mod with relOwed := d } }
    else unlatched mask s := ⟨_, _, _, rfl⟩

theorem unlatched_latch (mask : Nat) (s : State) : (unlatched mask s).mod.latch = s.mod.latch &&& ~~~(BitVec.ofNat 4 mask) := by
  obtain ⟨c, hc⟩ := (unlatched_clears mask s).keeps.mod
  rw [hc]

theorem clearLatches_latch (mask : Nat) (s : State) : (clearLatches mask s).mod.latch = s.mod.latch &&& ~~~(BitVec.ofNat 4 mask) := by
  obtain ⟨d, freed, lv, runs⟩ := clearLatches_eq mask s
  rw [runs, ← unlatched_latch]
  split <;> rfl

theorem mod_rules (s : State) (m : Modr) : Rules s { s with mod := m } :=
  (Reacts.of s s.dev s.blockCause m s.plk s.recd s.rdn s.sys.bist s.free).rules

theorem clearLatches_rules (mask : Nat) (s : State) : Rules s (clearLatches mask s) := by
  obtain ⟨d, freed, lv, runs⟩ := clearLatches_eq mask s
  have gone : Rules s (unlatched mask s) := (mod_rules s _).trans (unlatched_clears mask s).rules
  rw [runs]
  exact .ite (gone.trans ((mod_rules _ _).trans (rejoinChans_clears ..).rules)) gone

theorem faultInClear_check (mask low : BitVec 4) (s : State) : (opFaultInClear mask.toNat low).check s =
    ((List.range 4).find? (fun i => mask.getLsbD i && !low.getLsbD i)).map (fun i => (stSourceActive, 0x2301 + i, i)) := rfl

/-- The pins of a mask that are high. -/
theorem and_not_eq_zero_iff (mask low : BitVec 4) : mask &&& ~~~low = 0 ↔ ∀ i ∈ List.range 4, (mask.getLsbD i && !low.getLsbD i) = false := by
  constructor
  · intro h i hi
    have bit := congrArg (fun v => v.getLsbD i) h
    have hlt : i < 4 := List.mem_range.1 hi
    simpa [hlt] using bit
  · intro h
    apply BitVec.eq_of_getLsbD_eq
    intro i hi
    have bit := h i (List.mem_range.2 hi)
    simpa [hi] using bit

section
variable {p : Fin 8} {s : State} (h : FieldGranted p .token s) (dt : Nat)
include h

theorem faultInClear_clears (hpair : s.pairEn = false) {mask low : BitVec 4} (hlow : mask &&& ~~~low = 0) :
    ∃ t, exec (.faultInClear dt p mask low) s = .next t ∧ TickAnswered dt p s t ∧ t.mod.latch = s.mod.latch &&& ~~~mask := by
  have check : (opFaultInClear mask.toNat low).check (takeMsg p 0x0302 (s.begin dt)) = none := by
    rw [faultInClear_check, List.find?_eq_none.2, Option.map_none]
    exact fun i hi => by rw [(and_not_eq_zero_iff mask low).1 hlow i hi]; exact Bool.false_ne_true
  have alone : runOp (mkId 3 0x400 1) mask.toNat (opFaultInClear mask.toNat low) (takeMsg p 0x0302 (s.begin dt)) =
      clearLatches mask.toNat (takeMsg p 0x0302 (s.begin dt)) := 
    runOp_alone (s := takeMsg p 0x0302 (s.begin dt)) hpair (id := mkId 3 0x400 1) (by decide) _ _
  have runs : exec (.faultInClear dt p mask low) s = done (accepted p (clearLatches mask.toNat (takeMsg p 0x0302 (s.begin dt)))) := by
    rw [← alone]
    exact congrArg done (opCmd_body (h.begin dt) _ _ _ check)
  refine exec_ends runs ⟨(clearLatches_rules ..).accepted h, ?_⟩
  rw [ended_mod, accepted, (ok_talks ..).keep.mod, clearLatches_latch, BitVec.ofNat_toNat, BitVec.setWidth_eq]
  rfl

theorem faultInClear_refused {mask low : BitVec 4} (hhigh : mask &&& ~~~low ≠ 0) :
    ∃ (t : State) (i : Fin 4), exec (.faultInClear dt p mask low) s = .next t ∧ mask[i] = true ∧ low[i] = false ∧
      t.mod.latch = s.mod.latch ∧ Answered p 0x0302 0x40 [BitVec.ofNat 32 (0x2301 + i), BitVec.ofNat 32 i] s t := by
  have some_high : ((List.range 4).find? (fun i => mask.getLsbD i && !low.getLsbD i)).isSome = true := by
    rw [List.find?_isSome]
    refine Classical.byContradiction fun none => ?_
    refine hhigh ((and_not_eq_zero_iff mask low).2 fun i hi => ?_)
    rw [Bool.eq_false_iff]
    exact fun high => none ⟨i, hi, high⟩
  obtain ⟨i, hi⟩ := Option.isSome_iff_exists.1 some_high
  have hlt : i < 4 := List.mem_range.1 (List.mem_of_find?_eq_some hi)
  have high := List.find?_some hi
  simp only [Bool.and_eq_true, Bool.not_eq_true'] at high
  have check : (opFaultInClear mask.toNat low).check (takeMsg p 0x0302 (s.begin dt)) = some (stSourceActive, 0x2301 + i, i) := by
    rw [faultInClear_check, hi, Option.map_some]
  refine ⟨_, ⟨i, hlt⟩, (congrArg done (opCmd_refused (h.begin dt) _ _ check)).trans (done_eq _), ?_, ?_, ?_, refuse_field h ..⟩
  · simpa [hlt] using high.1
  · simpa [hlt] using high.2
  · rw [ended_mod, (refuse_talks ..).keep.mod]
    rfl
end

/-- Settles O15: the three ends of FAULT_CLEAR and the two of FAULT_IN_CLEAR. -/
theorem faultsClearByCommand : Obligations.FaultsClearByCommand := fun dt _ _ h hpair =>
  ⟨fun _ hclearing hsafe free => faultClear_clears h dt hpair hclearing hsafe free,
    fun _ _ hclearing hmax hsafe hname hactive => faultClear_stays h dt hclearing hmax hsafe hname hactive,
    fun _ hmax hsafe => faultClear_safety h dt hmax hsafe,
    fun _ _ hlow => faultInClear_clears h dt hpair hlow, fun _ _ hhigh => faultInClear_refused h dt hhigh⟩

end Sys2Proof.Machine
end

section
/-! What the end of a command leaves alone, and the stream queues' owners (R417 to R419). -/
namespace Sys2Proof.Machine

/-! The end of a command, field by field. -/

@[simp] theorem ended_blockCause (x : State) : (ended x).blockCause = x.blockCause := rfl
@[simp] theorem ended_gfe (x : State) : (ended x).gfe = x.gfe := rfl
@[simp] theorem ended_lpe (x : State) : (ended x).lpe = x.lpe := rfl
@[simp] theorem ended_plk (x : State) : (ended x).plk = x.plk := rfl
@[simp] theorem ended_adc (x : State) : (ended x).adc = x.adc := rfl
@[simp] theorem ended_recd (x : State) : (ended x).recd = x.recd := rfl
@[simp] theorem ended_can (x : State) : (ended x).can = x.can := rfl
@[simp] theorem ended_lanes (x : State) : (ended x).lanes = x.lanes := rfl
@[simp] theorem ended_clk (x : State) : (ended x).clk = x.clk := rfl
@[simp] theorem ended_sec (x : State) : (ended x).sec = x.sec := rfl
@[simp] theorem ended_pkg (x : State) : (ended x).pkg = x.pkg := rfl
@[simp] theorem ended_clock (x : State) : (ended x).clock = x.clock := rfl
@[simp] theorem ended_isHeld (x : State) (c k i : Nat) : isHeld c k i (ended x) = isHeld c k i x := rfl

/-- A command that does nothing lets the time pass. -/
theorem timePassed_of_done {c : Instr} {s : State} {dt : Nat} (h : exec c s = done (s.begin dt)) (hpins : s.pinsHold = true) :
    ∃ t, exec c s = .next t ∧ TimePassed dt s t := by
  refine exec_ends h ⟨(txRun (s.begin dt)).1, (txRun (s.begin dt)).2, (watch (transmit (s.begin dt))).since, ?_, told_ended _⟩
  exact settle_of_pinsHold (s := watch (transmit (s.begin dt))) (pinsHold_begin hpins s.hst (txRun (s.begin dt)).2 s.free s.alm.stamp (txRun (s.begin dt)).1
    (watch (transmit (s.begin dt))).since)

/-! A queue by its index. -/

theorem State.sq_modSq (s : State) (q j : Nat) (f : Sq → Sq) : (s.modSq q f).sq j = if q = j ∧ q < 16 then f (s.sq j) else s.sq j :=
  vget_vmod ..

@[simp] theorem State.sq_modSq_self (s : State) (q : Fin 16) (f : Sq → Sq) : (s.modSq q f).sq q = f (s.sq q) := by
  simp [State.sq_modSq]

theorem State.sq_modSq_ne (s : State) {q j : Fin 16} (h : j ≠ q) (f : Sq → Sq) : (s.modSq q f).sq j = s.sq j := by
  rw [State.sq_modSq, if_neg fun e => h (Fin.ext e.1.symm)]

@[simp] theorem ended_sq (x : State) (q : Nat) : (ended x).sq q = x.sq q := rfl

theorem Undisturbed.sq_eq {s t : State} (h : Undisturbed s t) (q : Nat) : t.sq q = s.sq q := by
  unfold State.sq
  rw [h.sq]

/-! SQ_CTRL. -/

/-- What a write of the control register by its owner leaves of the queue. -/
def ctrlWritten (p : Nat) (release dma enable : Bool) (x : Sq) : Sq :=
  { x with dma := dma, enable := enable, vis := if x.dma != dma then 0 else x.vis, owner := if release then 15 else p }

/-- The state in which a claim finds the queue. -/
def claimed (p q : Nat) (s : State) : State := if (s.sq q).owner = 15 then s.modSq q (fun x => { x with owner := p }) else s

theorem writeSqCtrl_claim (p q : Nat) (release dma enable : Bool) (s : State) :
    writeSqCtrl p q true release dma enable s = writeSqCtrl p q false release dma enable (claimed p q s) := by
  simp [writeSqCtrl, claimed]

/-- No partition but the owner writes a control register. -/
theorem writeSqCtrl_other {p q : Nat} {s : State} (release dma enable : Bool) (h : (s.sq q).owner ≠ p) :
    writeSqCtrl p q false release dma enable s = s := by
  simp [writeSqCtrl, h]

/-- An owner's write either is refused, where it changes the mode of an enabled queue, or is written, and no other queue moves. -/
theorem writeSqCtrl_owner {p : Nat} {q : Fin 16} {s : State} (release dma enable : Bool) (h : (s.sq q).owner = p) (j : Fin 16) :
    (writeSqCtrl p q false release dma enable s).sq j =
      if j = q ∧ ((s.sq q).enable && (s.sq q).dma != dma) = false then ctrlWritten p release dma enable (s.sq q) else s.sq j := by
  have written : (s.modSq q (ctrlWritten p release dma enable)).sq j = if j = q then ctrlWritten p release dma enable (s.sq q) else s.sq j := by
    split
    · next e => rw [e, State.sq_modSq_self]
    · next e => rw [State.sq_modSq_ne s e]
  unfold writeSqCtrl
  cases refused : (s.sq q).enable && (s.sq q).dma != dma
  · have writes : ((if enable then condHolds (0x7220 + q) 0 0 (s.modSq q (ctrlWritten p release dma enable))
        else s.modSq q (ctrlWritten p release dma enable)).sq j) = (s.modSq q (ctrlWritten p release dma enable)).sq j := by
      split
      · exact (condHolds_rules ..).keep.sq_eq _
      · rfl
    dsimp only
    rw [if_neg (by simp [h, refused])]
    exact writes.trans (written.trans (by simp))
  · simp [h, refused]

theorem claimed_owner {p : Nat} {q : Fin 16} {s : State} (h : (s.sq q).owner = 15) (j : Fin 16) :
    (claimed p q s).sq j = if j = q then { s.sq q with owner := p } else s.sq j := by
  rw [claimed, if_pos h]
  split
  · next e => rw [e, State.sq_modSq_self]
  · next e => rw [State.sq_modSq_ne s e]

/-- A claim of a queue that nobody owns takes it. -/
theorem claim_takes {p : Nat} {q : Fin 16} {s : State} (dma enable : Bool) (h : (s.sq q).owner = 15) :
    ((writeSqCtrl p q true false dma enable s).sq q).owner = p ∧
      ∀ j : Fin 16, j ≠ q → (writeSqCtrl p q true false dma enable s).sq j = s.sq j := by
  have owned : ((claimed p q s).sq q).owner = p := by rw [claimed_owner h, if_pos rfl]
  rw [writeSqCtrl_claim]
  constructor
  · rw [writeSqCtrl_owner _ _ _ owned]
    split
    · rfl
    · exact owned
  · intro j hj
    rw [writeSqCtrl_owner _ _ _ owned, if_neg fun e => hj e.1, claimed_owner h, if_neg hj]

theorem claim_taken {p q : Nat} {s : State} (dma enable : Bool) (h : (s.sq q).owner ≠ 15) (hp : (s.sq q).owner ≠ p) :
    writeSqCtrl p q true false dma enable s = s := by
  rw [writeSqCtrl_claim, claimed, if_neg h, writeSqCtrl_other _ _ _ hp]

/-! SQ_RD_ADV. -/

/-- The bytes of whole packets at the front are those packets, and no more. -/
theorem wholePackets_take (l : List Packet) (k : Nat) : wholePackets l (packetsBytes (l.take k)) = some (min k l.length) := by
  induction l generalizing k with
  | nil => simp [packetsBytes, wholePackets]
  | cons a l ih =>
    cases k with
    | zero => simp [packetsBytes, wholePackets]
    | succ k =>
      have positive : packetsBytes ((a :: l).take (k + 1)) = a.bytes - 1 + packetsBytes (l.take k) + 1 := by
        simp only [packetsBytes, List.take_succ_cons, List.map_cons, List.sum_cons, Packet.bytes]
        omega
      have front : a.bytes - 1 + packetsBytes (l.take k) + 1 - a.bytes = packetsBytes (l.take k) := by
        simp only [Packet.bytes]
        omega
      rw [positive, wholePackets, if_neg (by simp only [Packet.bytes]; omega), front, ih]
      · simp
      · exact Nat.succ_ne_zero _

theorem advanceSq_whole {p : Nat} {q : Fin 16} {s : State} (h : (s.sq q).owner = p) {k : Nat} (hk : k ≤ (s.sq q).vis) :
    ((advanceSq p q (packetsBytes ((s.sq q).staged.take k)) s).sq q).staged = (s.sq q).staged.drop k ∧
      ((advanceSq p q (packetsBytes ((s.sq q).staged.take k)) s).sq q).advErr = (s.sq q).advErr := by
  have whole := wholePackets_take ((s.sq q).staged.take (s.sq q).vis) k
  rw [List.take_take, Nat.min_eq_left hk] at whole
  have dropped : (s.sq q).staged.drop (min k ((s.sq q).staged.take (s.sq q).vis).length) = (s.sq q).staged.drop k := by
    rw [List.length_take, ← Nat.min_assoc, Nat.min_eq_left hk]
    rcases Nat.le_total k (s.sq q).staged.length with hl | hl
    · rw [Nat.min_eq_left hl]
    · rw [Nat.min_eq_right hl, List.drop_eq_nil_of_le hl, List.drop_eq_nil_of_le (Nat.le_refl _)]
  unfold advanceSq
  rw [if_neg (not_not_intro h), whole]
  simp only [State.sq_modSq_self, dropped, and_self]

theorem advanceSq_odd {p : Nat} {q : Fin 16} {s : State} (h : (s.sq q).owner = p) {n : Nat}
    (hn : wholePackets ((s.sq q).staged.take (s.sq q).vis) n = none) :
    ((advanceSq p q n s).sq q).advErr = true ∧ ((advanceSq p q n s).sq q).staged = (s.sq q).staged := by
  unfold advanceSq
  rw [if_neg (not_not_intro h), hn]
  simp only [State.sq_modSq_self, and_self]

/-! HOST_RD. -/

theorem writeHostRd_other {p q : Nat} {s : State} (off : Nat) (h : (s.sq q).owner ≠ p) : writeHostRd p q off s = s := by
  simp [writeHostRd, h]

theorem writeHostRd_boundary {p : Nat} {q : Fin 16} {s : State} (h : (s.sq q).owner = p) {off : Nat} (hoff : off ≠ (s.sq q).hostRd) :
    if off ∈ (s.sq q).bounds then ((writeHostRd p q off s).sq q).hostRd = off
    else ((writeHostRd p q off s).sq q).hostRd = (s.sq q).hostRd ∧ ((writeHostRd p q off s).sq q).advErr = true := by
  unfold writeHostRd
  simp only [h, hoff, ne_eq, not_true, decide_false, Bool.or_false, Bool.false_eq_true, if_false]
  split <;> rename_i hb
  · rw [if_pos (by simpa using hb), State.sq_modSq_self]
  · rw [if_neg (by simpa using hb), State.sq_modSq_self]
    exact ⟨rfl, rfl⟩

/-! A register write through the window of a partition. -/

/-- Settles O41: each register write by its own rule above, through the window that the partition has. -/
theorem queueOwnership : Obligations.QueueOwnership := by
  intro dt p q s hw
  have claims (d e : Bool) : exec (.claim dt p q d e) s = done (writeSqCtrl p q true false d e (s.begin dt)) := if_pos hw
  have releases : exec (.release dt p q) s =
      done (writeSqCtrl p q false true (s.sq q).dma (s.sq q).enable (s.begin dt)) := if_pos hw
  have advances (n : BitVec 17) : exec (.sqRdAdv dt p q n) s = done (advanceSq p q n.toNat (s.begin dt)) := if_pos hw
  have reads (off : BitVec 24) : exec (.hostRd dt p q off) s = done (writeHostRd p q off.toNat (s.begin dt)) := if_pos hw
  refine ⟨fun d e h => ?_, fun d e h hp => ?_, fun h => ?_, fun k h hk hfits => ?_, fun n h hn => ?_, fun off h hoff => ?_,
    fun hp h hpins off n c hc => ?_⟩
  · refine exec_ends (claims d e) ?_
    simp only [ended_sq]
    exact claim_takes (s := s.begin dt) d e h
  · refine exec_ends (claims d e) ?_
    rw [ended_hst, claim_taken (s := s.begin dt) d e h hp, State.begin_hst]
  · have keeps : ((s.sq q).enable && (s.sq q).dma != (s.sq q).dma) = false := by simp
    have written := writeSqCtrl_owner (s := s.begin dt) true (s.sq q).dma (s.sq q).enable h
    refine exec_ends releases ?_
    simp only [ended_sq]
    refine ⟨?_, ?_, fun j hj => (written j).trans (if_neg fun e => hj e.1)⟩
    · rw [written q, if_pos ⟨rfl, keeps⟩]
      rfl
    · rw [written q, if_pos ⟨rfl, keeps⟩]
      rfl
  · refine exec_ends (advances _) ?_
    rw [ended_sq, BitVec.toNat_ofNat, Nat.mod_eq_of_lt hfits]
    exact advanceSq_whole (s := s.begin dt) h hk
  · refine exec_ends (advances n) ?_
    rw [ended_sq]
    exact advanceSq_odd (s := s.begin dt) h hn
  · refine exec_ends (reads off) ?_
    rw [ended_sq]
    exact writeHostRd_boundary (s := s.begin dt) h hoff
  · simp only [List.mem_cons, List.not_mem_nil, or_false] at hc
    rcases hc with rfl | rfl | rfl
    · exact timePassed_of_done ((reads off).trans (congrArg done (writeHostRd_other (s := s.begin dt) _ hp))) hpins
    · exact timePassed_of_done ((advances n).trans (congrArg done (if_pos hp))) hpins
    · exact timePassed_of_done (releases.trans (congrArg done (writeSqCtrl_other (s := s.begin dt) _ _ _ hp))) hpins

end Sys2Proof.Machine
end

section
/-! Which faults are held: after a fault is raised, after conditions that hold, and after what leaves the list alone. -/
namespace Sys2Proof.Machine

theorem Reacts.held {s t : State} : Reacts s t → t.spu.held = s.spu.held := by
  rintro ⟨d, b, m, p, r, n, w, y, f, k, l, a, o, rfl, -⟩
  rfl
theorem Logs.held {s t : State} (h : Logs s t) : t.spu.held = s.spu.held := h.reacts.held
theorem Hears.held {s t : State} (h : Hears s t) : t.spu.held = s.spu.held := h.reacts.held
theorem Talks.held {s t : State} : Talks s t → t.spu.held = s.spu.held := by
  rintro ⟨h, o, rfl⟩
  rfl

theorem isHeld_congr {s t : State} (h : t.spu.held = s.spu.held) (c k i : Nat) : isHeld c k i t = isHeld c k i s := by
  unfold isHeld
  rw [h]

theorem isHeld_iff {c k i : Nat} {s : State} :
    isHeld c k i s = true ↔ ∃ h ∈ s.spu.held, h.lr.code = c ∧ h.lr.kind = k ∧ h.lr.index = i := by
  simp [isHeld, sameFault, and_assoc]

/-- A fault that is held already is counted again and its record kept: the list names the same faults. -/
theorem repeatFault_isHeld (c k i : Nat) (s : State) (c' k' i' : Nat) : isHeld c' k' i' (repeatFault c k i s) = isHeld c' k' i' s := by
  unfold repeatFault
  dsimp only
  split
  · rfl
  · next h hh =>
    have name := List.find?_some hh
    refine (isHeld_congr ((holdRec_hears ..).trans (setEventAll_hears _)).held c' k' i').trans ?_
    show (s.spu.held.map _).any _ = s.spu.held.any _
    rw [List.any_map]
    congr 1
    funext x
    show sameFault c' k' i' (if _ then _ else _) = _
    split
    · next same =>
      simp only [sameFault, Bool.and_eq_true, beq_iff_eq] at name same
      simp only [sameFault, name, same]
    · rfl

/-- What is held after a fault is raised: what was, and the fault. -/
theorem raiseWith_isHeld (cfg c k i a b : Nat) (sc : List Nat) (s : State) (hw : withdrawCode c = false) (c' k' i' : Nat) :
    isHeld c' k' i' (raiseWith cfg c k i a b sc s) = (isHeld c' k' i' s || (c == c' && k == k' && i == i')) := by
  unfold raiseWith
  dsimp only
  split
  · next held =>
    rw [repeatFault_isHeld]
    cases same : c == c' && k == k' && i == i'
    · simp
    · simp only [Bool.and_eq_true, beq_iff_eq] at same
      obtain ⟨⟨rfl, rfl⟩, rfl⟩ := same
      rw [held, Bool.or_true]
  · rw [hw]
    simp only [Bool.false_and, Bool.false_eq_true, if_false]
    refine (isHeld_congr ((fireKind_reacts ..).trans (applyReaction_reacts ..)).held c' k' i').trans ?_
    refine (isHeld_congr (logRec_logs ..).held c' k' i').trans ?_
    have before := (recData_reacts c i a b s).held
    show ((recData c i a b s).2.spu.held ++ _).any _ = _
    rw [before, List.any_append]
    simp [isHeld, sameFault, stampRec, stampAt]

theorem raise_isHeld (c k i a b : Nat) (sc : List Nat) (s : State) (hw : withdrawCode c = false) (c' k' i' : Nat) :
    isHeld c' k' i' (raise c k i a b sc s) = (isHeld c' k' i' s || (c == c' && k == k' && i == i')) := raiseWith_isHeld _ _ _ _ _ _ _ _ hw ..
theorem raiseDev_isHeld (c k i : Nat) (s : State) (hw : withdrawCode c = false) (c' k' i' : Nat) :
    isHeld c' k' i' (raiseDev c k i s) = (isHeld c' k' i' s || (c == c' && k == k' && i == i')) := raise_isHeld _ _ _ _ _ _ _ hw ..

/-- A fault that stays held, whatever else is raised. -/
theorem isHeld_raise {c k i : Nat} {s : State} (h : isHeld c k i s = true) (c' k' i' a b : Nat) (sc : List Nat) (hw : withdrawCode c' = false) :
    isHeld c k i (raise c' k' i' a b sc s) = true := by rw [raise_isHeld _ _ _ _ _ _ _ hw, h]; rfl

theorem clearHeld_isHeld {c k i : Nat} {f : Held} (hf : sameFault c k i f = false) (auto : Bool) (s : State) :
    isHeld c k i (clearHeld auto f s) = isHeld c k i s := by
  unfold isHeld
  rw [clearHeld_held, List.any_filter]
  congr 1
  funext x
  cases hx : sameFault f.lr.code f.lr.kind f.lr.index x
  · simp
  · simp only [Bool.not_true, Bool.false_and]
    simp only [sameFault, Bool.and_eq_true, beq_iff_eq] at hx
    simp only [sameFault, hx] at hf ⊢
    exact hf.symm

/-- What is cleared is among what the condition names. -/
theorem clearWhere_isHeld {c k i : Nat} {F : Held → Bool} (hF : ∀ f, F f = true → sameFault c k i f = false) (auto : Bool) (s : State) :
    isHeld c k i (clearWhere auto F s) = isHeld c k i s := by
  unfold clearWhere
  refine List.foldlRecOn (motive := fun t => isHeld c k i t = isHeld c k i s) _ _ rfl fun t ht f hf => ?_
  rw [clearHeld_isHeld (hF f (List.mem_filter.1 hf).2), ht]

/-- The held faults whose marks alone change. -/
theorem isHeld_map {c k i : Nat} (s : State) (p : Spu) (g : Held → Held) (hg : ∀ h, (g h).lr = h.lr) :
    isHeld c k i { s with spu := { p with held := s.spu.held.map g } } = isHeld c k i s := by
  unfold isHeld
  rw [List.any_map]
  congr 1
  funext h
  simp [sameFault, hg h]

/-- A condition that holds clears no fault but those it names. -/
theorem condHolds_isHeld {c k i c' k' i' : Nat} (h : (c' == c && k' == k && i' == i) = false) (s : State) :
    isHeld c k i (condHolds c' k' i' s) = isHeld c k i s := by
  refine (clearWhere_isHeld (fun f hf => ?_) ..).trans (isHeld_map s s.spu _ fun f => by split <;> rfl)
  simp only [sameFault, Bool.and_eq_true, beq_iff_eq] at hf
  simpa only [sameFault, hf] using h

theorem condFails_isHeld (c k i c' k' i' : Nat) (s : State) : isHeld c k i (condFails c' k' i' s) = isHeld c k i s :=
  isHeld_map s s.spu _ fun f => by split <;> rfl

/-- A condition that starts to hold raises its fault. -/
theorem runRaise_held {c k i a b : Nat} {sc : List Nat} {s : State} (hw : withdrawCode c = false)
    (h : s.spu.runs.contains (c, k * 4096 + i) = false) : isHeld c k i (runRaise c k i a b sc true s) = true := by
  simp only [runRaise, h, if_true, Bool.false_eq_true, if_false]
  exact raise_held _ _ _ _ _ _ _ hw
end Sys2Proof.Machine
end

section
/-! Packets enter and leave a stream queue (R411 to R416, R420). -/
namespace Sys2Proof.Machine

theorem Rules.sq_eq {s t : State} (h : Rules s t) (q : Nat) : t.sq q = s.sq q := h.keep.sq_eq q
theorem Hears.sq_eq {s t : State} (h : Hears s t) (q : Nat) : t.sq q = s.sq q := h.reacts.rules.sq_eq q

@[simp] theorem modSq_isHeld (q : Nat) (f : Sq → Sq) (s : State) (c k i : Nat) : isHeld c k i (s.modSq q f) = isHeld c k i s := rfl

theorem queueCode_stays : ∀ q : Fin 16, withdrawCode (0x7200 + q) = false := by decide
theorem discardCode_stays : ∀ q : Fin 16, withdrawCode (0x7210 + q) = false := by decide

/-! Staging. -/

theorem stagePacket_full {q n : Nat} {s : State} {words : List Word} (h : 65536 < packetsBytes (s.sq q).staged + 4 * words.length + 4)
    (poison : Bool) (took : State → State) : stagePacket q n poison words took s = s := if_pos h

theorem stagePacket_fits {q n : Nat} {s : State} {words : List Word} (h : packetsBytes (s.sq q).staged + 4 * words.length + 4 ≤ 65536)
    (poison : Bool) (took : State → State) : stagePacket q n poison words took s = took (s.modSq q (fun x => { x with
      pseq := (x.pseq + 1) % 256
      staged := x.staged ++ [{ producer := n, pseq := x.pseq, poison := poison, words := words }] })) := if_neg (Nat.not_lt.2 h)

theorem tqCheck_rules (s : State) : Rules s (tqCheck s) := .ite (condHolds_rules ..) (condFails_rules ..)

theorem commitLog_record {s : State} {r : LogRec} {rest : List LogItem} (h : s.hst.logHold = .record r :: rest) (poison : Bool) :
    commitLog poison s = stagePacket 0 0 poison (recordWords r) dropHeld s := by
  unfold commitLog
  rw [h]

theorem dropHeld_logHold {s : State} {x : LogItem} {rest : List LogItem} (h : s.hst.logHold = x :: rest) (hgap : s.hst.gap = none) :
    (dropHeld s).hst.logHold = rest := by
  simp [dropHeld, h, hgap]

/-- A held log record is staged where it fits. -/
theorem commit_log {s : State} (hpow : s.dev.powered = true) {r : LogRec} {rest : List LogItem} (h : s.hst.logHold = .record r :: rest)
    (hfits : packetsBytes (s.sq 0).staged + 4 * (recordWords r).length + 4 ≤ 65536) (dt : Nat) (poison : Bool) :
    ∃ t, exec (.sqPacketCommit dt 0 poison) s = .next t ∧
      (t.sq 0).staged = (s.sq 0).staged ++ [{ producer := 0, pseq := (s.sq 0).pseq, poison := poison, words := recordWords r }] ∧
      (s.hst.gap = none → t.hst.logHold = rest) := by
  have runs : exec (.sqPacketCommit dt 0 poison) s = done (commitLog poison (s.begin dt)) := by
    show (if !s.dev.powered then _ else _) = _
    rw [hpow]
    rfl
  rw [commitLog_record (s := s.begin dt) h, stagePacket_fits (s := s.begin dt) hfits] at runs
  refine exec_ends runs ⟨?_, fun hgap => ?_⟩
  · rw [ended_sq]
    exact congrArg Sq.staged (State.sq_modSq_self (s.begin dt) 0 _)
  · rw [ended_hst]
    exact dropHeld_logHold (s := (s.begin dt).modSq 0 _) h hgap

theorem commit_log_full {s : State} (hpow : s.dev.powered = true) {r : LogRec} {rest : List LogItem} (h : s.hst.logHold = .record r :: rest)
    (hfull : 65536 < packetsBytes (s.sq 0).staged + 4 * (recordWords r).length + 4) (hpins : s.pinsHold = true) (dt : Nat) (poison : Bool) :
    ∃ t, exec (.sqPacketCommit dt 0 poison) s = .next t ∧ TimePassed dt s t := by
  have runs : exec (.sqPacketCommit dt 0 poison) s = done (commitLog poison (s.begin dt)) := by
    show (if !s.dev.powered then _ else _) = _
    rw [hpow]
    rfl
  rw [commitLog_record (s := s.begin dt) h, stagePacket_full (s := s.begin dt) hfull] at runs
  exact timePassed_of_done runs hpins

/-- The closed entries of the tagged queue leave it as one packet. -/
theorem commit_adc {s : State} (hpow : s.dev.powered = true) {q : Fin 16} {n : Nat} (hroute : s.pn 8 0x200 1 = 0x10 + q)
    (hn : tqClosed s.adc.tqTick s.alm.tick = n) (hne : s.adc.tq.take n ≠ [])
    (hfits : packetsBytes (s.sq q).staged + 8 * (s.adc.tq.take n).length + 8 ≤ 65536) (dt : Nat) (poison : Bool) :
    ∃ t, exec (.sqPacketCommit dt 1 poison) s = .next t ∧ t.adc.tq = s.adc.tq.drop n ∧
      (t.sq q).staged = (s.sq q).staged ++ [tqPacket (s.sq q).pseq poison (s.adc.tq.take n)] := by
  have route : (s.begin dt).pn 8 0x200 1 = 0x10 + q := hroute
  have size (es : List (BitVec 64)) :
      (BitVec.ofNat 32 es.length :: es.flatMap (fun (e : BitVec 64) => [e.truncate 32, (e >>> 32).truncate 32])).length = 2 * es.length + 1 := by
    induction es with
    | nil => rfl
    | cons e es ih =>
      simp only [List.length_cons, List.flatMap_cons, List.length_append, List.length_nil] at ih ⊢
      omega
  have runs : exec (.sqPacketCommit dt 1 poison) s = done (commitAdc poison (s.begin dt)) := by
    show (if !s.dev.powered then _ else _) = _
    rw [hpow]
    rfl
  have commits : commitAdc poison (s.begin dt) = stagePacket q 1 poison (tqPacket 0 poison (s.adc.tq.take n)).words
      (fun s => tqCheck { s with adc := { s.adc with tq := s.adc.tq.drop n, tqTick := s.adc.tqTick.drop n } }) (s.begin dt) := by
    unfold commitAdc
    simp only [State.begin_adc, State.begin_alm_tick, hn, route]
    rw [if_neg (by simp [hne]), Nat.add_sub_cancel_left]
    rfl
  rw [commits, stagePacket_fits (s := s.begin dt) (by
    show packetsBytes (s.sq q).staged + 4 * (tqPacket 0 poison (s.adc.tq.take n)).words.length + 4 ≤ 65536
    unfold tqPacket
    rw [size]
    omega)] at runs
  refine exec_ends runs ⟨?_, ?_⟩
  · rw [ended_adc, (tqCheck_rules _).keep.adc]
    rfl
  · rw [ended_sq, (tqCheck_rules _).sq_eq]
    exact congrArg Sq.staged (State.sq_modSq_self (s.begin dt) q _)

/-! Signals to the owner. -/

theorem signalSq_sq (q : Fin 16) (s : State) : (signalSq q s).sq q = { s.sq q with unsig := 0 } := by
  unfold signalSq
  dsimp only
  rw [(setIrq_hears ..).sq_eq]
  exact State.sq_modSq_self s q _

theorem signalSq_held (q : Nat) (s : State) : (signalSq q s).spu.held = s.spu.held := (setIrq_hears ..).held

theorem growSq_sq (q : Fin 16) (n : Nat) (s : State) : ∃ u a, (growSq q n s).sq q = { s.sq q with unsig := u, unsigAt := a } := by
  unfold growSq
  dsimp only
  split
  · rw [signalSq_sq, State.sq_modSq_self]
    exact ⟨_, _, rfl⟩
  · rw [State.sq_modSq_self]
    exact ⟨_, _, rfl⟩

theorem growSq_held (q n : Nat) (s : State) : (growSq q n s).spu.held = s.spu.held := by
  unfold growSq
  dsimp only
  split
  · exact signalSq_held ..
  · rfl

theorem or_bit_set : ∀ (v : Fin 4) (x : BitVec 4), (x ||| BitVec.ofNat 4 (2 ^ v.val)).getLsbD v = true := by decide

theorem or_bit16_set (q : Fin 16) (x : BitVec 16) : (x ||| BitVec.ofNat 16 (2 ^ q.val)).getLsbD q = true := by
  rw [BitVec.getLsbD_or, BitVec.getLsbD_ofNat, Nat.testBit_two_pow_self, decide_eq_true q.isLt]
  exact Bool.or_true _

theorem setIrq_irqStat (v : Fin 4) (p : Fin 8) (s : State) : ((setIrq v p s).hp p).irqStat.getLsbD v = true := by
  unfold setIrq
  dsimp only
  split
  · assumption
  · have set : ((s.modHp p (fun h => { h with irqStat := (s.hp p).irqStat ||| BitVec.ofNat 4 (2 ^ v.val) })).hp p).irqStat.getLsbD v = true := by
      rw [State.hp_modHp_self]
      exact or_bit_set v _
    split
    · split <;> exact set
    · exact set

theorem setIrq_sqIrqSum (v p q : Nat) (s : State) : ((setIrq v p s).hp q).sqIrqSum = (s.hp q).sqIrqSum := by
  have mute := (setIrq_hears v p s).reacts.rules.keep.hp q
  show ((setIrq v p s).hp q).mute.sqIrqSum = (s.hp q).mute.sqIrqSum
  rw [mute]

/-- The owner is signalled once the bytes it has not been told of have waited their time. -/
theorem irq_signalled {s : State} {q : Fin 16} {p : Fin 8} (howner : (s.sq q).owner = p) (hunsig : (s.sq q).unsig ≠ 0)
    (htime : (s.sq q).irqTime ≠ 0) {dt : Nat} (hdue : (s.sq q).unsigAt + (s.sq q).irqTime * 65536000 ≤ (s.begin dt).now) :
    ∃ t, exec (.sqIrqSignal dt q) s = .next t ∧
      (t.hp p).irqStat.getLsbD 3 = true ∧ (t.hp p).sqIrqSum.getLsbD q = true ∧ (t.sq q).unsig = 0 := by
  have runs : exec (.sqIrqSignal dt q) s = done (signalSq q (s.begin dt)) := by
    show (if ((s.sq q).owner < 8 && (s.sq q).unsig ≠ 0 && (s.sq q).irqTime ≠ 0 &&
      decide ((s.sq q).unsigAt + (s.sq q).irqTime * 1000 * nsecQ ≤ (s.begin dt).now)) then _ else _) = _
    have due : (s.sq q).unsigAt + (s.sq q).irqTime * 1000 * nsecQ ≤ (s.begin dt).now := by
      rw [Nat.mul_assoc]
      exact hdue
    rw [if_pos]
    simp [howner, hunsig, htime, due]
  refine exec_ends runs ?_
  rw [ended_hp, ended_sq, signalSq_sq]
  have owner : ((s.begin dt).sq q).owner = p := howner
  unfold signalSq
  dsimp only
  rw [owner, setIrq_sqIrqSum, State.hp_modHp_self]
  exact ⟨setIrq_irqStat 3 p _, or_bit16_set .., rfl⟩

/-! Delivery. -/

theorem countDelivery_sq (q : Fin 16) (k : Packet) (poison : Bool) (s : State) : ∃ u a n, (countDelivery q k poison s).sq q =
    { s.sq q with packets := sat32 (s.sq q).packets, poisoned := n, unsig := u, unsigAt := a } := by
  have marks (x : State) : (if k.producer = 15 then x else condHolds (0x7210 + q) 0 0 x).sq q = x.sq q := by
    split
    · rfl
    · exact (condHolds_rules ..).sq_eq q
  have judged (x : State) : (if poison then raiseDev (0x7200 + q) 0 0 x else condHolds (0x7200 + q) 0 0 x).sq q = x.sq q := by
    split
    · exact (raiseDev_rules _ _ _ _ (queueCode_stays q)).sq_eq q
    · exact (condHolds_rules ..).sq_eq q
  unfold countDelivery
  dsimp only
  obtain ⟨u, a, grown⟩ := growSq_sq q k.bytes _
  rw [grown, marks, judged, State.sq_modSq_self]
  exact ⟨u, a, _, rfl⟩

/-- A poisoned packet is a payload error of its queue. -/
theorem countDelivery_poison (q : Fin 16) (k : Packet) (s : State) : isHeld (0x7200 + q) 0 0 (countDelivery q k true s) = true := by
  unfold countDelivery
  dsimp only
  rw [isHeld_congr (growSq_held ..), if_pos rfl]
  split
  · exact raiseDev_held _ _ _ _ (queueCode_stays q)
  · rw [condHolds_isHeld]
    · exact raiseDev_held _ _ _ _ (queueCode_stays q)
    · simp

/-- What a delivery meets: an enabled queue with an owner and a packet not yet visible. -/
theorem delivers {s : State} (hpow : s.dev.powered = true) {q : Fin 16} (hen : (s.sq q).enable = true) (howner : (s.sq q).owner < 8)
    {k : Packet} (hk : ((s.sq q).staged.drop (s.sq q).vis).head? = some k) (dt : Nat) (parity badLen : Bool)
    (hdma : badLen = true ∨ (s.sq q).dma = false) :
    exec (.sqDeliver dt q parity badLen false) s = done (if badLen then discardStaging q (s.begin dt) else
      countDelivery q k (k.poison || parity)
        ((s.begin dt).modSq q (fun x => { x with vis := x.vis + 1, wpoison := x.wpoison || parity }))) := by
  have now : ((s.begin dt).sq q) = s.sq q := rfl
  show execSqDeliver dt q parity badLen false s = _
  unfold execSqDeliver
  dsimp only
  rw [now, if_neg (by simp [hpow, hen, howner]), hk]
  dsimp only
  cases badLen
  · rw [if_neg Bool.false_ne_true, if_pos (by simpa using hdma), if_neg Bool.false_ne_true]
  · rfl

theorem deliver_visible {s : State} (hpow : s.dev.powered = true) {q : Fin 16} (hen : (s.sq q).enable = true) (howner : (s.sq q).owner < 8)
    (hdma : (s.sq q).dma = false) {k : Packet} (hk : ((s.sq q).staged.drop (s.sq q).vis).head? = some k) (dt : Nat) (parity : Bool) :
    ∃ t, exec (.sqDeliver dt q parity false false) s = .next t ∧
        (t.sq q).vis = (s.sq q).vis + 1 ∧ (t.sq q).staged = (s.sq q).staged ∧ (t.sq q).packets = sat32 (s.sq q).packets ∧
        ((k.poison || parity) = true → isHeld (0x7200 + q) 0 0 t = true) := by
  refine exec_ends (delivers hpow hen howner hk dt parity false (.inr hdma)) ?_
  rw [if_neg Bool.false_ne_true]
  obtain ⟨u, a, n, sq⟩ := countDelivery_sq q k (k.poison || parity)
    ((s.begin dt).modSq q (fun x => { x with vis := x.vis + 1, wpoison := x.wpoison || parity }))
  rw [ended_sq, sq, State.sq_modSq_self, ended_isHeld]
  refine ⟨rfl, rfl, rfl, fun poison => ?_⟩
  rw [poison]
  exact countDelivery_poison ..

theorem deliver_discard {s : State} (hpow : s.dev.powered = true) {q : Fin 16} (hen : (s.sq q).enable = true) (howner : (s.sq q).owner < 8)
    {k : Packet} (hk : ((s.sq q).staged.drop (s.sq q).vis).head? = some k) (dt : Nat) (parity : Bool) :
    ∃ t d, exec (.sqDeliver dt q parity true false) s = .next t ∧
        (t.sq q).staged = [d] ∧ d.producer = 15 ∧ d.words = [BitVec.ofNat 32 (packetsBytes (s.sq q).staged)] ∧ (t.sq q).vis = 0 ∧
        isHeld (0x7210 + q) 0 0 t = true := by
  refine ⟨_, { producer := 15, pseq := (s.sq q).pseq, poison := false, words := [BitVec.ofNat 32 (packetsBytes (s.sq q).staged)] },
    (delivers hpow hen howner hk dt parity true (.inl rfl)).trans (done_eq _), ?_⟩
  rw [if_pos rfl, ended_sq, ended_isHeld]
  unfold discardStaging
  dsimp only
  rw [(raiseDev_rules _ _ _ _ (discardCode_stays q)).sq_eq, State.sq_modSq_self]
  exact ⟨rfl, rfl, rfl, rfl, raiseDev_held _ _ _ _ (discardCode_stays q)⟩

/-- Settles O40: staging by producer, delivery by its length word, and the owner's signal. -/
theorem queuePackets : Obligations.QueuePackets := fun dt _ _ hpow =>
  ⟨fun _ _ poison h => ⟨fun hfits => commit_log hpow h hfits dt poison, fun hfull hpins => commit_log_full hpow h hfull hpins dt poison⟩,
    fun _ poison hroute hn hne hfits => commit_adc hpow hroute hn hne hfits dt poison,
    fun _ parity hen howner hdma hk => deliver_visible hpow hen howner hdma hk dt parity,
    fun _ parity hen howner hk => deliver_discard hpow hen howner hk dt parity,
    fun _ howner hunsig htime hdue => irq_signalled howner hunsig htime hdue⟩

end Sys2Proof.Machine
end

section
/-! The recorder: its latch, its triggers and its restarts (R315 to R327). -/
namespace Sys2Proof.Machine

/-! A stream by its index. -/

theorem rst_modRst (i j : Nat) (f : Rst → Rst) (s : State) : rst (modRst i f s) j = if i = j ∧ i < 4 then f (rst s j) else rst s j :=
  vget_vmod ..

@[simp] theorem rst_modRst_self (i : Fin 4) (f : Rst → Rst) (s : State) : rst (modRst i f s) i = f (rst s i) := by
  simp [rst_modRst]

@[simp] theorem ended_rst (x : State) (i : Nat) : rst (ended x) i = rst x i := rfl

theorem rst_congr {s t : State} (h : t.recd = s.recd) (i : Nat) : rst t i = rst s i := by
  unfold rst
  rw [h]

theorem Clears.rst {s t : State} (h : Clears s t) (i : Nat) : rst t i = rst s i := rst_congr h.keeps.recd i

theorem Sends.rst {s t : State} : Sends s t → ∀ i, Machine.rst t i = Machine.rst s i := by
  rintro ⟨p, a, b, c, o, rfl⟩ i
  rfl

/-! Restarts (R327). -/

/-- A restarted stream runs, and waits for its first row. -/
def restarted (r : Rst) : Rst := { r with run := 1, started := false, fires := [] }

theorem rst_restartStream (i j : Nat) (s : State) : rst (restartStream i s) j = if i = j ∧ i < 4 then restarted (rst s j) else rst s j :=
  ((condHolds_clears ..).rst j).trans (rst_modRst ..)

theorem ringDrained_restarts {i : Fin 4} {s : State} (hrun : (rst s i).run = 2) (hself : s.pn 9 (0x100 + i) 8 = 1) (hring : (rst s i).ring = [])
    (hrows : (rst s i).rows = []) : ringDrained i s = restartStream i s := by
  have self : rf s i 8 = 1 := hself
  simp [ringDrained, hrun, self, hring, hrows]

theorem ringDrained_stays {i : Fin 4} {s : State} (hself : s.pn 9 (0x100 + i) 8 ≠ 1) : ringDrained i s = s := by
  have self : rf s i 8 ≠ 1 := hself
  simp [ringDrained, self]

theorem recRingDrained_restarts (dt : Nat) {i : Fin 4} {s : State} (hrun : (rst s i).run = 2) (hself : s.pn 9 (0x100 + i) 8 = 1)
    (hring : (rst s i).ring = []) (hrows : (rst s i).rows = []) :
    ∃ t, exec (.recRingDrained dt i) s = .next t ∧ (rst t i).run = 1 ∧ (rst t i).started = false := by
  refine exec_ends (x := ringDrained i (s.begin dt)) rfl ?_
  rw [ended_rst, ringDrained_restarts (s := s.begin dt) hrun hself hring hrows, rst_restartStream, if_pos ⟨rfl, i.isLt⟩]
  exact ⟨rfl, rfl⟩

/-! Triggers (R319 to R322). -/

/-- A running stream that fires keeps the fire. -/
def fired (f : Fire) (r : Rst) : Rst :=
  if r.run = 0 then r
  else if r.run = 1 then { r with fires := r.fires ++ [f], lastFire := f.time }
  else { r with missed := sat32 r.missed, lastFire := f.time }

theorem originateBc_sends (kind : Nat) (args : List Nat) (s : State) : Sends s (originateBc kind args s) :=
  (Sends.of_seq s s.rdn.txSeq s.rdn.gseq _).trans (sendPeer_sends ..)

theorem rst_modRst_fired {f : Fire} {g : Rst → Rst} (hg : ∀ r : Rst, r.run ≠ 0 → g r = fired f r) {i : Fin 4} {s : State}
    (runs : (rst s i).run ≠ 0) (j : Nat) : rst (modRst i g s) j = if i = j then fired f (rst s j) else rst s j := by
  rw [rst_modRst]
  split
  · next e => rw [if_pos e.1, ← e.1, hg _ runs]
  · next e => rw [if_neg fun h => e ⟨h, i.isLt⟩]

theorem rst_fireStream (f : Fire) (i : Fin 4) (j : Nat) (s : State) : rst (fireStream f i s) j = if i = j then fired f (rst s j) else rst s j := by
  unfold fireStream
  split
  · next stopped =>
    split
    · next e => rw [← e, fired, if_pos stopped]
    · rfl
  · next runs =>
    dsimp only
    split
    · exact ((originateBc_sends ..).rst j).trans (rst_modRst_fired (fun r h => by simp [fired, h]) runs j)
    · exact rst_modRst_fired (fun r h => by simp [fired, h]) runs j

/-- The first tick instant from a time on is the one that lies within a period of it. -/
theorem first_tick_from {origin due period n : Int} (h1 : due ≤ origin + n * period) (h2 : origin + n * period < due + period) :
    due + (origin - due) % period = origin + n * period := by
  have same : (origin - due) % period = origin + n * period - due := by
    have shift : origin - due = (origin + n * period - due) + period * (-n) := by
      rw [Int.mul_neg, Int.mul_comm n]
      omega
    rw [shift, Int.add_mul_emod_self_left, Int.emod_eq_of_lt (by omega) (by omega)]
  omega

theorem autoTrigger_fires {s : State} {i : Fin 4} {n : Int} (hrun : (rst s i).run = 1) (hstarted : (rst s i).started = true)
    (hauto : 0 < s.pt 9 (0x100 + i) 7) (hperiod : 0 < s.alm.period) (hfrom : ((rst s i).lastFire : Int) + s.pt 9 (0x100 + i) 7 ≤ s.tickAt n)
    (hto : s.tickAt n < (rst s i).lastFire + s.pt 9 (0x100 + i) 7 + s.alm.period) {dt : Nat} (hnow : s.tickAt n ≤ (s.begin dt).now) :
    exec (.recAutoTrigger dt i) s = done (fireStream { src := 9, time := (s.tickAt n).toNat } i (s.begin dt)) := by
  have period : (max s.alm.period 1 : Int) = s.alm.period := by omega
  have tick : ((rst s i).lastFire : Int) + s.pt 9 (0x100 + i) 7 + (s.alm.origin - ((rst s i).lastFire + s.pt 9 (0x100 + i) 7)) %
      (max s.alm.period 1 : Int) = s.tickAt n := by
    rw [period]
    exact first_tick_from hfrom hto
  show execRecAutoTrigger dt i s = _
  unfold execRecAutoTrigger
  dsimp only
  rw [State.begin_alm_period, State.begin_alm_origin]
  have stream : rst (s.begin dt) i = rst s i := rfl
  have auto : ((s.begin dt).wire (mkId kRec (0x100 + i) 7)).toInt = s.pt 9 (0x100 + i) 7 := rfl
  rw [stream, auto, tick, if_pos]
  simp [hrun, hstarted, hauto]
  omega

/-- A running stream that has waited its time fires by itself. -/
theorem recAutoTrigger_fires {s : State} {i : Fin 4} {n : Int} (hrun : (rst s i).run = 1) (hstarted : (rst s i).started = true)
    (hauto : 0 < s.pt 9 (0x100 + i) 7) (hperiod : 0 < s.alm.period) (hfrom : ((rst s i).lastFire : Int) + s.pt 9 (0x100 + i) 7 ≤ s.tickAt n)
    (hto : s.tickAt n < (rst s i).lastFire + s.pt 9 (0x100 + i) 7 + s.alm.period) {dt : Nat} (hnow : s.tickAt n ≤ (s.begin dt).now) :
    ∃ t f, exec (.recAutoTrigger dt i) s = .next t ∧ (rst t i).fires = (rst s i).fires ++ [f] ∧ f.src = 9 ∧
      f.time = (s.tickAt n).toNat ∧ (rst t i).lastFire = f.time := by
  refine ⟨_, { src := 9, time := (s.tickAt n).toNat },
    (autoTrigger_fires hrun hstarted hauto hperiod hfrom hto hnow).trans (done_eq _), ?_⟩
  have stream : rst (s.begin dt) i = rst s i := rfl
  rw [ended_rst, rst_fireStream, if_pos rfl, stream, fired, if_neg (by omega), if_pos hrun]
  exact ⟨rfl, rfl, rfl, rfl⟩

/-! The latch (R315, R316). -/

theorem tabGet?_map {α : Type} (l : List Nat) (f : Nat → α) {k : Nat} (h : k ∈ l) : tabGet? (l.map (fun r => (r, f r))) k = some (f k) := by
  induction l with
  | nil => cases h
  | cons r l ih =>
    rw [List.map_cons, tabGet?]
    split
    · next e => rw [e]
    · next e => exact ih ((List.mem_cons.1 h).resolve_left fun x => e x.symm)

/-- The values and flags that the latch takes of the slots in use. -/
def latched (s : State) : Tab (Word × Bool) :=
  ((List.range 128).filter (fun r => s.pn 9 r 1 != noneV)).map (fun r => (r, sigVal s (s.pn 9 r 1), sigValid s (s.pn 9 r 1)))

/-- Where no stream runs, the latch takes the slots and nothing more. -/
theorem recLatch_idle {s : State} (h : ∀ i : Fin 4, (rst s i).run = 0) : recLatch s = { s with recd := { s.recd with latch := latched s } } := by
  unfold recLatch
  refine List.foldlRecOn (motive := fun t => t = { s with recd := { s.recd with latch := latched s } }) _ _ rfl fun t ht i hi => ?_
  have stopped : (rst t i).run = 0 := by
    rw [ht]
    exact h ⟨i, List.mem_range.1 hi⟩
  exact (if_pos stopped).trans ht

theorem sendCapture_keeps (s : State) : (sendCapture s).recd = s.recd ∧ (sendCapture s).alm = s.alm := by
  unfold sendCapture
  split
  · obtain ⟨p, a, b, c, o, e⟩ := sendPair_sends (.stx (.captured (captureOf s))) (modRdn (fun r => { r with capture := false }) s)
    rw [e]
    exact ⟨rfl, rfl⟩
  · exact ⟨rfl, rfl⟩

/-- The state in which the latch reads the signals: its phase of the tick has come. -/
def atLatch (dt : Nat) (s : State) : State := { s.begin dt with alm := { (s.begin dt).alm with stage := 4 } }

theorem recLatch_latches {s : State} {dt : Nat} (hawake : s.awake = true) (hstage : s.alm.stage = 3)
    (hphase : ((s.alm.phaseW + 150 * nsecQ : Nat) : Int) ≤ (s.begin dt).phaseQ) (hstop : ∀ i : Fin 4, (rst s i).run = 0) :
    ∃ t, exec (.recLatch dt) s = .next t ∧ t.alm = { (s.begin dt).alm with stage := 4 } ∧
      ∀ r : Fin 128, s.pn 9 r 1 ≠ noneV → tabGet? t.recd.latch r =
        some (sigVal (atLatch dt s) (s.pn 9 r 1), sigValid (atLatch dt s) (s.pn 9 r 1)) := by
  have awake : (s.begin dt).awake = true := hawake
  have late : ¬((s.begin dt).phaseQ < ((s.alm.phaseW + 150 * nsecQ : Nat) : Int)) := Int.not_lt.2 hphase
  have runs : exec (.recLatch dt) s = done (sendCapture (recLatch (atLatch dt s))) := by
    show execRecLatch dt s = _
    unfold execRecLatch atLatch
    dsimp only
    rw [if_neg]
    rw [State.begin_alm_stage, State.begin_alm_phaseW]
    simp only [awake, hstage, late, ne_eq, not_true, decide_false, Bool.not_true, Bool.or_false, Bool.false_eq_true,
      not_false_iff]
  refine exec_ends runs ?_
  rw [ended_alm, ended_recd, (sendCapture_keeps _).1, (sendCapture_keeps _).2, recLatch_idle (s := atLatch dt s) hstop]
  refine ⟨rfl, fun r hr => ?_⟩
  have used : s.pn 9 r 1 != noneV := by simpa using hr
  exact tabGet?_map _ (fun r => (sigVal (atLatch dt s) (s.pn 9 r 1), sigValid (atLatch dt s) (s.pn 9 r 1)))
    (List.mem_filter.2 ⟨List.mem_range.2 r.isLt, used⟩)

/-- Settles O42: the latch, the AUTO trigger and the restart, each of which waits for its time. -/
theorem recorderRuns : Obligations.RecorderRuns := by
  intro dt s
  refine ⟨fun hawake hstage hphase hstop => recLatch_latches hawake hstage hphase hstop, fun h hpins => ?_,
    fun i n hrun hstarted hauto hperiod _ hfrom hto hnow => recAutoTrigger_fires hrun hstarted hauto hperiod hfrom hto hnow,
    fun i hrun hself hring hrows => recRingDrained_restarts dt hrun hself hring hrows,
    fun i _ hself hpins => timePassed_of_done (congrArg done (ringDrained_stays (s := s.begin dt) hself)) hpins⟩
  refine timePassed_of_done ?_ hpins
  show execRecLatch dt s = _
  unfold execRecLatch
  dsimp only
  rw [State.begin_alm_stage, State.begin_alm_phaseW, if_pos]
  rcases h with h | h
  · simp [h]
  · simp only [h, decide_true, Bool.or_true]

end Sys2Proof.Machine
end

section
/-! DEC_RESET, REC_TRIGGER and REC_RESTART (R288, R319, R327). -/
namespace Sys2Proof.Machine

/-! A command field of a device alone. -/

theorem Talks.rules {s t : State} : Talks s t → t.par = s.par ∧ t.alm = s.alm := by
  rintro ⟨h, o, rfl⟩
  exact ⟨rfl, rfl⟩

/-- An accepted field acts at once where the device is alone. -/
theorem opCmd_alone {p : Fin 8} {right : Right} {s : State} (h : FieldGranted p right s) (hpair : s.pairEn = false) {id : Nat}
    (hid : atInstant id = false) (val : Nat) {o : Op} (hc : o.check (takeMsg p 0x0302 s) = none) :
    opCmd p right id val o s = accepted p (o.act (takeMsg p 0x0302 s)) := by
  have alone : (takeMsg p 0x0302 s).pairEn = false := (pairEn_congr (takeMsg_talks p 0x0302 s).keep.par).trans hpair
  rw [opCmd_body h id val o hc, runOp_alone alone hid]

theorem accepted_talks (p : Nat) (s : State) : Talks s (accepted p s) := ok_talks ..

/-- The end of a command that only answers leaves the bitstream inputs as they were. -/
theorem Talks.ended_bsd {s x : State} {dt : Nat} (hpins : s.pinsHold = true) : Talks (s.begin dt) x → (ended x).bsd = s.bsd := by
  rintro ⟨h, o, rfl⟩
  have settled := settle_of_pinsHold (s := watch (transmit { s.begin dt with hst := h, out := (s.begin dt).out ++ o }))
    (pinsHold_begin hpins h (transmit { s.begin dt with hst := h, out := (s.begin dt).out ++ o }).out s.free s.alm.stamp
      (transmit { s.begin dt with hst := h, out := (s.begin dt).out ++ o }).tx
      (watch (transmit { s.begin dt with hst := h, out := (s.begin dt).out ++ o })).since)
  exact (congrArg State.bsd settled).trans rfl

/-! DEC_RESET. -/

/-- The group of a bitstream input by its index. -/
def sdGrp (s : State) (g : Nat) : SdGrp := vget s.bsd.grp g {}

theorem sdGrp_modGrp (g j : Nat) (f : SdGrp → SdGrp) (s : State) :
    sdGrp (modGrp g f s) j = if g = j ∧ g < 6 then f (sdGrp s j) else sdGrp s j := vget_vmod ..

/-- A group whose decimators are to be reset 25 ns on, or at the edge that is due already. -/
def resetFrom (at_ : Nat) (x : SdGrp) : SdGrp := { x with resetDue := some (x.resetDue.getD at_) }

theorem sdGrp_foldl_reset (l : List Nat) (s : State) (g : Fin 6) :
    sdGrp (l.foldl (fun s g => modGrp g (fun x => { x with resetDue := some (x.resetDue.getD (s.nowStep + 400)) }) s) s) g =
      if g.val ∈ l then resetFrom (s.nowStep + 400) (sdGrp s g) else sdGrp s g := by
  induction l generalizing s with
  | nil => rfl
  | cons a l ih =>
    rw [List.foldl_cons, ih]
    have now : (modGrp a (fun x => { x with resetDue := some (x.resetDue.getD (s.nowStep + 400)) }) s).nowStep = s.nowStep := rfl
    rw [now, sdGrp_modGrp]
    by_cases ha : a = g.val
    · have inRange : a < 6 := ha ▸ g.isLt
      simp only [ha, inRange, ha ▸ inRange, and_self, if_true, List.mem_cons, true_or]
      split <;> rfl
    · simp only [ha, false_and, if_false, List.mem_cons, Ne.symm ha, false_or]

/-- DEC_RESET and a SYNC_IN pulse arm the groups with SYNC_EN, and those alone. -/
theorem armReset_resetDue (s : State) (g : Fin 6) : (sdGrp (armReset s) g).resetDue =
    if s.pn 7 (0x100 + g) 1 = 0 ∧ s.pn 7 (0x100 + g) 5 = 1 then some ((sdGrp s g).resetDue.getD (s.nowStep + 400))
    else (sdGrp s g).resetDue := by
  have armed : sdGrp (armReset s) g = sdGrp (((List.range 6).filter (fun g => s.pn 7 (0x100 + g) 1 = 0 && s.pn 7 (0x100 + g) 5 = 1)).foldl
      (fun s g => modGrp g (fun x => { x with resetDue := some (x.resetDue.getD (s.nowStep + 400)) }) s) s) g := by
    unfold armReset
    dsimp only
    split <;> rfl
  rw [armed, sdGrp_foldl_reset]
  simp only [List.mem_filter, List.mem_range, g.isLt, true_and, Bool.and_eq_true, decide_eq_true_eq]
  split <;> rfl

/-- A change of the bitstream inputs alone. -/
theorem armReset_bsd (s : State) : ∃ b, armReset s = { s with bsd := b } := by
  have fold (l : List Nat) (x : State) (hx : ∃ b, x = { s with bsd := b }) :
      ∃ b, l.foldl (fun s g => modGrp g (fun x => { x with resetDue := some (x.resetDue.getD (s.nowStep + 400)) }) s) x = { s with bsd := b } :=
    List.foldlRecOn (motive := fun x => ∃ b, x = { s with bsd := b }) _ _ hx fun y hy g _ => by
      obtain ⟨b, rfl⟩ := hy
      exact ⟨_, rfl⟩
  obtain ⟨b, hb⟩ := fold ((List.range 6).filter (fun g => s.pn 7 (0x100 + g) 1 = 0 && s.pn 7 (0x100 + g) 5 = 1)) s ⟨s.bsd, rfl⟩
  unfold armReset
  dsimp only
  rw [hb]
  split <;> exact ⟨_, rfl⟩

theorem ended_sdGrp (x : State) (g : Nat) : sdGrp (ended x) g = sdGrp x g := rfl

theorem accepted_sdGrp (p : Nat) (x : State) (g : Nat) : sdGrp (accepted p x) g = sdGrp x g := by
  unfold sdGrp
  rw [(accepted_talks p x).keep.bsd]

theorem decReset_arms {p : Fin 8} {s : State} (h : FieldGranted p .token s) (hpair : s.pairEn = false) (dt : Nat)
    (hdev : s.dev = .armed ∨ s.dev = .blocked) : ∃ t, exec (.decReset dt p) s = .next t ∧
      TickAnswered dt p s t ∧ ∀ g : Fin 6, (sdGrp t g).resetDue =
        if s.pn 7 (0x100 + g) 1 = 0 ∧ s.pn 7 (0x100 + g) 5 = 1
        then some ((sdGrp s g).resetDue.getD ((s.begin dt).nowStep + 400)) else (sdGrp s g).resetDue := by
  have free : opDecReset.check (takeMsg p 0x0302 (s.begin dt)) = none := by
    show (if (takeMsg p 0x0302 (s.begin dt)).dev = .armed || _ then _ else _) = _
    rw [(takeMsg_talks p 0x0302 (s.begin dt)).keep.dev]
    rcases hdev with hdev | hdev <;> simp [hdev]
  have runs : exec (.decReset dt p) s = done (accepted p (armReset (takeMsg p 0x0302 (s.begin dt)))) :=
    congrArg done (opCmd_alone (h.begin dt) hpair (by decide) _ free)
  refine exec_ends runs ⟨?_, fun g => ?_⟩
  · obtain ⟨b, hb⟩ := armReset_bsd (takeMsg p 0x0302 (s.begin dt))
    rw [hb]
    exact accepted_answered h rfl (takeMsg_talks p 0x0302 (s.begin dt)).keep.alm (pairEn_congr (takeMsg_talks p 0x0302 (s.begin dt)).keep.par)
  · rw [ended_sdGrp, accepted_sdGrp, armReset_resetDue]
    rfl

theorem decReset_refused {p : Fin 8} {s : State} (h : FieldGranted p .token s) (dt : Nat) (h1 : s.dev ≠ .armed) (h2 : s.dev ≠ .blocked)
    (hpins : s.pinsHold = true) : ∃ t, exec (.decReset dt p) s = .next t ∧ t.bsd = s.bsd ∧
      Answered p 0x0302 0x23 [BitVec.ofNat 32 (devCode s.dev), 0] s t := by
  have wrong : opDecReset.check (takeMsg p 0x0302 (s.begin dt)) = some (0x23, devCode s.dev, 0) := by
    show (if (takeMsg p 0x0302 (s.begin dt)).dev = .armed || _ then _ else _) = _
    rw [(takeMsg_talks p 0x0302 (s.begin dt)).keep.dev]
    simp [h1, h2, wrongState, stWrongState, (takeMsg_talks p 0x0302 (s.begin dt)).keep.dev]
  exact exec_ends (congrArg done (opCmd_refused (h.begin dt) _ _ wrong))
    ⟨((takeMsg_talks ..).trans (refuse_talks ..)).ended_bsd hpins, refuse_field h ..⟩

/-! REC_TRIGGER and REC_RESTART. -/

/-- The streams of a mask, one after the other, each changed by a rule that leaves the others. -/
theorem rst_foldl_range {f : State → Nat → State} {g : Nat → Rst → Rst}
    (hf : ∀ (s : State) (i : Fin 4) (j : Nat), rst (f s i) j = if i.val = j then g i (rst s j) else rst s j) (s : State) (i : Fin 4) :
    rst ((List.range 4).foldl f s) i = g i (rst s i) := by
  have step (x : State) (n : Nat) (hn : n < 4) (j : Nat) : rst (f x n) j = if n = j then g n (rst x j) else rst x j := hf x ⟨n, hn⟩ j
  have split4 : (List.range 4).foldl f s = f (f (f (f s 0) 1) 2) 3 := rfl
  rw [split4, step _ 3 (by decide), step _ 2 (by decide), step _ 1 (by decide), step _ 0 (by decide)]
  have four : i.val = 0 ∨ i.val = 1 ∨ i.val = 2 ∨ i.val = 3 := by omega
  rcases four with h | h | h | h <;> simp [h]

theorem rst_fireMask (src mask time : Nat) (s : State) (i : Fin 4) : rst (fireMask src mask time s) i =
    if mask.testBit i then fired { src := src, time := time } (rst s i) else rst s i :=
  rst_foldl_range (g := fun i r => if mask.testBit i then fired { src := src, time := time } r else r) (fun s i j => by
    split
    · exact rst_fireStream ..
    · split <;> rfl) s i

theorem rst_restartMask (mask : Nat) (s : State) (i : Fin 4) : rst ((opRecRestart mask).act s) i =
    if mask.testBit i && (rst s i).run == 2 then restarted (rst s i) else rst s i :=
  rst_foldl_range (g := fun i r => if mask.testBit i && r.run == 2 then restarted r else r) (fun s i j => by
    split
    · next h =>
      rw [rst_restartStream]
      split
      · next e => rw [if_pos e.1, if_pos (e.1 ▸ h)]
      · next e => rw [if_neg fun x => e ⟨x, i.isLt⟩]
    · next h =>
      split
      · next e => rw [← e, if_neg h]
      · rfl) s i

theorem accepted_rst (p : Nat) (x : State) (i : Nat) : rst (accepted p x) i = rst x i := rst_congr (accepted_talks p x).keep.recd i

theorem toNat_testBit (mask : BitVec 4) (i : Fin 4) : mask.toNat.testBit i = mask[i] := by
  rw [BitVec.testBit_toNat, BitVec.getLsbD_eq_getElem i.isLt]
  rfl

theorem fireMask_rules (a b c : Nat) (s : State) : Rules s (fireMask a b c s) := (fireMask_reacts a b c s).rules

theorem takeMsg_rst (p op : Nat) (s : State) (i : Nat) : rst (takeMsg p op s) i = rst s i := rst_congr (takeMsg_talks p op s).keep.recd i

theorem recTrigger_fires {p : Fin 8} {s : State} (h : FieldGranted p (.priv pvConfigure) s) (hpair : s.pairEn = false) (dt : Nat) (mask : BitVec 4) :
    ∃ t, exec (.recTrigger dt p mask) s = .next t ∧ TickAnswered dt p s t ∧
      ∀ i : Fin 4, (rst t i).fires = (rst s i).fires ++ (if mask[i] = true ∧ (rst s i).run = 1
        then [{ src := 8, time := ((s.begin dt).tickAt ((s.begin dt).tickNow + 1)).toNat }] else []) := by
  have runs : exec (.recTrigger dt p mask) s = done (accepted p (fireMask 8 mask.toNat
      ((s.begin dt).tickAt ((s.begin dt).tickNow + 1)).toNat (takeMsg p 0x0302 (s.begin dt)))) :=
    congrArg done (opCmd_alone (h.begin dt) hpair (by decide) _ rfl)
  refine exec_ends runs ⟨Rules.accepted h (fireMask_rules ..), fun i => ?_⟩
  rw [ended_rst, accepted_rst, rst_fireMask, toNat_testBit, takeMsg_rst]
  show Rst.fires (if _ then fired _ (rst s i) else rst s i) = _
  unfold fired
  by_cases hm : mask[i] = true <;> by_cases h0 : (rst s i).run = 0 <;> by_cases h1 : (rst s i).run = 1 <;> simp_all

/-- Streams that restart keep the rules of a change of the fault list. -/
theorem restartStream_rules (i : Nat) (s : State) : Rules s (restartStream i s) :=
  (modRst_reacts ..).rules.trans (condHolds_rules ..)

theorem recRestart_rules (mask : Nat) (s : State) : Rules s ((opRecRestart mask).act s) :=
  .foldl _ (fun _ _ => .ite (restartStream_rules ..) (.refl _)) _ s

theorem recRestart_restarts {p : Fin 8} {s : State} (h : FieldGranted p (.priv pvConfigure) s) (hpair : s.pairEn = false) (dt : Nat)
    {mask : BitVec 4} (hrun : ∀ i : Fin 4, mask[i] = true → (rst s i).run ≠ 1) :
    ∃ t, exec (.recRestart dt p mask) s = .next t ∧ TickAnswered dt p s t ∧
      ∀ i : Fin 4, (rst t i).run = if mask[i] = true ∧ (rst s i).run = 2 then 1 else (rst s i).run := by
  have free : (opRecRestart mask.toNat).check (takeMsg p 0x0302 (s.begin dt)) = none := by
    refine if_neg fun any => ?_
    obtain ⟨i, hi, hrunning⟩ := List.any_eq_true.1 any
    rw [takeMsg_rst, Bool.and_eq_true, beq_iff_eq, toNat_testBit mask ⟨i, List.mem_range.1 hi⟩] at hrunning
    exact hrun ⟨i, List.mem_range.1 hi⟩ hrunning.1 hrunning.2
  refine exec_ends (congrArg done (opCmd_alone (h.begin dt) hpair (by decide) _ free))
    ⟨Rules.accepted h (recRestart_rules ..), fun i => ?_⟩
  have stream : rst (s.begin dt) i = rst s i := rfl
  rw [ended_rst, accepted_rst, rst_restartMask, toNat_testBit, takeMsg_rst, stream]
  split <;> simp_all [restarted]

theorem recRestart_refused {p : Fin 8} {s : State} (h : FieldGranted p (.priv pvConfigure) s) (dt : Nat)
    {mask : BitVec 4} {i : Fin 4} (hmask : mask[i] = true) (hrun : (rst s i).run = 1) :
    ∃ t, exec (.recRestart dt p mask) s = .next t ∧ t.recd = s.recd ∧
      Answered p 0x0302 0x23 [BitVec.ofNat 32 (devCode s.dev), 0] s t := by
  have wrong : (opRecRestart mask.toNat).check (takeMsg p 0x0302 (s.begin dt)) = some (0x23, devCode s.dev, 0) := by
    refine (if_pos (List.any_eq_true.2 ⟨i.val, List.mem_range.2 i.isLt, ?_⟩)).trans ?_
    · rw [takeMsg_rst, toNat_testBit, hmask, Bool.true_and]
      exact beq_iff_eq.2 hrun
    · rw [wrongState, (takeMsg_talks p 0x0302 (s.begin dt)).keep.dev]
      rfl
  refine exec_ends (congrArg done (opCmd_refused (h.begin dt) _ _ wrong)) ⟨?_, refuse_field h ..⟩
  rw [ended_recd, ((takeMsg_talks ..).trans (refuse_talks ..)).keep.recd]
  rfl

/-- Settles O19: each of the three commands acts on the groups or streams it names, or is refused whole. -/
theorem streamCommands : Obligations.StreamCommands := fun dt _ _ =>
  ⟨fun h hpair hdev => decReset_arms h hpair dt hdev, fun h h1 h2 hpins => decReset_refused h dt h1 h2 hpins,
    fun mask h hpair => recTrigger_fires h hpair dt mask, fun _ h hpair hrun => recRestart_restarts h hpair dt hrun,
    fun _ _ h hmask hrun => recRestart_refused h dt hmask hrun⟩

end Sys2Proof.Machine
end

section
/-! TX_REQ, TX_ABORT and CAN_RECOVER (R466, R469, R471). -/
namespace Sys2Proof.Machine

@[simp] theorem ended_txb (x : State) (n b : Nat) : txb (ended x) n b = txb x n b := rfl
@[simp] theorem ended_canCtl (x : State) (n : Nat) : can (ended x) n = can x n := rfl

theorem can_congr {s t : State} (h : t.can = s.can) (n : Nat) : can t n = can s n := by
  unfold can
  rw [h]

/-- A change of controller n alone. -/
def CanOnly (n : Nat) (s t : State) : Prop := (∃ v, t = { s with can := v }) ∧ ∀ m : Nat, m ≠ n → can t m = can s m

theorem CanOnly.refl (n : Nat) (s : State) : CanOnly n s s := ⟨⟨s.can, rfl⟩, fun _ _ => rfl⟩
theorem CanOnly.trans {n : Nat} {s t u : State} : CanOnly n s t → CanOnly n t u → CanOnly n s u := by
  rintro ⟨⟨v, rfl⟩, h⟩ ⟨⟨w, rfl⟩, k⟩
  exact ⟨⟨w, rfl⟩, fun m hm => (k m hm).trans (h m hm)⟩
theorem CanOnly.foldl {α : Type} {n : Nat} {f : State → α → State} (hf : ∀ s x, CanOnly n s (f s x)) (l : List α) (s : State) :
    CanOnly n s (l.foldl f s) :=
  List.foldlRecOn (motive := CanOnly n s) l f (.refl n s) fun t ht x _ => ht.trans (hf t x)
theorem modCan_canOnly (n : Nat) (f : CanCtl → CanCtl) (s : State) : CanOnly n s (modCan n f s) :=
  ⟨⟨_, rfl⟩, fun m hm => by rw [can_modCan, if_neg fun h => hm h.1.symm]⟩
theorem CanOnly.ite {n : Nat} {c : Prop} [Decidable c] {s t u : State} (h : CanOnly n s t) (k : CanOnly n s u) :
    CanOnly n s (if c then t else u) := by
  split <;> assumption

/-- A CAN field whose effect is on its controller alone is accepted, answered, and moves no other controller. -/
theorem canField_accepted {c : Instr} {p : Fin 8} {n : Fin 4} {s : State} (h : FieldGranted p .token s) {dt val : Nat} {f : Fin 4096} {o : Op}
    (hexec : exec c s = done (opCmd p .token (mkId 12 n f) val o (s.begin dt))) (hc : o.check (takeMsg p 0x0302 (s.begin dt)) = none)
    (hact : CanOnly n (takeMsg p 0x0302 (s.begin dt)) (o.act (takeMsg p 0x0302 (s.begin dt)))) :
    ∃ t, exec c s = .next t ∧ TickAnswered dt p s t ∧ (∀ m, can t m = can (o.act (takeMsg p 0x0302 (s.begin dt))) m) ∧
      ∀ m : Fin 4, m ≠ n → can t m = can s m := by
  have runs : exec c s = done (accepted p (o.act (takeMsg p 0x0302 (s.begin dt)))) := by
    rw [hexec, opCmd_body (h.begin dt) _ _ _ hc, runOp_can]
  have same (m : Nat) : can (ended (accepted p (o.act (takeMsg p 0x0302 (s.begin dt))))) m = can (o.act (takeMsg p 0x0302 (s.begin dt))) m :=
    can_congr (accepted_talks ..).keep.can m
  obtain ⟨⟨v, hv⟩, others⟩ := hact
  refine exec_ends runs ⟨?_, same, fun m hm => (same m).trans (others m fun e => hm (Fin.ext e))⟩
  rw [hv]
  exact accepted_answered h rfl (takeMsg_talks p 0x0302 (s.begin dt)).keep.alm (pairEn_congr (takeMsg_talks p 0x0302 (s.begin dt)).keep.par)

theorem txb_of_can {s t : State} {n : Nat} (h : can t n = can s n) (b : Nat) : txb t n b = txb s n b := by
  unfold txb
  rw [h]

/-! TX_REQ. -/

/-- One turn of TX_REQ, at buffer b. -/
def requestTurn (n mask : Nat) (s : State) (b : Nat) : State :=
  if mask.testBit b && (txb s n b).st != 1 && (txb s n b).st != 2 then modTxb n b (fun x => { x with st := 1, attempts := 0, abort := false }) s
  else s

theorem opTxReq_act (n mask : Nat) (s : State) : (opTxReq n mask).act s = (List.range 3).foldl (requestTurn n mask) s := rfl

theorem st_requestTurn (n : Fin 4) (mask : Nat) (s : State) (b : Fin 3) (c : Nat) : (txb (requestTurn n mask s b) n c).st =
    if b.val = c ∧ mask.testBit b = true ∧ (txb s n c).st ≠ 2 then 1 else (txb s n c).st := by
  unfold requestTurn
  split
  · next asked =>
    simp only [Bool.and_eq_true, bne_iff_ne, ne_eq] at asked
    rw [txb_modTxb]
    split
    · next e => rw [if_pos ⟨e, asked.1.1, e ▸ asked.2⟩]
    · next e => rw [if_neg fun h => e h.1]
  · next waits =>
    split
    · next h =>
      obtain ⟨rfl, hm, h2⟩ := h
      simpa [hm, h2] using waits
    · rfl

theorem st_opTxReq_act (n : Fin 4) (mask : Nat) (s : State) (b : Fin 3) : (txb ((opTxReq n mask).act s) n b).st =
    if mask.testBit b = true ∧ (txb s n b).st ≠ 2 then 1 else (txb s n b).st := by
  have turns : (opTxReq n mask).act s =
      requestTurn n mask (requestTurn n mask (requestTurn n mask s (0 : Fin 3)) (1 : Fin 3)) (2 : Fin 3) := opTxReq_act ..
  simp only [turns, st_requestTurn]
  match b with
  | 0 => simp
  | 1 => simp
  | 2 => simp

theorem opTxReq_canOnly (n mask : Nat) (s : State) : CanOnly n s ((opTxReq n mask).act s) :=
  .foldl (fun _ _ => .ite (modCan_canOnly ..) (.refl ..)) _ s

theorem opTxAbort_canOnly (n mask : Nat) (s : State) : CanOnly n s ((opTxAbort n mask).act s) :=
  .foldl (fun _ _ => .ite (.refl ..) (.ite (modCan_canOnly ..) (.ite (modCan_canOnly ..) (.refl ..)))) _ s

theorem testBit3 (mask : BitVec 3) (i : Fin 3) : mask.toNat.testBit i = mask[i] := by
  rw [BitVec.testBit_toNat, BitVec.getLsbD_eq_getElem i.isLt]
  rfl

theorem takeMsg_can (p op dt : Nat) (s : State) (n : Nat) : can (takeMsg p op (s.begin dt)) n = can s n :=
  can_congr (takeMsg_talks p op (s.begin dt)).keep.can n

theorem takeMsg_txb (p op dt : Nat) (s : State) (n b : Nat) : txb (takeMsg p op (s.begin dt)) n b = txb s n b := txb_of_can (takeMsg_can ..) b

/-- A message taken changes nothing that a CAN field looks at. -/
theorem takeMsg_opTxReq_check {n mask : Nat} {s : State} (h : (opTxReq n mask).check s = none) (p op dt : Nat) :
    (opTxReq n mask).check (takeMsg p op (s.begin dt)) = none := by
  obtain ⟨x, o, e⟩ := takeMsg_talks p op (s.begin dt)
  rw [e]
  exact h

theorem txReq_requests {p : Fin 8} {n : Fin 4} {s : State} (h : FieldGranted p .token s) (dt : Nat) {mask : BitVec 3}
    (hc : (opTxReq n mask.toNat).check s = none) : ∃ t, exec (.txReq dt p n mask) s = .next t ∧ TickAnswered dt p s t ∧
      (∀ b : Fin 3, (txb t n b).st = if mask[b] = true ∧ (txb s n b).st ≠ 2 then 1 else (txb s n b).st) ∧
      ∀ m : Fin 4, m ≠ n → can t m = can s m := by
  obtain ⟨t, ht, answered, same, others⟩ := canField_accepted (c := .txReq dt p n mask) (f := 0x14) h rfl (takeMsg_opTxReq_check hc ..)
    (opTxReq_canOnly ..)
  refine ⟨t, ht, answered, fun b => ?_, fun m hm => (others m hm).trans rfl⟩
  rw [txb_of_can (same n), st_opTxReq_act, takeMsg_txb, testBit3]

theorem islandOwns_takeMsg (p op dt : Nat) (s : State) (n : Nat) : islandOwns (takeMsg p op (s.begin dt)) n = islandOwns s n := by
  obtain ⟨x, o, e⟩ := takeMsg_talks p op (s.begin dt)
  rw [e]
  rfl

theorem txAbort_aborts {p : Fin 8} {n : Fin 4} {s : State} (h : FieldGranted p .token s) (dt : Nat) {mask : BitVec 3}
    (hown : mask[2] = false ∨ islandOwns s n = false) : ∃ t, exec (.txAbort dt p n mask) s = .next t ∧ TickAnswered dt p s t ∧
      (∀ b : Fin 3, (txb t n b).st = (if mask[b] = true ∧ (txb s n b).st = 1 then 5 else (txb s n b).st) ∧
        (txb t n b).abort = ((txb s n b).abort || (mask[b] && (txb s n b).st == 2))) ∧
      ∀ m : Fin 4, m ≠ n → can t m = can s m := by
  have free : (opTxAbort n mask.toNat).check (takeMsg p 0x0302 (s.begin dt)) = none := by
    refine opTxAbort_check fun h2 => ?_
    rw [islandOwns_takeMsg]
    exact hown.resolve_left fun clear => Bool.false_ne_true (clear.symm.trans ((testBit3 mask 2).symm.trans h2))
  obtain ⟨t, ht, answered, same, others⟩ := canField_accepted (c := .txAbort dt p n mask) (f := 0x15) h rfl free (opTxAbort_canOnly ..)
  refine ⟨t, ht, answered, fun b => ?_, fun m hm => (others m hm).trans rfl⟩
  rw [txb_of_can (same n), txb_opTxAbort_act, takeMsg_txb, testBit3]
  cases mask[b]
  · simp
  · simp only [if_true, true_and, Bool.true_and]
    unfold abortRequested
    split
    · next h1 => simp [h1]
    · split
      · next h2 => simp [h2]
      · next h2 => simp [h2]

theorem canRecover_counts {p : Fin 8} {n : Fin 4} {s : State} (h : FieldGranted p .token s) (dt : Nat) (hst : (can s n).st = 4) :
    ∃ t, exec (.canRecover dt p n) s = .next t ∧ TickAnswered dt p s t ∧ (can t n).counting = true ∧
      ∀ m : Fin 4, m ≠ n → can t m = can s m := by
  have free : (opCanRecover n).check (takeMsg p 0x0302 (s.begin dt)) = none := if_pos (by rw [takeMsg_can]; exact hst)
  obtain ⟨t, ht, answered, same, others⟩ := canField_accepted (c := .canRecover dt p n) (f := 0x16) h rfl free (modCan_canOnly ..)
  refine ⟨t, ht, answered, ?_, fun m hm => (others m hm).trans rfl⟩
  rw [same]
  exact congrArg CanCtl.counting (can_modCan_self ..)

theorem canRecover_refused {p : Fin 8} {n : Fin 4} {s : State} (h : FieldGranted p .token s) (dt : Nat) (hst : (can s n).st ≠ 4) :
    ∃ t, exec (.canRecover dt p n) s = .next t ∧ t.can = s.can ∧ Answered p 0x0302 0x23 [BitVec.ofNat 32 (devCode s.dev), 0] s t := by
  have wrong : (opCanRecover n).check (takeMsg p 0x0302 (s.begin dt)) = some (0x23, devCode s.dev, 0) := by
    refine (if_neg (by rw [takeMsg_can]; exact hst)).trans ?_
    rw [wrongState, (takeMsg_talks p 0x0302 (s.begin dt)).keep.dev]
    rfl
  refine exec_ends (congrArg done (opCmd_refused (h.begin dt) _ _ wrong)) ⟨?_, refuse_field h ..⟩
  rw [ended_can, ((takeMsg_talks ..).trans (refuse_talks ..)).keep.can]
  rfl

/-- Settles O22: each command on the buffers or the controller it names. -/
theorem canCommands : Obligations.CanCommands := fun dt _ _ _ h =>
  ⟨fun _ hc => txReq_requests h dt hc, fun _ hown => txAbort_aborts h dt hown, canRecover_counts h dt, canRecover_refused h dt⟩

end Sys2Proof.Machine
end

section
/-! Error counts and error states of a CAN controller (R470, R471, Table 18-4). -/
namespace Sys2Proof.Machine

theorem Rules.canCtl {s t : State} (h : Rules s t) (n : Nat) : can t n = can s n := can_congr h.keep.can n

theorem canCtl_begin (dt n : Nat) (s : State) : can (s.begin dt) n = can s n := rfl

/-! What follows a change of the counts. -/

/-- A controller in its error state for its counts. -/
def errorState (c : CanCtl) : CanCtl := { c with st := if c.tec < 128 ∧ c.recN < 128 then 2 else 3 }

/-- A controller that leaves the bus for its count. -/
def busOff (recover : Bool) (c : CanCtl) : CanCtl :=
  { c with st := 4, tec := 255, counting := recover, txb := c.txb.map (fun b => if b.st = 2 then { b with st := 1 } else b) }

theorem canErrors_live {n : Fin 4} {s : State} (hst : (can s n).st = 2 ∨ (can s n).st = 3) (htec : (can s n).tec < 256) :
    can (canErrors n s) n = errorState (can s n) := by
  obtain ⟨passive, -⟩ := canFault_not_withdrawn n
  have keep (k : Nat) (h : (can s n).st = k) : can s n = { can s n with st := k } := by rw [← h]
  unfold canErrors
  dsimp only
  rw [if_neg (by rcases hst with h | h <;> simp [h]), if_neg (Nat.not_le.2 htec)]
  by_cases high : 128 ≤ (can s n).tec ∨ 128 ≤ (can s n).recN
  · have state : errorState (can s n) = { can s n with st := 3 } := by rw [errorState, if_neg (by omega)]
    rw [if_pos (by simpa using high), state]
    split
    · next h => exact keep 3 h
    · rw [(raiseDev_rules _ _ _ _ passive).canCtl]
      exact can_modCan_self ..
  · have state : errorState (can s n) = { can s n with st := 2 } := by rw [errorState, if_pos (by omega)]
    rw [if_neg (by simpa using high), state]
    split
    · rw [(condHolds_rules ..).canCtl]
      exact can_modCan_self ..
    · next h => exact keep 2 (hst.resolve_right h)

theorem canErrors_off {n : Fin 4} {s : State} (hst : (can s n).st = 2 ∨ (can s n).st = 3) (htec : 256 ≤ (can s n).tec) :
    can (canErrors n s) n = busOff (cf s n 0x10 == 1) (can s n) ∧ isHeld (0x3310 + n) 0 0 (canErrors n s) = true := by
  obtain ⟨-, off⟩ := canFault_not_withdrawn n
  unfold canErrors
  dsimp only
  rw [if_neg (by rcases hst with h | h <;> simp [h]), if_pos htec, (raiseDev_rules _ _ _ _ off).canCtl]
  exact ⟨can_modCan_self .., raiseDev_held _ _ _ _ off⟩

theorem can_modCan_other {n m : Fin 4} (h : m ≠ n) (f : CanCtl → CanCtl) (s : State) : can (modCan n f s) m = can s m := by
  rw [can_modCan, if_neg fun e => h (Fin.ext e.1.symm)]

theorem canErrors_others {n m : Fin 4} (h : m ≠ n) (s : State) : can (canErrors n s) m = can s m := by
  obtain ⟨passive, off⟩ := canFault_not_withdrawn n
  unfold canErrors
  dsimp only
  split
  · rfl
  split
  · rw [(raiseDev_rules _ _ _ _ off).canCtl, can_modCan_other h]
  split
  · split
    · rfl
    · rw [(raiseDev_rules _ _ _ _ passive).canCtl, can_modCan_other h]
  split
  · rw [(condHolds_rules ..).canCtl, can_modCan_other h]
  · rfl

/-- A controller that is neither to be switched off nor to start again goes on. -/
theorem frameEnd_stays {n : Nat} {s : State} (hoff : (can s n).goOff = false) (hrestart : (can s n).restart = false) : frameEnd n s = s := by
  simp [frameEnd, hoff, hrestart]

/-- Counted, judged, and gone on with: what a controller whose counts change by f becomes. -/
theorem judged_live {n : Fin 4} {s x : State} (hst : (can x n).st = 2 ∨ (can x n).st = 3) (htec : (can x n).tec < 256)
    (hoff : (can x n).goOff = false) (hrestart : (can x n).restart = false) (hothers : ∀ m : Fin 4, m ≠ n → can x m = can s m) :
    can (frameEnd n (canErrors n x)) n = errorState (can x n) ∧ ∀ m : Fin 4, m ≠ n → can (frameEnd n (canErrors n x)) m = can s m := by
  have judged := canErrors_live hst htec
  rw [frameEnd_stays (by rw [judged]; exact hoff) (by rw [judged]; exact hrestart)]
  exact ⟨judged, fun m hm => (canErrors_others hm x).trans (hothers m hm)⟩

/-! The end of an attempt (R470). -/

theorem first_sending {n : Fin 4} {b : Fin 3} {s : State} (hb : (txb s n b).st = 2) (hfirst : ∀ c : Fin 3, c < b → (txb s n c).st ≠ 2) :
    (List.range 3).find? (fun c => (txb s n c).st == 2) = some b.val := by
  rw [List.find?_range_eq_some]
  refine ⟨by simpa using hb, List.mem_range.2 b.isLt, fun c hlt => ?_⟩
  have := hfirst ⟨c, by omega⟩ hlt
  simpa using this

/-- The controller whose attempt has ended, with its measured delay. -/
def delayNoted (n b tdc : Nat) (s : State) : State :=
  if cf s n 11 = 1 && (bufFrame s n b).fdf && (bufFrame s n b).brs then modCan n (fun c => { c with tdc := tdc }) s else s

theorem delayNoted_ctl (n : Fin 4) (b tdc : Nat) (s : State) : ∃ d, can (delayNoted n b tdc s) n = { can s n with tdc := d } := by
  unfold delayNoted
  split
  · exact ⟨tdc, can_modCan_self ..⟩
  · exact ⟨(can s n).tdc, rfl⟩

theorem delayNoted_canOnly (n b tdc : Nat) (s : State) : CanOnly n s (delayNoted n b tdc s) := .ite (modCan_canOnly ..) (.refl ..)

theorem find_begin (dt : Nat) (n : Nat) (s : State) :
    (List.range 3).find? (fun c => (txb (s.begin dt) n c).st == 2) = (List.range 3).find? (fun c => (txb s n c).st == 2) := rfl

/-- What an attempt that succeeds makes of its buffer and controller, before the counts are judged. -/
def succeeded (n b tdc : Nat) (s : State) : State :=
  let newer := b == 2 && (can s n).safety.isSome && (can s n).safety != (can s n).sending
  condHolds (0x3320 + n) 0 0 (modTxb n b (fun x => { x with st := if newer then 1 else 3, abort := false })
    (modCan n (fun c => { c with tec := c.tec - 1, safety := if b = 2 && !newer then none else c.safety }) (delayNoted n b tdc s)))

theorem execCanTxAttemptEnd_success {n : Fin 4} {b : Fin 3} {s : State} (hb : (txb s n b).st = 2)
    (hfirst : ∀ c : Fin 3, c < b → (txb s n c).st ≠ 2) (dt tdc : Nat) :
    exec (.canTxAttemptEnd dt n .success tdc) s = done (frameEnd n (canErrors n (succeeded n b tdc (s.begin dt)))) := by
  show execCanTxAttemptEnd dt n .success tdc s = _
  unfold execCanTxAttemptEnd
  dsimp only
  rw [find_begin, first_sending hb hfirst]
  rfl

theorem succeeded_ctl (n : Fin 4) (b : Fin 3) (tdc : Nat) (s : State) : ∃ d f, can (succeeded n b tdc s) n =
    { can s n with tec := (can s n).tec - 1, tdc := d, safety := f, txb := vmod (can s n).txb b (fun x => { x with
        st := if b.val = 2 ∧ (can s n).safety ≠ none ∧ (can s n).safety ≠ (can s n).sending then 1 else 3, abort := false }) } := by
  have newer : ((b.val == 2 && (can s n).safety.isSome && (can s n).safety != (can s n).sending) = true) =
      (b.val = 2 ∧ (can s n).safety ≠ none ∧ (can s n).safety ≠ (can s n).sending) := by
    simp [Option.isSome_iff_ne_none, and_assoc]
  obtain ⟨d, hd⟩ := delayNoted_ctl n b tdc s
  unfold succeeded modTxb
  dsimp only
  rw [(condHolds_rules ..).canCtl, can_modCan_self, can_modCan_self, hd]
  simp only [newer]
  exact ⟨d, _, rfl⟩

theorem succeeded_others {n m : Fin 4} (h : m ≠ n) (b tdc : Nat) (s : State) : can (succeeded n b tdc s) m = can s m := by
  unfold succeeded modTxb
  dsimp only
  rw [(condHolds_rules ..).canCtl, can_modCan_other h, can_modCan_other h]
  exact (delayNoted_canOnly ..).2 m fun e => h (Fin.ext e)

theorem vget_vmod_self {α : Type} {n : Nat} (v : Vector α n) (i : Fin n) (f : α → α) (d : α) : vget (vmod v i f) i d = f (vget v i d) := by
  rw [vget_vmod, if_pos ⟨rfl, i.isLt⟩]

/-- A frame sent without error lowers TEC by 1. -/
theorem attempt_succeeds {n : Fin 4} {b : Fin 3} {s : State} (hoff : (can s n).goOff = false) (hrestart : (can s n).restart = false)
    (hst : (can s n).st = 2 ∨ (can s n).st = 3) (hb : (txb s n b).st = 2) (hfirst : ∀ c : Fin 3, c < b → (txb s n c).st ≠ 2)
    (htec : (can s n).tec < 256) (dt tdc : Nat) : ∃ t, exec (.canTxAttemptEnd dt n .success tdc) s = .next t ∧
      (txb t n b).st = (if b.val = 2 ∧ (can s n).safety ≠ none ∧ (can s n).safety ≠ (can s n).sending then 1 else 3) ∧
      (can t n).tec = (can s n).tec - 1 ∧ ∀ m : Fin 4, m ≠ n → can t m = can s m := by
  obtain ⟨d, f, ctl⟩ := succeeded_ctl n b tdc (s.begin dt)
  obtain ⟨judged, others⟩ := judged_live (s := s) (x := succeeded n b tdc (s.begin dt)) (by rw [ctl]; exact hst)
    (by rw [ctl]; exact Nat.lt_of_le_of_lt (Nat.sub_le ..) htec) (by rw [ctl]; exact hoff) (by rw [ctl]; exact hrestart)
    fun m hm => succeeded_others hm ..
  refine exec_ends (execCanTxAttemptEnd_success hb hfirst dt tdc) ⟨?_, ?_, others⟩
  · rw [ended_txb, txb, judged, ctl]
    exact congrArg TxBuf.st (vget_vmod_self ..)
  · rw [ended_canCtl, judged, ctl]
    rfl

/-- The counts after a bit error. -/
def bitErrorCounted (passive : Bool) (c : CanCtl) : CanCtl := { c with tec := c.tec + txTec passive .bitError, bitErrs := sat32 c.bitErrs }

/-- What an attempt that ends in a bit error makes of its buffer and controller, before the counts are judged. -/
def bitFailed (n b tdc : Nat) (s : State) : State :=
  attemptFailed n b (modCan n (bitErrorCounted ((can s n).st == 3)) (delayNoted n b tdc s))

theorem execCanTxAttemptEnd_bitError {n : Fin 4} {b : Fin 3} {s : State} (hb : (txb s n b).st = 2)
    (hfirst : ∀ c : Fin 3, c < b → (txb s n c).st ≠ 2) (dt tdc : Nat) :
    exec (.canTxAttemptEnd dt n .bitError tdc) s = done (frameEnd n (canErrors n (bitFailed n b tdc (s.begin dt)))) := by
  show execCanTxAttemptEnd dt n .bitError tdc s = _
  unfold execCanTxAttemptEnd
  dsimp only
  rw [find_begin, first_sending hb hfirst]
  rfl

/-- A failed attempt without a limit, and without an abort, waits again. -/
theorem attemptFailed_waits {n b : Nat} {s : State} (habort : (txb s n b).abort = false) (hlimit : 16 ≤ cf s n 15) :
    attemptFailed n b s = modTxb n b (fun x => { x with st := 1, attempts := min ((txb s n b).attempts + 1) 16 }) s := by
  simp [attemptFailed, habort, Nat.not_lt.2 hlimit]

theorem bitFailed_eq {n : Fin 4} {b : Fin 3} {s : State} (habort : (txb s n b).abort = false) (hlimit : 16 ≤ cf s n 15) (tdc : Nat) :
    ∃ d k, can (bitFailed n b tdc s) n = { can s n with
        tec := (can s n).tec + 8, tdc := d, bitErrs := sat32 (can s n).bitErrs
        txb := vmod (can s n).txb b (fun x => { x with st := 1, attempts := k }) } ∧
      ∀ m : Fin 4, m ≠ n → can (bitFailed n b tdc s) m = can s m := by
  obtain ⟨d, hd⟩ := delayNoted_ctl n b tdc s
  obtain ⟨⟨v, hv⟩, others⟩ := delayNoted_canOnly n b tdc s
  have buf : txb (modCan n (bitErrorCounted ((can s n).st == 3)) (delayNoted n b tdc s)) n b = txb s n b := by
    rw [txb_modCan fun _ => by rfl, txb, hd]
    rfl
  have limit : 16 ≤ cf (modCan n (bitErrorCounted ((can s n).st == 3)) (delayNoted n b tdc s)) n 15 := by
    rw [hv]
    exact hlimit
  unfold bitFailed
  rw [attemptFailed_waits (by rw [buf, habort]) limit, buf]
  refine ⟨d, min ((txb s n b).attempts + 1) 16, ?_, fun m hm => ?_⟩
  · unfold modTxb
    rw [can_modCan_self, can_modCan_self, hd]
    rfl
  · unfold modTxb
    rw [can_modCan_other hm, can_modCan_other hm]
    exact others m fun e => hm (Fin.ext e)

theorem attempt_fails {n : Fin 4} {b : Fin 3} {s : State} (hoff : (can s n).goOff = false) (hrestart : (can s n).restart = false)
    (hst : (can s n).st = 2 ∨ (can s n).st = 3) (hb : (txb s n b).st = 2) (hfirst : ∀ c : Fin 3, c < b → (txb s n c).st ≠ 2)
    (htec : (can s n).tec < 248) (habort : (txb s n b).abort = false) (hlimit : 16 ≤ cf s n 15) (dt tdc : Nat) :
    ∃ t, exec (.canTxAttemptEnd dt n .bitError tdc) s = .next t ∧ (txb t n b).st = 1 ∧ (can t n).tec = (can s n).tec + 8 ∧
      ∀ m : Fin 4, m ≠ n → can t m = can s m := by
  obtain ⟨d, k, ctl, rest⟩ := bitFailed_eq (s := s.begin dt) habort hlimit tdc
  obtain ⟨judged, others⟩ := judged_live (s := s) (x := bitFailed n b tdc (s.begin dt)) (by rw [ctl]; exact hst)
    (by rw [ctl]; exact Nat.add_lt_add_right htec 8) (by rw [ctl]; exact hoff) (by rw [ctl]; exact hrestart) rest
  refine exec_ends (execCanTxAttemptEnd_bitError hb hfirst dt tdc) ⟨?_, ?_, others⟩
  · rw [ended_txb, txb, judged, ctl]
    exact congrArg TxBuf.st (vget_vmod_self ..)
  · rw [ended_canCtl, judged, ctl]
    rfl

/-- At 256 the controller leaves the bus, and its buffer waits. -/
theorem attempt_bus_off {n : Fin 4} {b : Fin 3} {s : State} (hoff : (can s n).goOff = false) (hrestart : (can s n).restart = false)
    (hst : (can s n).st = 2 ∨ (can s n).st = 3) (hb : (txb s n b).st = 2) (hfirst : ∀ c : Fin 3, c < b → (txb s n c).st ≠ 2)
    (htec : 248 ≤ (can s n).tec) (habort : (txb s n b).abort = false) (hlimit : 16 ≤ cf s n 15) (dt tdc : Nat) :
    ∃ t, exec (.canTxAttemptEnd dt n .bitError tdc) s = .next t ∧ (txb t n b).st = 1 ∧ (can t n).st = 4 ∧
      isHeld (0x3310 + n) 0 0 t = true := by
  obtain ⟨d, k, ctl, -⟩ := bitFailed_eq (s := s.begin dt) habort hlimit tdc
  obtain ⟨off, held⟩ := canErrors_off (s := bitFailed n b tdc (s.begin dt)) (by rw [ctl]; exact hst) (by rw [ctl]; exact Nat.add_le_add_right htec 8)
  have stays : frameEnd n (canErrors n (bitFailed n b tdc (s.begin dt))) = canErrors n (bitFailed n b tdc (s.begin dt)) :=
    frameEnd_stays (by rw [off, ctl]; exact hoff) (by rw [off, ctl]; exact hrestart)
  refine exec_ends (execCanTxAttemptEnd_bitError hb hfirst dt tdc) ?_
  rw [stays, ended_txb, ended_canCtl, ended_isHeld, txb, off, ctl]
  refine ⟨?_, rfl, held⟩
  unfold busOff
  dsimp only
  rw [vget_map _ _ _ rfl, vget_vmod_self, if_neg (by simp)]

/-! Receive errors, bus integration and recovery (R470, R471). -/

theorem receive_error {n : Fin 4} {s : State} (hoff : (can s n).goOff = false) (hrestart : (can s n).restart = false)
    (hst : (can s n).st = 2 ∨ (can s n).st = 3) (hon : cf s n 1 = 1) (htec : (can s n).tec < 256) (dt : Nat) (primary : Bool) :
    ∃ t, exec (.canReceiveError dt n primary) s = .next t ∧
      (can t n).recN = min ((can s n).recN + (if primary then 8 else 1)) 135 := by
  have runs : exec (.canReceiveError dt n primary) s = done (frameEnd n (canErrors n
      (modCan n (fun c => { c with recN := min (c.recN + if primary then 8 else 1) 135 }) (s.begin dt)))) := by
    refine if_neg ?_
    rw [canCtl_begin]
    have on : cf (s.begin dt) n 1 = 1 := hon
    rcases hst with h | h <;> simp [h, on]
  have ctl := can_modCan_self n (fun c => { c with recN := min (c.recN + if primary then 8 else 1) 135 }) (s.begin dt)
  obtain ⟨judged, -⟩ := judged_live (s := s)
    (x := modCan n (fun c => { c with recN := min (c.recN + if primary then 8 else 1) 135 }) (s.begin dt))
    (by rw [ctl]; exact hst) (by rw [ctl]; exact htec) (by rw [ctl]; exact hoff) (by rw [ctl]; exact hrestart)
    fun m hm => can_modCan_other hm ..
  refine exec_ends runs ?_
  rw [ended_canCtl, judged, ctl]
  rfl

/-- A controller that has found the bus idle. -/
def joined (n : Nat) (s : State) : State := modCan n (fun c => { c with st := 2 }) s

theorem bus_integrated {n : Fin 4} {s : State} (hst : (can s n).st = 1) (htec : (can s n).tec < 256) (dt : Nat) :
    ∃ t, exec (.canBusIntegration dt n) s = .next t ∧
      (can t n).st = if (can s n).tec < 128 ∧ (can s n).recN < 128 then 2 else 3 := by
  have marks (c : Bool) (x : State) : can (if c then condHolds (0x3310 + n) 0 0 (condHolds (0x3300 + n) 0 0 x) else x) n = can x n := by
    split
    · rw [(condHolds_rules ..).canCtl, (condHolds_rules ..).canCtl]
    · rfl
  have runs : exec (.canBusIntegration dt n) s = done (canErrors n
      (if (can (joined n (s.begin dt)) n).tec < 128 && (can (joined n (s.begin dt)) n).recN < 128
        then condHolds (0x3310 + n) 0 0 (condHolds (0x3300 + n) 0 0 (joined n (s.begin dt))) else joined n (s.begin dt))) :=
    if_neg (not_not_intro (show (can (s.begin dt) n).st = 1 from hst))
  have ctl : can (joined n (s.begin dt)) n = { can s n with st := 2 } := can_modCan_self ..
  refine exec_ends runs ?_
  rw [ended_canCtl, canErrors_live, marks, ctl]
  · rfl
  · rw [marks, ctl]
    exact .inl rfl
  · rw [marks, ctl]
    exact htec

theorem bus_off_recovered {n : Fin 4} {s : State} (hst : (can s n).st = 4) (hcounting : (can s n).counting = true) (dt : Nat) :
    ∃ t, exec (.canBusOffRecovered dt n) s = .next t ∧ (can t n).st = 2 ∧ (can t n).tec = 0 ∧ (can t n).recN = 0 := by
  have runs : exec (.canBusOffRecovered dt n) s = done (condHolds (0x3300 + n) 0 0 (condHolds (0x3310 + n) 0 0
      (modCan n (fun c => { c with st := 2, tec := 0, recN := 0, counting := false }) (s.begin dt)))) := by
    refine if_neg ?_
    rw [canCtl_begin]
    simp [hst, hcounting]
  refine exec_ends runs ?_
  rw [ended_canCtl, (condHolds_rules ..).canCtl, (condHolds_rules ..).canCtl, can_modCan_self]
  exact ⟨rfl, rfl, rfl⟩

/-- Settles O25: what each event makes of the counts, and what the counts make of the controller. -/
theorem canErrorStates : Obligations.CanErrorStates := fun dt _ _ hoff hrestart =>
  ⟨fun _ tdc hst hb hfirst => ⟨fun htec => attempt_succeeds hoff hrestart hst hb hfirst htec dt tdc,
      fun htec habort hlimit => attempt_fails hoff hrestart hst hb hfirst htec habort hlimit dt tdc,
      fun htec habort hlimit => attempt_bus_off hoff hrestart hst hb hfirst htec habort hlimit dt tdc⟩,
    fun primary hst hon htec => receive_error hoff hrestart hst hon htec dt primary,
    fun hst htec => bus_integrated hst htec dt, fun hst hcounting => bus_off_recovered hst hcounting dt⟩

end Sys2Proof.Machine
end

section
/-! A CAN controller picks a buffer to send, and keeps or loses what it receives (R467, R472). -/
namespace Sys2Proof.Machine

/-! Which buffer is sent (R467). -/

/-- The better of two buffers in the order of their identifiers, the first one winning a tie. -/
def betterBuf (key : Nat → Nat) (m : Option Nat) (b : Nat) : Option Nat :=
  match m with
  | none => some b
  | some a => if key b < key a then some b else some a

/-- Buffer b comes before buffer c. -/
def beats (key : Nat → Nat) (b c : Nat) : Prop := key b < key c ∨ (key b = key c ∧ b < c)

theorem foldl_betterBuf_keeps {key : Nat → Nat} {b : Nat} {l : List Nat} (h : ∀ c ∈ l, ¬key c < key b) :
    l.foldl (betterBuf key) (some b) = some b := by
  induction l with
  | nil => rfl
  | cons c l ih =>
    obtain ⟨hc, hl⟩ := List.forall_mem_cons.1 h
    rw [List.foldl_cons, betterBuf, if_neg hc, ih hl]

/-- The fold finds the buffer that comes before all others. -/
theorem foldl_betterBuf {key : Nat → Nat} {b : Nat} {l : List Nat} (hsort : l.Pairwise (· < ·)) (hmem : b ∈ l)
    (hbest : ∀ c ∈ l, c ≠ b → beats key b c) (a : Option Nat) (ha : ∀ x, a = some x → beats key b x ∧ x < b) :
    l.foldl (betterBuf key) a = some b := by
  induction l generalizing a with
  | nil => cases hmem
  | cons c l ih =>
    obtain ⟨hlt, hsort⟩ := List.pairwise_cons.1 hsort
    obtain ⟨hc, hrest⟩ := List.forall_mem_cons.1 hbest
    rw [List.foldl_cons]
    rcases List.mem_cons.1 hmem with rfl | hb
    · have taken : betterBuf key a b = some b := by
        unfold betterBuf
        split
        · rfl
        · next x =>
          obtain ⟨hx, hxb⟩ := ha x rfl
          exact if_pos (hx.resolve_right fun e => Nat.lt_asymm e.2 hxb)
      rw [taken]
      refine foldl_betterBuf_keeps fun c hcl => ?_
      rcases hrest c hcl (Nat.ne_of_gt (hlt c hcl)) with h | h <;> omega
    · have hne : c ≠ b := Nat.ne_of_lt (hlt b hb)
      refine ih hsort hb hrest _ fun x hx => ?_
      rcases a with _ | y
      · cases hx
        exact ⟨hc hne, hlt b hb⟩
      · rw [betterBuf] at hx
        split at hx
        · cases hx
          exact ⟨hc hne, hlt b hb⟩
        · cases hx
          exact ha x rfl

/-- The frame that buffer c would send wins the arbitration in this order. -/
def bufKey (s : State) (n c : Nat) : Nat := arbKey (bufFrame s n c)

theorem pickBuf_eq {n : Fin 4} {b : Fin 3} {s : State} (hb : (txb s n b).st = 1) (hbest : ∀ c : Fin 3, c ≠ b → (txb s n c).st = 1 →
      if cf s n 14 = 1 then b < c
      else arbKey (bufFrame s n b) < arbKey (bufFrame s n c) ∨ (arbKey (bufFrame s n b) = arbKey (bufFrame s n c) ∧ b < c)) :
    pickBuf s n = some b.val := by
  unfold pickBuf
  dsimp only
  split
  · next byNumber =>
    unfold pendingBufs
    rw [List.head?_filter, List.find?_range_eq_some]
    refine ⟨by simpa using hb, List.mem_range.2 b.isLt, fun c hlt => ?_⟩
    have first (hc : (txb s n c).st = 1) : False := by
      have := hbest ⟨c, by omega⟩ (fun e => by simp [← e] at hlt) hc
      rw [if_pos byNumber, Fin.lt_def] at this
      exact Nat.lt_asymm this hlt
    simpa using first
  · next byKey =>
    have best := foldl_betterBuf (key := bufKey s n) (b := b.val) (l := pendingBufs s n)
      (List.pairwise_lt_range.filter _)
      (List.mem_filter.2 ⟨List.mem_range.2 b.isLt, by simpa using hb⟩) (fun c hc hne => by
        obtain ⟨hlt, hst⟩ := List.mem_filter.1 hc
        have := hbest ⟨c, List.mem_range.1 hlt⟩ (fun e => hne (congrArg Fin.val e)) (by simpa using hst)
        rwa [if_neg byKey] at this) none (fun x hx => by cases hx)
    exact best

theorem canTxStart_sends {n : Fin 4} {b : Fin 3} {s : State} (hst : (can s n).st = 2 ∨ (can s n).st = 3) (hon : cf s n 1 = 1)
    (hidle : ∀ c : Fin 3, (txb s n c).st ≠ 2) (hpick : pickBuf s n = some b.val) (dt : Nat) :
    ∃ t, exec (.canTxStart dt n) s = .next t ∧ (txb t n b).st = 2 ∧ (txb t n b).sof = (s.begin dt).now ∧
      .can n (bufFrame s n b) ((bufFrame s n b).fdf && (can s n).st == 3) ∈ t.out ∧ (∀ c : Fin 3, c ≠ b → txb t n c = txb s n c) ∧
      ∀ m : Fin 4, m ≠ n → can t m = can s m := by
  have sending : canSending s n = false := by
    unfold canSending
    rw [List.any_eq_false]
    intro c hc
    simpa using hidle ⟨c, List.mem_range.1 hc⟩
  have runs : exec (.canTxStart dt n) s = done ((modTxb n b (fun x => { x with st := 2, sof := (s.begin dt).now })
      (modCan n (fun c => { c with sending := if b.val = 2 then c.safety else none }) (s.begin dt))).emit
        (.can n (bufFrame s n b) ((bufFrame s n b).fdf && (can s n).st == 3))) := by
    have pick : pickBuf (s.begin dt) n = some b.val := hpick
    have idle : canSending (s.begin dt) n = false := sending
    have on : cf (s.begin dt) n 1 = 1 := hon
    show execCanTxStart dt n s = _
    unfold execCanTxStart
    dsimp only
    rw [canCtl_begin, idle, on, pick, if_neg (by rcases hst with h | h <;> simp [h])]
    rfl
  refine exec_ends runs ⟨?_, ?_, mem_ended (List.mem_append_right _ (List.mem_singleton.2 rfl)), fun c hc => ?_, fun m hm => ?_⟩
  · rw [ended_txb]
    exact congrArg TxBuf.st (txb_modTxb_self ..)
  · rw [ended_txb]
    exact congrArg TxBuf.sof (txb_modTxb_self ..)
  · rw [ended_txb]
    refine (txb_modTxb n b c _ _).trans ((if_neg fun e => hc (Fin.ext e.symm)).trans ?_)
    exact txb_modCan (fun _ => by rfl) ..
  · rw [ended_canCtl]
    exact (can_modCan_other hm ..).trans (can_modCan_other hm ..)

theorem islandFrame_congr {s t : State} (h : t.par = s.par) (n : Nat) (fr : CanFrame) : islandFrame t n fr = islandFrame s n fr := by
  unfold islandFrame scOn sf
  simp only [pn_congr h]

theorem filterHits_congr {s t : State} (h : t.par = s.par) (n : Nat) (fr : CanFrame) : filterHits t n fr = filterHits s n fr := by
  funext f
  unfold filterHits
  simp only [pn_congr h]

/-! What a received frame goes through (R472). -/

/-- What stays of the device for controller n while a received frame is judged. -/
structure FifoStays (n : Nat) (s t : State) : Prop where
  par : t.par = s.par
  alm : t.alm = s.alm
  fifo : (can t n).fifo = (can s n).fifo
  lostMark : (can t n).lostMark = (can s n).lostMark
  rxLost : (can t n).rxLost = (can s n).rxLost

theorem FifoStays.trans {n : Nat} {s t u : State} (h : FifoStays n s t) (k : FifoStays n t u) : FifoStays n s u :=
  ⟨k.par.trans h.par, k.alm.trans h.alm, k.fifo.trans h.fifo, k.lostMark.trans h.lostMark, k.rxLost.trans h.rxLost⟩

theorem Rules.fifoStays {s t : State} (h : Rules s t) (n : Nat) : FifoStays n s t :=
  ⟨h.keep.par, h.keep.alm, congrArg CanCtl.fifo (h.canCtl n), congrArg CanCtl.lostMark (h.canCtl n), congrArg CanCtl.rxLost (h.canCtl n)⟩

theorem modCan_fifoStays (n : Fin 4) (f : CanCtl → CanCtl) (s : State) (h1 : (f (can s n)).fifo = (can s n).fifo)
    (h2 : (f (can s n)).lostMark = (can s n).lostMark) (h3 : (f (can s n)).rxLost = (can s n).rxLost) : FifoStays n s (modCan n f s) :=
  ⟨rfl, rfl, by rw [can_modCan_self, h1], by rw [can_modCan_self, h2], by rw [can_modCan_self, h3]⟩

theorem canErrors_fifoStays (n : Fin 4) (s : State) : FifoStays n s (canErrors n s) := by
  obtain ⟨passive, off⟩ := canFault_not_withdrawn n
  have same : FifoStays n s s := (Rules.refl s).fifoStays n
  unfold canErrors
  dsimp only
  split
  · exact same
  split
  · exact (modCan_fifoStays n _ s (by rfl) (by rfl) (by rfl)).trans ((raiseDev_rules _ _ _ _ off).fifoStays n)
  split
  · split
    · exact same
    · exact (modCan_fifoStays n _ s (by rfl) (by rfl) (by rfl)).trans ((raiseDev_rules _ _ _ _ passive).fifoStays n)
  split
  · exact (modCan_fifoStays n _ s (by rfl) (by rfl) (by rfl)).trans ((condHolds_rules ..).fifoStays n)
  · exact same

/-- The state in which a received frame is filtered: the receive count has gone down and been judged. -/
def received (n : Nat) (s : State) : State :=
  canErrors n (if cf s n 1 ≠ 1 then s
    else if (can s n).recN ≤ 127 then modCan n (fun c => { c with recN := c.recN - 1 }) s
    else modCan n (fun c => { c with recN := 119 + s.freeWord.1.toNat % 9 }) s.freeWord.2)

theorem received_fifoStays (n : Fin 4) (s : State) : FifoStays n s (received n s) := by
  refine FifoStays.trans ?_ (canErrors_fifoStays n _)
  split
  · exact (Rules.refl s).fifoStays n
  split
  · exact modCan_fifoStays n _ s (by rfl) (by rfl) (by rfl)
  · have drawn : FifoStays n s s.freeWord.2 := ⟨rfl, rfl, rfl, rfl, rfl⟩
    exact drawn.trans (modCan_fifoStays n _ _ (by rfl) (by rfl) (by rfl))

/-- What is left for the frame that has been put away: the FIFO, its losses and the held faults stay. -/
structure FifoKept (n : Nat) (s t : State) : Prop where
  fifo : (can t n).fifo = (can s n).fifo
  rxLost : (can t n).rxLost = (can s n).rxLost
  held : t.spu.held = s.spu.held

theorem FifoKept.trans {n : Nat} {s t u : State} (h : FifoKept n s t) (k : FifoKept n t u) : FifoKept n s u :=
  ⟨k.fifo.trans h.fifo, k.rxLost.trans h.rxLost, k.held.trans h.held⟩

theorem modCan_fifoKept (n : Fin 4) (f : CanCtl → CanCtl) (s : State) (h1 : (f (can s n)).fifo = (can s n).fifo)
    (h2 : (f (can s n)).rxLost = (can s n).rxLost) : FifoKept n s (modCan n f s) :=
  ⟨by rw [can_modCan_self, h1], by rw [can_modCan_self, h2], rfl⟩

theorem promoteWhere_held (f : Pend → Bool) (s : State) : (promoteWhere f s).spu.held = s.spu.held :=
  List.foldlRecOn (motive := fun (x : State) => x.spu.held = s.spu.held) _ _ rfl fun _ hx _ _ => hx

theorem promoteCan_fifoKept (n : Nat) (s : State) : FifoKept n s (promoteCan n s) := by
  refine ⟨congrArg CanCtl.fifo (can_congr (promoteCan_can n s) n), congrArg CanCtl.rxLost (can_congr (promoteCan_can n s) n), ?_⟩
  unfold promoteCan
  split
  · rfl
  · exact promoteWhere_held ..

theorem canOff_fifoKept (n : Fin 4) (s : State) : FifoKept n s (canOff n s) := by
  unfold canOff
  exact modCan_fifoKept n _ s (by rfl) (by rfl)

theorem frameEnd_fifoKept (n : Fin 4) (s : State) : FifoKept n s (frameEnd n s) := by
  have same (x : State) : FifoKept n x x := ⟨rfl, rfl, rfl⟩
  have changed (f : CanCtl → CanCtl) (x : State) (h1 : (f (can x n)).fifo = (can x n).fifo) (h2 : (f (can x n)).rxLost = (can x n).rxLost) :
      FifoKept n x (modCan n f x) := modCan_fifoKept n f x h1 h2
  unfold frameEnd
  dsimp only
  split
  · refine (canOff_fifoKept n s).trans ((promoteCan_fifoKept n _).trans ?_)
    unfold canRefresh
    dsimp only
    split
    · split
      · exact changed _ _ (by rfl) (by rfl)
      · exact changed _ _ (by rfl) (by rfl)
    · split
      · exact same _
      · split
        · exact changed _ _ (by rfl) (by rfl)
        · exact canOff_fifoKept n _
  · split
    · exact changed _ s (by rfl) (by rfl)
    · exact same s

theorem wakeArm_fifoKept (n : Nat) (fr : CanFrame) (s : State) : FifoKept n s (wakeArm n fr s) := by
  unfold wakeArm
  dsimp only
  split
  · exact ⟨rfl, rfl, rfl⟩
  · exact ⟨rfl, rfl, rfl⟩

/-- A frame that a filter takes is put into the FIFO, and the rest of the frame does not touch that. -/
theorem canFrameRx_puts {n : Fin 4} {fr : CanFrame} {f : Nat} {s : State} (hst : (can s n).st = 2 ∨ (can s n).st = 3)
    (hfd : fr.fdf = true → cf s n 2 ≠ 0) (hisland : islandFrame s n fr = none) (hf : (List.range 16).find? (filterHits s n fr) = some f)
    (dt : Nat) (esi : Bool) (age : Nat) : ∃ x, exec (.canFrameRx dt n fr esi age) s = done x ∧
      FifoKept n (fifoPut n { time := (s.begin dt).now - age * 4096, frame := fr, esi := esi, lost := false, filter := f }
        (received n (s.begin dt))) x := by
  have stays := received_fifoStays n (s.begin dt)
  have island : islandFrame (received n (s.begin dt)) n fr = none := by
    rw [islandFrame_congr stays.par]
    exact hisland
  have filter : (List.range 16).find? (filterHits (received n (s.begin dt)) n fr) = some f := by
    rw [filterHits_congr stays.par]
    exact hf
  have now : (received n (s.begin dt)).now = (s.begin dt).now := by
    unfold State.now State.nowK State.tb
    rw [stays.alm]
  refine ⟨_, ?_, (wakeArm_fifoKept n fr _).trans (frameEnd_fifoKept ..)⟩
  show execCanFrameRx dt n fr esi age s = _
  unfold execCanFrameRx
  dsimp only
  have fd : ¬(fr.fdf && cf (s.begin dt) n 2 = 0) = true := by
    simp only [Bool.and_eq_true, decide_eq_true_eq]
    exact fun h => hfd h.1 h.2
  have live : (can (s.begin dt) n).st = 2 ∨ (can (s.begin dt) n).st = 3 := hst
  rw [if_neg (by rcases live with h | h <;> simp [h]), if_neg fd, ← received.eq_1 n (s.begin dt), island]
  dsimp only
  rw [filter, now]
  rfl

theorem fifoCode_stays : ∀ n : Fin 4, withdrawCode (0x3330 + n) = false := by decide

theorem fifoPut_fits {n : Fin 4} {s : State} (h : (can s n).fifo.length < 32) (x : CanRx) :
    (can (fifoPut n x s) n).fifo = (can s n).fifo ++ [{ x with lost := (can s n).lostMark }] := by
  unfold fifoPut
  dsimp only
  rw [if_neg (Nat.not_le.2 h), can_modCan_self]

/-- A frame that finds the FIFO full is lost, counted and held as a fault. -/
theorem fifoPut_full {n : Fin 4} {s : State} (h : 32 ≤ (can s n).fifo.length) (x : CanRx) :
    (can (fifoPut n x s) n).fifo = (can s n).fifo ∧ (can (fifoPut n x s) n).rxLost = sat32 (can s n).rxLost ∧
      isHeld (0x3330 + n) 0 0 (fifoPut n x s) = true := by
  unfold fifoPut
  dsimp only
  rw [if_pos h, (raiseDev_rules _ _ _ _ (fifoCode_stays n)).canCtl, (condFails_rules ..).canCtl, can_modCan_self]
  exact ⟨rfl, rfl, raiseDev_held _ _ _ _ (fifoCode_stays n)⟩

theorem canFrameRx_keeps {n : Fin 4} {fr : CanFrame} {f : Nat} {s : State} (hst : (can s n).st = 2 ∨ (can s n).st = 3)
    (hfd : fr.fdf = true → cf s n 2 ≠ 0) (hisland : islandFrame s n fr = none) (hf : (List.range 16).find? (filterHits s n fr) = some f)
    (dt : Nat) (esi : Bool) (age : Nat) :
    ((can s n).fifo.length < 32 → ∃ t, exec (.canFrameRx dt n fr esi age) s = .next t ∧
      (can t n).fifo = (can s n).fifo ++
        [{ time := (s.begin dt).now - age * 4096, frame := fr, esi := esi, lost := (can s n).lostMark, filter := f }]) ∧
    (32 ≤ (can s n).fifo.length → ∃ t, exec (.canFrameRx dt n fr esi age) s = .next t ∧ (can t n).fifo = (can s n).fifo ∧
      (can t n).rxLost = sat32 (can s n).rxLost ∧ isHeld (0x3330 + n) 0 0 t = true) := by
  obtain ⟨x, hx, kept⟩ := canFrameRx_puts hst hfd hisland hf dt esi age
  have stays := received_fifoStays n (s.begin dt)
  have fifo : (can (received n (s.begin dt)) n).fifo = (can s n).fifo := stays.fifo
  refine ⟨fun hfits => exec_ends hx ?_, fun hfull => exec_ends hx ?_⟩
  · rw [ended_canCtl, kept.fifo, fifoPut_fits (by rw [fifo]; exact hfits), fifo, stays.lostMark]
    rfl
  · obtain ⟨h1, h2, h3⟩ := fifoPut_full (n := n) (s := received n (s.begin dt)) (by rw [fifo]; exact hfull)
      { time := (s.begin dt).now - age * 4096, frame := fr, esi := esi, lost := false, filter := f }
    rw [ended_canCtl, ended_isHeld, kept.fifo, kept.rxLost, isHeld_congr kept.held, h1, h2, fifo, stays.rxLost]
    exact ⟨rfl, rfl, h3⟩

/-- Settles O24: the buffer that comes first is sent, and the frame that a filter takes is kept or lost. -/
theorem canFramesMove : Obligations.CanFramesMove :=
  ⟨fun dt _ _ _ hst hon hidle hb hbest => canTxStart_sends hst hon hidle (pickBuf_eq hb hbest) dt,
    fun dt _ _ esi age _ _ hst hfd hisland hf => canFrameRx_keeps hst hfd hisland hf dt esi age⟩

end Sys2Proof.Machine
end

section
/-! What raising and clearing faults leave of the pair, the device state and the protection unit. -/
namespace Sys2Proof.Machine

/-- The books of the protection unit that reactions and clears write: the fault list, the log, the first-out list, the decisions and the
sweeps. -/
def SpuBooks (p q : Spu) : Prop :=
  ∃ h n l f d w x, q = { p with held := h, logSeq := n, log := l, foCur := f, decisions := d, sweeps := w, sw := x }

/-- What reactions and clears leave: of the pair but the sequence numbers, of the device state but that RUN ends in BLOCKED, of the modulator
but discarded records and marks of channels, and of the protection unit but its books. -/
structure Calm (s t : State) : Prop where
  rdn : ∃ a b c, t.rdn = { s.rdn with txSeq := a, gseq := b, bseq := c }
  dev : t.dev = s.dev ∨ (s.dev = .run ∧ t.dev = .blocked)
  sys : ∃ y, t.sys = { s.sys with bist := y }
  mod : ∃ u c, t.mod = { s.mod with unrel := u, ch := c } ∧ u ⊆ s.mod.unrel
  spu : SpuBooks s.spu t.spu

theorem SpuBooks.refl (p : Spu) : SpuBooks p p := ⟨_, _, _, _, _, _, _, rfl⟩
theorem SpuBooks.trans {p q r : Spu} : SpuBooks p q → SpuBooks q r → SpuBooks p r := by
  rintro ⟨_, _, _, _, _, _, _, rfl⟩ ⟨h, n, l, f, d, w, x, rfl⟩
  exact ⟨h, n, l, f, d, w, x, rfl⟩

theorem Calm.refl (s : State) : Calm s s :=
  ⟨⟨_, _, _, rfl⟩, .inl rfl, ⟨_, rfl⟩, ⟨_, _, rfl, List.Subset.refl _⟩, .refl _⟩
theorem Calm.trans {s t u : State} (h : Calm s t) (k : Calm t u) : Calm s u := by
  obtain ⟨⟨a, b, c, hr⟩, hd, ⟨y, hy⟩, ⟨e, f, hm, he⟩, hs⟩ := h
  obtain ⟨⟨a', b', c', kr⟩, kd, ⟨y', ky⟩, ⟨e', f', km, ke⟩, ks⟩ := k
  refine ⟨⟨a', b', c', by rw [kr, hr]⟩, ?_, ⟨y', by rw [ky, hy]⟩, ⟨e', f', by rw [km, hm], ?_⟩, hs.trans ks⟩
  · rcases hd with hd | ⟨hrun, hd⟩
    · rcases kd with kd | ⟨krun, kd⟩
      · exact .inl (kd.trans hd)
      · exact .inr ⟨hd.symm.trans krun, kd⟩
    · rcases kd with kd | ⟨krun, kd⟩
      · exact .inr ⟨hrun, kd.trans hd⟩
      · exact .inr ⟨hrun, kd⟩
  · rw [hm] at ke
    exact List.Subset.trans ke he
theorem Calm.ite {c : Prop} [Decidable c] {s a b : State} (h : Calm s a) (k : Calm s b) : Calm s (if c then a else b) := by
  split <;> assumption
theorem Calm.foldl {α : Type} (f : State → α → State) (hf : ∀ s x, Calm s (f s x)) (l : List α) (s : State) : Calm s (l.foldl f s) :=
  List.foldlRecOn (motive := Calm s) l f (.refl s) fun t ht x _ => ht.trans (hf t x)

/-! From the relations of the shared rules. -/

theorem Clears.calm {s t : State} : Clears s t → Calm s t := by
  rintro ⟨p, c, h, n, l, w, a, o, rfl, -⟩
  exact ⟨⟨_, _, _, rfl⟩, .inl rfl, ⟨_, rfl⟩, ⟨_, _, rfl, List.Subset.refl _⟩, ⟨_, _, _, _, _, _, _, rfl⟩⟩
theorem Logs.calm {s t : State} (h : Logs s t) : Calm s t := h.clears.calm
theorem Hears.calm {s t : State} (h : Hears s t) : Calm s t := h.logs.calm
theorem Sends.calm {s t : State} : Sends s t → Calm s t := by
  rintro ⟨p, a, b, c, o, rfl⟩
  exact ⟨⟨a, b, c, rfl⟩, .inl rfl, ⟨_, rfl⟩, ⟨_, _, rfl, List.Subset.refl _⟩, .refl _⟩

theorem of_books {s : State} {q : Spu} (h : SpuBooks s.spu q) : Calm s { s with spu := q } :=
  ⟨⟨_, _, _, rfl⟩, .inl rfl, ⟨_, rfl⟩, ⟨_, _, rfl, List.Subset.refl _⟩, h⟩

/-! The parts of a reaction. -/

theorem discardChans_calm (cs : List Nat) (s : State) : Calm s (discardChans cs s) :=
  ⟨⟨_, _, _, rfl⟩, .inl rfl, ⟨_, rfl⟩, ⟨_, _, rfl, fun _ h => (List.mem_filter.1 h).1⟩, .refl _⟩

theorem setDev_blocked_calm {s : State} (h : s.dev = .run) (c : Nat) : Calm s (setDev .blocked c s) := by
  unfold setDev
  rw [if_neg (by rw [h]; decide)]
  have moved : Calm s { s with dev := .blocked } := ⟨⟨_, _, _, rfl⟩, .inr ⟨h, rfl⟩, ⟨_, rfl⟩, ⟨_, _, rfl, List.Subset.refl _⟩, .refl _⟩
  exact moved.trans (logEvent_logs ..).calm

theorem blockWith_calm (op c d : Nat) (s : State) : Calm s (blockWith op c d s) := by
  have noted : Calm s (discardChans (List.range 256)
      { noteCause c d s with sys := { s.sys with bist := if s.sys.bist = 1 then 0 else s.sys.bist } }) :=
    ⟨⟨_, _, _, rfl⟩, .inl rfl, ⟨_, rfl⟩, ⟨_, _, rfl, fun _ h => (List.mem_filter.1 h).1⟩, .refl _⟩
  obtain ⟨x, hx, e⟩ : ∃ x, Calm s x ∧ blockWith op c d s = if x.dev = .run then setDev .blocked op x else x := ⟨_, noted, rfl⟩
  rw [e]
  split
  · next run => exact hx.trans (setDev_blocked_calm run op)
  · exact hx

theorem modRst_calm (i : Nat) (g : Rst → Rst) (s : State) : Calm s (modRst i g s) :=
  ⟨⟨_, _, _, rfl⟩, .inl rfl, ⟨_, rfl⟩, ⟨_, _, rfl, List.Subset.refl _⟩, .refl _⟩

theorem fireStream_calm (f : Fire) (i : Nat) (s : State) : Calm s (fireStream f i s) :=
  .ite (.refl s) ((modRst_calm ..).trans (.ite (originateBc_sends ..).calm (.refl _)))

theorem fireKind_calm (k : Nat) (hit : Nat → Nat → Bool) (t a : Nat) (s : State) : Calm s (fireKind k hit t a s) :=
  .foldl _ (fun _ _ => .foldl _ (fun _ _ => .ite (fireStream_calm ..) (.refl _)) _ _) _ s

theorem sweeps_calm (s : State) (w : List Sweep) : Calm s { s with spu := { s.spu with sweeps := w } } :=
  of_books ⟨_, _, _, _, _, _, _, rfl⟩

theorem applyLinks_calm (old : State) (h : Held) (s : State) : Calm s (applyLinks old h s) := by
  have links (cs : List Nat) : Calm s (immediateStates old (discardChans cs s)) :=
    (discardChans_calm ..).trans (immediateStates_sends ..).calm
  exact .ite (.refl s) (.ite (((links _).trans (sweeps_calm ..)).trans (blockWith_calm ..)) ((links _).trans (sweeps_calm ..)))

theorem applyReaction_calm (old : State) (h : Held) (s : State) : Calm s (applyReaction old h s) :=
  .ite (.refl s) (((applyLinks_calm old h s).trans (.ite (originateGb_sends _).calm (.refl _))).trans
    (.ite (sendPair_sends ..).calm (.refl _)))

theorem recData_calm (c i a b : Nat) (s : State) : Calm s (recData c i a b s).2 := by
  unfold recData
  dsimp only
  split
  · exact .refl s
  · split
    · exact .refl s
    · exact ⟨⟨_, _, _, rfl⟩, .inl rfl, ⟨_, rfl⟩, ⟨_, _, rfl, List.Subset.refl _⟩, .refl _⟩

theorem repeatFault_calm (c k i : Nat) (s : State) : Calm s (repeatFault c k i s) := by
  unfold repeatFault
  dsimp only
  split
  · exact .refl s
  · exact (of_books ⟨_, _, _, _, _, _, _, rfl⟩).trans ((holdRec_hears ..).trans (setEventAll_hears _)).calm

/-- A member withdraws for a fault only where the pair is in step. -/
theorem synchronised_recData (c i a b : Nat) (s : State) : synchronised (recData c i a b s).2 = synchronised s := by
  unfold recData
  dsimp only
  split
  · rfl
  · split
    · rfl
    · rfl

/-- Unless the member withdraws for it, a fault is held, and the reaction follows. -/
theorem raiseWith_new {c k i : Nat} {s : State} (hnew : isHeld c k i s = false) (hw : (withdrawCode c && synchronised s) = false)
    (cfg a b : Nat) (sc : List Nat) : ∃ (h : Held) (d : List (Nat × List Nat)) (x : State), x = (recData c i a b s).2 ∧
      sameFault c k i h = true ∧ (cfg ≠ 2 → h.level = cfg) ∧
      raiseWith cfg c k i a b sc s = applyReaction x h (fireFault c h.level h.lr.seq (x.now / cycQ * cycQ) (holdFault h d x)) := by
  unfold raiseWith
  dsimp only
  rw [if_neg (by rw [hnew]; exact Bool.false_ne_true), synchronised_recData, hw, if_neg Bool.false_ne_true]
  refine ⟨_, _, _, rfl, by simp [sameFault, stampRec, stampAt], ?_, rfl⟩
  exact fun hcfg => if_neg hcfg

theorem holdFault_calm (h : Held) (d : List (Nat × List Nat)) (s : State) : Calm s (holdFault h d s) :=
  (of_books ⟨_, _, _, _, _, _, _, rfl⟩).trans (logRec_logs ..).calm

/-- A fault for which no member withdraws leaves what every reaction leaves. -/
theorem raiseWith_calm {c : Nat} {s : State} (hw : (withdrawCode c && synchronised s) = false) (cfg k i a b : Nat) (sc : List Nat) :
    Calm s (raiseWith cfg c k i a b sc s) := by
  cases hnew : isHeld c k i s
  · obtain ⟨h, d, x, rfl, -, -, e⟩ := raiseWith_new hnew hw cfg a b sc
    rw [e]
    exact (recData_calm c i a b s).trans ((holdFault_calm ..).trans ((fireKind_calm ..).trans (applyReaction_calm ..)))
  · unfold raiseWith
    rw [if_pos hnew]
    exact repeatFault_calm ..

theorem stays_of_code {c : Nat} (h : withdrawCode c = false) (s : State) : (withdrawCode c && synchronised s) = false := by
  rw [h]
  rfl

theorem raise_calm {c : Nat} (hw : withdrawCode c = false) (k i a b : Nat) (sc : List Nat) (s : State) : Calm s (raise c k i a b sc s) :=
  raiseWith_calm (stays_of_code hw s) ..
theorem raiseDev_calm {c : Nat} (hw : withdrawCode c = false) (k i : Nat) (s : State) : Calm s (raiseDev c k i s) := raise_calm hw ..
theorem runRaise_calm {c : Nat} (hw : withdrawCode c = false) (k i a b : Nat) (sc : List Nat) (x : Bool) (s : State) :
    ∃ r, Calm { s with spu := { s.spu with runs := r } } (runRaise c k i a b sc x s) := by
  unfold runRaise
  dsimp only
  split
  · split
    · exact ⟨s.spu.runs, .refl s⟩
    · exact ⟨_, raise_calm hw ..⟩
  · exact ⟨_, .refl _⟩

/-! What is read off. -/

theorem Calm.role {s t : State} (h : Calm s t) : t.rdn.role = s.rdn.role ∧ t.rdn.partnerRole = s.rdn.partnerRole := by
  obtain ⟨a, b, c, e⟩ := h.rdn
  rw [e]
  exact ⟨rfl, rfl⟩

theorem Calm.synchronised {s t : State} (h : Calm s t) : synchronised t = synchronised s := by
  unfold Machine.synchronised
  rw [h.role.1, h.role.2]

theorem Calm.dev_of_not_run {s t : State} (h : Calm s t) (hd : s.dev ≠ .run) : t.dev = s.dev := h.dev.resolve_right fun e => hd e.1

/-- What a fault raised in a device that does not withdraw for it leaves alone, its code being one of those for which a synchronised
member withdraws. -/
theorem raiseWith_rules_alone {c : Nat} {s : State} (hw : (withdrawCode c && synchronised s) = false) (cfg k i a b : Nat) (sc : List Nat) :
    Rules s (raiseWith cfg c k i a b sc s) := by
  cases hnew : isHeld c k i s
  · obtain ⟨h, d, x, rfl, -, -, e⟩ := raiseWith_new hnew hw cfg a b sc
    rw [e]
    exact (recData_reacts c i a b s).rules.trans (((Rules.of _ _).trans (logRec_logs ..).reacts.rules).trans
      ((fireKind_reacts ..).trans (applyReaction_reacts ..)).rules)
  · unfold raiseWith
    rw [if_pos hnew]
    exact repeatFault_rules ..

theorem raiseWith_isHeld_alone {c : Nat} {s : State} (hw : (withdrawCode c && synchronised s) = false) (cfg k i a b : Nat) (sc : List Nat)
    (c' k' i' : Nat) : isHeld c' k' i' (raiseWith cfg c k i a b sc s) = (isHeld c' k' i' s || (c == c' && k == k' && i == i')) := by
  cases hnew : isHeld c k i s
  · obtain ⟨h, d, x, rfl, hs, -, e⟩ := raiseWith_new hnew hw cfg a b sc
    rw [e]
    refine (isHeld_congr ((fireKind_reacts ..).trans (applyReaction_reacts ..)).held c' k' i').trans ?_
    refine (isHeld_congr (logRec_logs ..).held c' k' i').trans ?_
    have before := (recData_reacts c i a b s).held
    show ((recData c i a b s).2.spu.held ++ _).any _ = _
    simp only [sameFault, Bool.and_eq_true, beq_iff_eq] at hs
    rw [before, List.any_append]
    simp [isHeld, sameFault, hs]
  · unfold raiseWith
    rw [if_pos hnew, repeatFault_isHeld]
    cases same : c == c' && k == k' && i == i'
    · simp
    · simp only [Bool.and_eq_true, beq_iff_eq] at same
      obtain ⟨⟨rfl, rfl⟩, rfl⟩ := same
      rw [hnew, Bool.or_true]

end Sys2Proof.Machine
end

section
/-! References and PLLs (R444 to R449, Tables 17-3 and 17-9). -/
namespace Sys2Proof.Machine

/-! What the loss of a clock can do to the rest. -/

/-- Things only get worse: XM stands as it did, and unless the member withdraws every held fault stays. -/
structure Worse (s t : State) : Prop where
  xm : t.clk.xmOk = s.clk.xmOk
  alone : synchronised s = false → synchronised t = false
  held : synchronised s = false → ∀ c k i, isHeld c k i s = true → isHeld c k i t = true

theorem Worse.refl (s : State) : Worse s s := ⟨rfl, id, fun _ _ _ _ => id⟩
theorem Worse.trans {s t u : State} (h : Worse s t) (k : Worse t u) : Worse s u :=
  ⟨k.xm.trans h.xm, fun a => k.alone (h.alone a), fun a _ _ _ x => k.held (h.alone a) _ _ _ (h.held a _ _ _ x)⟩
theorem Worse.ite {c : Prop} [Decidable c] {s a b : State} (h : Worse s a) (k : Worse s b) : Worse s (if c then a else b) := by
  split <;> assumption
theorem Worse.foldl {α : Type} (f : State → α → State) (hf : ∀ s x, Worse s (f s x)) (l : List α) (s : State) : Worse s (l.foldl f s) :=
  List.foldlRecOn (motive := Worse s) l f (.refl s) fun t ht x _ => ht.trans (hf t x)

/-- What touches neither XM, the roles nor the fault list. -/
theorem Worse.of_eq {s t : State} (hx : t.clk.xmOk = s.clk.xmOk) (hr : t.rdn.role = s.rdn.role) (hp : t.rdn.partnerRole = s.rdn.partnerRole)
    (hh : t.spu.held = s.spu.held) : Worse s t := by
  have roles : synchronised t = synchronised s := by
    unfold synchronised
    rw [hr, hp]
  exact ⟨hx, fun a => roles.trans a, fun _ c k i x => (isHeld_congr hh c k i).trans x⟩

theorem Worse.of_same {s t : State} (hclk : t.clk = s.clk) (hrdn : t.rdn = s.rdn) (hspu : t.spu = s.spu) : Worse s t :=
  .of_eq (congrArg Clk.xmOk hclk) (congrArg Rdn.role hrdn) (congrArg Rdn.partnerRole hrdn) (congrArg Spu.held hspu)

theorem modClk_worse (f : Clk → Clk) (s : State) (h : (f s.clk).xmOk = s.clk.xmOk) : Worse s (modClk f s) := .of_eq h rfl rfl rfl

theorem Hears.worse {s t : State} (h : Hears s t) : Worse s t :=
  .of_eq (congrArg Clk.xmOk h.reacts.rules.keep.clk) h.calm.role.1 h.calm.role.2 h.held

theorem Sends.worse {s t : State} (h : Sends s t) : Worse s t := by
  obtain ⟨p, a, b, c, o, rfl⟩ := h
  exact .of_eq rfl rfl rfl rfl

/-- A reset of reach SYSTEM and below leaves XM as it found it. -/
theorem assertReset_xmOk (s : State) (cause : Nat) : (assertReset 2 5 cause false s).clk.xmOk = s.clk.xmOk := by
  obtain ⟨l, logged⟩ := clearByReset_logs (failStart s)
  have failed : (failStart s).clk = s.clk := by
    unfold failStart
    split <;> rfl
  have set := (setDev_reacts .boot cause (resetSystem (clearByReset (failStart s)))).rules.keep.clk
  show (setDev .boot cause (resetSystem (clearByReset (failStart s)))).clk.xmOk = _
  rw [set]
  show (clearByReset (failStart s)).clk.xmOk = _
  rw [logged.reacts.rules.keep.clk]
  exact congrArg Clk.xmOk failed

/-- A raised fault, whether the member withdraws for it or not. -/
theorem raiseWith_worse (cfg c k i a b : Nat) (sc : List Nat) (s : State) : Worse s (raiseWith cfg c k i a b sc s) := by
  cases hw : withdrawCode c && synchronised s
  · refine ⟨congrArg Clk.xmOk (raiseWith_rules_alone hw ..).keep.clk, fun alone => (raiseWith_calm hw ..).synchronised.trans alone, fun _ c' k' i' h => ?_⟩
    rw [raiseWith_isHeld_alone hw, h]
    rfl
  · have together : synchronised s = true := (Bool.and_eq_true_iff.1 hw).2
    refine ⟨?_, fun alone => absurd (alone.symm.trans together) Bool.false_ne_true, fun alone => absurd (alone.symm.trans together) Bool.false_ne_true⟩
    unfold raiseWith
    dsimp only
    split
    · exact congrArg Clk.xmOk (repeatFault_rules ..).keep.clk
    · rw [synchronised_recData, hw, if_pos rfl, assertReset_xmOk]
      refine (congrArg Clk.xmOk (logRec_logs ..).reacts.rules.keep.clk).trans ?_
      exact congrArg Clk.xmOk (recData_reacts ..).rules.keep.clk

theorem raise_worse (c k i a b : Nat) (sc : List Nat) (s : State) : Worse s (raise c k i a b sc s) := raiseWith_worse ..
theorem raiseDev_worse (c k i : Nat) (s : State) : Worse s (raiseDev c k i s) := raiseWith_worse ..

theorem condFails_worse (c k i : Nat) (s : State) : Worse s (condFails c k i s) :=
  ⟨rfl, id, fun _ c' k' i' h => (condFails_isHeld c' k' i' c k i s).trans h⟩

/-! A port that goes down. -/

/-- What a port that goes down leaves: the clocks, the lanes, the fields and the time stay, the roles stay, and every held fault stays held. -/
structure Downs (s t : State) : Prop where
  clk : t.clk = s.clk
  lanes : t.lanes = s.lanes
  par : t.par = s.par
  alm : t.alm = s.alm
  roles : t.rdn.role = s.rdn.role ∧ t.rdn.partnerRole = s.rdn.partnerRole
  held : ∀ c k i, isHeld c k i s = true → isHeld c k i t = true

theorem Downs.refl (s : State) : Downs s s := ⟨rfl, rfl, rfl, rfl, ⟨rfl, rfl⟩, fun _ _ _ => id⟩
theorem Downs.trans {s t u : State} (h : Downs s t) (k : Downs t u) : Downs s u :=
  ⟨k.clk.trans h.clk, k.lanes.trans h.lanes, k.par.trans h.par, k.alm.trans h.alm,
    ⟨k.roles.1.trans h.roles.1, k.roles.2.trans h.roles.2⟩, fun c f i x => k.held c f i (h.held c f i x)⟩
theorem Downs.ite {c : Prop} [Decidable c] {s a b : State} (h : Downs s a) (k : Downs s b) : Downs s (if c then a else b) := by
  split <;> assumption
theorem Downs.foldl {α : Type} (f : State → α → State) (hf : ∀ s x, Downs s (f s x)) (l : List α) (s : State) : Downs s (l.foldl f s) :=
  List.foldlRecOn (motive := Downs s) l f (.refl s) fun t ht x _ => ht.trans (hf t x)

theorem Downs.worse {s t : State} (h : Downs s t) : Worse s t := by
  have roles : synchronised t = synchronised s := by
    unfold synchronised
    rw [h.roles.1, h.roles.2]
  exact ⟨congrArg Clk.xmOk h.clk, fun a => roles.trans a, fun _ => h.held⟩

/-- What touches none of all this. -/
theorem Downs.of_same {s t : State} (hclk : t.clk = s.clk) (hlanes : t.lanes = s.lanes) (hpar : t.par = s.par) (halm : t.alm = s.alm)
    (hrole : t.rdn.role = s.rdn.role) (hpartner : t.rdn.partnerRole = s.rdn.partnerRole) (hheld : t.spu.held = s.spu.held) : Downs s t :=
  ⟨hclk, hlanes, hpar, halm, ⟨hrole, hpartner⟩, fun c k i x => (isHeld_congr hheld c k i).trans x⟩

theorem raiseWith_downs {c : Nat} (hw : withdrawCode c = false) (cfg k i a b : Nat) (sc : List Nat) (s : State) :
    Downs s (raiseWith cfg c k i a b sc s) := by
  have keep := (raiseWith_rules cfg c k i a b sc s hw).keep
  refine ⟨keep.clk, keep.lanes, keep.par, keep.alm, (raiseWith_calm (stays_of_code hw s) ..).role, fun c' k' i' h => ?_⟩
  rw [raiseWith_isHeld _ _ _ _ _ _ _ _ hw, h]
  rfl

theorem raise_downs {c : Nat} (hw : withdrawCode c = false) (k i a b : Nat) (sc : List Nat) (s : State) : Downs s (raise c k i a b sc s) :=
  raiseWith_downs hw ..

theorem sweepResult_missing_downs (c : Nat) (s : State) : Downs s (sweepResult c 6 s) := by
  have noted : Downs s (setSweepRes c 6 s) := .of_same rfl rfl rfl rfl rfl rfl rfl
  exact noted.trans (raise_downs (by decide) ..)

theorem setSweep_downs (w : Sweep) (s : State) : Downs s (setSweep w s) := .of_same rfl rfl rfl rfl rfl rfl rfl

theorem guardMissing_downs (c : Nat) (s : State) : Downs s (raise 0x1030 1 c 0 0 [c] (setGuardRes c 2 s)) := by
  have noted : Downs s (setGuardRes c 2 s) := .of_same rfl rfl rfl rfl rfl rfl rfl
  exact noted.trans (raise_downs (by decide) ..)

theorem endSweep_downs (w : Sweep) (s : State) : Downs s (endSweep w s) :=
  ((Downs.foldl _ (fun _ _ => sweepResult_missing_downs ..) _ s).trans (.foldl _ (fun _ _ => guardMissing_downs ..) _ _)).trans
    (setSweep_downs ..)

theorem endPrestart_downs (s : State) : Downs s (endPrestart s) := .ite (.of_same rfl rfl rfl rfl rfl rfl rfl) (.refl s)

theorem endSweeps_downs (p : Nat) (s : State) : Downs s (endSweeps p s) :=
  (Downs.foldl _ (fun _ _ => endSweep_downs ..) _ s).trans (endPrestart_downs _)

theorem Talks.downs {s t : State} : Talks s t → Downs s t := by
  rintro ⟨h, o, rfl⟩
  exact .of_same rfl rfl rfl rfl rfl rfl rfl

/-- A satellite that does not answer clears no fault. -/
theorem clearAnswered_downs (c : Nat) (s : State) : Downs s (clearAnswered c false s) := by
  have marked (p : Spu) : Downs s { s with spu := { p with held := s.spu.held.map (fun h =>
      if h.clearing && h.lr.kind == 1 && h.lr.index == c then { h with clearing := false } else h) } } :=
    ⟨rfl, rfl, rfl, rfl, ⟨rfl, rfl⟩, fun c k i h => (isHeld_map s p _ fun f => by split <;> rfl).trans h⟩
  unfold clearAnswered
  dsimp only
  rw [if_neg Bool.false_ne_true]
  split
  · exact marked s.spu
  · split
    · exact marked { s.spu with clearBy := _ }
    · split
      · exact (marked { s.spu with clearBy := none }).trans (accepted_talks ..).downs
      · exact (marked { s.spu with clearBy := none }).trans (refuse_talks ..).downs

theorem modPort_downs (s : State) (p : Nat) (f : Port → Port) : Downs s (s.modPort p f) := .of_same rfl rfl rfl rfl rfl rfl rfl

theorem clearTx_downs (p : Nat) (s : State) : Downs s (clearTx p s) := .of_same rfl rfl rfl rfl rfl rfl rfl

theorem dropReqs_downs (p : Nat) (s : State) : Downs s (dropReqs p s) :=
  ((modPort_downs ..).trans (endSweeps_downs ..)).trans
    (.foldl _ (fun _ _ => .foldl _ (fun _ _ => clearAnswered_downs ..) _ _) _ _)

theorem linkDown_downs (p : Nat) (s : State) : Downs s (linkDown p s) := by
  unfold linkDown
  dsimp only
  split
  · exact .refl s
  · split
    · exact (((raiseWith_downs (by decide) ..).trans (dropReqs_downs ..)).trans (modPort_downs ..)).trans (clearTx_downs ..)
    · exact ((dropReqs_downs ..).trans (modPort_downs ..)).trans (clearTx_downs ..)

theorem modRdn_downs (f : Rdn → Rdn) (s : State) (h1 : (f s.rdn).role = s.rdn.role) (h2 : (f s.rdn).partnerRole = s.rdn.partnerRole) :
    Downs s (modRdn f s) := .of_same rfl rfl rfl rfl h1 h2 rfl

theorem setDiam_downs (s : State) : Downs s (setDiam s) := .ite (modRdn_downs _ s rfl rfl) (.refl s)

theorem modPp_downs (q : Nat) (f : Pp → Pp) (s : State) : Downs s (modPp q f s) := modRdn_downs _ s rfl rfl

theorem peerLaneDown_downs (fault : Bool) (q : Nat) (s : State) : Downs s (peerLaneDown fault q s) := by
  have down : Downs s (setDiam (modPp q (fun _ => {}) s)) := (modPp_downs ..).trans (setDiam_downs _)
  exact .ite (down.trans (raise_downs (by decide) ..)) down

theorem ownerDown_downs (n : Nat) (s : State) : Downs s (ownerDown n s) := by
  unfold ownerDown
  refine .ite (.refl s) (.ite (.ite (.refl s) (linkDown_downs ..)) (.ite ?_ (.refl s)))
  split
  · exact peerLaneDown_downs ..
  · exact .refl s

theorem ownerDown_worse (n : Nat) (s : State) : Worse s (ownerDown n s) := (ownerDown_downs n s).worse

/-! A PLL that loses lock. -/

/-- What the outputs and the fields that wait for them to stand still go through. -/
def Outs (s t : State) : Prop := ∃ o p q f, t = { s with clk := { s.clk with out := o }, par := p, pend := q, free := f }

theorem Outs.refl (s : State) : Outs s s := ⟨s.clk.out, s.par, s.pend, s.free, rfl⟩
theorem Outs.trans {s t u : State} : Outs s t → Outs t u → Outs s u := by
  rintro ⟨_, _, _, _, rfl⟩ ⟨o, p, q, f, rfl⟩
  exact ⟨o, p, q, f, rfl⟩
theorem Outs.ite {c : Prop} [Decidable c] {s a b : State} (h : Outs s a) (k : Outs s b) : Outs s (if c then a else b) := by
  split <;> assumption
theorem Outs.foldl {α : Type} (f : State → α → State) (hf : ∀ s x, Outs s (f s x)) (l : List α) (s : State) : Outs s (l.foldl f s) :=
  List.foldlRecOn (motive := Outs s) l f (.refl s) fun t ht x _ => ht.trans (hf t x)

theorem promoteWhere_outs (f : Pend → Bool) (s : State) : Outs s (promoteWhere f s) := by
  have filtered : Outs s { s with pend := s.pend.filter (fun e => !f e) } := ⟨s.clk.out, s.par, _, s.free, rfl⟩
  have put (x : State) (e : Pend) : Outs x (x.setPar e.id e.val) := ⟨x.clk.out, _, x.pend, x.free, rfl⟩
  exact filtered.trans (.foldl _ put _ _)

theorem modOut_outs (c : Nat) (f : ClkOut → ClkOut) (s : State) : Outs s (modOut c f s) := ⟨_, s.par, s.pend, s.free, rfl⟩

theorem promoteOut_outs (c : Nat) (s : State) : Outs s (promoteOut c s) := .ite (.refl s) ((promoteWhere_outs ..).trans (modOut_outs ..))

theorem startOut_outs (c t : Nat) (s : State) : Outs s (startOut c t s) := by
  have drawn : Outs s s.freeWord.2 := ⟨s.clk.out, s.par, s.pend, s.free + 1, rfl⟩
  unfold startOut
  refine .ite (modOut_outs ..) ?_
  split
  · exact modOut_outs ..
  · exact drawn.trans (modOut_outs ..)

theorem gateOut_outs (c : Nat) (s : State) : Outs s (gateOut c s) := by
  unfold gateOut
  dsimp only
  split
  · exact .refl s
  · exact .ite (modOut_outs ..) (modOut_outs ..)

theorem refreshOuts_outs (s : State) : Outs s (refreshOuts s) :=
  .foldl _ (fun _ _ => (promoteOut_outs ..).trans (.ite (.ite (startOut_outs ..) (.refl _)) (gateOut_outs ..))) _ s

theorem refreshOuts_worse (s : State) : Worse s (refreshOuts s) := by
  obtain ⟨o, p, q, f, e⟩ := refreshOuts_outs s
  rw [e]
  exact .of_eq rfl rfl rfl rfl

theorem pllLost_worse (x : Nat) (s : State) : Worse s (pllLost x s) := by
  unfold pllLost
  refine .ite ((modClk_worse _ _ ?_).trans (raiseDev_worse ..)) (.ite ((modClk_worse _ _ ?_).trans (raise_worse ..)) (.ite
    (((modClk_worse _ _ ?_).trans (refreshOuts_worse _)).trans (raise_worse ..))
    (.ite (((modClk_worse _ _ ?_).trans (refreshOuts_worse _)).trans (raiseDev_worse ..)) (.refl s)))) <;> rfl

theorem laneLost_worse (s : State) (n : Nat) : Worse s (if detects s n then ownerDown n (setLol n s) else s) := by
  have lost : Worse s (setLol n s) := .of_same rfl rfl rfl
  exact .ite (lost.trans (ownerDown_worse ..)) (.refl s)

theorem lpllLost_worse (q : Nat) (s : State) : Worse s (lpllLost q s) := by
  have unlocked : Worse s { setLock q false s with lanes := { (setLock q false s).lanes with
      lost := vmod (setLock q false s).lanes.lost q (fun _ => true) } } := .of_same rfl rfl rfl
  have lanes := unlocked.trans (.foldl _ laneLost_worse (quadLanes q) _)
  exact .ite (.refl s) (.ite (lanes.trans ((condFails_worse ..).trans (raiseDev_worse ..))) lanes)

/-! The events. -/

theorem xm_lost {s : State} (hxm : s.clk.xmOk = true) (hpow : s.dev.powered = true) (dt : Nat) : ∃ t, exec (.xmLoss dt) s = .next t ∧
    t.clk.xmOk = false ∧ (synchronised s = false → isHeld 0x7301 0 0 t = true) := by
  have runs : exec (.xmLoss dt) s = done ((List.range 16).foldl (fun s q => lpllLost q s) ((List.range 4).foldl (fun s x => pllLost x s)
      (raiseDev 0x7301 0 0 (modClk (fun k => { k with xmOk := false }) (s.begin dt))))) := by
    show execXmLoss dt s = _
    unfold execXmLoss
    dsimp only
    rw [if_neg (by simp [hxm]), if_pos (show (modClk (fun k => { k with xmOk := false }) (s.begin dt)).dev.powered = true from hpow)]
  have raised := raiseDev_worse 0x7301 0 0 (modClk (fun k => { k with xmOk := false }) (s.begin dt))
  have after := (Worse.foldl (fun s x => pllLost x s) (fun _ _ => pllLost_worse ..) (List.range 4)
    (raiseDev 0x7301 0 0 (modClk (fun k => { k with xmOk := false }) (s.begin dt)))).trans
      (.foldl (fun s q => lpllLost q s) (fun _ _ => lpllLost_worse ..) (List.range 16) _)
  refine exec_ends runs ?_
  rw [ended_clk, ended_isHeld]
  exact ⟨after.xm.trans raised.xm, fun alone => after.held (raised.alone alone) _ _ _ (raiseDev_held _ _ _ _ (by decide))⟩

theorem xs_lost {s : State} (hpow : s.dev.powered = true) (dt : Nat) : ∃ t, exec (.xsLoss dt) s = .next t ∧ t.clk.xsOk = false ∧
    isHeld 0x7302 0 0 t = true := by
  have runs : exec (.xsLoss dt) s = done (raiseDev 0x7302 0 0 (condFails 0x7302 0 0 (modClk (fun k => { k with xsOk := false }) (s.begin dt)))) :=
    congrArg done (if_pos hpow)
  refine exec_ends runs ?_
  rw [ended_clk, ended_isHeld, (raiseDev_rules _ _ _ _ (by decide)).keep.clk]
  exact ⟨rfl, raiseDev_held _ _ _ _ (by decide)⟩

theorem not_lost_again (p : Pll) : (if p == .lost then .acquiring else p) ≠ .lost := by
  cases p <;> decide

theorem xm_returns (dt : Nat) (s : State) : ∃ t, exec (.xmOkRising dt) s = .next t ∧ t.clk.xmOk = true ∧ t.clk.cpll ≠ .lost ∧
    t.clk.fpll ≠ .lost ∧ t.clk.tpll ≠ .lost :=
  ⟨_, rfl, rfl, not_lost_again _, not_lost_again _, not_lost_again _⟩

theorem refCode_stays : ∀ x : Fin 2, withdrawCode (0x7305 + x.val) = false := by decide

/-- A reference with its measure. -/
def measured (x : Nat) (ok : Bool) (ppm : Int) (s : State) : State :=
  modClk (fun k => { k with refOk := vmod k.refOk x (fun _ => ok), refPpm := vmod k.refPpm x (fun _ => ppm) }) s

theorem ref_measured {s : State} {x : Fin 2} (hon : s.pn 13 0x200 (1 + x) ≠ 0) (dt : Nat) (present : Bool) (ppm : Int) :
    ∃ t, exec (.refMeasure dt x present ppm) s = .next t ∧
      vget t.clk.refOk x false = (present && decide (ppm.natAbs ≤ 200 * 65536)) ∧ vget t.clk.refPpm x 0 = ppm ∧
      (vget s.clk.refOk x false = true → present = false ∨ 200 * 65536 < ppm.natAbs → isHeld (0x7305 + x) 0 0 t = true) := by
  have runs : exec (.refMeasure dt x present ppm) s = done
      (if vget s.clk.refOk x false && !(present && decide (ppm.natAbs ≤ 200 * 65536)) then
        raiseDev (0x7305 + x.val) 0 0 (measured x (present && decide (ppm.natAbs ≤ 200 * 65536)) ppm (s.begin dt))
      else if !(present && decide (ppm.natAbs ≤ 200 * 65536)) then
        condFails (0x7305 + x.val) 0 0 (measured x (present && decide (ppm.natAbs ≤ 200 * 65536)) ppm (s.begin dt))
      else measured x (present && decide (ppm.natAbs ≤ 200 * 65536)) ppm (s.begin dt)) := by
    show execRefMeasure dt x present ppm s = _
    unfold execRefMeasure
    dsimp only
    rw [if_neg (show ¬(s.begin dt).pn 13 0x200 (1 + x) = 0 from hon), apply_ite done, apply_ite done]
    rfl
  generalize hok : (present && decide (ppm.natAbs ≤ 200 * 65536)) = ok at runs
  refine exec_ends runs ?_
  have clk : State.clk (if vget s.clk.refOk x false && !ok then raiseDev (0x7305 + x.val) 0 0 (measured x ok ppm (s.begin dt))
      else if !ok then condFails (0x7305 + x.val) 0 0 (measured x ok ppm (s.begin dt)) else measured x ok ppm (s.begin dt)) =
      (measured x ok ppm (s.begin dt)).clk := by
    split
    · exact (raiseDev_rules _ _ _ _ (refCode_stays x)).keep.clk
    · split
      · exact (condFails_rules ..).keep.clk
      · rfl
  rw [ended_clk, clk, ended_isHeld]
  refine ⟨vget_vmod_self .., vget_vmod_self .., fun was bad => ?_⟩
  have notOk : ok = false := by
    rw [← hok]
    rcases bad with h | h
    · simp [h]
    · simp [Nat.not_le.2 h]
  rw [was, notOk, if_pos (show (true && !false) = true from rfl)]
  exact raiseDev_held _ _ _ _ (refCode_stays x)

theorem cpll_unlocks {s : State} (h : s.clk.cpll = .locked) (dt : Nat) : ∃ t, exec (.pllUnlock dt 0) s = .next t ∧ t.clk.cpll = .lost ∧
    isHeld 0x7303 0 0 t = true := by
  have runs : exec (.pllUnlock dt 0) s = done (raiseDev 0x7303 0 0 (modClk (fun k => { k with cpll := .lost }) (s.begin dt))) := by
    have lost : pllLost 0 (s.begin dt) = raiseDev 0x7303 0 0 (modClk (fun k => { k with cpll := .lost }) (s.begin dt)) := by
      simp [pllLost, h]
    exact congrArg done lost
  refine exec_ends runs ?_
  rw [ended_clk, ended_isHeld, (raiseDev_rules _ _ _ _ (by decide)).keep.clk]
  exact ⟨rfl, raiseDev_held _ _ _ _ (by decide)⟩

theorem opll_unlocks {s : State} (h : s.clk.opll = .locked) (dt : Nat) : ∃ t, exec (.pllUnlock dt 3) s = .next t ∧ t.clk.opll = .lost ∧
    isHeld 0x7304 0 0 t = true := by
  have runs : exec (.pllUnlock dt 3) s =
      done (raiseDev 0x7304 0 0 (refreshOuts (modClk (fun k => { k with opll := .lost }) (s.begin dt)))) := by
    have lost : pllLost 3 (s.begin dt) = raiseDev 0x7304 0 0 (refreshOuts (modClk (fun k => { k with opll := .lost }) (s.begin dt))) := by
      simp [pllLost, h]
    exact congrArg done lost
  refine exec_ends runs ?_
  rw [ended_clk, ended_isHeld, (raiseDev_rules _ _ _ _ (by decide)).keep.clk]
  refine ⟨?_, raiseDev_held _ _ _ _ (by decide)⟩
  obtain ⟨o, p, q, f, e⟩ := refreshOuts_outs (modClk (fun k => { k with opll := .lost }) (s.begin dt))
  rw [e]
  rfl

theorem locked_of_running {p : Pll} (h : p ≠ .off) : (if p == .off then Pll.off else .locked) = .locked := by
  cases p
  · exact absurd rfl h
  all_goals rfl

theorem cpll_locks {s : State} (hxm : s.clk.xmOk = true) (h : s.clk.cpll ≠ .off) (dt : Nat) : ∃ t, exec (.pllLock dt 0) s = .next t ∧
    t.clk.cpll = .locked := by
  have runs : exec (.pllLock dt 0) s = done (pllLocked 0 (s.begin dt)) := by
    show (if !(s.begin dt).clk.xmOk then _ else _) = _
    rw [if_neg (by simp [hxm])]
    rfl
  exact exec_ends runs (locked_of_running h)

/-- A TPLL that takes lock counts finely again. -/
def tpllTaken (s : State) : State :=
  { modClk (fun k => { k with tpll := if k.tpll == .off then .off else .locked }) s with
    alm := { s.alm with coarse := false, coarseRem := 0 } }

theorem tpll_locks {s : State} (hxm : s.clk.xmOk = true) (h : s.clk.tpll ≠ .off) (dt : Nat) : ∃ t, exec (.pllLock dt 2) s = .next t ∧
    t.clk.tpll = .locked ∧ t.alm.coarse = false := by
  have runs : exec (.pllLock dt 2) s = done (pllLocked 2 (s.begin dt)) := by
    show (if !(s.begin dt).clk.xmOk then _ else _) = _
    rw [if_neg (by simp [hxm])]
    rfl
  have locks : pllLocked 2 (s.begin dt) = refreshOuts (tpllTaken (s.begin dt)) := by
    unfold pllLocked
    dsimp only
    rw [if_neg (by decide), if_neg (by decide), if_pos rfl]
    exact congrArg refreshOuts (if_pos (locked_of_running (p := (s.begin dt).clk.tpll) h))
  refine exec_ends (runs.trans (congrArg done locks)) ?_
  obtain ⟨o, p, q, f, e⟩ := refreshOuts_outs (tpllTaken (s.begin dt))
  rw [ended_clk, ended_alm, e]
  exact ⟨locked_of_running h, rfl⟩

/-- Settles O26: each loss is a held fault, and each return is taken. -/
theorem referencesAndPlls : Obligations.ReferencesAndPlls := fun dt s hpow =>
  ⟨fun hxm => xm_lost hxm hpow dt, xs_lost hpow dt, xm_returns dt s, ⟨_, rfl, rfl, rfl⟩, fun _ present ppm hon => ref_measured hon dt present ppm,
    fun h => cpll_unlocks h dt, fun h => opll_unlocks h dt, fun hxm h => cpll_locks hxm h dt, fun hxm h => tpll_locks hxm h dt⟩

end Sys2Proof.Machine
end

section
/-! The detectors of the serial lanes (R430, R434, R436, R442). -/
namespace Sys2Proof.Machine

theorem tabGet_tabPut_self {α : Type} (t : Tab α) (k : Nat) (v d : α) : tabGet (tabPut t k v) k d = v := by
  induction t with
  | nil => exact if_pos rfl
  | cons e r ih =>
    obtain ⟨i, w⟩ := e
    unfold tabPut
    split
    · exact if_pos rfl
    · next hne =>
      split
      · exact if_pos rfl
      · exact (if_neg hne).trans ih

theorem lane_modLane_self (n : Nat) (f : Lane → Lane) (s : State) : lane (modLane n f s) n = f (lane s n) := tabGet_tabPut_self ..

theorem lane_congr {s t : State} (h : t.lanes = s.lanes) (n : Nat) : lane t n = lane s n := by
  unfold lane
  rw [h]

theorem ended_lane (x : State) (n : Nat) : lane (ended x) n = lane x n := rfl

theorem condFails_lanes (c k i : Nat) (s : State) : (condFails c k i s).lanes = s.lanes := rfl

theorem setLol_eq (n : Nat) (s : State) : setLol n s = modLane n (fun x =>
    { x with lol := true, sync := false, badSince := some (x.badSince.getD s.clock) }) s := rfl

/-! What a lane that comes up leaves: the lanes. -/

theorem foldl_lanes {α : Type} {f : State → α → State} (hf : ∀ s x, (f s x).lanes = s.lanes) (l : List α) (s : State) :
    (l.foldl f s).lanes = s.lanes :=
  List.foldlRecOn (motive := fun t => t.lanes = s.lanes) l f rfl fun t ht x _ => (hf t x).trans ht

theorem peerLaneUp_lanes (q : Nat) (s : State) : (peerLaneUp q s).lanes = s.lanes := by
  unfold peerLaneUp
  split
  · exact (sendPeer_reacts ..).rules.keep.lanes
  · rfl

theorem startTraining_lanes (p : Nat) (s : State) : (startTraining p s).lanes = s.lanes := by
  have dropped : (clearTx p (dropReqs p s)).lanes = s.lanes := ((dropReqs_downs p s).trans (clearTx_downs ..)).lanes
  have cleared (s : State) : (chClear p s).lanes = s.lanes := foldl_lanes (fun _ _ => by rfl) _ _
  unfold startTraining
  dsimp only
  split
  · exact dropped
  · split
    · exact dropped
    · exact ((foldl_lanes (fun _ _ => by rfl) _ _).trans (cleared _)).trans dropped

theorem ownerTrain_lanes (n : Nat) (s : State) : (ownerTrain n s).lanes = s.lanes := by
  unfold ownerTrain
  split
  · rfl
  · split
    · exact startTraining_lanes ..
    · split
      · split
        · exact peerLaneUp_lanes ..
        · rfl
      · rfl

theorem promoteFront_lanes (n : Nat) (s : State) : (promoteFront n s).lanes = s.lanes := by
  obtain ⟨o, p, q, f, e⟩ := promoteWhere_outs (fun e => idUnit e.id == 14 && idInst e.id == n && decide (3 ≤ idField e.id) && decide (idField e.id ≤ 6)) s
  unfold promoteFront
  rw [e]

/-- Training of the equaliser changes the setting in force and no detector. -/
theorem retrainFront_lane (n : Nat) (s : State) : ∃ e, lane (retrainFront n s) n = { lane s n with eqEff := e } := by
  unfold retrainFront
  dsimp only
  split
  · exact ⟨_, rfl⟩
  · have front : lane (promoteFront n s).freeWord.2 n = lane s n := lane_congr (promoteFront_lanes n s) n
    rw [lane_modLane_self, front]
    exact ⟨_, rfl⟩

/-! The events. -/

section
variable {s : State} {n : Fin 64}

/-- Loss of signal, as the lane records it. -/
def losSeen (at_ : Nat) (x : Lane) : Lane := { x with los := true, losCount := sat32 x.losCount, badSince := some (x.badSince.getD at_) }

theorem signal_lost (hd : detects s n = true) (h : (lane s n).los = false) (dt : Nat) : ∃ t, exec (.laneLos dt n) s = .next t ∧
    (lane t n).los = true ∧ (lane t n).losCount = sat32 (lane s n).losCount := by
  have runs : exec (.laneLos dt n) s = done (ownerDown n (condFails 0x3201 0 n (modLane n (losSeen (s.begin dt).clock) (s.begin dt)))) :=
    if_neg (show ¬(!detects s n || (lane s n).los) = true by rw [hd, h]; decide)
  refine exec_ends runs ?_
  rw [ended_lane, lane_congr (ownerDown_downs ..).lanes, lane_congr (condFails_lanes ..), lane_modLane_self]
  exact ⟨rfl, rfl⟩

theorem lock_lost (hd : detects s n = true) (dt : Nat) : ∃ t, exec (.laneLol dt n) s = .next t ∧ (lane t n).lol = true ∧ (lane t n).sync = false := by
  have runs : exec (.laneLol dt n) s = done (ownerDown n (condFails 0x3201 0 n (setLol n (s.begin dt)))) :=
    if_neg (show ¬(!detects s n) = true by rw [hd]; decide)
  refine exec_ends runs ?_
  rw [ended_lane, lane_congr (ownerDown_downs ..).lanes, lane_congr (condFails_lanes ..), setLol_eq, lane_modLane_self]
  exact ⟨rfl, rfl⟩

/-- The return of signal, as the lane records it. -/
def losGone (x : Lane) : Lane := let x := { x with los := false, lol := false }; if x.sync then laneGood x else x

theorem losGone_clear (x : Lane) : (losGone x).los = false ∧ (losGone x).lol = false := by
  unfold losGone
  dsimp only
  split <;> exact ⟨rfl, rfl⟩

theorem signal_returns (h : (lane s n).los = true) (dt : Nat) : ∃ t, exec (.losClear dt n) s = .next t ∧ (lane t n).los = false ∧
    (lane t n).lol = false := by
  have back : lane (modLane n losGone (s.begin dt)) n = losGone (lane s n) := lane_modLane_self ..
  obtain ⟨x, runs, e, hx⟩ : ∃ x, exec (.losClear dt n) s = done x ∧ ∃ e, lane x n = { losGone (lane s n) with eqEff := e } := by
    refine ⟨_, if_neg (show ¬(!(lane s n).los) = true by rw [h]; decide), ?_⟩
    dsimp only
    split
    · obtain ⟨e, he⟩ := retrainFront_lane n (modLane n losGone (s.begin dt))
      exact ⟨e, (lane_congr (ownerTrain_lanes ..) n).trans (he.trans (by rw [back]))⟩
    · exact ⟨_, back⟩
  refine exec_ends runs ?_
  rw [ended_lane, hx]
  exact losGone_clear _

/-- SYNC found, as the lane records it. -/
def syncFound (x : Lane) : Lane := let x := { x with sync := true, lol := false }; if x.los then x else laneGood x

theorem syncFound_sync (x : Lane) : (syncFound x).sync = true ∧ (syncFound x).lol = false := by
  unfold syncFound
  dsimp only
  split <;> exact ⟨rfl, rfl⟩

theorem sync_comes (hd : detects s n = true) (dt : Nat) : ∃ t, exec (.laneSyncAcquired dt n) s = .next t ∧ (lane t n).sync = true ∧
    (lane t n).lol = false := by
  obtain ⟨x, runs, hx⟩ : ∃ x, exec (.laneSyncAcquired dt n) s = done x ∧ x.lanes = (modLane n syncFound (s.begin dt)).lanes := by
    refine ⟨_, if_neg (show ¬(!detects s n) = true by rw [hd]; decide), ?_⟩
    dsimp only
    split
    · split
      · exact peerLaneUp_lanes ..
      · rfl
    · rfl
  refine exec_ends runs ?_
  rw [ended_lane, lane_congr hx, lane_modLane_self]
  exact syncFound_sync _

theorem sync_goes (hd : detects s n = true) (dt : Nat) : ∃ t, exec (.laneSyncLost dt n) s = .next t ∧ (lane t n).sync = false := by
  have runs : exec (.laneSyncLost dt n) s = done (condFails 0x3201 0 n (modLane n (fun x =>
      { x with sync := false, badSince := some (x.badSince.getD (s.begin dt).clock) }) (s.begin dt))) :=
    if_neg (show ¬(!detects s n) = true by rw [hd]; decide)
  refine exec_ends runs ?_
  rw [ended_lane, lane_congr (condFails_lanes ..), lane_modLane_self]

theorem eth_lane_down {b : Nat} (heth : isEth s n = true) (hpst : (lane s n).pst = 0) (hbad : (lane s n).badSince = some b)
    (htold : (lane s n).badTold = false) {dt : Nat} (hdue : b + 16000000 ≤ s.clock + dt) :
    ∃ t, exec (.laneEthDown dt n) s = .next t ∧ isHeld 0x3201 0 n t = true := by
  have due : (isEth (s.begin dt) n && decide ((lane (s.begin dt) n).pst = 0) && !(lane (s.begin dt) n).badTold &&
      decide (b + 16000000 ≤ (s.begin dt).clock)) = true := by
    show (isEth s n && decide ((lane s n).pst = 0) && !(lane s n).badTold && decide (b + 16000000 ≤ s.clock + dt)) = true
    rw [heth, hpst, htold, decide_eq_true hdue]
    rfl
  have runs : exec (.laneEthDown dt n) s = done (raiseDev 0x3201 0 n (modLane n (fun x => { x with badTold := true }) (s.begin dt))) := by
    show execLaneEthDown dt n s = _
    unfold execLaneEthDown
    dsimp only
    rw [show (lane (s.begin dt) n).badSince = some b from hbad]
    exact if_pos due
  refine exec_ends runs ?_
  rw [ended_isHeld]
  exact raiseDev_held _ _ _ _ (by decide)

theorem checker_locks (hon : lf s.wire n 11 ≠ 0) (hl : (lane s n).prbsLock = false) (hs : (lane s n).scanning = false) (dt : Nat) :
    ∃ t, exec (.checkerLock dt n) s = .next t ∧ (lane t n).prbsLock = true ∧ (lane t n).prbsErrs = (lane s n).prbsErrs := by
  have runs : exec (.checkerLock dt n) s = done (modLane n (fun x =>
      { x with prbsLock := true, prbsFrom := (s.begin dt).clock }) (s.begin dt)) :=
    if_neg (show ¬(decide (lf s.wire n 11 = 0) || (lane s n).prbsLock || (lane s n).scanning) = true by
      rw [decide_eq_false hon, hl, hs]; decide)
  refine exec_ends runs ?_
  rw [ended_lane, lane_modLane_self]
  exact ⟨rfl, rfl⟩

theorem checker_unlocks (hl : (lane s n).prbsLock = true) (dt errs : Nat) : ∃ t, exec (.checkerLockLost dt n errs) s = .next t ∧
    (lane t n).prbsLock = false ∧ (lane t n).prbsErrs = satAdd32 (lane s n).prbsErrs errs := by
  have runs : exec (.checkerLockLost dt n errs) s = done (modLane n (fun x =>
      { x with prbsLock := false, prbsErrs := satAdd32 x.prbsErrs errs }) (holdPrbs n (s.begin dt))) :=
    if_neg (show ¬(!(lane s n).prbsLock) = true by rw [hl]; decide)
  refine exec_ends runs ?_
  rw [ended_lane, lane_modLane_self, holdPrbs, lane_modLane_self]
  exact ⟨rfl, rfl⟩

theorem power_state_reached {v : Nat} (h : (lane s n).exitTo = some v) (dt : Nat) (eq : Fin 16) :
    ∃ t, exec (.laneL2Exit dt n eq) s = .next t ∧ (lane t n).pst = v ∧ (lane t n).exitTo = none := by
  obtain ⟨f, hf, runs⟩ : ∃ f : Lane → Lane, (∀ x, (f x).pst = v ∧ (f x).exitTo = none) ∧ exec (.laneL2Exit dt n eq) s = done
      (let x := modLane n f (promoteFront n (s.begin dt)); if v = 0 && x.awake then ownerTrain n x else x) := by
    refine ⟨fun x => { maskLane x with pst := v, exitTo := none, eqEff := eqSetting (promoteFront n (s.begin dt)) n eq }, fun _ => ⟨rfl, rfl⟩, ?_⟩
    show execLaneL2Exit dt n eq s = _
    unfold execLaneL2Exit
    dsimp only
    rw [show (lane (s.begin dt) n).exitTo = some v from h]
  have lanes : lane (let x := modLane n f (promoteFront n (s.begin dt)); if v = 0 && x.awake then ownerTrain n x else x) n =
      f (lane (promoteFront n (s.begin dt)) n) := by
    dsimp only
    split
    · rw [lane_congr (ownerTrain_lanes ..), lane_modLane_self]
    · rw [lane_modLane_self]
  refine exec_ends runs ?_
  rw [ended_lane, lanes]
  exact hf _

end

/-- Settles O27: each detector as the lane records it, and the port that uses the lane does not touch the detectors. -/
theorem laneDetectors : Obligations.LaneDetectors := fun dt _ _ =>
  ⟨fun hd h => signal_lost hd h dt, fun hd => lock_lost hd dt, fun h => signal_returns h dt, fun hd => sync_comes hd dt,
    fun hd => sync_goes hd dt, fun _ heth hpst hbad htold hdue => eth_lane_down heth hpst hbad htold hdue,
    fun hon hl hs => checker_locks hon hl hs dt, fun errs hl => checker_unlocks hl dt errs, fun _ eq h => power_state_reached h dt eq⟩

end Sys2Proof.Machine
end

section
/-! PRESTART_RUN while a link is still in training (R264). -/
namespace Sys2Proof.Machine
set_option maxRecDepth 10000

theorem tabGet_map {α β : Type} (g : α → β) (t : Tab α) (k : Nat) (d : α) :
    tabGet (t.map (fun e => (e.1, g e.2))) k (g d) = g (tabGet t k d) := by
  induction t with
  | nil => rfl
  | cons e r ih =>
    show (if e.1 = k then g e.2 else tabGet (r.map fun e => (e.1, g e.2)) k (g d)) = g (if e.1 = k then e.2 else tabGet r k d)
    rw [ih, apply_ite g]

/-- The requests of a pre-start sweep given up. -/
def unasked (q : Port) : Port := { q with reqs := q.reqs.filter (fun r => r.use != 2 && r.use != 3) }

/-- A port that is enabled and neither trained, refused nor failed keeps the diagnostics from starting. -/
theorem restartPrestart_waits {q : Fin 64} {s : State} (hdev : s.dev = .armed) (hen : s.pn 5 q 1 = 1) (hready : (s.port q).st ≠ .ready)
    (hrefused : (s.port q).st ≠ .refused) (hfail : (s.port q).failedOnce = false) : (restartPrestart s).spu.prestart = 0 := by
  generalize hx : ({ s with
    spu := { s.spu with prestart := 0, sweeps := [] }
    plk := { s.plk with port := s.plk.port.map (fun e => (e.1, unasked e.2)) } } : State) = x
  have port : x.port q = unasked (s.port q) := by
    subst hx
    exact tabGet_map unasked s.plk.port q {}
  have dev : x.dev = .armed := by subst hx; exact hdev
  have none : x.spu.prestart = 0 := by subst hx; rfl
  have waits : portsSettled x = false := by
    unfold portsSettled
    rw [List.all_eq_false]
    refine ⟨q, List.mem_filter.2 ⟨List.mem_range.2 q.isLt, decide_eq_true ?_⟩, ?_⟩
    · subst hx
      exact hen
    · rw [port]
      simp [unasked, hready, hrefused, hfail]
  have unfolded : restartPrestart s = maybePrestart 0 x := by
    subst hx
    rfl
  rw [unfolded]
  unfold maybePrestart
  rw [if_pos none, waits, if_neg Bool.false_ne_true, ite_self]
  exact none

theorem prestartRun_waits {p : Fin 8} {q : Fin 64} {s : State} (h : FieldGranted p .token s) (hpair : s.pairEn = false) (hdev : s.dev = .armed)
    (hen : s.pn 5 q 1 = 1) (hready : (s.port q).st ≠ .ready) (hrefused : (s.port q).st ≠ .refused) (hfail : (s.port q).failedOnce = false)
    (dt : Nat) : ∃ t, exec (.prestartRun dt p) s = .next t ∧ t.spu.prestart = 0 := by
  have keep := (takeMsg_talks p 0x0302 (s.begin dt)).keep
  have armed : (takeMsg p 0x0302 (s.begin dt)).dev = .armed := keep.dev.trans hdev
  have port : (takeMsg p 0x0302 (s.begin dt)).port q = s.port q := by
    unfold State.port
    rw [keep.plk]
    rfl
  have runs : exec (.prestartRun dt p) s = done (accepted p (restartPrestart (takeMsg p 0x0302 (s.begin dt)))) := by
    refine congrArg done ((opCmd_alone (h.begin dt) hpair (by decide) _ (if_pos armed)).trans ?_)
    exact congrArg (accepted p) (if_pos armed)
  refine exec_ends runs ?_
  show (ended _).spu.prestart = 0
  unfold ended
  rw [settle_spu_prestart, watch_spu, transmit_spu, (accepted_talks ..).keep.spu]
  refine restartPrestart_waits armed ((pn_congr keep.par ..).trans hen) ?_ ?_ ?_ <;> rw [port] <;> assumption

/-- An armed device with two links: the satellite of port 63 has a channel to sweep, and port 62 is still in training. -/
def halfTrained : State :=
  { Tests.setF 3 0x23F 1 2 (Tests.setF 5 62 1 1 (Tests.setF 5 63 1 1 (Tests.up .armed))) with
    plk := { (Tests.up .armed).plk with port := tabPut (Tests.up .armed).plk.port 63 { (State.reset.port 63) with
      st := .ready, sats := [{ hop := 0, verMax := 33, verMin := 32, first := 3, chans := 1 }], positions := 8 } } }

theorem halfTrained_granted : FieldGranted (1 : Fin 8) .token halfTrained := Tests.fieldGranted_of (by decide)
theorem halfTrained_alone : halfTrained.pairEn = false := by decide

/-- The one satellite of the trained port. -/
def trainedSat : Sat := { hop := 0, verMax := 33, verMin := 32, first := 3, chans := 1 }

theorem halfTrained_sweeps : halfTrained.pn 5 (63 : Fin 64) 1 = 1 ∧ (halfTrained.port (63 : Fin 64)).st = .ready ∧
    halfTrained.pn 4 0x400 0x10 = 1 ∧ modeOf halfTrained (4 * (63 : Fin 64) + (trainedSat.first + 0)) ≠ 0 := by decide
theorem halfTrained_sat : (halfTrained.port (63 : Fin 64)).sats.find? (fun x => x.hop == trainedSat.hop) = some trainedSat := rfl

theorem halfTrained_trains : halfTrained.pn 5 (62 : Fin 64) 1 = 1 ∧ (halfTrained.port (62 : Fin 64)).st ≠ .ready ∧
    (halfTrained.port (62 : Fin 64)).st ≠ .refused ∧ (halfTrained.port (62 : Fin 64)).failedOnce = false := by decide

/-- Refutes O16: PRESTART_RUN starts no sweep of a satellite while another enabled port is still in training (R264). -/
theorem not_tokenFieldsAct : ¬ Obligations.TokenFieldsAct := by
  intro h
  obtain ⟨-, starts, -⟩ := h 0 1 halfTrained
  obtain ⟨t, runs, -, swept⟩ := starts halfTrained_granted halfTrained_alone rfl
  obtain ⟨hen, hready, hrefused, hfail⟩ := halfTrained_trains
  obtain ⟨u, runs', waits⟩ := prestartRun_waits halfTrained_granted halfTrained_alone rfl hen hready hrefused hfail 0
  obtain rfl : t = u := by
    rw [runs] at runs'
    injection runs'
  obtain ⟨hen, hready, hload, hmode⟩ := halfTrained_sweeps
  obtain ⟨started, -⟩ := swept 63 trainedSat 0 hen hready hload halfTrained_sat (by decide) hmode
  exact absurd (started.symm.trans waits) (by decide)

end Sys2Proof.Machine
end

section
/-! The commands of a SAFETY partition, and ROLE_SWAP (R350, R364, R367, R379). -/
namespace Sys2Proof.Machine

/-! Whether the device is a pair member is read from a field of its own. -/

/-- A field whose default is not derived from another is read as before, when another field is written. -/
theorem wire_setPar_of_literal {id k : Nat} (hrow : ∀ r, rowOf id = some r → r.dflt ∉ [.dep 12, .dep 13, .dep 51, .dep 114, .dep 2])
    (h : id ≠ k) (v : Wire) (s : State) : (s.setPar k v).wire id = s.wire id := by
  unfold State.wire
  rw [show (s.setPar k v).par = tabPut s.par k v from rfl, tabGet?_tabPut_of_ne s.par v h]
  cases hr : rowOf id with
  | none => rfl
  | some r => simp only [dfltWire_congr (hrow r hr) (tabPut s.par k v) s.par]

theorem pairEn_row {r : Row} (h : rowOf (mkId 10 0 1) = some r) : r.dflt ∉ [.dep 12, .dep 13, .dep 51, .dep 114, .dep 2] := by
  have all : ∀ r ∈ rowsOf 10, r.dflt ∉ [.dep 12, .dep 13, .dep 51, .dep 114, .dep 2] := by decide
  unfold rowOf at h
  split at h
  · exact all r (List.mem_of_find?_eq_some h)
  · cases h

theorem pairEn_setPar {k : Nat} (h : mkId 10 0 1 ≠ k) (v : Wire) (s : State) : (s.setPar k v).pairEn = s.pairEn := by
  unfold State.pairEn State.pn
  rw [wire_setPar_of_literal (fun _ => pairEn_row) h]

theorem pairEn_promoteWhere {f : Pend → Bool} (hf : ∀ e, f e = true → mkId 10 0 1 ≠ e.id) (s : State) : (promoteWhere f s).pairEn = s.pairEn :=
  List.foldlRecOn (motive := fun (x : State) => x.pairEn = s.pairEn) (s.pend.filter f) _ rfl fun _ hx e he =>
    (pairEn_setPar (hf e (List.mem_filter.1 he).2) e.val _).trans hx

theorem promoteWhere_pend (f : Pend → Bool) (s : State) : (promoteWhere f s).pend = s.pend.filter (fun e => !f e) :=
  List.foldlRecOn (motive := fun (x : State) => x.pend = s.pend.filter (fun e => !f e)) (s.pend.filter f) _ rfl fun _ hx _ _ => hx

/-! Frames over the pair lanes. -/

theorem foldl_emit_out {α : Type} (g : α → Out) (l : List α) (s : State) : (l.foldl (fun s x => s.emit (g x)) s).out = s.out ++ l.map g := by
  induction l generalizing s with
  | nil => simp
  | cons x r ih =>
    show (r.foldl _ (s.emit (g x))).out = _
    rw [ih, State.emit, List.map_cons, List.append_assoc]
    rfl

/-- A frame for the partner is handed over on every pair lane that is up. -/
theorem sendPair_emits {l : Fin 2} {s : State} (h : (vget s.rdn.lane l {}).up = true) (f : PeerFrame) :
    ∃ n, Out.peer (8 + l) n f ∈ (sendPair f s).out := by
  refine ⟨(nextSeq 8 f s).1, ?_⟩
  unfold sendPair
  dsimp only
  rw [foldl_emit_out (fun l => Out.peer (8 + l) (nextSeq 8 f s).1 f)]
  exact List.mem_append_right _ (List.mem_map.2 ⟨l, List.mem_filter.2 ⟨List.mem_range.2 l.isLt, h⟩, rfl⟩)

theorem accepted_out {p : Nat} {o : Out} {x : State} (h : o ∈ x.out) : o ∈ (ended (accepted p x)).out :=
  mem_ended ((accepted_talks p x).keep.out o h)

/-! What an accepted field leaves for the end of the command. -/

section
variable {p : Fin 8} {right : Right} {s : State}

theorem Sends.accepted (h : FieldGranted p right s) {dt : Nat} {x : State} (hx : Sends (takeMsg p 0x0302 (s.begin dt)) x) :
    TickAnswered dt p s (ended (accepted p x)) := by
  obtain ⟨a, b, c, d, o, rfl⟩ := hx
  exact accepted_answered h rfl (takeMsg_talks p 0x0302 (s.begin dt)).keep.alm (pairEn_congr (takeMsg_talks p 0x0302 (s.begin dt)).keep.par)

theorem modSfi_accepted (h : FieldGranted p right s) (dt : Nat) (f : Sfi → Sfi) :
    TickAnswered dt p s (ended (accepted p (modSfi f (takeMsg p 0x0302 (s.begin dt))))) :=
  accepted_answered h rfl (takeMsg_talks p 0x0302 (s.begin dt)).keep.alm (pairEn_congr (takeMsg_talks p 0x0302 (s.begin dt)).keep.par)

/-- A field that is its own command and waits for no tick instant acts at once. -/
theorem opCmd_at_once (h : FieldGranted p right s) {id : Nat} (hid : atInstant id = false) (hm : mirrored id = false) (val : Nat) {o : Op}
    (hc : o.check (takeMsg p 0x0302 s) = none) : opCmd p right id val o s = accepted p (o.act (takeMsg p 0x0302 s)) := by
  rw [opCmd_body h id val o hc]
  unfold runOp
  rw [hid, hm, Bool.and_false, Bool.or_false, if_neg Bool.false_ne_true]

end

theorem takeMsg_sfi (p op dt : Nat) (s : State) : (takeMsg p op (s.begin dt)).sfi = s.sfi := (takeMsg_talks p op (s.begin dt)).keep.sfi
theorem takeMsg_rdn (p op dt : Nat) (s : State) : (takeMsg p op (s.begin dt)).rdn = s.rdn := (takeMsg_talks p op (s.begin dt)).keep.rdn
theorem takeMsg_dev (p op dt : Nat) (s : State) : (takeMsg p op (s.begin dt)).dev = s.dev := (takeMsg_talks p op (s.begin dt)).keep.dev
theorem takeMsg_par (p op dt : Nat) (s : State) : (takeMsg p op (s.begin dt)).par = s.par := (takeMsg_talks p op (s.begin dt)).keep.par
theorem takeMsg_pend (p op dt : Nat) (s : State) : (takeMsg p op (s.begin dt)).pend = s.pend := (takeMsg_talks p op (s.begin dt)).keep.pend

theorem crcPending_congr {s t : State} (hpar : t.par = s.par) (hpend : t.pend = s.pend) : crcPending t = crcPending s := by
  have view : pendView t = pendView s := by
    funext id
    unfold pendView State.wire
    rw [hpar, hpend]
  unfold crcPending
  rw [view]

theorem safetyPend_congr {s t : State} (hpend : t.pend = s.pend) : safetyPend t = safetyPend s := by
  unfold safetyPend
  rw [hpend]

theorem ended_detected (x : State) : (ended x).sfi.detected = x.sfi.detected := rfl
theorem ended_resetReq (x : State) : (ended x).sfi.resetReq = x.sfi.resetReq := rfl
theorem ended_setConfirmed (x : State) : (ended x).sfi.setConfirmed = x.sfi.setConfirmed := rfl
theorem ended_crcEff (x : State) : (ended x).sfi.crcEff = x.sfi.crcEff := rfl
theorem ended_swapAt (x : State) : (ended x).rdn.swapAt = x.rdn.swapAt := rfl

/-! The commands. -/

section
variable {p : Fin 8} {s : State}

theorem sgbDemand_waits (h : FieldGranted p (.priv pvSafety) s) (dt : Nat) : ∃ t, exec (.sgbDemand dt p) s = .next t ∧
    TickAnswered dt p s t ∧ t.sfi.detected = s.sfi.detected ++ [(0x6005, 0, [])] := by
  have runs : exec (.sgbDemand dt p) s = done (accepted p (detect 0x6005 0 [] (takeMsg p 0x0302 (s.begin dt)))) :=
    congrArg done (opCmd_at_once (h.begin dt) (by decide) (by decide) _ rfl)
  refine exec_ends runs ⟨modSfi_accepted h dt _, ?_⟩
  rw [ended_detected, (accepted_talks ..).keep.sfi]
  show (takeMsg p 0x0302 (s.begin dt)).sfi.detected ++ _ = _
  rw [takeMsg_sfi]

theorem sgbReset_asked (h : FieldGranted p (.priv pvSafety) s) (hen : sf s 0x300 3 = 1) (dt : Nat) : ∃ t, exec (.sgbReset dt p) s = .next t ∧
    TickAnswered dt p s t ∧ t.sfi.resetReq = true := by
  have free : opSgbReset.check (takeMsg p 0x0302 (s.begin dt)) = none := if_pos ((pn_congr (takeMsg_par ..) ..).trans hen)
  refine exec_ends (congrArg done (opCmd_at_once (h.begin dt) (by decide) (by decide) _ free)) ⟨modSfi_accepted h dt _, ?_⟩
  rw [ended_resetReq, (accepted_talks ..).keep.sfi]
  rfl

theorem sgbReset_refused (h : FieldGranted p (.priv pvSafety) s) (hen : sf s 0x300 3 ≠ 1) (dt : Nat) : ∃ t, exec (.sgbReset dt p) s = .next t ∧
    t.sfi.resetReq = s.sfi.resetReq ∧ Answered p 0x0302 0x23 [BitVec.ofNat 32 (devCode s.dev), 0] s t := by
  have wrong : opSgbReset.check (takeMsg p 0x0302 (s.begin dt)) = some (0x23, devCode s.dev, 0) := by
    refine (if_neg (by rw [sf, pn_congr (takeMsg_par ..)]; exact hen)).trans ?_
    rw [wrongState, takeMsg_dev]
    rfl
  refine exec_ends (congrArg done (opCmd_refused (h.begin dt) _ _ wrong)) ⟨?_, refuse_field h ..⟩
  rw [ended_resetReq, (refuse_talks ..).keep.sfi, takeMsg_sfi]

theorem not_pairEn_of_safety (e : Pend) (h : (idUnit e.id == 11) = true) : mkId 10 0 1 ≠ e.id := by
  intro same
  rw [← same] at h
  exact absurd h (by decide)

theorem confirmSet_eq (s : State) : ∃ f : Sfi → Sfi, confirmSet s = modSfi f (promoteWhere (fun e => idUnit e.id == 11) s) ∧
    ∀ x, (f x).setConfirmed = true ∧ (f x).crcEff = crcPending s :=
  ⟨fun x => { x with
      setConfirmed := true, confirmedCrc := some (crcPending s), crcEff := crcPending s
      emberLeft := if x.ember then x.emberLeft else emberT (promoteWhere (fun e => idUnit e.id == 11) s) }, rfl, fun _ => ⟨rfl, rfl⟩⟩

theorem opSafeConfirm_check (h : safetyPend s = true) (p op dt : Nat) (v : Word) : (opSafeConfirm v).check (takeMsg p op (s.begin dt)) =
    if v.toNat = crcPending s then none else some (0x46, crcPending s, v.toNat) := by
  show (if !safetyPend (takeMsg p op (s.begin dt)) then _ else if v.toNat = crcPending (takeMsg p op (s.begin dt)) then _ else _) = _
  rw [safetyPend_congr (takeMsg_pend ..), crcPending_congr (takeMsg_par ..) (takeMsg_pend ..), h]
  rfl

theorem safeConfirm_confirms (h : FieldGranted p (.priv pvSafety) s) (hpend : safetyPend s = true) {v : Word} (hv : v.toNat = crcPending s)
    (dt : Nat) : ∃ t, exec (.safeConfirm dt p v) s = .next t ∧ TickAnswered dt p s t ∧ t.sfi.setConfirmed = true ∧ t.sfi.crcEff = v.toNat ∧
      safetyPend t = false := by
  obtain ⟨f, hf, confirms⟩ := confirmSet_eq (takeMsg p 0x0302 (s.begin dt))
  have runs : exec (.safeConfirm dt p v) s = done (accepted p (modSfi f (promoteWhere (fun e => idUnit e.id == 11)
      (takeMsg p 0x0302 (s.begin dt))))) := by
    rw [← hf]
    exact congrArg done (opCmd_at_once (h.begin dt) (by decide) (by decide) _ ((opSafeConfirm_check hpend ..).trans (if_pos hv)))
  have outs := promoteWhere_outs (fun e => idUnit e.id == 11) (takeMsg p 0x0302 (s.begin dt))
  refine exec_ends runs ⟨?_, ?_, ?_, ?_⟩
  · have pair : (promoteWhere (fun e => idUnit e.id == 11) (takeMsg p 0x0302 (s.begin dt))).pairEn = s.pairEn :=
      (pairEn_promoteWhere not_pairEn_of_safety _).trans (pairEn_congr (takeMsg_par ..))
    obtain ⟨o, q, r, g, e⟩ := outs
    rw [e] at pair ⊢
    exact accepted_answered h rfl (takeMsg_talks p 0x0302 (s.begin dt)).keep.alm pair
  · rw [ended_setConfirmed, (accepted_talks ..).keep.sfi]
    exact (confirms _).1
  · rw [ended_crcEff, (accepted_talks ..).keep.sfi, hv]
    exact (confirms _).2.trans (crcPending_congr (takeMsg_par ..) (takeMsg_pend ..))
  · have left : (ended (accepted p (modSfi f (promoteWhere (fun e => idUnit e.id == 11) (takeMsg p 0x0302 (s.begin dt)))))).pend =
        s.pend.filter (fun e => !(idUnit e.id == 11)) := by
      rw [ended_pend, (accepted_talks ..).keep.pend]
      exact (promoteWhere_pend ..).trans (by rw [takeMsg_pend])
    rw [safetyPend, left, List.any_filter, List.any_eq_false]
    intro e _
    simp

theorem safeConfirm_refused (h : FieldGranted p (.priv pvSafety) s) (hpend : safetyPend s = true) {v : Word} (hv : v.toNat ≠ crcPending s)
    (dt : Nat) : ∃ t, exec (.safeConfirm dt p v) s = .next t ∧ t.pend = s.pend ∧ t.par = s.par ∧ t.sfi.setConfirmed = s.sfi.setConfirmed ∧
      Answered p 0x0302 0x46 [BitVec.ofNat 32 (crcPending s), v] s t := by
  have wrong := (opSafeConfirm_check hpend p 0x0302 dt v).trans (if_neg hv)
  have keep := ((takeMsg_talks p 0x0302 (s.begin dt)).trans (refuse_talks p 0x46 (crcPending s) v.toNat _)).keep
  have answered := refuse_field h dt 0x46 (crcPending s) v.toNat
  rw [BitVec.ofNat_toNat, BitVec.setWidth_eq] at answered
  refine exec_ends (congrArg done (opCmd_refused (h.begin dt) _ _ wrong)) ⟨?_, ?_, ?_, answered⟩
  · exact (ended_pend _).trans keep.pend
  · exact (ended_par _).trans keep.par
  · rw [ended_setConfirmed, keep.sfi]
    rfl

theorem roleSwap_forwarded (h : FieldGranted p (.priv pvService) s) (h0 : s.rdn.role ≠ 0) (h1 : s.rdn.role ≠ 1)
    (hlane : (vget s.rdn.lane 0 {}).up = true) (dt : Nat) : ∃ t n, exec (.roleSwap dt p) s = .next t ∧ TickAnswered dt p s t ∧
      .peer 8 n (.role 3 0) ∈ t.out := by
  have free : opRoleSwap.check (takeMsg p 0x0302 (s.begin dt)) = none := by
    show (if decide ((takeMsg p 0x0302 (s.begin dt)).rdn.role = 1) || decide ((takeMsg p 0x0302 (s.begin dt)).rdn.role = 0) then _ else none) = _
    rw [takeMsg_rdn, decide_eq_false h0, decide_eq_false h1]
    rfl
  have act : opRoleSwap.act (takeMsg p 0x0302 (s.begin dt)) = sendPair (.role 3 0) (takeMsg p 0x0302 (s.begin dt)) :=
    if_neg (by rw [takeMsg_rdn]; exact h1)
  have lane : (vget (takeMsg p 0x0302 (s.begin dt)).rdn.lane (0 : Fin 2) {}).up = true := by
    rw [takeMsg_rdn]
    exact hlane
  obtain ⟨n, sent⟩ := sendPair_emits lane (.role 3 0)
  have runs : exec (.roleSwap dt p) s = done (accepted p (sendPair (.role 3 0) (takeMsg p 0x0302 (s.begin dt)))) := by
    rw [← act]
    exact congrArg done (opCmd_at_once (h.begin dt) (by decide) (by decide) _ free)
  obtain ⟨t, ht, answered, out⟩ := exec_ends (P := fun t => TickAnswered dt p s t ∧ .peer 8 n (.role 3 0) ∈ t.out) runs
    ⟨(sendPair_sends ..).accepted h, accepted_out sent⟩
  exact ⟨t, n, ht, answered, out⟩

theorem swapRefusal_takeMsg (p op dt : Nat) (h : swapRefusal s = none) : swapRefusal (takeMsg p op (s.begin dt)) = none := by
  have launch : (takeMsg p op (s.begin dt)).alm.launch = s.alm.launch := by
    rw [(takeMsg_talks p op (s.begin dt)).keep.alm]
    exact State.begin_alm_launch ..
  have token : (takeMsg p op (s.begin dt)).hst.token = s.hst.token := rfl
  have same : swapRefusal (takeMsg p op (s.begin dt)) = swapRefusal s := by
    unfold swapRefusal bothLanesUp pairLanesUp wrongState
    rw [takeMsg_rdn, takeMsg_dev, launch, token, pn_congr (takeMsg_par ..)]
  exact same.trans h

theorem roleSwap_chosen (h : FieldGranted p (.priv pvService) s) (h1 : s.rdn.role = 1) (hfree : swapRefusal s = none) (dt : Nat) :
    ∃ t, exec (.roleSwap dt p) s = .next t ∧ TickAnswered dt p s t ∧ t.rdn.swapAt = some ((s.begin dt).tickNow + 2) := by
  have active : (takeMsg p 0x0302 (s.begin dt)).rdn.role = 1 := by rw [takeMsg_rdn]; exact h1
  have free : opRoleSwap.check (takeMsg p 0x0302 (s.begin dt)) = none := by
    show (if decide ((takeMsg p 0x0302 (s.begin dt)).rdn.role = 1) || decide ((takeMsg p 0x0302 (s.begin dt)).rdn.role = 0) then _ else none) = _
    rw [active]
    exact swapRefusal_takeMsg p 0x0302 dt hfree
  have runs : exec (.roleSwap dt p) s = done (accepted p (chooseSwap (takeMsg p 0x0302 (s.begin dt)))) :=
    congrArg done ((opCmd_at_once (h.begin dt) (by decide) (by decide) _ free).trans (congrArg (accepted p) (if_pos active)))
  have tick : (takeMsg p 0x0302 (s.begin dt)).tickNow = (s.begin dt).tickNow := by
    unfold State.tickNow
    rw [(takeMsg_talks p 0x0302 (s.begin dt)).keep.alm]
    rfl
  obtain ⟨a, b, c, d, o, e⟩ := sendPair_sends (.role 2 ((takeMsg p 0x0302 (s.begin dt)).tickNow + 2))
    (modRdn (fun r => { r with swapAt := some ((takeMsg p 0x0302 (s.begin dt)).tickNow + 2) }) (takeMsg p 0x0302 (s.begin dt)))
  refine exec_ends runs ?_
  unfold chooseSwap
  dsimp only
  rw [e]
  refine ⟨accepted_answered h rfl (takeMsg_talks p 0x0302 (s.begin dt)).keep.alm (pairEn_congr (takeMsg_par p 0x0302 dt s)), ?_⟩
  rw [ended_swapAt, (accepted_talks ..).keep.rdn, ← tick]
  rfl

end

/-- Settles O23: each command is accepted or refused at once, and what it accepts waits for the island or the partner. -/
theorem safetyAndSwapCommands : Obligations.SafetyAndSwapCommands := fun dt _ _ =>
  ⟨fun h => ⟨sgbDemand_waits h dt, fun hen => sgbReset_asked h hen dt, fun hen => sgbReset_refused h hen dt,
      fun _ hpend hv => safeConfirm_confirms h hpend hv dt, fun _ hpend hv => safeConfirm_refused h hpend hv dt⟩,
    fun h _ h0 h1 hlane => roleSwap_forwarded h h0 h1 hlane dt, fun h h1 hfree => roleSwap_chosen h h1 hfree dt⟩

end Sys2Proof.Machine
end

section
/-! The servo of a timebase, TOD_WRITE, the end of a slew, holdover and RE_ACQUIRE (R33, R37, R43 to R49). -/
namespace Sys2Proof.Machine

/-! Timebases. -/

theorem tb_congr {s t : State} (h : t.alm = s.alm) (k : Nat) : t.tb k = s.tb k := by
  unfold State.tb
  rw [h]
theorem Rules.tb {s t : State} (h : Rules s t) (k : Nat) : t.tb k = s.tb k := tb_congr h.keep.alm k
theorem tb_modTb_self (k : Fin 4) (f : Tb → Tb) (s : State) : (s.modTb k f).tb k = f (s.tb k) := vget_vmod_self ..
theorem tb_modTb_ne {k j : Nat} (h : j ≠ k) (f : Tb → Tb) (s : State) : (s.modTb k f).tb j = s.tb j :=
  (vget_vmod ..).trans (if_neg fun e => h e.1.symm)
theorem ended_tb (x : State) (k : Nat) : (ended x).tb k = x.tb k := rfl

/-- What time does not move is read at the start of a command as before it. -/
theorem begin_tb {α : Type} (g : Tb → α) (hg : ∀ n b, g (b.advance n) = g b) (dt : Nat) (s : State) (k : Nat) :
    g ((s.begin dt).tb k) = g (s.tb k) := by
  have read (v : Vector Tb 4) (n : Nat) : g (vget (v.map (Tb.advance n)) k {}) = g (vget v k {}) := by
    unfold vget
    split
    · next h => simpa using hg n v[k]
    · rfl
  unfold State.tb
  show g (vget (s.alm.advance dt).tb k {}) = _
  unfold Alm.advance
  split
  · rfl
  · split
    · exact read ..
    · exact read ..

theorem tbSrc_congr {s t : State} (hpar : t.par = s.par) (hrole : t.rdn.role = s.rdn.role) (k : Nat) : tbSrc t k = tbSrc s k := by
  unfold tbSrc
  rw [hrole, pairEn_congr hpar, pn_congr hpar]

theorem pt_congr {s t : State} (h : t.par = s.par) (u i f : Nat) : t.pt u i f = s.pt u i f := by
  unfold State.pt State.wire
  rw [h]

theorem satInt_satInt (x : Int) : satInt (satInt x) = satInt x := by
  unfold satInt clampI
  split
  · decide
  · split
    · decide
    · rfl

theorem natAbs_satInt_le (x : Int) : (satInt x).natAbs ≤ x.natAbs := by
  unfold satInt clampI
  split
  · omega
  · split <;> omega

/-! What a source update leaves alone: every other timebase, the newest stamp, the fields and the host unit. -/

structure Steers (k : Nat) (s t : State) : Prop where
  tb : ∀ j, j ≠ k → t.tb j = s.tb j
  stamp : t.alm.stamp = s.alm.stamp
  par : t.par = s.par
  mute : ∀ p, (t.hp p).mute = (s.hp p).mute
  out : s.out ⊆ t.out

theorem Steers.refl (k : Nat) (s : State) : Steers k s s := ⟨fun _ _ => rfl, rfl, rfl, fun _ => rfl, List.Subset.refl _⟩
theorem Steers.trans {k : Nat} {s t u : State} (h : Steers k s t) (g : Steers k t u) : Steers k s u :=
  ⟨fun j hj => (g.tb j hj).trans (h.tb j hj), g.stamp.trans h.stamp, g.par.trans h.par, fun p => (g.mute p).trans (h.mute p),
    List.Subset.trans h.out g.out⟩
theorem Steers.ite {k : Nat} {c : Prop} [Decidable c] {s a b : State} (h : Steers k s a) (g : Steers k s b) : Steers k s (if c then a else b) := by
  split <;> assumption
theorem Rules.steers {s t : State} (h : Rules s t) (k : Nat) : Steers k s t := ⟨fun j _ => h.tb j, congrArg Alm.stamp h.keep.alm, h.keep.par, h.keep.hp,
  fun o => h.keep.out o⟩
theorem modTb_steers (k : Nat) (f : Tb → Tb) (s : State) : Steers k s (s.modTb k f) := ⟨fun _ hj => tb_modTb_ne hj f s, rfl, rfl, fun _ => rfl,
  List.Subset.refl _⟩

theorem offsetFaults_rules (k : Nat) (o : Int) (s : State) : Rules s (offsetFaults k o s) := by
  unfold offsetFaults
  dsimp only
  exact (Rules.ite (runRaise_rules _ _ _ _ _ _ _ _ (by decide)) (.refl s)).trans
    (.ite ((condHolds_rules ..).trans (condHolds_rules ..)) ((condFails_rules ..).trans (condFails_rules ..)))

theorem leap_steers (k : Nat) (mean : Int) (s : State) : Steers k s (leap k mean s) := by
  have logged (x : State) (a b : Nat) : Rules x ((List.range 4).foldl (fun s j => logEvent 6 kTb j (secOf (s.nowK j)) (nsOf (s.nowK j)) s)
      (logEvent 5 kTb k a b x)) :=
    (logEvent_logs ..).reacts.rules.trans (.foldl _ (fun _ _ => (logEvent_logs ..).reacts.rules) _ _)
  unfold leap
  dsimp only
  split
  · exact .refl ..
  · exact (modTb_steers ..).trans ((logged ..).steers k)

theorem acquire_steers (k : Nat) (o : Int) (s : State) : Steers k s (acquire k o s) := by
  have noted (f : Tb → Tb) : Steers k s (offsetFaults k o (s.modTb k f)) := (modTb_steers ..).trans ((offsetFaults_rules ..).steers k)
  exact .ite ((noted _).trans (leap_steers ..)) (noted _)

/-- What an update of offset o does in the state of the timebase that it leads to, the one before it being st0. -/
def updateIn (k : Nat) (o : Int) (st0 st : TbSt) (s : State) : State :=
  match st with
  | .acquiring => acquire k o s
  | .steering =>
    if mayLeap s k then
      if (s.tb k).meas.isEmpty && decide ((o.natAbs : Int) ≤ lockThresh s k) then
        offsetFaults k o (s.modTb k (fun b => { servo (s.ptn 6 k 4) (slewMax s k) o b with st := .locked, leapt := true, below := 16 }))
      else acquire k o (s.modTb k (fun b => { b with slew := 0, slewLeft := 0 }.mark))
    else offsetFaults k o (s.modTb k (fun b => servo (s.ptn 6 k 4) (slewMax s k) o { b with meas := [] }))
  | _ =>
    let s := s.modTb k (fun b => servo (s.ptn 6 k 4) (slewMax s k) o b)
    let below := if decide ((o.natAbs : Int) < lockThresh s k) then min ((s.tb k).below + 1) 16 else 0
    offsetFaults k o (s.modTb k (fun b => { b with
      below := below
      st := if below = 16 then .locked else .slewing
      slewAt := if below < 16 && st0 == .locked then b.acc else b.slewAt }))

/-- The conditions of an update that has come, which hold again. -/
def updateCame (k : Nat) (s : State) : State := condHolds 0x4112 kTb k (condHolds 0x4110 kTb k s)

theorem updateCame_rules (k : Nat) (s : State) : Rules s (updateCame k s) := (condHolds_rules ..).trans (condHolds_rules ..)

/-- The state of a timebase as an update finds it and as it goes on with it. -/
def stateFor (k : Nat) (s : State) : TbSt :=
  match (s.tb k).st with
  | .holdover => if (s.tb k).holdSteer then TbSt.steering else .slewing
  | .free => if (s.tb k).leapt then .slewing else if mayLeap s k then .acquiring else .steering
  | .acquiring => if mayLeap s k then .acquiring else .steering
  | x => x

/-- A timebase as it enters the state of an update. -/
def enters (st0 st : TbSt) (b : Tb) : Tb :=
  { b with
    st := st, fresh := b.fresh || freshEntry st0 st
    slewAt := if st != st0 && (st == .slewing || st == .steering) then b.acc else b.slewAt }

theorem sourceUpdate_eq {k : Nat} {s : State} (h : tbSrc s k ≠ 0) (o : Int) : sourceUpdate k o s =
    updateIn k o ((updateCame k s).tb k).st (stateFor k (updateCame k s))
      ((updateCame k s).modTb k (enters ((updateCame k s).tb k).st (stateFor k (updateCame k s)))) := if_neg h

theorem updateIn_steers (k : Nat) (o : Int) (st0 st : TbSt) (s : State) : Steers k s (updateIn k o st0 st s) := by
  have serves (x : State) (f : Tb → Tb) : Steers k x (offsetFaults k o (x.modTb k f)) := (modTb_steers ..).trans ((offsetFaults_rules ..).steers k)
  cases st
  case acquiring => exact acquire_steers ..
  case steering => exact .ite (.ite (serves ..) ((modTb_steers ..).trans (acquire_steers ..))) (serves ..)
  all_goals exact (modTb_steers ..).trans (serves ..)

theorem sourceUpdate_steers (k : Nat) (o : Int) (s : State) : Steers k s (sourceUpdate k o s) := by
  by_cases h : tbSrc s k = 0
  · rw [show sourceUpdate k o s = s from if_pos h]
    exact .refl ..
  · rw [sourceUpdate_eq h]
    exact (((updateCame_rules k s).steers k).trans (modTb_steers ..)).trans (updateIn_steers ..)

/-! A timebase that follows its source (R46). -/

/-- The servo takes the offset as measured, adds it negated in whole, and does not step. -/
structure Served (thresh : Int) (o : Int) (b c : Tb) : Prop where
  off : c.off = o
  left : c.slewLeft = o.natAbs * 2 ^ 40
  acc : c.acc = b.acc
  leaps : c.leaps = b.leaps
  slews : thresh ≤ o.natAbs → c.st = .slewing

theorem natAbs_fine (o : Int) : (fine o).natAbs = o.natAbs * 2 ^ 40 := by
  unfold fine
  rw [Int.natAbs_mul]
  rfl

theorem updateIn_serves {k : Fin 4} {s : State} {st : TbSt} (hst : st = .locked ∨ st = .slewing) (o : Int) (st0 : TbSt) :
    Served (lockThresh s k) o (s.tb k) ((updateIn k o st0 st s).tb k) := by
  have served : updateIn k o st0 st s = updateIn k o st0 .locked s := by rcases hst with rfl | rfl <;> rfl
  rw [served]
  generalize hy : s.modTb k (fun b => servo (s.ptn 6 k 4) (slewMax s k) o b) = y
  have tb : y.tb k = servo (s.ptn 6 k 4) (slewMax s k) o (s.tb k) := by
    rw [← hy, tb_modTb_self]
  have thresh : lockThresh y k = lockThresh s k := by
    rw [← hy]
    rfl
  generalize hbelow : (if decide ((o.natAbs : Int) < lockThresh y k) then min ((y.tb k).below + 1) 16 else 0) = below
  have last : (updateIn k o st0 .locked s).tb k = { y.tb k with
      below := below
      st := if below = 16 then .locked else .slewing
      slewAt := if below < 16 && st0 == .locked then (y.tb k).acc else (y.tb k).slewAt } := by
    unfold updateIn
    dsimp only
    rw [hy, hbelow, (offsetFaults_rules ..).tb, tb_modTb_self]
  rw [last]
  refine ⟨?_, ?_, ?_, ?_, fun h => ?_⟩
  · exact congrArg Tb.off tb
  · exact (congrArg Tb.slewLeft tb).trans (natAbs_fine o)
  · exact (congrArg Tb.acc tb).trans (Eq.refl (s.tb k).acc)
  · exact (congrArg Tb.leaps tb).trans (Eq.refl (s.tb k).leaps)
  · have zero : below = 0 := by
      rw [← hbelow, thresh]
      exact if_neg (by simpa using h)
    simp [zero]

theorem sourceUpdate_serves {k : Fin 4} {s : State} (hsrc : tbSrc s k ≠ 0) (hst : (s.tb k).st = .locked ∨ (s.tb k).st = .slewing) (o : Int) :
    Served (lockThresh s k) o (s.tb k) ((sourceUpdate k o s).tb k) := by
  have came : (updateCame k s).tb k = s.tb k := (updateCame_rules k s).tb k
  have stays : stateFor k (updateCame k s) = (s.tb k).st := by
    unfold stateFor
    rw [came]
    rcases hst with h | h <;> rw [h]
  have served := updateIn_serves (k := k) (s := (updateCame k s).modTb k (enters (s.tb k).st (s.tb k).st)) hst o (s.tb k).st
  rw [sourceUpdate_eq hsrc, stays, came]
  rw [tb_modTb_self, came] at served
  have thresh : lockThresh ((updateCame k s).modTb k (enters (s.tb k).st (s.tb k).st)) k = lockThresh s k :=
    pt_congr (updateCame_rules k s).keep.par ..
  exact ⟨served.off, served.left, served.acc, served.leaps, fun h => served.slews (thresh ▸ h)⟩

theorem updateThrough_serves {k : Fin 4} {s : State} (hsrc : tbSrc s k ≠ 0) (hst : (s.tb k).st = .locked ∨ (s.tb k).st = .slewing) (o : Int) :
    Served (lockThresh s k) (satInt o) (s.tb k) ((updateThrough k o s).tb k) := by
  have own := sourceUpdate_serves hsrc hst (satInt o)
  unfold updateThrough
  dsimp only
  split
  · next h =>
    have other : k.val ≠ 0 := by simpa using (Bool.and_eq_true_iff.1 h).1
    rwa [(sourceUpdate_steers ..).tb k other]
  · exact own

theorem updateThrough_keeps (k : Nat) (o : Int) (s : State) :
    (updateThrough k o s).alm.stamp = s.alm.stamp ∧ (∀ p, ((updateThrough k o s).hp p).mute = (s.hp p).mute) ∧ s.out ⊆ (updateThrough k o s).out := by
  have first := sourceUpdate_steers k (satInt o) s
  unfold updateThrough
  dsimp only
  split
  · have second := sourceUpdate_steers 0 (satInt (o - ((s.nowK k : Int) - s.now))) (sourceUpdate k (satInt o) s)
    exact ⟨second.stamp.trans first.stamp, fun p => (second.mute p).trans (first.mute p), List.Subset.trans first.out second.out⟩
  · exact ⟨first.stamp, first.mute, first.out⟩

theorem usePpsTod_tb (before s : State) : (usePpsTod before s).alm.tb = s.alm.tb := by
  unfold usePpsTod
  split <;> rfl

/-- What an update is measured against: the state as the command began, with its time stamped for a pulse input (R445). -/
def measuredAt (k : Nat) (s : State) : State :=
  if (tbSrc s k = 6 || tbSrc s k = 7) && s.pn 13 0x200 (tbSrc s k - 5) = 3 then stampNow s else s

theorem measuredAt_keeps (k : Nat) (s : State) : (measuredAt k s).alm.tb = s.alm.tb ∧ (measuredAt k s).par = s.par ∧
    (measuredAt k s).rdn = s.rdn ∧ (measuredAt k s).clk = s.clk := by
  unfold measuredAt
  split <;> exact ⟨rfl, rfl, rfl, rfl⟩

section
variable {s : State} {k : Fin 4}

theorem update_serves (hrun : s.alm.running = true) (hfree : k.val = 0 → tbSrc s 0 = 0 ∨ 4 ≤ tbSrc s 0) (hsrc : tbSrc s k ≠ 0)
    (hst : (s.tb k).st = .locked ∨ (s.tb k).st = .slewing)
    (href : tbSrc s k = 6 ∨ tbSrc s k = 7 → s.pn 13 0x200 (tbSrc s k - 5) ≠ 0 ∧ vget s.clk.refOk (tbSrc s k - 6) false = true)
    (dt : Nat) (o : Int) : ∃ t, exec (.timebaseSourceUpdate dt k o) s = .next t ∧ (t.tb k).off = satInt o ∧
      (t.tb k).slewLeft = (satInt o).natAbs * 2 ^ 40 ∧ (t.tb k).acc = ((s.begin dt).tb k).acc ∧ (t.tb k).leaps = (s.tb k).leaps ∧
      (lockThresh s k ≤ (satInt o).natAbs → (t.tb k).st = .slewing) := by
  obtain ⟨tbs, par, rdn, clk⟩ := measuredAt_keeps k (s.begin dt)
  generalize hx : measuredAt k (s.begin dt) = x at tbs par rdn clk
  have tb (j : Nat) : x.tb j = (s.begin dt).tb j := by unfold State.tb; rw [tbs]
  have src (j : Nat) : tbSrc x j = tbSrc s j := tbSrc_congr par (congrArg Rdn.role rdn) j
  have follows : ¬(!(s.begin dt).alm.running || (decide (k.val = 0) && (decide (1 ≤ tbSrc s k) && decide (tbSrc s k ≤ 3)))) = true := by
    rw [State.begin_alm_running, hrun]
    simp only [Bool.not_true, Bool.false_or, Bool.and_eq_true, decide_eq_true_eq, not_and]
    intro h0 h1
    have := hfree h0
    rw [h0] at h1 ⊢
    omega
  have good : ¬((decide (tbSrc s k = 6) || decide (tbSrc s k = 7)) &&
      !(x.pn 13 0x200 (tbSrc s k - 5) != 0 && vget x.clk.refOk (tbSrc s k - 6) false)) = true := by
    rw [pn_congr par, clk]
    intro h
    obtain ⟨h1, h2⟩ := Bool.and_eq_true_iff.1 h
    obtain ⟨on, ok⟩ := href (by simpa using h1)
    have on' : (s.begin dt).pn 13 0x200 (tbSrc s k - 5) ≠ 0 := on
    have ok' : vget (s.begin dt).clk.refOk (tbSrc s k - 6) false = true := ok
    rw [bne_iff_ne.2 on', ok'] at h2
    exact absurd h2 (by decide)
  have runs : exec (.timebaseSourceUpdate dt k o) s = done (usePpsTod x (updateThrough k o x)) := by
    refine (if_neg follows).trans ?_
    rw [← hx] at good ⊢
    exact if_neg good
  have served := updateThrough_serves (k := k) (s := x) (by rw [src]; exact hsrc)
    (by rw [tb, begin_tb Tb.st (fun _ _ => rfl)]; exact hst) o
  rw [tb, show lockThresh x k = lockThresh s k from pt_congr par ..] at served
  refine exec_ends runs ?_
  have same : (ended (usePpsTod x (updateThrough k o x))).tb k = (updateThrough k o x).tb k := by
    rw [ended_tb]
    exact congrArg (fun v => vget v k {}) (usePpsTod_tb ..)
  rw [same]
  exact ⟨served.off, served.left, served.acc, served.leaps.trans (begin_tb Tb.leaps (fun _ _ => rfl) dt s k), served.slews⟩

theorem no_measurement (hsrc : tbSrc s k = 6 ∨ tbSrc s k = 7) (hbad : vget s.clk.refOk (tbSrc s k - 6) false = false) (dt : Nat) (o : Int) :
    ∃ t, exec (.timebaseSourceUpdate dt k o) s = .next t ∧ t.alm.tb = (s.begin dt).alm.tb := by
  obtain ⟨tbs, par, rdn, clk⟩ := measuredAt_keeps k (s.begin dt)
  have lost : ((decide (tbSrc s k = 6) || decide (tbSrc s k = 7)) &&
      !((measuredAt k (s.begin dt)).pn 13 0x200 (tbSrc s k - 5) != 0 && vget (measuredAt k (s.begin dt)).clk.refOk (tbSrc s k - 6) false)) = true := by
    rw [clk, show vget (s.begin dt).clk.refOk (tbSrc s k - 6) false = false from hbad]
    simpa using hsrc
  obtain ⟨x, runs, e⟩ : ∃ x, exec (.timebaseSourceUpdate dt k o) s = done x ∧ x.alm.tb = (s.begin dt).alm.tb := by
    by_cases hstop : (!(s.begin dt).alm.running || (decide (k.val = 0) && (decide (1 ≤ tbSrc s k) && decide (tbSrc s k ≤ 3)))) = true
    · exact ⟨_, if_pos hstop, rfl⟩
    · exact ⟨_, (if_neg hstop).trans (if_pos lost), tbs⟩
  refine exec_ends runs ?_
  rw [ended_alm, e]

end

/-! TOD_WRITE (R33). -/

theorem ofNat32_toNat (k : Fin 4) : (BitVec.ofNat 32 k.val).toNat = k.val := by
  rw [BitVec.toNat_ofNat]
  omega

theorem todWrite_accepted {p : Fin 8} {s : State} (h : Granted p 0x0403 0x300 (.priv pvTime) true s) (dt : Nat) (k : Fin 4) {sec : Wire}
    {ns frac : Word} (hns : ns.toNat ≤ 999999999) (hfrac : frac.toNat ≤ 65535) (hsrc : tbSrc s k = 9)
    (hst : (s.tb k).st = .locked ∨ (s.tb k).st = .slewing) :
    ∃ t, exec (.todWrite dt p (BitVec.ofNat 32 k) sec ns frac) s = .next t ∧ Answered p 0x0403 0 [] s t ∧
      (t.tb k).off = clampI (-(2 ^ 63)) (2 ^ 63 - 1)
        (((s.begin dt).nowK k : Int) - (sec.toNat * 65536000000000 + ns.toNat * 65536 + frac.toNat : Nat)) := by
  generalize hT : (sec.toNat * 65536000000000 + ns.toNat * 65536 + frac.toNat : Nat) = T
  have time : timeQ sec.toNat ns.toNat frac.toNat = some T := by
    unfold timeQ
    rw [if_neg (by simp; omega), ← hT]
    rfl
  have keep := (takeMsg_talks p 0x0403 (s.begin dt)).keep
  have src : tbSrc (takeMsg p 0x0403 (s.begin dt)) k = 9 := (tbSrc_congr (takeMsg_par ..) (congrArg Rdn.role (takeMsg_rdn ..)) k).trans hsrc
  have tb : (takeMsg p 0x0403 (s.begin dt)).tb k = (s.begin dt).tb k := tb_congr keep.alm k
  have runs : exec (.todWrite dt p (BitVec.ofNat 32 k) sec ns frac) s = done (ok p [] (updateThrough k
      (satInt (((s.begin dt).nowK k : Int) - T)) (takeMsg p 0x0403 (s.begin dt)))) := by
    refine congrArg done ((hostCmd_body (h.begin dt) _).trans ?_)
    rw [time, ofNat32_toNat]
    dsimp only
    rw [if_neg (by omega), if_neg (not_not_intro src)]
    unfold State.nowK
    rw [tb]
    rfl
  have served := updateThrough_serves (k := k) (s := takeMsg p 0x0403 (s.begin dt)) (by rw [src]; decide)
    (by rw [tb, begin_tb Tb.st (fun _ _ => rfl)]; exact hst) (satInt (((s.begin dt).nowK k : Int) - T))
  refine exec_ends runs ⟨(ok_answered (h.begin dt).1 ((updateThrough_keeps ..).2.1 p) _).ended, ?_⟩
  rw [ended_tb, tb_congr (ok_talks ..).keep.alm, served.off, satInt_satInt]
  rfl

theorem todWrite_bad_time {p : Fin 8} {s : State} (h : Granted p 0x0403 0x300 (.priv pvTime) true s) (dt : Nat) (tb : Word) (sec : Wire)
    {ns : Word} (frac : Word) (hns : 999999999 < ns.toNat) :
    ∃ t, exec (.todWrite dt p tb sec ns frac) s = .next t ∧ Answered p 0x0403 0x24 [0, 0] s t ∧ t.alm = (s.begin dt).alm := by
  have time : timeQ sec.toNat ns.toNat frac.toNat = none := if_pos (by simp [hns])
  have runs : exec (.todWrite dt p tb sec ns frac) s = done (refuse p 0x24 0 0 (takeMsg p 0x0403 (s.begin dt))) := by
    refine congrArg done ((hostCmd_body (h.begin dt) _).trans ?_)
    rw [time]
    rfl
  refine exec_ends runs ⟨(refuse_answered (h.begin dt).1 rfl 0x24 0 0).ended, ?_⟩
  rw [ended_alm, ((takeMsg_talks ..).trans (refuse_talks ..)).keep.alm]

theorem slew_ends {s : State} {k : Fin 4} {dt : Nat} (hleft : ((s.begin dt).tb k).slewLeft = 0) (hslew : (s.tb k).slew ≠ 0) :
    ∃ t, exec (.slewPartEnd dt k) s = .next t ∧ (t.tb k).slew = 0 ∧ (t.tb k).rateE = (s.tb k).rateE ∧
      ∀ j : Fin 4, j ≠ k → t.tb j = (s.begin dt).tb j := by
  have slewing : ((s.begin dt).tb k).slew ≠ 0 := by
    rw [begin_tb Tb.slew (fun _ _ => rfl)]
    exact hslew
  have runs : exec (.slewPartEnd dt k) s = done ((s.begin dt).modTb k (fun b => { b with slew := 0 }.mark)) := if_pos (by simp [hleft, slewing])
  refine exec_ends runs ?_
  rw [ended_tb, tb_modTb_self]
  exact ⟨rfl, begin_tb Tb.rateE (fun _ _ => rfl) dt s k, fun j hj => tb_modTb_ne (fun e => hj (Fin.ext e)) ..⟩

/-- Settles O29: the servo's update record by record, and the other timebases untouched. -/
theorem timebaseServo : Obligations.TimebaseServo := fun dt _ _ hrun =>
  ⟨fun o hfree hsrc hst href => update_serves hrun hfree hsrc hst href dt o, fun o hsrc hbad => no_measurement hsrc hbad dt o,
    fun _ _ _ _ h hns hfrac hsrc hst => todWrite_accepted h dt _ hns hfrac hsrc hst, fun _ tb sec _ frac h hns => todWrite_bad_time h dt tb sec frac hns,
    fun hleft hslew => slew_ends hleft hslew⟩

end Sys2Proof.Machine
end

section
/-! Holdover, a lasting offset and RE_ACQUIRE (R43, R47, R49). -/
namespace Sys2Proof.Machine

section
variable {s : State}

theorem holdover_stays {k : Fin 4} {dt : Nat} (h : updatesMissing (s.begin dt) k = false) :
    ∃ t, exec (.holdoverEntry dt k) s = .next t ∧ t.alm = (s.begin dt).alm :=
  exec_ends (x := s.begin dt) (if_pos (by rw [h]; simp)) (ended_alm _)

/-- A timebase whose updates are missing: its entry is read from its state. -/
theorem holdover_waits {k : Fin 4} {dt : Nat} (hrun : s.alm.running = true) (h : updatesMissing (s.begin dt) k = true) :
    ¬(!(s.begin dt).alm.running || !updatesMissing (s.begin dt) k) = true := by
  rw [State.begin_alm_running, hrun, h]
  decide

/-- A timebase in HOLDOVER from its reading on, at the rate it held. -/
def heldOver (rate : Int) (b : Tb) : Tb :=
  { b with
    st := .holdover, holdSteer := b.st == TbSt.steering, holdAt := b.acc, below := 0, meas := [], fresh := true
    rateE := rate, slew := 0, slewLeft := 0, slewSum := 0 }.mark

theorem holdover_enters {k : Fin 4} {dt : Nat} (hrun : s.alm.running = true) (h : updatesMissing (s.begin dt) k = true)
    (hst : (s.tb k).st = .locked ∨ (s.tb k).st = .slewing ∨ (s.tb k).st = .steering) :
    ∃ t, exec (.holdoverEntry dt k) s = .next t ∧ (t.tb k).st = .holdover ∧ (t.tb k).slew = 0 ∧
      (t.tb k).acc = ((s.begin dt).tb k).acc ∧ isHeld 0x4110 6 k t = true := by
  have st : ((s.begin dt).tb k).st = (s.tb k).st := begin_tb Tb.st (fun _ _ => rfl) dt s k
  have runs : exec (.holdoverEntry dt k) s = done (raiseDev 0x4110 kTb k ((s.begin dt).modTb k
      (heldOver (clampI (-ppm200) ppm200 (((s.begin dt).tb k).heldRate ((s.begin dt).ptn 6 k 6)))))) := by
    refine (if_neg (holdover_waits hrun h)).trans ?_
    rcases hst with hst | hst | hst <;> rw [st, hst] <;> rfl
  refine exec_ends runs ?_
  rw [ended_tb, ended_isHeld, (raiseDev_rules _ _ _ _ (by decide)).tb, tb_modTb_self]
  exact ⟨rfl, rfl, rfl, raiseDev_held _ _ _ _ (by decide)⟩

/-- A timebase that gave up its acquisition. -/
def acquisitionLost (b : Tb) : Tb := { b with st := .free, rateE := 0, slew := 0, slewLeft := 0, meas := [] }.mark

theorem acquisition_lost {k : Fin 4} {dt : Nat} (hrun : s.alm.running = true) (h : updatesMissing (s.begin dt) k = true)
    (hst : (s.tb k).st = .acquiring) : ∃ t, exec (.holdoverEntry dt k) s = .next t ∧ (t.tb k).st = .free ∧ isHeld 0x4110 6 k t = true := by
  have st : ((s.begin dt).tb k).st = .acquiring := (begin_tb Tb.st (fun _ _ => rfl) dt s k).trans hst
  have runs : exec (.holdoverEntry dt k) s = done (raiseDev 0x4110 kTb k ((s.begin dt).modTb k acquisitionLost)) := by
    refine (if_neg (holdover_waits hrun h)).trans ?_
    rw [st]
    rfl
  refine exec_ends runs ?_
  rw [ended_tb, ended_isHeld, (raiseDev_rules _ _ _ _ (by decide)).tb, tb_modTb_self]
  exact ⟨rfl, raiseDev_held _ _ _ _ (by decide)⟩

theorem holdover_long {k : Fin 4} {dt : Nat} (hst : (s.tb k).st = .holdover)
    (hmax : s.pn 6 k 7 * 65536000000000 * 2 ^ 40 ≤ ((s.begin dt).tb k).acc - (s.tb k).holdAt) :
    ∃ t, exec (.tbHoldoverLong dt k) s = .next t ∧ isHeld 0x4112 6 k t = true := by
  have st : ((s.begin dt).tb k).st = .holdover := (begin_tb Tb.st (fun _ _ => rfl) dt s k).trans hst
  have since : ((s.begin dt).tb k).holdAt = (s.tb k).holdAt := begin_tb Tb.holdAt (fun _ _ => rfl) dt s k
  rw [← since] at hmax
  have long : (decide (((s.begin dt).tb k).st = .holdover) &&
      decide ((s.begin dt).pn 6 k 7 * secQn * 2 ^ 40 ≤ ((s.begin dt).tb k).acc - ((s.begin dt).tb k).holdAt)) = true :=
    Bool.and_eq_true_iff.2 ⟨decide_eq_true st, decide_eq_true hmax⟩
  refine exec_ends (if_pos long) ?_
  rw [ended_isHeld]
  exact raiseDev_held _ _ _ _ (by decide)

theorem offset_lasts {dt : Nat} (hst : (s.tb 0).st = .slewing ∨ (s.tb 0).st = .steering)
    (hlong : 10 * s.ptn 6 0 4 * 2 ^ 40 ≤ ((s.begin dt).tb 0).acc - (s.tb 0).slewAt) (hoff : offAlarm s 0 < ((s.tb 0).off.natAbs : Int)) :
    ∃ t, exec (.tbSlewLag dt) s = .next t ∧ isHeld 0x4113 6 0 t = true := by
  have st : ((s.begin dt).tb 0).st = (s.tb 0).st := begin_tb Tb.st (fun _ _ => rfl) dt s 0
  have since : ((s.begin dt).tb 0).slewAt = (s.tb 0).slewAt := begin_tb Tb.slewAt (fun _ _ => rfl) dt s 0
  have off : ((s.begin dt).tb 0).off = (s.tb 0).off := begin_tb Tb.off (fun _ _ => rfl) dt s 0
  rw [← since] at hlong
  rw [← off] at hoff
  have lasts : ((decide (((s.begin dt).tb 0).st = .slewing) || decide (((s.begin dt).tb 0).st = .steering)) &&
      decide (10 * (s.begin dt).ptn 6 0 4 * 2 ^ 40 ≤ ((s.begin dt).tb 0).acc - ((s.begin dt).tb 0).slewAt) &&
      decide (offAlarm (s.begin dt) 0 < (((s.begin dt).tb 0).off.natAbs : Int))) = true := by
    refine Bool.and_eq_true_iff.2 ⟨Bool.and_eq_true_iff.2 ⟨?_, decide_eq_true hlong⟩, decide_eq_true hoff⟩
    rw [st]
    rcases hst with h | h <;> rw [h] <;> rfl
  refine exec_ends (if_pos lasts) ?_
  rw [ended_isHeld]
  exact raiseDev_held _ _ _ _ (by decide)

theorem ofNat32_eq_zero (k : Fin 4) : BitVec.ofNat 32 k.val = 0#32 ↔ k.val = 0 := by
  rw [← BitVec.toNat_inj, ofNat32_toNat]
  rfl

theorem reAcquire_steers (k : Nat) (s : State) : Steers k s (reAcquire k s) := modTb_steers ..

theorem reAcquire_answers {p : Fin 8} (h : Granted p 0x0402 0x300 (.priv pvTime) true s) (dt : Nat) (k : Fin 4) :
    ∃ t, exec (.reAcquire dt p (BitVec.ofNat 32 k)) s = .next t ∧
      if k.val = 0 ∧ s.dev.live = true then t.alm = (s.begin dt).alm ∧ Answered p 0x0402 0x23 [BitVec.ofNat 32 (devCode s.dev), 0] s t
      else (t.tb k).st = .acquiring ∧ (t.tb k).leapt = false ∧ Answered p 0x0402 0 [] s t := by
  have keep := (takeMsg_talks p 0x0402 (s.begin dt)).keep
  by_cases hc : k.val = 0 ∧ s.dev.live = true
  · have runs : exec (.reAcquire dt p (BitVec.ofNat 32 k)) s = done (refuse p 0x23 (devCode s.dev) 0 (takeMsg p 0x0402 (s.begin dt))) := by
      refine congrArg done ((hostCmd_body (h.begin dt) _).trans ?_)
      rw [ofNat32_toNat, if_neg (by omega), keep.dev]
      exact if_pos (by simpa [ofNat32_eq_zero] using hc)
    simp only [if_pos hc]
    refine exec_ends runs ⟨?_, (refuse_answered (h.begin dt).1 rfl ..).ended⟩
    rw [ended_alm, (refuse_talks ..).keep.alm, keep.alm]
  · have runs : exec (.reAcquire dt p (BitVec.ofNat 32 k)) s = done (ok p [] (reAcquire k (takeMsg p 0x0402 (s.begin dt)))) := by
      refine congrArg done ((hostCmd_body (h.begin dt) _).trans ?_)
      rw [ofNat32_toNat, if_neg (by omega), keep.dev]
      exact if_neg (by simpa [ofNat32_eq_zero] using hc)
    have acquires : ((reAcquire k (takeMsg p 0x0402 (s.begin dt))).tb k).st = .acquiring ∧
        ((reAcquire k (takeMsg p 0x0402 (s.begin dt))).tb k).leapt = false := by
      rw [reAcquire, tb_modTb_self]
      exact ⟨rfl, rfl⟩
    have answered : Answered p 0x0402 0 [] (s.begin dt) (ok p [] (reAcquire k (takeMsg p 0x0402 (s.begin dt)))) :=
      ok_answered (h.begin dt).1 ((reAcquire_steers ..).mute p) _
    simp only [if_neg hc]
    refine exec_ends runs ?_
    rw [ended_tb, tb_congr (ok_talks ..).keep.alm]
    exact ⟨acquires.1, acquires.2, answered.ended⟩

end

/-- Settles O30: HOLDOVER is entered as the updates are missing, and each fault is held as its limit is passed. -/
theorem holdoverAndReAcquire : Obligations.HoldoverAndReAcquire := fun dt _ =>
  ⟨fun _ h => holdover_stays h, fun _ hrun h hst => holdover_enters hrun h hst, fun _ hrun h hst => acquisition_lost hrun h hst,
    fun _ hst hmax => holdover_long hst hmax, fun hst hlong hoff => offset_lasts hst hlong hoff, fun _ k h => reAcquire_answers h dt k⟩

end Sys2Proof.Machine
end

section
/-! The pins of the Almanac (R57, R60 to R63). -/
namespace Sys2Proof.Machine

/-! PPS_OUT. -/

section
variable {s : State}

theorem ppsRuns_begin (dt : Nat) : ppsRuns (s.begin dt) = ppsRuns s := by
  unfold ppsRuns
  dsimp only
  rw [show (s.begin dt).pn 6 4 0x40 = s.pn 6 4 0x40 from rfl, show (s.begin dt).pn 6 4 0x43 = s.pn 6 4 0x43 from rfl,
    begin_tb Tb.st (fun _ _ => rfl), begin_tb Tb.leapt (fun _ _ => rfl), State.begin_alm_running, State.begin_sys]

/-- PPS_OUT risen in a state whose pending fields of the pulse are in force. -/
def ppsRisen (n : State) : State :=
  { n with alm := { n.alm with ppsOut := true, ppsEnd := (n.pn 6 4 0x40, n.nowK (n.pn 6 4 0x40) + n.ptn 6 4 0x41) } }

theorem pps_rises (hrun : ppsRuns s = true) (hlow : s.alm.ppsOut = false) {dt : Nat}
    (hstrike : (ppsNext (s.begin dt)).strikes ((ppsNext (s.begin dt)).pn 6 4 0x40) secQn ((ppsNext (s.begin dt)).pt 6 4 0x42) = true) :
    ∃ t, exec (.ppsOutEdge dt true) s = .next t ∧ t.alm.ppsOut = true ∧ .pin 0 true (s.begin dt).now ∈ t.out ∧
      t.alm.tb = (s.begin dt).alm.tb ∧ t.alm.ppsEnd = ((ppsNext (s.begin dt)).pn 6 4 0x40,
        (s.begin dt).nowK ((ppsNext (s.begin dt)).pn 6 4 0x40) + (ppsNext (s.begin dt)).ptn 6 4 0x41) := by
  have runs : exec (.ppsOutEdge dt true) s = done ((ppsRisen (ppsNext (s.begin dt))).emit (.pin 0 true (s.begin dt).now)) :=
    if_pos (by rw [ppsRuns_begin, hrun, State.begin_alm_ppsOut, hlow, hstrike]; rfl)
  refine exec_ends runs ?_
  rw [ended_alm]
  exact ⟨rfl, mem_ended (List.mem_append_right _ (List.mem_singleton_self _)), rfl, rfl⟩

theorem pps_waits {dt : Nat}
    (hstrike : (ppsNext (s.begin dt)).strikes ((ppsNext (s.begin dt)).pn 6 4 0x40) secQn ((ppsNext (s.begin dt)).pt 6 4 0x42) = false) :
    ∃ t, exec (.ppsOutEdge dt true) s = .next t ∧ t.alm = (s.begin dt).alm :=
  exec_ends (x := s.begin dt) (if_neg (by rw [hstrike, Bool.and_false]; exact Bool.false_ne_true)) (ended_alm _)

theorem pps_falls (hhigh : s.alm.ppsOut = true) {dt : Nat} (hdue : s.alm.ppsEnd.2 ≤ (s.begin dt).nowK s.alm.ppsEnd.1) :
    ∃ t, exec (.ppsOutEdge dt false) s = .next t ∧ t.alm.ppsOut = false ∧ .pin 0 false (s.begin dt).now ∈ t.out ∧
      t.alm.tb = (s.begin dt).alm.tb ∧ t.par = s.par := by
  have past : ((s.begin dt).alm.ppsOut && decide ((s.begin dt).alm.ppsEnd.2 ≤ (s.begin dt).nowK (s.begin dt).alm.ppsEnd.1)) = true := by
    rw [State.begin_alm_ppsOut, State.begin_alm_ppsEnd, hhigh]
    exact decide_eq_true hdue
  have runs : exec (.ppsOutEdge dt false) s = done (({ s.begin dt with alm := { (s.begin dt).alm with ppsOut := false } } : State).emit
      (.pin 0 false (s.begin dt).now)) := if_pos past
  refine exec_ends runs ?_
  rw [ended_alm, ended_par]
  exact ⟨rfl, mem_ended (List.mem_append_right _ (List.mem_singleton_self _)), rfl, rfl⟩

/-! Edges that are stamped (R57). -/

theorem usePpsTod_stamp (before s : State) : (usePpsTod before s).alm.stamp = s.alm.stamp := by
  unfold usePpsTod
  split <;> rfl

theorem ppsIn_stamps (hrun : s.alm.running = true) (dt : Nat) (rise : Bool) :
    ∃ t, exec (.ppsInEdge dt rise) s = .next t ∧ t.alm.stamp = planes (s.begin dt) := by
  have updated (f : State → State → Nat → Int) (l : List Nat) (s0 s1 : State) : (l.foldl (fun s k =>
      if tbSrc s k = 5 then updateThrough k (f s0 s k) s else s) s1).alm.stamp = s1.alm.stamp := by
    refine List.foldlRecOn (motive := fun t : State => t.alm.stamp = s1.alm.stamp) l _ rfl fun t ht k _ => ?_
    split
    · exact (updateThrough_keeps ..).1.trans ht
    · exact ht
  obtain ⟨x, runs, e⟩ : ∃ x, exec (.ppsInEdge dt rise) s = done x ∧ x.alm.stamp = planes (s.begin dt) := by
    have starts : ¬(!(s.begin dt).alm.running) = true := by
      rw [State.begin_alm_running, hrun]
      decide
    cases rise
    · exact ⟨_, if_neg starts, rfl⟩
    · exact ⟨_, if_neg starts, (usePpsTod_stamp ..).trans
        (updated (fun s0 _ k => ((List.range 4).map (ppsOffset s0)).getD k 0) (List.range 4) (stampNow (s.begin dt)) (stampNow (s.begin dt)))⟩
  refine exec_ends runs ?_
  rw [ended_alm, e]

end

/-! TRIG_IN: the streams that name the pin. -/

/-- What firing leaves: the device state, the fields, the time, the log and the running streams, which only gain records. -/
structure Fired (s t : State) : Prop where
  dev : t.dev = s.dev
  par : t.par = s.par
  alm : t.alm = s.alm
  spu : t.spu = s.spu
  run : ∀ i : Fin 4, (rst s i).run = 1 → (rst t i).run = 1
  fires : ∀ i : Fin 4, (rst s i).fires ⊆ (rst t i).fires

theorem Fired.refl (s : State) : Fired s s := ⟨rfl, rfl, rfl, rfl, fun _ => id, fun _ => List.Subset.refl _⟩
theorem Fired.trans {s t u : State} (h : Fired s t) (k : Fired t u) : Fired s u :=
  ⟨k.dev.trans h.dev, k.par.trans h.par, k.alm.trans h.alm, k.spu.trans h.spu, fun i r => k.run i (h.run i r), fun i => List.Subset.trans (h.fires i) (k.fires i)⟩
theorem Fired.foldl {α : Type} (f : State → α → State) (l : List α) (hf : ∀ s, ∀ x ∈ l, Fired s (f s x)) (s : State) : Fired s (l.foldl f s) :=
  List.foldlRecOn (motive := Fired s) l f (.refl s) fun t ht x hx => ht.trans (hf t x hx)

/-- One of the firings of a fold stays to its end. -/
theorem Fired.reaches {α : Type} {f : State → α → State} {l : List α} (hf : ∀ s, ∀ x ∈ l, Fired s (f s x)) {P : State → Prop}
    (hP : ∀ {s t : State}, Fired s t → P s → P t) {x : α} (hx : x ∈ l) {s : State} (h : ∀ t, Fired s t → P (f t x)) : P (l.foldl f s) := by
  induction l generalizing s with
  | nil => cases hx
  | cons y r ih =>
    have rest : ∀ s, ∀ z ∈ r, Fired s (f s z) := fun s z hz => hf s z (List.mem_cons_of_mem _ hz)
    rcases List.mem_cons.1 hx with rfl | hx
    · exact hP (Fired.foldl f r rest _) (h s (.refl s))
    · exact ih rest hx fun t ht => h t ((hf s y List.mem_cons_self).trans ht)

theorem fired_run {f : Fire} {r : Rst} (h : r.run = 1) : (fired f r).run = 1 ∧ f ∈ (fired f r).fires := by
  unfold fired
  rw [if_neg (by omega), if_pos h]
  exact ⟨h, List.mem_append_right _ (List.mem_singleton_self _)⟩

theorem fires_fired (f : Fire) (r : Rst) : r.fires ⊆ (fired f r).fires := by
  unfold fired
  split
  · exact List.Subset.refl _
  · split
    · exact List.subset_append_left _ _
    · exact List.Subset.refl _

theorem Sends.spu {s t : State} : Sends s t → t.spu = s.spu := by
  rintro ⟨p, a, b, c, o, rfl⟩
  rfl

theorem fireStream_dev_spu (f : Fire) (i : Nat) (s : State) : (fireStream f i s).dev = s.dev ∧ (fireStream f i s).spu = s.spu := by
  unfold fireStream
  split
  · exact ⟨rfl, rfl⟩
  · dsimp only
    split
    · exact ⟨(originateBc_sends ..).dev, (originateBc_sends ..).spu⟩
    · exact ⟨rfl, rfl⟩

theorem fireStream_fired (f : Fire) (i : Fin 4) (s : State) : Fired s (fireStream f i s) := by
  have keep := (fireStream_reacts f i s).rules.keep
  have stays := fireStream_dev_spu f i s
  refine ⟨stays.1, keep.par, keep.alm, stays.2, fun j hj => ?_, fun j => ?_⟩ <;> rw [rst_fireStream]
  · split
    · exact (fired_run hj).1
    · exact hj
  · split
    · exact fires_fired ..
    · exact List.Subset.refl _

/-- The conditions of one stream, tried in turn. -/
def fireConds (kind : Nat) (hit : Nat → Nat → Bool) (time arg i : Nat) (s : State) : State :=
  (List.range 4).foldl (fun s c =>
    if trf s i c 0 = kind && hit i c then fireStream { src := kind, cond := c, time := time, arg := arg } i s else s) s

theorem fireKind_eq (kind : Nat) (hit : Nat → Nat → Bool) (time arg : Nat) (s : State) :
    fireKind kind hit time arg s = (List.range 4).foldl (fun s i => fireConds kind hit time arg i s) s := rfl

section
variable (kind : Nat) (hit : Nat → Nat → Bool) (time arg : Nat)

theorem fireCond_fired {i : Nat} (hi : i ∈ List.range 4) (s : State) (c : Nat) : Fired s
    (if trf s i c 0 = kind && hit i c then fireStream { src := kind, cond := c, time := time, arg := arg } i s else s) := by
  split
  · exact fireStream_fired _ ⟨i, List.mem_range.1 hi⟩ s
  · exact .refl s

theorem fireConds_fired {i : Nat} (hi : i ∈ List.range 4) (s : State) : Fired s (fireConds kind hit time arg i s) :=
  .foldl _ _ (fun s c _ => fireCond_fired kind hit time arg hi s c) s

theorem fireKind_fired (s : State) : Fired s (fireKind kind hit time arg s) := by
  rw [fireKind_eq]
  exact .foldl _ _ (fun s _ hi => fireConds_fired kind hit time arg hi s) s

/-- A running stream whose condition names what happened has its firing. -/
theorem fireKind_fires {s : State} {i c : Fin 4} (hkind : trf s i c 0 = kind) (hhit : hit i c = true) (hrun : (rst s i).run = 1) :
    { src := kind, cond := c, time := time, arg := arg } ∈ (rst (fireKind kind hit time arg s) i).fires := by
  have mem (j : Fin 4) : j.val ∈ List.range 4 := List.mem_range.2 j.isLt
  rw [fireKind_eq]
  refine Fired.reaches (P := fun t => { src := kind, cond := c, time := time, arg := arg } ∈ (rst t i).fires)
    (fun s _ hi => fireConds_fired kind hit time arg hi s) (fun h m => h.fires i m) (mem i) fun t ht => ?_
  refine Fired.reaches (P := fun t => { src := kind, cond := c, time := time, arg := arg } ∈ (rst t i).fires)
    (fun s c _ => fireCond_fired kind hit time arg (mem i) s c) (fun h m => h.fires i m) (mem c) fun u hu => ?_
  have still := ht.trans hu
  have cond : (decide (trf u i c 0 = kind) && hit i c) = true := by
    rw [trf, rf, pn_congr still.par, hhit, Bool.and_true]
    exact decide_eq_true hkind
  rw [if_pos cond, rst_fireStream, if_pos rfl]
  exact (fired_run (still.run i hrun)).2

end

theorem logEvent_logSeq (c k i a b : Nat) (s : State) : (logEvent c k i a b s).spu.logSeq = s.spu.logSeq + 1 := by
  have heard (r : LogRec) (x : State) : (setEventAll (holdRec r x)).spu = x.spu := by
    obtain ⟨h, o, e, -⟩ := (holdRec_hears r x).trans (setEventAll_hears _)
    rw [e]
  unfold logEvent logAt logRec
  rw [heard]

theorem trigIn_logged {s : State} (hrun : s.alm.running = true) (dt : Nat) (pin : Fin 4) (rise : Bool)
    (hrising : ¬(s.pn 6 4 0x46 / 4 ^ pin.val % 4 = 0 ∧ rise = false)) (hfalling : ¬(s.pn 6 4 0x46 / 4 ^ pin.val % 4 = 1 ∧ rise = true)) :
    ∃ t, exec (.trigInEdge dt pin rise) s = .next t ∧ t.alm.stamp = planes (s.begin dt) ∧ t.spu.logSeq = s.spu.logSeq + 1 ∧
      ∀ i c : Fin 4, trf s i c 0 = 5 → trf s i c 1 = pin → (rst s i).run = 1 →
        ∃ f ∈ (rst t i).fires, f.src = 5 ∧ f.cond = c ∧ f.time = (s.begin dt).now := by
  obtain ⟨x, a, b, d, e, hx⟩ : ∃ (x : State) (a b d e : Nat), x = { stampNow (s.begin dt) with free := e } ∧
      exec (.trigInEdge dt pin rise) s = done (fireKind 5 (fun i c => trf (logEvent a 0 pin b d x) i c 1 == pin)
        (logEvent a 0 pin b d x).now pin (logEvent a 0 pin b d x)) := by
    refine ⟨_, _, _, _, _, rfl, if_neg ?_⟩
    rw [State.begin_alm_running, hrun, show (s.begin dt).pn 6 4 0x46 = s.pn 6 4 0x46 from rfl]
    cases rise <;> simp_all
  obtain ⟨hx, runs⟩ := hx
  have logged := logEvent_logs a 0 pin b d x
  have alm : (logEvent a 0 pin b d x).alm = x.alm := logged.reacts.rules.keep.alm
  have par : (logEvent a 0 pin b d x).par = s.par := logged.reacts.rules.keep.par.trans (by rw [hx]; rfl)
  have now : (logEvent a 0 pin b d x).now = (s.begin dt).now := by
    unfold State.now State.nowK State.tb
    rw [alm, hx]
    rfl
  have stream (i : Fin 4) : rst (logEvent a 0 pin b d x) i = rst s i := (logged.clears.rst i).trans (by rw [hx]; rfl)
  have fires := fireKind_fired 5 (fun i c => trf (logEvent a 0 pin b d x) i c 1 == pin) (logEvent a 0 pin b d x).now pin (logEvent a 0 pin b d x)
  refine exec_ends runs ⟨?_, ?_, fun i c hsrc hpin hi => ?_⟩
  · rw [ended_alm, fires.alm, alm, hx]
    rfl
  · show (ended _).spu.logSeq = _
    unfold ended
    rw [settle_spu_logSeq, watch_spu, transmit_spu, fires.spu, logEvent_logSeq, hx]
    rfl
  · rw [ended_rst]
    refine ⟨_, fireKind_fires 5 _ _ _ (i := i) (c := c) ?_ ?_ ?_, rfl, rfl, now⟩
    · rwa [trf, rf, pn_congr par]
    · rw [trf, rf, pn_congr par]
      exact beq_iff_eq.2 hpin
    · rwa [stream]

/-! Pulses. -/

theorem pulse_ends {s : State} {pin : Fin 4} {k e : Nat} (hhigh : s.alm.trigOut.testBit pin = true)
    (hpulse : s.alm.pulses.find? (fun x => x.1 == pin.val) = some (pin.val, k, e)) {dt : Nat} (hdue : e ≤ (s.begin dt).nowK k) :
    ∃ t, exec (.pulseEnd dt pin) s = .next t ∧ t.alm.trigOut = s.alm.trigOut - 2 ^ pin.val ∧
      .pin (pin + 1) false (s.begin dt).now ∈ t.out := by
  have high : s.alm.trigOut / 2 ^ pin.val % 2 = 1 := by
    rw [Nat.testBit_eq_decide_div_mod_eq] at hhigh
    exact of_decide_eq_true hhigh
  have runs : exec (.pulseEnd dt pin) s = done (({ s.begin dt with
      alm := { (s.begin dt).alm with
        trigOut := (s.begin dt).alm.trigOut - 2 ^ pin.val
        pulses := (s.begin dt).alm.pulses.filter (fun x => x.1 != pin.val) } } : State).emit (.pin (pin + 1) false (s.begin dt).now)) := by
    show execPulseEnd dt pin s = _
    unfold execPulseEnd
    dsimp only
    rw [State.begin_alm_pulses, hpulse, State.begin_alm_trigOut]
    dsimp only
    rw [if_pos (by rw [decide_eq_true high, decide_eq_true hdue]; rfl)]
  refine exec_ends runs ?_
  rw [ended_alm]
  exact ⟨congrArg (· - 2 ^ pin.val) (State.begin_alm_trigOut dt s), mem_ended (List.mem_append_right _ (List.mem_singleton_self _))⟩

theorem pulse_lasts {s : State} {pin : Fin 4} {k e : Nat}
    (hpulse : s.alm.pulses.find? (fun x => x.1 == pin.val) = some (pin.val, k, e)) {dt : Nat} (hdue : (s.begin dt).nowK k < e) :
    ∃ t, exec (.pulseEnd dt pin) s = .next t ∧ t.alm = (s.begin dt).alm := by
  have runs : exec (.pulseEnd dt pin) s = done (s.begin dt) := by
    show execPulseEnd dt pin s = _
    unfold execPulseEnd
    dsimp only
    rw [State.begin_alm_pulses, hpulse]
    dsimp only
    rw [if_neg (by rw [decide_eq_false (Nat.not_le.2 hdue), Bool.and_false]; exact Bool.false_ne_true)]
  exact exec_ends runs (ended_alm _)

/-- Settles O31: each edge as its pin shows it, with its stamp where it has one. -/
theorem almanacPins : Obligations.AlmanacPins := fun dt _ =>
  ⟨fun hrun hlow => ⟨fun hstrike => pps_rises hrun hlow hstrike, fun hstrike => pps_waits hstrike⟩, fun hhigh hdue => pps_falls hhigh hdue,
    fun rise hrun => ppsIn_stamps hrun dt rise, fun pin rise hrun hrising hfalling => trigIn_logged hrun dt pin rise hrising hfalling,
    fun _ _ _ hhigh hpulse => ⟨fun hdue => pulse_ends hhigh hpulse hdue, fun hdue => pulse_lasts hpulse hdue⟩⟩

end Sys2Proof.Machine
end

section
/-! The launch table (R63, R65, Table 14-9). -/
namespace Sys2Proof.Machine

theorem ofNat32_toNat_fin7 (a : Fin 7) : (BitVec.ofNat 32 a.val).toNat = a.val := by
  rw [BitVec.toNat_ofNat]
  omega

theorem val_beq_three : ∀ a : Fin 7, (a.val == 3) = (a == 3) := by decide

/-- What the placing or cancelling of an entry sends leaves the launch table and the host unit. -/
theorem mirrorEntry_sends (i : Nat) (s : State) : Sends s (mirrorEntry i s) := by
  unfold mirrorEntry
  split
  · exact sendPair_sends ..
  · exact .refl s

theorem Sends.launch {s t : State} : Sends s t → t.alm.launch = s.alm.launch ∧ t.hst = s.hst := by
  rintro ⟨p, a, b, c, o, rfl⟩
  exact ⟨rfl, rfl⟩

section
variable {p : Fin 8} {s : State}

theorem takeMsg_alm (p op dt : Nat) (s : State) : (takeMsg p op (s.begin dt)).alm = (s.begin dt).alm := (takeMsg_talks p op (s.begin dt)).keep.alm

theorem launchRefusal_congr {s t : State} (h : t.alm = s.alm) (tb T a arg : Nat) : launchRefusal t tb T a arg = launchRefusal s tb T a arg := by
  unfold launchRefusal State.nowK
  rw [tb_congr h]

theorem freeEntry_congr {s t : State} (h : t.alm.launch = s.alm.launch) : freeEntry t = freeEntry s := by
  unfold freeEntry
  rw [h]

/-- LAUNCH_PLACE of a launch that is admitted, as the table stands. -/
theorem launchPlace_runs {tb : Word} {sec : Wire} {ns frac arg : Word} {a : Fin 7} {T : Nat}
    (h : Granted p 0x0404 0x400 (launchRight a) (tokenAction a || (a == 3 && !hasPriv s p pvSafety) || decide (5 ≤ a.val)) s)
    (htime : timeQ sec.toNat ns.toNat frac.toNat = some T) {dt : Nat} (hfree : launchRefusal (s.begin dt) tb.toNat T a arg.toNat = none) :
    exec (.launchPlace dt p tb sec ns frac (BitVec.ofNat 32 a) arg) s = done (match freeEntry s with
      | none => refuse p 0x47 32 0 (takeMsg p 0x0404 (s.begin dt))
      | some i => ok p [BitVec.ofNat 32 i] (mirrorEntry i (putEntry i
          { tb := tb.toNat, t := onSteps tb.toNat T, action := a, arg := arg.toNat, part := p } (takeMsg p 0x0404 (s.begin dt))))) := by
  have acts : (tokenAction a || (a.val == 3 && !hasPriv (s.begin dt) p pvSafety) || decide (5 ≤ a.val)) =
      (tokenAction a || (a == 3 && !hasPriv s p pvSafety) || decide (5 ≤ a.val)) := by
    rw [val_beq_three]
    rfl
  have admitted : launchRefusal (takeMsg p 0x0404 (s.begin dt)) tb.toNat T a arg.toNat = none := (launchRefusal_congr (takeMsg_alm ..) ..).trans hfree
  have free : freeEntry (takeMsg p 0x0404 (s.begin dt)) = freeEntry s :=
    freeEntry_congr ((congrArg Alm.launch (takeMsg_alm ..)).trans (State.begin_alm_launch ..))
  show execLaunchPlace dt p tb sec ns frac (BitVec.ofNat 32 a) arg s = _
  unfold execLaunchPlace
  dsimp only
  rw [ofNat32_toNat_fin7, acts, hostCmd_body (h.begin dt), htime]
  dsimp only
  rw [admitted, free] <;> rfl

theorem launch_placed {tb : Word} {sec : Wire} {ns frac arg : Word} {a : Fin 7} {T : Nat}
    (h : Granted p 0x0404 0x400 (launchRight a) (tokenAction a || (a == 3 && !hasPriv s p pvSafety) || decide (5 ≤ a.val)) s)
    (htime : timeQ sec.toNat ns.toNat frac.toNat = some T) {dt : Nat} (hfree : launchRefusal (s.begin dt) tb.toNat T a arg.toNat = none)
    {i : Nat} (hi : freeEntry s = some i) : ∃ t, exec (.launchPlace dt p tb sec ns frac (BitVec.ofNat 32 a) arg) s = .next t ∧
      Answered p 0x0404 0 [BitVec.ofNat 32 i] s t ∧
      t.alm.launch = tabPut s.alm.launch i { tb := tb.toNat, t := onSteps tb.toNat T, action := a, arg := arg.toNat, part := p } := by
  have runs := launchPlace_runs h htime hfree
  rw [hi] at runs
  generalize hl : ({ tb := tb.toNat, t := onSteps tb.toNat T, action := a, arg := arg.toNat, part := p } : Launch) = l at runs ⊢
  obtain ⟨launch, hst⟩ := (mirrorEntry_sends i (putEntry i l (takeMsg p 0x0404 (s.begin dt)))).launch
  have mute : ((mirrorEntry i (putEntry i l (takeMsg p 0x0404 (s.begin dt)))).hp p).mute = ((takeMsg p 0x0404 (s.begin dt)).hp p).mute := by
    unfold State.hp
    rw [hst]
    rfl
  refine exec_ends runs ⟨(ok_answered (h.begin dt).1 mute _).ended, ?_⟩
  rw [ended_alm, (ok_talks ..).keep.alm, launch, putEntry, takeMsg_alm]
  exact congrArg (fun t => tabPut t i l) (State.begin_alm_launch dt s)

theorem launch_full {tb : Word} {sec : Wire} {ns frac arg : Word} {a : Fin 7} {T : Nat}
    (h : Granted p 0x0404 0x400 (launchRight a) (tokenAction a || (a == 3 && !hasPriv s p pvSafety) || decide (5 ≤ a.val)) s)
    (htime : timeQ sec.toNat ns.toNat frac.toNat = some T) {dt : Nat} (hfree : launchRefusal (s.begin dt) tb.toNat T a arg.toNat = none)
    (hi : freeEntry s = none) : ∃ t, exec (.launchPlace dt p tb sec ns frac (BitVec.ofNat 32 a) arg) s = .next t ∧
      Answered p 0x0404 0x47 [32, 0] s t ∧ t.alm.launch = s.alm.launch := by
  have runs := launchPlace_runs h htime hfree
  rw [hi] at runs
  refine exec_ends runs ⟨(refuse_answered (h.begin dt).1 rfl 0x47 32 0).ended, ?_⟩
  rw [ended_alm, (refuse_talks ..).keep.alm, takeMsg_alm]
  exact State.begin_alm_launch ..

theorem launch_cancelled {i : Word} {l : Launch} (h : Granted p 0x0405 0x400 .observe false s) (hl : tabGet? s.alm.launch i.toNat = some l)
    (hmine : l.part = p.val ∨ hasPriv s p pvService = true) (dt : Nat) : ∃ t, exec (.launchCancel dt p i) s = .next t ∧
      Answered p 0x0405 0 [] s t ∧ t.alm.launch = tabDel s.alm.launch i.toNat := by
  generalize hx : ({ takeMsg p 0x0405 (s.begin dt) with
    alm := { (takeMsg p 0x0405 (s.begin dt)).alm with launch := tabDel s.alm.launch i.toNat } } : State) = x
  have launch : (takeMsg p 0x0405 (s.begin dt)).alm.launch = s.alm.launch :=
    (congrArg Alm.launch (takeMsg_alm ..)).trans (State.begin_alm_launch ..)
  have mine : (decide (l.part = p.val) || hasPriv (takeMsg p 0x0405 (s.begin dt)) p pvService) = true := by
    rcases hmine with h | h
    · rw [decide_eq_true h]
      rfl
    · rw [show hasPriv (takeMsg p 0x0405 (s.begin dt)) p pvService = true from h, Bool.or_true]
  have runs : exec (.launchCancel dt p i) s = done (ok p [] (forwardWrite (takeMsg p 0x0405 (s.begin dt)).tickNow
      [(wrCancel, BitVec.ofNat 64 i.toNat)] x)) := by
    refine congrArg done ((hostCmd_body (h.begin dt) _).trans ?_)
    rw [launch, hl]
    dsimp only
    rw [if_pos mine, hx]
  obtain ⟨kept, hst⟩ := (forwardWrite_sends (takeMsg p 0x0405 (s.begin dt)).tickNow [(wrCancel, BitVec.ofNat 64 i.toNat)] x).launch
  refine exec_ends runs ⟨(ok_answered (h.begin dt).1 ?_ _).ended, ?_⟩
  · unfold State.hp
    rw [hst, ← hx]
  · rw [ended_alm, (ok_talks ..).keep.alm, kept, ← hx]

/-- The tick a launch of the present takes effect at is the next instant from now (R63). -/
theorem launchTick_next (s : State) : s.tickNow ≤ launchTick s ∧ launchTick s ≤ s.tickNow + 1 := by
  unfold launchTick
  split <;> omega

/-- An entry that has come is taken out of the table. -/
def taken (e : Fin 32) (s : State) : State := { s with alm := { s.alm with launch := tabDel s.alm.launch e } }

theorem launch_fires {e : Fin 32} {l : Launch} (hl : tabGet? s.alm.launch e = some l) (hrun : s.alm.running = true) {dt : Nat}
    (hdue : l.t ≤ (s.begin dt).nowK l.tb) : exec (.launchFire dt e) s = done (fireEntry e l (taken e (s.begin dt))) := by
  show execLaunchFire dt e s = _
  unfold execLaunchFire
  dsimp only
  rw [State.begin_alm_launch, hl]
  dsimp only
  rw [if_neg (by rw [State.begin_alm_running, hrun, decide_eq_false (Nat.not_lt.2 hdue)]; decide), taken, State.begin_alm_launch]

theorem launch_taken (e : Fin 32) (dt : Nat) : (taken e (s.begin dt)).alm.launch = tabDel s.alm.launch e :=
  congrArg (tabDel · e.val) (State.begin_alm_launch dt s)

theorem transition_launched {e : Fin 32} {l : Launch} (hl : tabGet? s.alm.launch e = some l) (hrun : s.alm.running = true) {dt : Nat}
    (hdue : l.t ≤ (s.begin dt).nowK l.tb) (ha : l.action ≤ 2) : ∃ t x, exec (.launchFire dt e) s = .next t ∧
      t.alm.launch = tabDel s.alm.launch e ∧ t.trans = s.trans ++ [x] ∧ x.kind = l.action ∧ x.part = 8 ∧ x.entry = e.val ∧
      (s.begin dt).tickNow ≤ x.tick ∧ x.tick ≤ (s.begin dt).tickNow + 1 := by
  have fires : fireEntry e l (taken e (s.begin dt)) = { taken e (s.begin dt) with
      trans := (taken e (s.begin dt)).trans ++ [{ kind := l.action, part := 8, entry := e, tick := launchTick (taken e (s.begin dt)) }] } :=
    if_pos ha
  obtain ⟨h1, h2⟩ := launchTick_next (taken e (s.begin dt))
  refine ⟨_, { kind := l.action, part := 8, entry := e, tick := launchTick (taken e (s.begin dt)) },
    (launch_fires hl hrun hdue).trans (congrArg done fires), ?_, ?_, rfl, rfl, rfl, h1, h2⟩
  · exact launch_taken e dt
  · rfl

theorem pulse_launched {e : Fin 32} {l : Launch} (hl : tabGet? s.alm.launch e = some l) (hrun : s.alm.running = true) {dt : Nat}
    (hdue : l.t ≤ (s.begin dt).nowK l.tb) (ha : l.action = 6) (hforce : s.sys.inForce = true) : ∃ t, exec (.launchFire dt e) s = .next t ∧
      t.alm.launch = tabDel s.alm.launch e ∧
      .pin (l.arg / 2 ^ 30 + 1) true ((s.begin dt).now + l.t - (s.begin dt).nowK l.tb) ∈ t.out ∧
      (l.arg / 2 ^ 30, l.tb, l.t + l.arg % 2 ^ 30 * 65536) ∈ t.alm.pulses := by
  have fires : fireEntry e l (taken e (s.begin dt)) = startPulse l (taken e (s.begin dt)) := by
    unfold fireEntry
    dsimp only
    rw [if_neg (by omega), if_neg (by omega), if_neg (by omega), if_neg (by omega)]
  have rises : startPulse l (taken e (s.begin dt)) = (({ taken e (s.begin dt) with
      alm := { (taken e (s.begin dt)).alm with
        trigOut := if (s.begin dt).alm.trigOut.testBit (l.arg / 2 ^ 30) then (s.begin dt).alm.trigOut
          else (s.begin dt).alm.trigOut + 2 ^ (l.arg / 2 ^ 30)
        pulses := (s.begin dt).alm.pulses.filter (fun (x : Nat × Nat × Nat) => x.1 != l.arg / 2 ^ 30) ++
          [(l.arg / 2 ^ 30, l.tb, l.t + l.arg % 2 ^ 30 * nsecQ)] } } : State).emit
      (.pin (l.arg / 2 ^ 30 + 1) true ((s.begin dt).now + l.t - (s.begin dt).nowK l.tb))) :=
    if_neg (by rw [show (taken e (s.begin dt)).sys.inForce = true from hforce]; decide)
  refine exec_ends ((launch_fires hl hrun hdue).trans (congrArg done (fires.trans rises))) ⟨?_, ?_, ?_⟩
  · exact launch_taken e dt
  · exact mem_ended (List.mem_append_right _ (List.mem_singleton_self _))
  · rw [ended_alm]
    exact List.mem_append_right _ (List.mem_singleton_self _)

end

/-- Settles O32: an entry is placed, taken out and fired by its place in the table. -/
theorem launchTable : Obligations.LaunchTable := fun dt _ _ =>
  ⟨fun _ _ _ _ _ _ _ h htime hfree => ⟨fun _ hi => launch_placed h htime hfree hi, fun hi => launch_full h htime hfree hi⟩,
    fun _ _ h hl hmine => launch_cancelled h hl hmine dt,
    fun _ _ hl hrun hdue => ⟨fun ha => transition_launched hl hrun hdue ha, fun ha hforce => pulse_launched hl hrun hdue ha hforce⟩⟩

end Sys2Proof.Machine
end

section
/-! The pair lanes and the heartbeat (R331, R332, R347). -/
namespace Sys2Proof.Machine

/-! Of the pair, what sends and logs count their frames alone. -/

def Seqs (s t : State) : Prop := ∃ a b c, t.rdn = { s.rdn with txSeq := a, gseq := b, bseq := c }

theorem Seqs.of_eq {s t : State} (h : t.rdn = s.rdn) : Seqs s t := ⟨_, _, _, h⟩
theorem Seqs.refl (s : State) : Seqs s s := .of_eq rfl
theorem Seqs.trans {s t u : State} : Seqs s t → Seqs t u → Seqs s u := by
  rintro ⟨a, b, c, h⟩ ⟨d, e, f, k⟩
  exact ⟨d, e, f, by rw [k, h]⟩
theorem Seqs.ite {c : Prop} [Decidable c] {s a b : State} (h : Seqs s a) (k : Seqs s b) : Seqs s (if c then a else b) := by
  split <;> assumption
theorem Seqs.foldl {α : Type} (f : State → α → State) (hf : ∀ s x, Seqs s (f s x)) (l : List α) (s : State) : Seqs s (l.foldl f s) :=
  List.foldlRecOn (motive := Seqs s) l f (.refl s) fun t ht x _ => ht.trans (hf t x)
theorem Calm.seqs {s t : State} (h : Calm s t) : Seqs s t := h.rdn

theorem cancelLaunches_seqs (p : Nat) (s : State) : Seqs s (cancelLaunches p s) := by
  have dropped (x : State) (a : Alm) : Seqs x { x with alm := a } := .of_eq rfl
  exact ((forwardWrite_sends ..).calm.seqs.trans (dropped ..)).trans (.foldl _ (fun _ _ => (logEvent_logs ..).calm.seqs) _ _)

theorem moveToken_seqs (new cause : Nat) (s : State) : Seqs s (moveToken new cause s) := by
  have noted (x : State) (h : Hst) : Seqs x { x with hst := h } := .of_eq rfl
  have irq (v p : Nat) (x : State) : Seqs x (setIrq v p x) := (setIrq_hears v p x).calm.seqs
  unfold moveToken
  dsimp only
  split
  · exact .refl s
  · have logged := (noted s { s.hst with token := new, tokenChanges := sat32 s.hst.tokenChanges, tokenAt := s.now }).trans
      (logEvent_logs 2 0 0 (s.hst.token * 256 + new) cause _).calm.seqs
    have cancelled (x : State) (c : Nat) : Seqs x (if c < 8 then cancelLaunches c (setIrq 2 c x) else x) :=
      .ite ((irq ..).trans (cancelLaunches_seqs ..)) (.refl x)
    have signalled (x : State) : Seqs x (if new < 8 then setIrq 2 new x else x) := .ite (irq ..) (.refl x)
    exact (logged.trans (cancelled _ s.hst.token)).trans (signalled _)

/-! What reaches neither the pair lanes nor, as they come up, anything but the joining. -/

/-- The lanes, whether they are used, and the partner's frames that each has brought stay. -/
def LanesStay (s t : State) : Prop := t.rdn.lane = s.rdn.lane

theorem LanesStay.refl (s : State) : LanesStay s s := rfl
theorem LanesStay.trans {s t u : State} (h : LanesStay s t) (k : LanesStay t u) : LanesStay s u := Eq.trans k h
theorem LanesStay.ite {c : Prop} [Decidable c] {s a b : State} (h : LanesStay s a) (k : LanesStay s b) : LanesStay s (if c then a else b) := by
  split <;> assumption
theorem LanesStay.foldl {α : Type} (f : State → α → State) (hf : ∀ s x, LanesStay s (f s x)) (l : List α) (s : State) :
    LanesStay s (l.foldl f s) :=
  List.foldlRecOn (motive := LanesStay s) l f (.refl s) fun t ht x _ => ht.trans (hf t x)

theorem Calm.lanesStay {s t : State} (h : Calm s t) : LanesStay s t := by
  obtain ⟨a, b, c, e⟩ := h.rdn
  unfold LanesStay
  rw [e]
theorem Sends.lanesStay {s t : State} (h : Sends s t) : LanesStay s t := h.calm.lanesStay
theorem Logs.lanesStay {s t : State} (h : Logs s t) : LanesStay s t := h.calm.lanesStay
theorem condHolds_calm (c k i : Nat) (s : State) : Calm s (condHolds c k i s) :=
  (of_books ⟨_, _, _, _, _, _, _, rfl⟩).trans (clearWhere_clears ..).calm
theorem condFails_calm (c k i : Nat) (s : State) : Calm s (condFails c k i s) := of_books ⟨_, _, _, _, _, _, _, rfl⟩

theorem modRdn_lanesStay (f : Rdn → Rdn) (s : State) (h : (f s.rdn).lane = s.rdn.lane) : LanesStay s (modRdn f s) := h

theorem Seqs.lanesStay {s t : State} : Seqs s t → LanesStay s t := by
  rintro ⟨a, b, c, e⟩
  unfold LanesStay
  rw [e]
theorem moveToken_lanesStay (new cause : Nat) (s : State) : LanesStay s (moveToken new cause s) := (moveToken_seqs ..).lanesStay
theorem cancelLaunches_lanesStay (p : Nat) (s : State) : LanesStay s (cancelLaunches p s) := (cancelLaunches_seqs ..).lanesStay

theorem setRole_lanesStay (r : Nat) (s : State) : LanesStay s (setRole r s) :=
  .ite (.refl s) (LanesStay.trans (modRdn_lanesStay (fun x => { x with role := r }) s rfl) (.ite rfl (.refl _)))

theorem joinAdvance_lanesStay (s : State) : LanesStay s (joinAdvance s) := by
  have asks (n : Nat) (m : Int) : LanesStay s (sendPair (.role 1 m) (modRdn (fun r => { r with joinState := n }) s)) :=
    LanesStay.trans (modRdn_lanesStay _ s rfl) (sendPair_sends ..).lanesStay
  exact .ite (.refl s) (.ite (asks ..) (.ite (asks ..) (.refl s)))

theorem joinStart_lanesStay (s : State) : LanesStay s (joinStart s) := by
  have joiner := LanesStay.trans (setRole_lanesStay 3 s)
    (modRdn_lanesStay (fun r => { r with joinState := 2, buf := [], joinRestarts := 0, syncTicks := 0 }) (setRole 3 s) rfl)
  have aligned (x : State) : LanesStay x (if x.dev = .boot || x.dev = .parked then reAcquire 0 x else x) := .ite rfl (.refl x)
  exact (joiner.trans (aligned _)).trans (joinAdvance_lanesStay _)

theorem becomeActive_lanesStay (s : State) : LanesStay s (becomeActive s) := by
  have active := LanesStay.trans (modRdn_lanesStay (fun r => { r with joinState := 0, shadow := none, buf := [], swapAt := none }) s rfl)
    (setRole_lanesStay 1 _)
  exact (active.trans (moveToken_lanesStay 15 6 _)).trans (.foldl _ (fun _ _ => cancelLaunches_lanesStay ..) _ _)

theorem tryJoin_lanesStay (s : State) : LanesStay s (tryJoin s) := by
  unfold tryJoin
  split
  · exact .refl s
  · split
    · exact .refl s
    · exact .ite (.ite (joinStart_lanesStay s) (.refl s)) (.ite (becomeActive_lanesStay s) (.refl s))

/-- The partner taken as gone. -/
def partnerGone (s : State) : State := modRdn (fun r => { r with partnerRole := 4, syncTicks := 0, capture := false }) s

theorem partnerLost_eq (s : State) : partnerLost s =
    if s.pairEn && s.rdn.role = 1 && !s.rdn.hb && (pairLanesUp s).isEmpty && !heldCode 0x3107 s then raiseDev 0x3107 0 0 (partnerGone s)
    else s := rfl

theorem partnerLost_lanesStay (s : State) : LanesStay s (partnerLost s) := by
  have gone : LanesStay s (partnerGone s) := modRdn_lanesStay _ s rfl
  rw [partnerLost_eq]
  exact .ite (gone.trans (raiseDev_calm (by decide) ..).lanesStay) (.refl s)

/-! The lanes. -/

theorem pairLane_congr {s t : State} (h : LanesStay s t) (l : Nat) : pairLane t l = pairLane s l := by
  unfold pairLane
  rw [h]

theorem pairLane_modPairLane_self (l : Fin 2) (f : Pp → Pp) (s : State) : pairLane (modPairLane l f s) l = f (pairLane s l) := vget_vmod_self ..

theorem ended_pairLane (x : State) (l : Nat) : pairLane (ended x) l = pairLane x l := rfl

/-- A lane that trained and is not known to be too long is used. -/
theorem judgeLane_up {l : Fin 2} {s : State} (htrained : (pairLane s l).st ≠ 0)
    (hshort : (pairLane s l).dly.valid = false ∨ (pairLane s l).dly.value ≤ 1920) : (pairLane (judgeLane l s) l).up = true := by
  unfold judgeLane
  dsimp only
  rw [if_neg htrained, if_neg]
  · rw [pairLane_congr (tryJoin_lanesStay _), pairLane_congr (condHolds_calm ..).lanesStay, pairLane_modPairLane_self]
  · intro h
    obtain ⟨valid, long⟩ := Bool.and_eq_true_iff.1 h
    rcases hshort with h | h
    · rw [h] at valid
      cases valid
    · exact absurd (of_decide_eq_true long) (Nat.not_lt.2 h)

section
variable {s : State}

theorem lane_comes_up {l : Fin 2} (h : (pairLane s l).dly.valid = false ∨ (pairLane s l).dly.value ≤ 1920) (dt : Nat) :
    ∃ t, exec (.pairLaneUp dt l) s = .next t ∧ (pairLane t l).up = true := by
  have trained : pairLane (modPairLane l (fun p => { p with st := 1 }) (s.begin dt)) l = { pairLane s l with st := 1 } :=
    pairLane_modPairLane_self ..
  have up : (pairLane (judgeLane l (modPairLane l (fun p => { p with st := 1 }) (s.begin dt))) l).up = true :=
    judgeLane_up (by rw [trained]; exact Nat.one_ne_zero) (by rw [trained]; exact h)
  obtain ⟨x, runs, hx⟩ : ∃ x, exec (.pairLaneUp dt l) s = done x ∧
      LanesStay (judgeLane l (modPairLane l (fun p => { p with st := 1 }) (s.begin dt))) x := by
    by_cases hp : (judgeLane l (modPairLane l (fun p => { p with st := 1 }) (s.begin dt))).pairEn = true
    · exact ⟨_, if_pos hp, (sendPair_sends ..).lanesStay⟩
    · exact ⟨_, if_neg hp, .refl _⟩
  refine exec_ends runs ?_
  rw [ended_pairLane, pairLane_congr hx]
  exact up

theorem partnerLost_isHeld {c k i : Nat} (h : isHeld c k i s = true) : isHeld c k i (partnerLost s) = true := by
  have gone : isHeld c k i (partnerGone s) = true := h
  rw [partnerLost_eq]
  split
  · rw [raiseDev_isHeld _ _ _ _ (by decide), gone]
    rfl
  · exact h

theorem lane_goes_down (l : Fin 2) (hpair : s.pairEn = true) (dt : Nat) : ∃ t, exec (.pairLaneDown dt l) s = .next t ∧
    (pairLane t l).up = false ∧ isHeld 0x3102 0 l t = true := by
  have runs : exec (.pairLaneDown dt l) s = done (partnerLost (raiseDev 0x3102 0 l (modPairLane l (fun _ => {}) (s.begin dt)))) :=
    congrArg done (if_pos hpair)
  refine exec_ends runs ?_
  rw [ended_pairLane, ended_isHeld, pairLane_congr (partnerLost_lanesStay _), pairLane_congr (raiseDev_calm (by decide) ..).lanesStay,
    pairLane_modPairLane_self]
  exact ⟨rfl, partnerLost_isHeld (raiseDev_held _ _ _ _ (by decide))⟩

/-! The heartbeat. -/

theorem ended_hb (x : State) : (ended x).rdn.hb = x.rdn.hb := rfl

theorem heartbeat_present (dt : Nat) : ∃ t, exec (.heartbeatPresent dt) s = .next t ∧
    t.rdn = { s.rdn with hb := true, hbOut := s.pairEn && enginesRun s } :=
  exec_ends (x := modRdn (fun r => { r with hb := true }) (s.begin dt)) rfl rfl

/-- The heartbeat taken as lost. -/
def heartbeatGone (s : State) : State := condFails 0x3103 0 0 (modRdn (fun r => { r with hb := false }) s)

theorem exec_pairHbLoss (dt : Nat) : exec (.pairHbLoss dt) s = done (partnerLost (heartbeatGone (s.begin dt))) := rfl

theorem partnerLost_hb : (partnerLost s).rdn.hb = s.rdn.hb := by
  rw [partnerLost_eq]
  split
  · obtain ⟨a, b, c, e⟩ := (raiseDev_calm (c := 0x3107) (by decide) 0 0 (partnerGone s)).rdn
    rw [e]
    rfl
  · rfl

theorem heartbeat_lost (dt : Nat) : ∃ t, exec (.pairHbLoss dt) s = .next t ∧ t.rdn.hb = false := by
  refine exec_ends (exec_pairHbLoss dt) ?_
  rw [ended_hb, partnerLost_hb]
  rfl

theorem ended_heldCode (c : Nat) (x : State) : heldCode c (ended x) = heldCode c x := rfl

theorem heldCode_of_isHeld {c k i : Nat} (h : isHeld c k i s = true) : heldCode c s = true := by
  obtain ⟨f, hf, hc, -, -⟩ := isHeld_iff.1 h
  exact List.any_eq_true.2 ⟨f, hf, beq_iff_eq.2 hc⟩

theorem partner_lost (hpair : s.pairEn = true) (hrole : s.rdn.role = 1) (hlanes : pairLanesUp s = []) (dt : Nat) :
    ∃ t, exec (.pairHbLoss dt) s = .next t ∧ heldCode 0x3107 t = true := by
  refine exec_ends (exec_pairHbLoss dt) ?_
  rw [ended_heldCode]
  have lost : ((heartbeatGone (s.begin dt)).pairEn && decide ((heartbeatGone (s.begin dt)).rdn.role = 1) &&
      !(heartbeatGone (s.begin dt)).rdn.hb && (pairLanesUp (heartbeatGone (s.begin dt))).isEmpty) = true := by
    show (s.pairEn && decide (s.rdn.role = 1) && !false && (pairLanesUp s).isEmpty) = true
    rw [hpair, hrole, hlanes]
    rfl
  rw [partnerLost_eq, lost, Bool.true_and]
  split
  · exact heldCode_of_isHeld (raiseDev_held _ _ _ _ (by decide))
  · next h => simpa using h

end

/-- Settles O34: each lane and the heartbeat as they are taken, and the loss of all three held. -/
theorem pairLanesAndHeartbeat : Obligations.PairLanesAndHeartbeat := fun dt _ =>
  ⟨fun _ h => lane_comes_up h dt, fun l hpair => lane_goes_down l hpair dt, heartbeat_present dt, heartbeat_lost dt,
    fun hpair hrole hlanes => partner_lost hpair hrole hlanes dt⟩

end Sys2Proof.Machine
end

section
/-! What the partner decides and writes (R98, R138, R246, R345). -/
namespace Sys2Proof.Machine

/-! Frames from the partner. -/

/-- A frame of a type noted as seen. -/
def noteSeen (type : Nat) (w : SeqWin) (s : State) : State := modRdn (fun r => { r with typeWin := tabPut r.typeWin type w }) s

/-- The first copy of a frame is taken, once it is noted. -/
theorem firstCopy_takes {s : State} {lane type seq : Nat} (h : FirstCopy s lane type seq) (dt : Nat) (f : State → State) :
    ∃ w, (tabGet s.rdn.typeWin type {}).take seq = some w ∧ firstCopy lane type seq f (s.begin dt) = f (noteSeen type w (s.begin dt)) := by
  obtain ⟨hpair, hup, hseq, hnew⟩ := h
  obtain ⟨w, hw⟩ := Option.isSome_iff_exists.1 hnew
  refine ⟨w, hw, ?_⟩
  unfold firstCopy
  rw [if_neg]
  · rw [show (s.begin dt).rdn = s.rdn from rfl, hw]
    rfl
  · rw [show (s.begin dt).pairEn = true from hpair, show (pairLane (s.begin dt) lane).up = true from hup]
    simpa using hseq

/-! A decision. -/

theorem recData_eq (c i a b : Nat) (s : State) : ∃ f, (recData c i a b s).2 = { s with free := f } := by
  unfold recData
  dsimp only
  split
  · exact ⟨s.free, rfl⟩
  · split
    · exact ⟨s.free, rfl⟩
    · exact ⟨_, rfl⟩

theorem setLatch_keeps (i time : Nat) (s : State) : (setLatch i time s).dev = s.dev ∧ (setLatch i time s).spu = s.spu := by
  unfold setLatch
  split
  · exact ⟨rfl, rfl⟩
  · exact ⟨(immediateStates_sends ..).dev, (immediateStates_sends ..).spu⟩

theorem blockWith_dev (op code detail : Nat) (s : State) : (blockWith op code detail s).dev = if s.dev = .run then .blocked else s.dev := by
  split
  · next h => exact (blockWith_of_run h ..).1
  · next h => exact (blockWith_calm ..).dev_of_not_run h

/-- From DEVICE_BLOCK on a reaction takes the device out of RUN, and no other does. -/
theorem applyLinks_dev (old : State) (h : Held) (s : State) : (applyLinks old h s).dev = if 4 ≤ h.level ∧ s.dev = .run then .blocked else s.dev := by
  have links (cs : List Nat) : (immediateStates old (discardChans cs s)).dev = s.dev := (immediateStates_sends ..).dev
  unfold applyLinks
  dsimp only
  split
  · next hlow => rw [if_neg (by omega)]
  · split
    · next hblock =>
      refine (blockWith_dev ..).trans ?_
      rw [show ∀ (x : State) (w : List Sweep), ({ x with spu := { x.spu with sweeps := w } } : State).dev = x.dev from fun _ _ => rfl, links]
      simp [hblock]
    · next hlink => rw [if_neg (by omega)]; exact links _

theorem holdFault_dev (h : Held) (d : List (Nat × List Nat)) (s : State) : (holdFault h d s).dev = s.dev := (logRec_logs ..).dev

theorem holdFault_isHeld {h : Held} {c k i : Nat} (hc : h.lr.code = c) (hk : h.lr.kind = k) (hi : h.lr.index = i) (d : List (Nat × List Nat))
    (s : State) : isHeld c k i (holdFault h d s) = true := by
  refine (isHeld_congr (logRec_logs ..).held c k i).trans ?_
  refine isHeld_iff.2 ⟨h, List.mem_append_right _ (List.mem_singleton_self h), hc, hk, hi⟩

/-- A decision that is not yet held is held here, and acts by its links. -/
theorem takeDecision_new {code kind index : Nat} {s : State} (hcode : code ≠ 0) (hnew : isHeld code kind index s = false)
    (time level : Nat) (cover : List Nat) : ∃ (h : Held) (d : List (Nat × List Nat)) (x y : State), h.level = level ∧ h.lr.code = code ∧
      h.lr.kind = kind ∧ h.lr.index = index ∧ x.dev = s.dev ∧ Fired (holdFault h d x) y ∧
      takeDecision time code kind index level cover s = applyLinks x h y := by
  obtain ⟨z, hz, hdev, hspu⟩ : ∃ z, (if 0x2301 ≤ code && code ≤ 0x2304 then setLatch (code - 0x2301) time s else s) = z ∧ z.dev = s.dev ∧
      z.spu = s.spu := by
    refine ⟨_, rfl, ?_⟩
    split
    · exact setLatch_keeps ..
    · exact ⟨rfl, rfl⟩
  have still : isHeld code kind index z = false := (isHeld_congr (congrArg Spu.held hspu) ..).trans hnew
  obtain ⟨f, hf⟩ := recData_eq code index z.freeWord.1.toNat z.freeWord.1.toNat z.freeWord.2
  unfold takeDecision
  dsimp only
  rw [hz, if_neg hcode, still, if_neg Bool.false_ne_true]
  exact ⟨_, _, _, _, rfl, rfl, rfl, rfl, by rw [hf]; exact hdev, fireKind_fired .., rfl⟩

/-- The partner's BLOCK. -/
theorem takeDecision_block (time kind index level : Nat) (cover : List Nat) (s : State) :
    takeDecision time 0 kind index level cover s = blockFrames (blockWith 0x0205 0 8 s) := rfl

section
variable {lane : Fin 2} {seq : Nat} {s : State}

theorem decision_held {code kind index : Nat} (h : FirstCopy s lane 0x15 seq) (hcode : code ≠ 0) (hnew : isHeld code kind index s = false)
    (dt time level : Nat) (cover : List Nat) : ∃ t, exec (.decideRx dt lane seq time code kind index level cover) s = .next t ∧
      isHeld code kind index t = true ∧ (s.dev = .run → 4 ≤ level → t.dev = .blocked) ∧ (s.dev = .run → level < 4 → t.dev = .run) := by
  obtain ⟨w, -, copy⟩ := firstCopy_takes h dt (takeDecision time code kind index level cover)
  obtain ⟨f, d, x, y, hlevel, hc, hk, hi, hx, hy, taken⟩ :=
    takeDecision_new (s := noteSeen 0x15 w (s.begin dt)) hcode hnew time level cover
  have dev : y.dev = s.dev := (hy.dev.trans (holdFault_dev ..)).trans hx
  have act := (applyLinks_dev x f y).trans (by rw [hlevel, dev])
  refine exec_ends (congrArg done (copy.trans taken)) ⟨?_, ?_, ?_⟩
  · rw [ended_isHeld, isHeld_congr (applyLinks_reacts ..).held, isHeld_congr (congrArg Spu.held hy.spu)]
    exact holdFault_isHeld hc hk hi d x
  · intro hrun hlv
    rw [ended_dev, act, if_pos ⟨hlv, hrun⟩]
  · intro hrun hlv
    rw [ended_dev, act, if_neg (by omega), hrun]

theorem partner_blocks (h : FirstCopy s lane 0x15 seq) (hrun : s.dev = .run) (dt time kind index level : Nat) (cover : List Nat) :
    ∃ t, exec (.decideRx dt lane seq time 0 kind index level cover) s = .next t ∧ t.dev = .blocked ∧ t.spu.held = s.spu.held := by
  obtain ⟨w, -, copy⟩ := firstCopy_takes h dt (takeDecision time 0 kind index level cover)
  have act := takeDecision_block time kind index level cover (noteSeen 0x15 w (s.begin dt))
  refine exec_ends (congrArg done (copy.trans act)) ?_
  rw [ended_dev, ended_held, (blockFrames_sends _).dev, (blockFrames_reacts _).held, blockWith_dev, (blockWith_reacts ..).held]
  exact ⟨if_pos hrun, rfl⟩

/-! A state command. -/

theorem takeWrite_command (n : Int) (v : Wire) (s : State) :
    (takeWrite n [(0, v)] s).trans = s.trans ++ [{ kind := v.toNat - 0x0201, part := 8, tick := n }] := rfl

theorem command_ordered (h : FirstCopy s lane 0x14 seq) (hrole : s.rdn.role ≠ 1) (dt : Nat) (n : Int) (v : Wire) :
    ∃ t, exec (.writeRx dt lane seq n [(0, v)]) s = .next t ∧ t.trans = s.trans ++ [{ kind := v.toNat - 0x0201, part := 8, tick := n }] := by
  obtain ⟨w, -, copy⟩ := firstCopy_takes h dt (fun s => if s.rdn.role = 1 then takeLaunches [(0, v)] s else takeWrite n [(0, v)] (takeLaunches [(0, v)] s))
  refine exec_ends (congrArg done (copy.trans (if_neg hrole))) ?_
  rw [ended_trans, takeWrite_command]
  rfl

end

/-- Settles O36: each frame is taken once, and acts as the partner decided or wrote. -/
theorem partnerDecides : Obligations.PartnerDecides := fun dt _ _ time _ =>
  ⟨fun _ _ _ level cover h hcode hnew => decision_held h hcode hnew dt time level cover,
    fun kind index level cover h hrun => partner_blocks h hrun dt time kind index level cover,
    fun n v h hrole => command_ordered h hrole dt n v⟩

end Sys2Proof.Machine
end

section
/-! Roles, swaps and joining (R344, R349, R350, Table 12-1). -/
namespace Sys2Proof.Machine

/-! Pending fields that come into force. -/

/-- Pending values only come into force or go, and no field changes but those that had one; the starts of the device stay as they are but for an
interrupted self-test, the partitions but for their interrupts, and the device state, the time and what is held. -/
structure Promotes (s t : State) : Prop where
  pend : t.pend ⊆ s.pend
  par : ∀ id, (∀ e ∈ s.pend, e.id ≠ id) → tabGet? t.par id = tabGet? s.par id
  sys : ∃ b, t.sys = { s.sys with bist := b }
  mute : ∀ p, (t.hp p).mute = (s.hp p).mute
  dev : t.dev = s.dev
  clock : t.clock = s.clock
  held : t.spu.held = s.spu.held

theorem Promotes.of_same {s t : State} (hpar : t.par = s.par) (hpend : t.pend = s.pend)
    (hsys : ∃ b, t.sys = { s.sys with bist := b } := by exact ⟨_, rfl⟩) (hmute : ∀ p, (t.hp p).mute = (s.hp p).mute := by exact fun _ => rfl)
    (hdev : t.dev = s.dev := by exact rfl) (hclock : t.clock = s.clock := by exact rfl) (hheld : t.spu.held = s.spu.held := by exact rfl) :
    Promotes s t :=
  ⟨by rw [hpend]; exact List.Subset.refl _, fun _ _ => by rw [hpar], hsys, hmute, hdev, hclock, hheld⟩
theorem Promotes.refl (s : State) : Promotes s s := .of_same rfl rfl
theorem Promotes.trans {s t u : State} (h : Promotes s t) (k : Promotes t u) : Promotes s u := by
  obtain ⟨b, hb⟩ := h.sys
  obtain ⟨c, hc⟩ := k.sys
  exact ⟨List.Subset.trans k.pend h.pend, fun id hid => (k.par id fun e he => hid e (h.pend he)).trans (h.par id hid), ⟨c, by rw [hc, hb]⟩,
    fun p => (k.mute p).trans (h.mute p), k.dev.trans h.dev, k.clock.trans h.clock, k.held.trans h.held⟩
theorem Promotes.ite {c : Prop} [Decidable c] {s a b : State} (h : Promotes s a) (k : Promotes s b) : Promotes s (if c then a else b) := by
  split <;> assumption
theorem Promotes.foldl {α : Type} (f : State → α → State) (hf : ∀ s x, Promotes s (f s x)) (l : List α) (s : State) :
    Promotes s (l.foldl f s) :=
  List.foldlRecOn (motive := Promotes s) l f (.refl s) fun t ht x _ => ht.trans (hf t x)

theorem Logs.promotes {s t : State} (h : Logs s t) : Promotes s t := by
  have mute := h.reacts.rules.keep.hp
  obtain ⟨n, l, a, o, rfl, -⟩ := h
  exact .of_same rfl rfl ⟨_, rfl⟩ mute
theorem Sends.promotes {s t : State} : Sends s t → Promotes s t := by
  rintro ⟨p, a, b, c, o, rfl⟩
  exact .of_same rfl rfl

theorem promoteWhere_promotes (f : Pend → Bool) (s : State) : Promotes s (promoteWhere f s) := by
  have beside : ∃ b, (promoteWhere f s).sys = { s.sys with bist := b } := ⟨_, List.foldlRecOn (motive := fun t : State => t.sys = s.sys) _ _ rfl fun _ h _ _ => h⟩
  obtain ⟨host, dev, clock, held⟩ : (promoteWhere f s).hst = s.hst ∧ (promoteWhere f s).dev = s.dev ∧ (promoteWhere f s).clock = s.clock ∧
      (promoteWhere f s).spu.held = s.spu.held :=
    List.foldlRecOn (motive := fun t : State => t.hst = s.hst ∧ t.dev = s.dev ∧ t.clock = s.clock ∧ t.spu.held = s.spu.held) _ _ ⟨rfl, rfl, rfl, rfl⟩
      fun _ h _ _ => h
  refine ⟨?_, fun id hid => ?_, beside, fun p => by unfold State.hp; rw [host], dev, clock, held⟩
  · rw [promoteWhere_pend]
    exact fun _ h => (List.mem_filter.1 h).1
  · unfold promoteWhere
    refine List.foldlRecOn (motive := fun t : State => tabGet? t.par id = tabGet? s.par id) _ _ rfl fun t ht e he => ?_
    exact (tabGet?_tabPut_of_ne _ _ (hid e (List.mem_filter.1 he).1).symm).trans ht

/-! Outputs. -/

theorem modOut_promotes (c : Nat) (f : ClkOut → ClkOut) (s : State) : Promotes s (modOut c f s) := .of_same rfl rfl

theorem promoteOut_promotes (c : Nat) (s : State) : Promotes s (promoteOut c s) :=
  .ite (.refl s) ((promoteWhere_promotes ..).trans (modOut_promotes ..))

theorem startOut_promotes (c t : Nat) (s : State) : Promotes s (startOut c t s) := by
  have drawn : Promotes s s.freeWord.2 := .of_same rfl rfl
  unfold startOut
  refine .ite (modOut_promotes ..) ?_
  split
  · exact modOut_promotes ..
  · exact drawn.trans (modOut_promotes ..)

theorem gateOut_promotes (c : Nat) (s : State) : Promotes s (gateOut c s) := by
  unfold gateOut
  dsimp only
  split
  · exact .refl s
  · exact .ite (modOut_promotes ..) (modOut_promotes ..)

theorem refreshOuts_promotes (s : State) : Promotes s (refreshOuts s) :=
  .foldl _ (fun _ _ => (promoteOut_promotes ..).trans (.ite (.ite (startOut_promotes ..) (.refl _)) (gateOut_promotes ..))) _ s

theorem changeOut_promotes (c : Nat) (s : State) : Promotes s (changeOut c s) := by
  have gated := (gateOut_promotes c s).trans (promoteWhere_promotes (outHalt c) _)
  have divided (f g : ClkOut → ClkOut) := (gated.trans (modOut_promotes c f _)).trans (modOut_promotes c g _)
  have restarted (x : State) (b : Prop) [Decidable b] (f g : ClkOut → ClkOut) : Promotes x (if b then modOut c f x else modOut c g x) :=
    .ite (modOut_promotes ..) (modOut_promotes ..)
  unfold changeOut
  dsimp only
  split
  · exact divided ..
  · exact (divided ..).trans (restarted ..)

theorem retune_promotes (s : State) : Promotes s (retune s) := by
  have gated : Promotes s (gateOpll s) := .foldl _ (fun _ _ => .ite (.refl _) (gateOut_promotes ..)) _ s
  have tuned (x : State) (f : Clk → Clk) : Promotes x (modClk f x) := .of_same rfl rfl
  unfold retune
  exact gated.trans (tuned _ _)

theorem clkWritten_promotes (ids : List Nat) (s : State) : Promotes s (clkWritten ids s) := by
  have changed (l : List Nat) : Promotes s (l.foldl (fun s c => changeOut c s) s) := .foldl _ (fun _ _ => changeOut_promotes ..) l s
  exact .ite ((changed _).trans (retune_promotes _)) (changed _)

/-! The recorder and CAN FD. -/

theorem modRst_promotes (i : Nat) (f : Rst → Rst) (s : State) : Promotes s (modRst i f s) := .of_same rfl rfl

theorem measBlock_promotes (i : Nat) (rows : List RecRow) (o : OpenRec) (m : Nat × F32 × F32) (s : State) :
    Promotes s (measBlock i rows o m s).2 := by
  have drawn (x : State) : Promotes x x.freeWord.2 := .of_same rfl rfl
  exact .ite ((((drawn s).trans (drawn _)).trans (drawn _)).trans (drawn _)) (.refl s)

theorem putPkt_promotes (i : Nat) (p : RecPkt) (s : State) : Promotes s (putPkt i p s) := modRst_promotes ..

theorem closeData_promotes (i : Nat) (s : State) : Promotes s (closeData i s) := by
  unfold closeData
  dsimp only
  split
  · exact .refl s
  · exact (modRst_promotes ..).trans (putPkt_promotes ..)

theorem closeRecord_promotes (i : Nat) (trunc : Bool) (s : State) : Promotes s (closeRecord i trunc s) := by
  unfold closeRecord
  split
  · exact .refl s
  · next o _ =>
    have measured (rows : List RecRow) : Promotes s (o.meas.foldl (fun (a : List Word × State) m =>
        (a.1 ++ (measBlock i rows o m a.2).1, (measBlock i rows o m a.2).2)) ([], closeData i s)).2 :=
      List.foldlRecOn (motive := fun a : List Word × State => Promotes s a.2) _ _ (closeData_promotes i s)
        fun a ha m _ => ha.trans (measBlock_promotes ..)
    exact ((measured _).trans (putPkt_promotes ..)).trans (modRst_promotes ..)

theorem recEnabled_promotes (i : Nat) (s : State) : Promotes s (recEnabled i s) := by
  have closed := (closeData_promotes i s).trans (closeRecord_promotes i true _)
  have stopped (f : Rst → Rst) := (closed.trans (modRst_promotes i f _)).trans (promoteWhere_promotes (fun e =>
    recHaltField e.id && decide (e.tick ≤ (modRst i f (closeRecord i true (closeData i s))).tickNow) &&
      recPendOk (modRst i f (closeRecord i true (closeData i s))) e) _)
  exact .ite (modRst_promotes ..) (.ite (stopped _) (.refl s))

theorem modCan_promotes (n : Nat) (f : CanCtl → CanCtl) (s : State) : Promotes s (modCan n f s) := .of_same rfl rfl

theorem canRefresh_promotes (n : Nat) (s : State) : Promotes s (canRefresh n s) := by
  have promoted : Promotes s (promoteCan n s) := .ite (.refl s) (promoteWhere_promotes ..)
  exact .ite (.ite (promoted.trans (modCan_promotes ..)) (promoted.trans (modCan_promotes ..)))
    (.ite promoted (.ite (promoted.trans (modCan_promotes ..)) (promoted.trans (modCan_promotes ..))))

/-! The pair. -/

theorem modRdn_promotes (f : Rdn → Rdn) (s : State) : Promotes s (modRdn f s) := .of_same rfl rfl
theorem modTb_promotes (k : Nat) (f : Tb → Tb) (s : State) : Promotes s (s.modTb k f) := .of_same rfl rfl

theorem setRole_promotes (r : Nat) (s : State) : Promotes s (setRole r s) :=
  .ite (.refl s) ((modRdn_promotes ..).trans (.ite (modTb_promotes ..) (.refl _)))

theorem joinAdvance_promotes (s : State) : Promotes s (joinAdvance s) := by
  have asks (n : Nat) (m : Int) : Promotes s (sendPair (.role 1 m) (modRdn (fun r => { r with joinState := n }) s)) :=
    (modRdn_promotes ..).trans (sendPair_sends ..).promotes
  exact .ite (.refl s) (.ite (asks ..) (.ite (asks ..) (.refl s)))

theorem joinStart_promotes (s : State) : Promotes s (joinStart s) := by
  have aligned (x : State) : Promotes x (if x.dev = .boot || x.dev = .parked then reAcquire 0 x else x) := .ite (modTb_promotes ..) (.refl x)
  exact (((setRole_promotes 3 s).trans (modRdn_promotes ..)).trans (aligned _)).trans (joinAdvance_promotes _)

theorem cancelLaunches_promotes (p : Nat) (s : State) : Promotes s (cancelLaunches p s) := by
  have dropped (x : State) (a : Alm) : Promotes x { x with alm := a } := .of_same rfl rfl
  exact ((forwardWrite_sends ..).promotes.trans (dropped ..)).trans (.foldl _ (fun _ _ => (logEvent_logs ..).promotes) _ _)

theorem moveToken_promotes (new cause : Nat) (s : State) : Promotes s (moveToken new cause s) := by
  have irq (v p : Nat) (x : State) : Promotes x (setIrq v p x) := (setIrq_hears v p x).logs.promotes
  unfold moveToken
  dsimp only
  split
  · exact .refl s
  · have moved (a b c : Nat) : Promotes s { s with hst := { s.hst with token := a, tokenChanges := b, tokenAt := c } } := .of_same rfl rfl
    have logged (a b : Nat) (x : State) : Promotes x (logEvent 2 0 0 a b x) := (logEvent_logs ..).promotes
    have cancelled (x : State) (c : Nat) : Promotes x (if c < 8 then cancelLaunches c (setIrq 2 c x) else x) :=
      .ite ((irq ..).trans (cancelLaunches_promotes ..)) (.refl x)
    have signalled (x : State) : Promotes x (if new < 8 then setIrq 2 new x else x) := .ite (irq ..) (.refl x)
    exact (((moved ..).trans (logged ..)).trans (cancelled _ s.hst.token)).trans (signalled _)

theorem becomeActive_promotes (s : State) : Promotes s (becomeActive s) :=
  (((modRdn_promotes ..).trans (setRole_promotes ..)).trans (moveToken_promotes ..)).trans (.foldl _ (fun _ _ => cancelLaunches_promotes ..) _ _)

theorem tryJoin_promotes (s : State) : Promotes s (tryJoin s) := by
  unfold tryJoin
  split
  · exact .refl s
  · split
    · exact .refl s
    · exact .ite (.ite (joinStart_promotes s) (.refl s)) (.ite (becomeActive_promotes s) (.refl s))

theorem pairEnChanged_promotes (s : State) : Promotes s (pairEnChanged s) :=
  .ite (.ite ((setRole_promotes ..).trans (tryJoin_promotes _)) (.refl s)) ((modRdn_promotes ..).trans (setRole_promotes ..))

theorem patFollow_promotes (old s : State) : Promotes s (patFollow old s) := by
  have sources : Promotes s ((List.range 4).foldl (fun s k => if tbSrc old k = tbSrc s k then s else srcChanged k s) s) :=
    .foldl _ (fun _ _ => .ite (.refl _) (modTb_promotes ..)) _ s
  have streams (x : State) : Promotes x ((List.range 4).foldl (fun s i => recEnabled i s) x) := .foldl _ (fun _ _ => recEnabled_promotes ..) _ x
  have buses (x : State) : Promotes x (canRefreshAll x) := .foldl _ (fun _ _ => canRefresh_promotes ..) _ x
  have paired (x : State) : Promotes x (if old.pairEn = x.pairEn then x else pairEnChanged x) := .ite (.refl x) (pairEnChanged_promotes x)
  exact ((((sources.trans (streams _)).trans (buses _)).trans (clkWritten_promotes _ _)).trans (refreshOuts_promotes _)).trans (paired _)

/-! The parameter sets of the active (R349 step 3). -/

theorem tabGet?_filter {α : Type} {f : Nat → Bool} {k : Nat} (h : f k = true) (t : Tab α) : tabGet? (t.filter (fun e => f e.1)) k = tabGet? t k := by
  induction t with
  | nil => rfl
  | cons e r ih =>
    obtain ⟨i, v⟩ := e
    rw [List.filter_cons]
    by_cases hi : i = k
    · rw [if_pos (by rw [hi]; exact h)]
      exact (if_pos hi).trans (if_pos hi).symm
    · split
      · exact (if_neg hi).trans (ih.trans (if_neg hi).symm)
      · exact ih.trans (if_neg hi).symm

theorem tabGet?_foldl_tabPut {α : Type} {l : List (Nat × α)} {k : Nat} (h : ∀ e ∈ l, e.1 ≠ k) (t : Tab α) :
    tabGet? (l.foldl (fun t e => tabPut t e.1 e.2) t) k = tabGet? t k :=
  List.foldlRecOn (motive := fun x => tabGet? x k = tabGet? t k) l _ rfl fun _ hx e he => (tabGet?_tabPut_of_ne _ _ (h e he).symm).trans hx

/-- The fields of the active over the joiner's own ones. -/
def setsTaken (eff : Tab Wire) (ps : List Pend) (s : State) : State :=
  { s with
    par := (s.par.filter (fun e => ownField e.1)).foldl (fun (t : Tab Wire) (e : Nat × Wire) => tabPut t e.1 e.2) (eff.filter (fun e => !ownField e.1))
    pend := s.pend.filter (fun e => ownField e.id) ++ ps.filter (fun e => !ownField e.id) }

theorem setsTaken_par {id : Nat} (h : ownField id = false) (eff : Tab Wire) (ps : List Pend) (s : State) :
    tabGet? (setsTaken eff ps s).par id = tabGet? eff id := by
  have own : ∀ e ∈ s.par.filter (fun e => ownField e.1), e.1 ≠ id := by
    intro e he same
    have mine := (List.mem_filter.1 he).2
    rw [same, h] at mine
    cases mine
  exact (tabGet?_foldl_tabPut own _).trans (tabGet?_filter (f := fun i => !ownField i) (by rw [h]; rfl) eff)

theorem setsTaken_pend {id : Nat} (h : ownField id = false) {ps : List Pend} (hps : ∀ e ∈ ps, e.id ≠ id) (eff : Tab Wire) (s : State) :
    ∀ e ∈ (setsTaken eff ps s).pend, e.id ≠ id := by
  intro e he same
  rcases List.mem_append.1 he with he | he
  · have mine := (List.mem_filter.1 he).2
    rw [same, h] at mine
    cases mine
  · exact hps e (List.mem_filter.1 he).1 same

/-- The joiner at step 4, its sets loaded. -/
def setsLoaded (eff : Tab Wire) (ps : List Pend) (s : State) : State :=
  modRdn (fun r => { r with joinState := 4 }) (patFollow s (setsTaken eff ps s))

theorem loadSets_eq (eff : Tab Wire) (ps : List Pend) (s : State) : loadSets eff ps s = (let x := setsLoaded eff ps s;
    if x.dev.live then joinAdvance x else { x with trans := x.trans ++ [{ kind := 0, part := 8, tick := x.tickNow + 1 }] }) := rfl

theorem joinAdvance_joinState (s : State) (h : s.rdn.joinState = 4) : 4 ≤ (joinAdvance s).rdn.joinState := by
  have asks (n : Nat) (m : Int) : (sendPair (.role 1 m) (modRdn (fun r => { r with joinState := n }) s)).rdn.joinState = n := by
    obtain ⟨p, a, b, c, o, e⟩ := sendPair_sends (.role 1 m) (modRdn (fun r => { r with joinState := n }) s)
    rw [e]
    rfl
  unfold joinAdvance
  split
  · exact Nat.le_of_eq h.symm
  · split
    · next h2 => simp [h] at h2
    · split
      · rw [asks]
        decide
      · exact Nat.le_of_eq h.symm

theorem loadSets_loads (eff : Tab Wire) (ps : List Pend) (s : State) : 4 ≤ (loadSets eff ps s).rdn.joinState ∧
    ∀ id, ownField id = false → (∀ e ∈ ps, e.id ≠ id) → tabGet? (loadSets eff ps s).par id = tabGet? eff id := by
  have loaded : Promotes (setsTaken eff ps s) (setsLoaded eff ps s) := (patFollow_promotes ..).trans (modRdn_promotes ..)
  generalize hx : setsLoaded eff ps s = x at loaded
  have step : x.rdn.joinState = 4 := by
    rw [← hx]
    rfl
  have result : Promotes x (loadSets eff ps s) ∧ 4 ≤ (loadSets eff ps s).rdn.joinState := by
    rw [loadSets_eq, hx]
    dsimp only
    split
    · exact ⟨joinAdvance_promotes x, joinAdvance_joinState x step⟩
    · exact ⟨.of_same rfl rfl, Nat.le_of_eq step.symm⟩
  refine ⟨result.2, fun id hid hps => ?_⟩
  exact ((loaded.trans result.1).par id (setsTaken_pend hid hps eff s)).trans (setsTaken_par hid eff ps s)

/-! The frames of a role. -/

section
variable {lane : Fin 2} {seq : Nat} {s : State}

theorem ended_rdn (x : State) : (ended x).rdn = { x.rdn with hbOut := (ended x).rdn.hbOut } := rfl

theorem partner_detached (h : FirstCopy s lane 0x18 seq) (dt : Nat) : ∃ t, exec (.roleRx dt lane seq 0 0) s = .next t ∧ t.rdn.partnerRole = 4 := by
  obtain ⟨w, -, copy⟩ := firstCopy_takes h dt (partnerIs 4)
  exact exec_ends (x := partnerIs 4 (noteSeen 0x18 w (s.begin dt))) (congrArg done copy) rfl

theorem swap_ordered (h : FirstCopy s lane 0x18 seq) (hrole : s.rdn.role = 2) (dt : Nat) (n : Int) :
    ∃ t, exec (.roleRx dt lane seq 2 n) s = .next t ∧ t.rdn.swapAt = some n := by
  obtain ⟨w, -, copy⟩ := firstCopy_takes h dt (fun s => if s.rdn.role = 2 then modRdn (fun r => { r with swapAt := some n }) s else s)
  refine exec_ends (congrArg done (copy.trans (if_pos hrole))) ?_
  rw [ended_rdn]
  rfl

theorem capture_asked (h : FirstCopy s lane 0x18 seq) (hrole : s.rdn.role = 1) (dt : Nat) :
    ∃ t, exec (.roleRx dt lane seq 1 6) s = .next t ∧ t.rdn.capture = true := by
  obtain ⟨w, -, copy⟩ := firstCopy_takes h dt (fun s =>
    let s := partnerIs 3 s
    if s.rdn.role ≠ 1 then s
    else if (6 : Int) = 3 then sendPair (.stx (.par s.par s.pend)) s
    else if (6 : Int) = 6 then modRdn (fun r => { r with capture := true }) s else s)
  have active : (partnerIs 3 (noteSeen 0x18 w (s.begin dt))).rdn.role = 1 :=
    (condHolds_calm 0x3107 0 0 (modRdn (fun x => { x with partnerRole := 3 }) (noteSeen 0x18 w (s.begin dt)))).role.1.trans hrole
  refine exec_ends (congrArg done (copy.trans ((if_neg (not_not_intro active)).trans
    ((if_neg (show ¬(6 : Int) = 3 by decide)).trans (if_pos (rfl : (6 : Int) = 6)))))) ?_
  rw [ended_rdn]
  rfl

/-! A swap. -/

theorem setRole_role (r : Nat) (s : State) : (setRole r s).rdn.role = r ∧ (setRole r s).rdn.partnerRole = s.rdn.partnerRole ∧
    (setRole r s).hst = s.hst := by
  unfold setRole
  split
  · next h => exact ⟨h, rfl, rfl⟩
  · dsimp only
    split <;> exact ⟨rfl, rfl, rfl⟩

theorem ended_roles (x : State) : (ended x).rdn.role = x.rdn.role ∧ (ended x).rdn.partnerRole = x.rdn.partnerRole := ⟨rfl, rfl⟩

/-- The swap waits no longer. -/
def swapTaken (s : State) : State := modRdn (fun r => { r with swapAt := none }) s

theorem swapEffect_due {k n : Int} {s : State} (h : s.rdn.swapAt = some k) (hdue : k ≤ n) : swapEffect n s =
    if s.rdn.role = 1 then setRole 2 (modRdn (fun r => { r with partnerRole := 1 }) (moveToken 15 6 (swapTaken s)))
    else if s.rdn.role = 2 then setRole 1 (modRdn (fun r => { r with partnerRole := 2 }) (swapTaken s)) else swapTaken s := by
  unfold swapEffect
  rw [h]
  exact if_neg (Int.not_lt.2 hdue)

theorem active_swaps {k : Int} {dt : Nat} (h : s.rdn.swapAt = some k) (hdue : k ≤ (s.begin dt).tickNow) (hrole : s.rdn.role = 1) :
    ∃ t, exec (.roleSwapEffect dt) s = .next t ∧ t.rdn.role = 2 ∧ t.rdn.partnerRole = 1 ∧ t.hst.token = 15 := by
  obtain ⟨role, partner, hst⟩ := setRole_role 2 (modRdn (fun r => { r with partnerRole := 1 }) (moveToken 15 6 (swapTaken (s.begin dt))))
  refine exec_ends (congrArg done ((swapEffect_due (s := s.begin dt) h hdue).trans (if_pos hrole))) ?_
  rw [(ended_roles _).1, (ended_roles _).2, ended_hst, role, partner, hst]
  exact ⟨rfl, rfl, (moveToken_spec 15 6 (swapTaken (s.begin dt))).1⟩

theorem standby_swaps {k : Int} {dt : Nat} (h : s.rdn.swapAt = some k) (hdue : k ≤ (s.begin dt).tickNow) (hrole : s.rdn.role = 2) :
    ∃ t, exec (.roleSwapEffect dt) s = .next t ∧ t.rdn.role = 1 ∧ t.rdn.partnerRole = 2 ∧ t.hst.token = s.hst.token := by
  obtain ⟨role, partner, hst⟩ := setRole_role 1 (modRdn (fun r => { r with partnerRole := 2 }) (swapTaken (s.begin dt)))
  have other : ¬(s.begin dt).rdn.role = 1 := by
    rw [State.begin_rdn, hrole]
    decide
  refine exec_ends (congrArg done ((swapEffect_due (s := s.begin dt) h hdue).trans ((if_neg other).trans (if_pos hrole)))) ?_
  rw [(ended_roles _).1, (ended_roles _).2, ended_hst, role, partner, hst]
  exact ⟨rfl, rfl, rfl⟩

/-! Joining. -/

theorem ended_joinState (x : State) : (ended x).rdn.joinState = x.rdn.joinState := rfl

theorem sets_loaded {eff : Tab Wire} {ps : List Pend} (h : FirstCopy s lane 0x16 seq) (hrole : s.rdn.role = 3) (hjoin : s.rdn.joinState = 3)
    (dt : Nat) : ∃ t, exec (.stxRx dt lane seq (.par eff ps)) s = .next t ∧ 4 ≤ t.rdn.joinState ∧
      ∀ id, ownField id = false → (∀ e ∈ ps, e.id ≠ id) → tabGet? t.par id = tabGet? eff id := by
  obtain ⟨w, -, copy⟩ := firstCopy_takes h dt (fun s => if s.rdn.role ≠ 3 then s else if s.rdn.joinState = 3 then loadSets eff ps s else s)
  have loads := loadSets_loads eff ps (noteSeen 0x16 w (s.begin dt))
  refine exec_ends (congrArg done (copy.trans ((if_neg (not_not_intro hrole)).trans (if_pos hjoin)))) ?_
  rw [ended_joinState, ended_par]
  exact loads

theorem loadCapture_loads {c : Capture} {s : State} (h : schedAgrees s c = true) : (loadCapture c s).gfe = c.gfe ∧ (loadCapture c s).lpe = c.lpe ∧
    (loadCapture c s).mod = c.mod ∧ (loadCapture c s).rdn.shadow = some c.dev ∧ (loadCapture c s).rdn.joinState = 7 ∧
    (loadCapture c s).dev = s.dev := by
  unfold loadCapture
  rw [h, if_neg (by decide)]
  exact ⟨rfl, rfl, rfl, rfl, rfl, rfl⟩

theorem ended_shadow (x : State) : (ended x).rdn.shadow = x.rdn.shadow := rfl

theorem capture_loaded {c : Capture} {w : SeqWin} (hpair : s.pairEn = true) (hup : (pairLane s lane).up = true) (hseq : seq < 65536)
    (hw : (tabGet s.rdn.typeWin 0x16 {}).take seq = some w) (hrole : s.rdn.role = 3) (hjoin : s.rdn.joinState = 6) {dt : Nat}
    (hsched : schedAgrees (modRdn (fun r => { r with typeWin := tabPut r.typeWin 0x16 w }) (s.begin dt)) c = true) :
    ∃ t, exec (.stxRx dt lane seq (.captured c)) s = .next t ∧ t.gfe = c.gfe ∧ t.lpe = c.lpe ∧ t.mod = c.mod ∧ t.rdn.shadow = some c.dev ∧
      t.rdn.joinState = 7 ∧ t.dev = s.dev := by
  obtain ⟨w', hw', copy⟩ := firstCopy_takes (type := 0x16) ⟨hpair, hup, hseq, by rw [hw]; rfl⟩ dt
    (fun s => if s.rdn.role ≠ 3 then s else if s.rdn.joinState = 6 then loadCapture c s else s)
  obtain rfl : w = w' := Option.some.inj (hw.symm.trans hw')
  refine exec_ends (congrArg done (copy.trans ((if_neg (not_not_intro hrole)).trans (if_pos hjoin)))) ?_
  rw [ended_gfe, ended_lpe, ended_mod, ended_shadow, ended_joinState, ended_dev]
  exact loadCapture_loads hsched

theorem ended_buf (x : State) : (ended x).rdn.buf = x.rdn.buf := rfl
theorem ended_syncTicks (x : State) : (ended x).rdn.syncTicks = x.rdn.syncTicks := rfl

theorem replay_done (hrole : s.rdn.role = 3) (hjoin : s.rdn.joinState = 7) (hawake : s.awake = true) (dt : Nat) :
    ∃ t, exec (.joinReplayDone dt) s = .next t ∧ t.rdn.joinState = 8 ∧ t.rdn.buf = [] ∧ t.rdn.syncTicks = 0 ∧ t.alm.tick = s.alm.tick := by
  have starts : ¬(decide ((s.begin dt).rdn.role ≠ 3) || decide ((s.begin dt).rdn.joinState ≠ 7) || !(s.begin dt).awake) = true := by
    rw [State.begin_rdn, hrole, hjoin, show (s.begin dt).awake = true from hawake]
    decide
  generalize hx : inShadow (fun x => (s.begin dt).rdn.buf.foldl replayTick x) (s.begin dt) = x
  have runs : exec (.joinReplayDone dt) s = done (modRdn (fun r => { r with buf := [], joinState := 8, syncTicks := 0 })
      { x with alm := { x.alm with tick := (s.begin dt).alm.tick }, plk := { x.plk with tel := (s.begin dt).plk.tel } }) := by
    rw [← hx]
    exact if_neg starts
  refine exec_ends runs ?_
  rw [ended_joinState, ended_buf, ended_syncTicks, ended_alm]
  exact ⟨rfl, rfl, rfl, State.begin_alm_tick ..⟩

/-- The replay starts again (R349). -/
def replayRestarted (s : State) : State := modRdn (fun r => { r with buf := [], joinState := 6, joinRestarts := r.joinRestarts + 1 }) s

theorem ended_joinRestarts (x : State) : (ended x).rdn.joinRestarts = x.rdn.joinRestarts := rfl

theorem buffer_full (hrole : s.rdn.role = 3) (hjoin : s.rdn.joinState = 6 ∨ s.rdn.joinState = 7) (hfull : 512 ≤ s.rdn.buf.length) (dt : Nat) :
    ∃ t, exec (.joinBufferFull dt) s = .next t ∧ t.rdn.joinState = 6 ∧ t.rdn.buf = [] ∧ t.rdn.joinRestarts = s.rdn.joinRestarts + 1 ∧
      (s.rdn.joinRestarts = 2 → isHeld 0x3108 0 0 t = true) := by
  have starts : ¬(decide ((s.begin dt).rdn.role ≠ 3) || !((s.begin dt).rdn.joinState == 6 || (s.begin dt).rdn.joinState == 7) ||
      decide ((s.begin dt).rdn.buf.length < 512)) = true := by
    rw [State.begin_rdn, hrole, decide_eq_false (Nat.not_lt.2 hfull)]
    rcases hjoin with h | h <;> rw [h] <;> decide
  obtain ⟨y, hy, seqs, held⟩ : ∃ y, (if (replayRestarted (s.begin dt)).rdn.joinRestarts = 3 then raiseDev 0x3108 0 0 (replayRestarted (s.begin dt))
      else replayRestarted (s.begin dt)) = y ∧ Seqs (replayRestarted (s.begin dt)) y ∧ (s.rdn.joinRestarts = 2 → isHeld 0x3108 0 0 y = true) := by
    refine ⟨_, rfl, ?_, fun h2 => ?_⟩
    · exact .ite (raiseDev_calm (by decide) ..).seqs (.refl _)
    · have third : (replayRestarted (s.begin dt)).rdn.joinRestarts = 3 := congrArg (· + 1) h2
      rw [if_pos third]
      exact raiseDev_held _ _ _ _ (by decide)
  have runs : exec (.joinBufferFull dt) s = done (sendPair (.role 1 6) y) := by
    rw [← hy]
    exact if_neg starts
  obtain ⟨a, b, c, e⟩ := seqs.trans (sendPair_sends (.role 1 6) y).calm.seqs
  refine exec_ends runs ?_
  rw [ended_joinState, ended_buf, ended_joinRestarts, ended_isHeld, e, isHeld_congr (sendPair_reacts ..).held]
  exact ⟨rfl, rfl, rfl, held⟩

theorem condHolds_dev (c k i : Nat) (s : State) : (condHolds c k i s).dev = s.dev :=
  (clearWhere_clears ..).keeps.dev

theorem setDev_seqs (d : Dev) (c : Nat) (s : State) : Seqs s (setDev d c s) := by
  have moved : Seqs s { s with dev := d } := .of_eq rfl
  exact .ite (.refl s) (moved.trans (logEvent_logs ..).calm.seqs)

/-- The member STANDBY, in the device state it shadowed. -/
def standbyJoined (s : State) : State :=
  setDev (s.rdn.shadow.getD s.dev) 0x0302 (setRole 2 (modRdn (fun r => { r with joinState := 0, shadow := none, joinRestarts := 0 }) s))

theorem standbyJoined_role (s : State) : (standbyJoined s).rdn.role = 2 := by
  obtain ⟨a, b, c, e⟩ := setDev_seqs (s.rdn.shadow.getD s.dev) 0x0302
    (setRole 2 (modRdn (fun r => { r with joinState := 0, shadow := none, joinRestarts := 0 }) s))
  unfold standbyJoined
  rw [e]
  exact (setRole_role ..).1

theorem join_completes (hrole : s.rdn.role = 3) (hjoin : s.rdn.joinState = 8) (hsync : s.pn 10 0 5 ≤ s.rdn.syncTicks) (dt : Nat) :
    ∃ t, exec (.joinComplete dt) s = .next t ∧ t.rdn.role = 2 ∧ t.dev = s.rdn.shadow.getD s.dev := by
  have starts : ¬(decide ((s.begin dt).rdn.role ≠ 3) || decide ((s.begin dt).rdn.joinState ≠ 8) ||
      decide ((s.begin dt).rdn.syncTicks < (s.begin dt).pn 10 0 5)) = true := by
    rw [State.begin_rdn, hrole, hjoin, decide_eq_false (Nat.not_lt.2 (show (s.begin dt).pn 10 0 5 ≤ s.rdn.syncTicks from hsync))]
    decide
  obtain ⟨p, runs⟩ : ∃ p, exec (.joinComplete dt) s = done (condHolds 0x3104 0 0 (condHolds 0x3106 0 0 (condHolds 0x3108 0 0
      { standbyJoined (s.begin dt) with plk := p }))) := ⟨_, if_neg starts⟩
  refine exec_ends runs ?_
  rw [(ended_roles _).1, (condHolds_calm ..).role.1, (condHolds_calm ..).role.1, (condHolds_calm ..).role.1, ended_dev, condHolds_dev,
    condHolds_dev, condHolds_dev]
  exact ⟨standbyJoined_role _, setDev_dev ..⟩

end

/-- Settles O37: each frame and step of a role as it is taken. -/
theorem rolesAndJoining : Obligations.RolesAndJoining := fun dt _ _ _ =>
  ⟨fun h => partner_detached h dt, fun n h hrole => swap_ordered h hrole dt n, fun h hrole => capture_asked h hrole dt,
    fun _ h hdue => ⟨fun hrole => active_swaps h hdue hrole, fun hrole => standby_swaps h hdue hrole⟩,
    fun _ _ h hrole hjoin => sets_loaded h hrole hjoin dt,
    fun _ _ hpair hup hseq hw hrole hjoin hsched => capture_loaded hpair hup hseq hw hrole hjoin hsched,
    fun hrole hjoin hawake => replay_done hrole hjoin hawake dt, fun hrole hjoin hfull => buffer_full hrole hjoin hfull dt,
    fun hrole hjoin hsync => join_completes hrole hjoin hsync dt⟩

end Sys2Proof.Machine
end

section
/-! What a pair member and a node send (R341, R343, R351, Table 12-3). -/
namespace Sys2Proof.Machine

/-! What was handed over stays handed over. -/

theorem Sends.out {s t : State} : Sends s t → s.out ⊆ t.out := by
  rintro ⟨p, a, b, c, o, rfl⟩
  exact List.subset_append_left _ _

theorem setRole_out (r : Nat) (s : State) : (setRole r s).out = s.out := by
  unfold setRole
  split
  · rfl
  · dsimp only
    split <;> rfl

theorem joinAdvance_out (s : State) : s.out ⊆ (joinAdvance s).out := by
  have asks (n : Nat) (m : Int) : s.out ⊆ (sendPair (.role 1 m) (modRdn (fun r => { r with joinState := n }) s)).out :=
    (sendPair_sends (.role 1 m) (modRdn (fun r => { r with joinState := n }) s)).out
  unfold joinAdvance
  split
  · exact List.Subset.refl _
  · split
    · exact asks ..
    · split
      · exact asks ..
      · exact List.Subset.refl _

theorem joinStart_out (s : State) : s.out ⊆ (joinStart s).out := by
  have aligned (x : State) : (if x.dev = .boot || x.dev = .parked then reAcquire 0 x else x).out = x.out := by split <;> rfl
  have before : (setRole 3 s).out = s.out := setRole_out ..
  unfold joinStart
  refine List.Subset.trans ?_ (joinAdvance_out _)
  rw [aligned, ← before]
  exact List.Subset.refl _

theorem becomeActive_out (s : State) : s.out ⊆ (becomeActive s).out := by
  have cancelled (x : State) (l : List Nat) : x.out ⊆ (l.foldl (fun s p => cancelLaunches p s) x).out :=
    List.foldlRecOn (motive := fun t : State => x.out ⊆ t.out) l _ (List.Subset.refl _) fun _ ht _ _ => List.Subset.trans ht (cancelLaunches_out ..)
  have active : (setRole 1 (modRdn (fun r => { r with joinState := 0, shadow := none, buf := [], swapAt := none }) s)).out = s.out := setRole_out ..
  rw [← active]
  exact List.Subset.trans (moveToken_out ..) (cancelled ..)

theorem tryJoin_out (s : State) : s.out ⊆ (tryJoin s).out := by
  have ite {c : Prop} [Decidable c] {a b : State} (ha : s.out ⊆ a.out) (hb : s.out ⊆ b.out) : s.out ⊆ (if c then a else b).out := by
    split <;> assumption
  unfold tryJoin
  split
  · exact List.Subset.refl _
  · split
    · exact List.Subset.refl _
    · exact ite (ite (joinStart_out s) (List.Subset.refl _)) (ite (becomeActive_out s) (List.Subset.refl _))

/-- A frame for the peers is handed over on every port that is named. -/
theorem sendPeer_emits {q : Nat} {ports : List Nat} (hq : q ∈ ports) (f : PeerFrame) (s : State) : ∃ n, Out.peer q n f ∈ (sendPeer ports f s).out := by
  induction ports generalizing s with
  | nil => cases hq
  | cons p r ih =>
    rcases List.mem_cons.1 hq with rfl | hq
    · exact ⟨(nextSeq q f s).1, (sendPeer_sends r f ((nextSeq q f s).2.emit (.peer q (nextSeq q f s).1 f))).out
        (List.mem_append_right _ (List.mem_singleton_self _))⟩
    · exact ih hq ((nextSeq p f s).2.emit (.peer p (nextSeq p f s).1 f))

/-- A time frame goes out with its own number on every port. -/
theorem sendPeer_ptime {q : Nat} {ports : List Nat} (hq : q ∈ ports) (n sec ns frac : Nat) (s : State) :
    Out.peer q n (.ptime n sec ns frac) ∈ (sendPeer ports (.ptime n sec ns frac) s).out := by
  have emitted : sendPeer ports (.ptime n sec ns frac) s = ports.foldl (fun s q => s.emit (.peer q n (.ptime n sec ns frac))) s := rfl
  rw [emitted, foldl_emit_out (fun q => Out.peer q n (.ptime n sec ns frac))]
  exact List.mem_append_right _ (List.mem_map.2 ⟨q, hq, rfl⟩)

section
variable {s : State}

theorem fwdS_sent (hpair : s.pairEn = true) (hrole : s.rdn.role = 1) (hawake : s.awake = true) (hlane : (pairLane s 0).up = true) {dt : Nat}
    (hphase : (200 * nsecQ : Nat) ≤ (s.begin dt).phaseQ) : ∃ t n f, exec (.fwdSSend dt) s = .next t ∧ .peer 8 n (.fwdS s.alm.tick f) ∈ t.out ∧
      ∀ i : Fin 32, 2 ≤ ainMode s i → (i.val, (ain s i).tick, (ain s i).tickOk, (ain s i).tickPs) ∈ f := by
  have starts : ¬(!(s.begin dt).pairEn || decide ((s.begin dt).rdn.role ≠ 1) || !(s.begin dt).awake ||
      decide ((s.begin dt).phaseQ < (200 * nsecQ : Nat))) = true := by
    rw [show (s.begin dt).pairEn = true from hpair, show (s.begin dt).rdn.role = 1 from hrole, show (s.begin dt).awake = true from hawake,
      decide_eq_false (Int.not_lt.2 hphase)]
    decide
  generalize hf : ((List.range 32).filter (fun n => decide (2 ≤ ainMode s n))).map (fun n => (n, (ain s n).tick, (ain s n).tickOk, (ain s n).tickPs)) = f
  have runs : exec (.fwdSSend dt) s = done (sendPair (.fwdS s.alm.tick f) (s.begin dt)) := by
    rw [← hf, ← State.begin_alm_tick dt s]
    exact if_neg starts
  obtain ⟨n, sent⟩ := sendPair_emits (l := 0) (s := s.begin dt) hlane (.fwdS s.alm.tick f)
  obtain ⟨t, ht, out⟩ := exec_ends (P := fun t => Out.peer 8 n (.fwdS s.alm.tick f) ∈ t.out) runs (mem_ended sent)
  refine ⟨t, n, f, ht, out, fun i hi => ?_⟩
  rw [← hf]
  exact List.mem_map.2 ⟨i, List.mem_filter.2 ⟨List.mem_range.2 i.isLt, decide_eq_true hi⟩, rfl⟩

/-! The vigil report (R351). -/

theorem vigilWords_crc (s : State) (fails : List Nat) (lane margin : Nat) : (vigilWords s fails lane margin).length = 16 ∧
    (vigilWords s fails lane margin).getD 15 0 = crc32 (((vigilWords s fails lane margin).take 15).flatMap (fun x => bytesBE 4 x.toNat)) :=
  ⟨rfl, rfl⟩

/-- A condition of the report raised or cleared. -/
def judgeVigil (fails : List Nat) (s : State) (i : Nat) : State :=
  if fails.contains i then runRaise 0x3110 0 i 0 0 [] (fails.contains i) s
  else condHolds 0x3110 0 i (runRaise 0x3110 0 i 0 0 [] (fails.contains i) s)

theorem runRaise_seqs {c : Nat} (hw : withdrawCode c = false) (k i a b : Nat) (sc : List Nat) (x : Bool) (s : State) :
    Seqs s (runRaise c k i a b sc x s) := by
  obtain ⟨r, h⟩ := runRaise_calm hw k i a b sc x s
  obtain ⟨p, q, n, e⟩ := h.rdn
  exact ⟨p, q, n, e⟩

theorem judgeVigil_seqs (fails : List Nat) (s : State) (i : Nat) : Seqs s (judgeVigil fails s i) :=
  .ite (runRaise_seqs (by decide) ..) ((runRaise_seqs (by decide) ..).trans (condHolds_calm ..).seqs)

theorem runRaise_isHeld {c k i c' k' i' a b : Nat} {sc : List Nat} {x : Bool} {s : State} (hw : withdrawCode c' = false)
    (h : isHeld c k i s = true) : isHeld c k i (runRaise c' k' i' a b sc x s) = true := by
  unfold runRaise
  dsimp only
  split
  · split
    · exact h
    · exact isHeld_raise (s := { s with spu := { s.spu with runs := (c', k' * 4096 + i') :: s.spu.runs } }) h _ _ _ _ _ _ hw
  · exact h

theorem judgeVigil_isHeld {fails : List Nat} {s : State} {i j : Nat} (hj : fails.contains j = true) (h : isHeld 0x3110 0 j s = true) :
    isHeld 0x3110 0 j (judgeVigil fails s i) = true := by
  unfold judgeVigil
  split
  · exact runRaise_isHeld (by decide) h
  · next hi =>
    have other : (0x3110 == 0x3110 && 0 == 0 && i == j) = false := by
      have : i ≠ j := fun e => hi (e ▸ hj)
      simpa using this
    rw [condHolds_isHeld other]
    exact runRaise_isHeld (by decide) h

/-- The report as sent: its words noted, and the counts of its period begun again. -/
def vigilNoted (ws : List Word) (s : State) : State :=
  modRdn (fun r => { r with
    vigilOwn := ws, vseq := r.vseq + 1, perMis := 0, perMiss := 0, perOne := 0, perAdc := 0, perBsd := 0, perEcc := 0, vigilAt := s.clock }) s

theorem ended_vigilOwn (x : State) : (ended x).rdn.vigilOwn = x.rdn.vigilOwn := rfl

theorem powered_of_live {d : Dev} (h : d.live = true) : d.powered = true := by
  revert h
  cases d <;> decide

theorem vigil_sent (hmute : notActive s = true) (hlive : s.dev.live = true) (hlane : (pairLane s 0).up = true) {dt : Nat}
    (hdue : s.rdn.vigilAt + s.ptn 10 0x200 1 / stepQ ≤ s.clock + dt) (a b c : Bool) (ln : Fin 64) (m : Fin 1025) :
    ∃ t n ws, exec (.vigilReport dt a b c ln m) s = .next t ∧ .peer 8 n (.vig ws) ∈ t.out ∧ ws.length = 16 ∧
      ws.getD 15 0 = crc32 ((ws.take 15).flatMap (fun x => bytesBE 4 x.toNat)) ∧ t.rdn.vigilOwn = ws ∧
      (a = true → (s.pn 10 0x200 2).testBit 0 = true → s.spu.runs.contains (0x3110, 0) = false → isHeld 0x3110 0 0 t = true) := by
  have starts : ¬(!notActive (s.begin dt) || !(s.begin dt).dev.powered ||
      decide ((s.begin dt).clock < (s.begin dt).rdn.vigilAt + (s.begin dt).ptn 10 0x200 1 / stepQ)) = true := by
    rw [show notActive (s.begin dt) = true from hmute, State.begin_dev, powered_of_live hlive,
      decide_eq_false (Nat.not_lt.2 (show (s.begin dt).rdn.vigilAt + (s.begin dt).ptn 10 0x200 1 / stepQ ≤ (s.begin dt).clock from hdue))]
    decide
  generalize hfails : vigilFails (s.begin dt) a b c m = fails
  generalize hws : vigilWords (s.begin dt) fails ln m = ws
  have crc := vigilWords_crc (s.begin dt) fails ln m
  rw [hws] at crc
  have runs : exec (.vigilReport dt a b c ln m) s =
      done (sendPair (.vig ws) ((List.range 11).foldl (judgeVigil fails) (vigilNoted ws (s.begin dt)))) := by
    rw [← hws, ← hfails]
    exact if_neg starts
  obtain ⟨p, q, r, judged⟩ : Seqs (vigilNoted ws (s.begin dt)) ((List.range 11).foldl (judgeVigil fails) (vigilNoted ws (s.begin dt))) :=
    .foldl _ (fun _ _ => judgeVigil_seqs ..) _ _
  have up : (vget ((List.range 11).foldl (judgeVigil fails) (vigilNoted ws (s.begin dt))).rdn.lane (0 : Fin 2) {}).up = true := by
    rw [judged]
    exact hlane
  obtain ⟨n, sent⟩ := sendPair_emits up (.vig ws)
  obtain ⟨p', q', r', after⟩ := (sendPair_sends (.vig ws) ((List.range 11).foldl (judgeVigil fails) (vigilNoted ws (s.begin dt)))).calm.seqs
  obtain ⟨t, ht, out, own, held⟩ := exec_ends (P := fun t => Out.peer 8 n (.vig ws) ∈ t.out ∧ t.rdn.vigilOwn = ws ∧
    (a = true → (s.pn 10 0x200 2).testBit 0 = true → s.spu.runs.contains (0x3110, 0) = false → isHeld 0x3110 0 0 t = true)) runs ⟨mem_ended sent,
      by rw [ended_vigilOwn, after, judged]; rfl, fun ha hon hnew => by
    have fails0 : fails.contains 0 = true := by
      rw [← hfails, vigilFails, List.contains_iff_mem]
      refine List.mem_filter.2 ⟨by decide, ?_⟩
      rw [show (s.begin dt).pn 10 0x200 2 = s.pn 10 0x200 2 from rfl, hon, ha]
      rfl
    have first : isHeld 0x3110 0 0 (judgeVigil fails (vigilNoted ws (s.begin dt)) 0) = true := by
      unfold judgeVigil
      rw [fails0, if_pos rfl]
      exact runRaise_held (by decide) hnew
    rw [ended_isHeld, isHeld_congr (sendPair_reacts ..).held, show List.range 11 = 0 :: (List.range 10).map (· + 1) from rfl, List.foldl_cons]
    exact List.foldlRecOn (motive := fun t => isHeld 0x3110 0 0 t = true) _ _ first fun _ ht i _ => judgeVigil_isHeld fails0 ht⟩
  exact ⟨t, n, ws, ht, out, crc.1, crc.2, own, held⟩

/-! HELLO, time and heights. -/

theorem dueAgain_of {last : Option Nat} {dt : Nat} (h : ∀ a, last = some a → a + msSteps ≤ s.clock + dt) : dueAgain msSteps last (s.begin dt) = true := by
  unfold dueAgain
  cases last with
  | none => rfl
  | some a => exact decide_eq_true (h a rfl)

theorem not_dueAgain {a dt : Nat} (h : s.clock + dt < a + msSteps) : dueAgain msSteps (some a) (s.begin dt) = false :=
  decide_eq_false (Nat.not_le.2 h)

theorem hello_sent {q : Fin 8} (hq : (pp s q).st ≠ 0) {dt : Nat} (hdue : ∀ a, s.rdn.helloAt = some a → a + msSteps ≤ s.clock + dt) :
    ∃ t n h, exec (.peerHelloDue dt) s = .next t ∧ .peer q n (.hello h) ∈ t.out ∧ h.node = nodeId s ∧ h.member = s.pn 10 0 2 ∧ h.role = s.rdn.role := by
  generalize hx : modRdn (fun r => { r with helloAt := some (s.begin dt).clock }) (s.begin dt) = x
  have named : q.val ∈ (List.range 8).filter (fun q => (pp x q).st != 0) := by
    rw [← hx]
    exact List.mem_filter.2 ⟨List.mem_range.2 q.isLt, bne_iff_ne.2 hq⟩
  obtain ⟨n, sent⟩ := sendPeer_emits named (.hello (ownHello x)) x
  obtain ⟨y, runs, out⟩ : ∃ y, exec (.peerHelloDue dt) s = done y ∧
      (sendPeer ((List.range 8).filter (fun q => (pp x q).st != 0)) (.hello (ownHello x)) x).out ⊆ y.out := by
    have due : ¬(!dueAgain msSteps (s.begin dt).rdn.helloAt (s.begin dt)) = true := by
      rw [State.begin_rdn, dueAgain_of (s := s) hdue]
      decide
    rw [← hx]
    refine ⟨_, (if_neg due).trans (apply_ite done _ _ _).symm, ?_⟩
    split
    · exact List.Subset.trans (sendPair_sends ..).out (List.Subset.trans (tryJoin_out _) (joinAdvance_out _))
    · exact List.Subset.refl _
  obtain ⟨t, ht, told⟩ := exec_ends (P := fun t => Out.peer q n (.hello (ownHello x)) ∈ t.out) runs (mem_ended (out sent))
  refine ⟨t, n, ownHello x, ht, told, ?_⟩
  rw [← hx]
  exact ⟨rfl, rfl, rfl⟩

theorem ptime_sent {q : Fin 8} (hq : (pp s q).st = 3) {dt : Nat} (hstrike : (s.begin dt).strikes 0 (1000 * nsecQ) 0 = true) :
    ∃ t, exec (.ptimeDue dt) s = .next t ∧ .peer q (tabGet s.rdn.txSeq 2 0) (.ptime (tabGet s.rdn.txSeq 2 0) (secOf (s.begin dt).now)
      (nsOf (s.begin dt).now) (fracOf (s.begin dt).now)) ∈ t.out := by
  have due : ¬(!(s.begin dt).strikes 0 (1000 * nsecQ) 0) = true := by
    rw [hstrike]
    decide
  have named : q.val ∈ timeLinks (s.begin dt) := by
    refine List.mem_append_left _ (List.mem_filter.2 ⟨List.mem_range.2 q.isLt, ?_⟩)
    rw [show (pp (s.begin dt) q).st = 3 from hq]
    rfl
  obtain ⟨x, runs, hx⟩ : ∃ x, exec (.ptimeDue dt) s = done (sendPeer (timeLinks (s.begin dt)) (.ptime (tabGet s.rdn.txSeq 2 0) (secOf x.now)
      (nsOf x.now) (fracOf x.now)) x) ∧ x.now = (s.begin dt).now := by
    refine ⟨_, if_neg due, ?_⟩
    refine List.foldlRecOn (motive := fun t : State => t.now = (s.begin dt).now) (timeLinks (s.begin dt)) _ rfl fun t ht q _ => ?_
    rw [← ht]
    unfold modLink
    split <;> rfl
  rw [hx] at runs
  exact exec_ends runs (mem_ended (sendPeer_ptime named ..))

theorem heights_sent {q : Fin 8} (hq : (pp s q).st = 3) (hup : upward s q = true) {dt : Nat}
    (hdue : ∀ a, s.rdn.topoAt = some a → a + msSteps ≤ s.clock + dt) : ∃ t n ids, exec (.topoDue dt) s = .next t ∧
      .peer q n (.topo (heights s).1 (heights s).2 (bestSum s) ids) ∈ t.out ∧ nodeId s ∈ ids := by
  have due : ¬(!dueAgain msSteps (s.begin dt).rdn.topoAt (s.begin dt)) = true := by
    rw [State.begin_rdn, dueAgain_of (s := s) hdue]
    decide
  generalize hx : modRdn (fun r => { r with topoAt := some (s.begin dt).clock }) (s.begin dt) = x
  have named : q.val ∈ (peerPortsReady x).filter (upward x) := by
    rw [← hx]
    exact List.mem_filter.2 ⟨List.mem_filter.2 ⟨List.mem_range.2 q.isLt, decide_eq_true hq⟩, hup⟩
  generalize hids : nodeId x :: (branchPorts x).flatMap (fun q => (pp x q).peerId :: (pp x q).ids) = ids
  have runs : exec (.topoDue dt) s = done (sendPeer ((peerPortsReady x).filter (upward x)) (.topo (heights x).1 (heights x).2 (bestSum x) ids) x) := by
    rw [← hids, ← hx]
    exact if_neg due
  obtain ⟨n, sent⟩ := sendPeer_emits named (.topo (heights x).1 (heights x).2 (bestSum x) ids) x
  have same : heights x = heights s ∧ bestSum x = bestSum s ∧ nodeId x = nodeId s := by
    rw [← hx]
    exact ⟨rfl, rfl, rfl⟩
  obtain ⟨t, ht, told⟩ := exec_ends (P := fun t => Out.peer q n (.topo (heights x).1 (heights x).2 (bestSum x) ids) ∈ t.out) runs (mem_ended sent)
  refine ⟨t, n, ids, ht, ?_, ?_⟩
  · rwa [same.1, same.2.1] at told
  · rw [← hids, same.2.2]
    exact List.mem_cons_self

end

/-- Settles O38: each frame is handed over where its time has come, and nothing before. -/
theorem pairSends : Obligations.PairSends := fun dt s =>
  ⟨fun hpair hrole hawake hlane hphase => fwdS_sent hpair hrole hawake hlane hphase,
    fun a b c ln m hmute hlive hlane hdue => vigil_sent hmute hlive hlane hdue a b c ln m, fun _ hq hdue => hello_sent hq hdue,
    fun _ hq hstrike => ptime_sent hq hstrike, fun _ hq hup hdue => heights_sent hq hup hdue,
    fun a ha hpins => ⟨fun h => timePassed_of_done (if_pos (by rw [State.begin_rdn, h, not_dueAgain ha]; rfl)) hpins,
      fun h => timePassed_of_done (if_pos (by rw [State.begin_rdn, h, not_dueAgain ha]; rfl)) hpins⟩,
    fun hpins hstrike => timePassed_of_done (if_pos (by rw [hstrike]; rfl)) hpins⟩

end Sys2Proof.Machine
end

section
/-! Frames on the peer ports (R353 to R357). -/
namespace Sys2Proof.Machine

/-! What a frame that names its own number leaves, and what the outputs keep. -/

theorem Rules.out_prefix {s t : State} : Rules s t → s.out <+: t.out := by
  rintro ⟨q, d, b, m, p, r, n, w, y, f, k, l, a, o, rfl, -⟩
  exact List.prefix_append ..

theorem ended_out_prefix (x : State) : x.out <+: (ended x).out := List.prefix_append x.out (txRun x).2

/-- A frame that carries its own number goes out with it on every port. -/
theorem sendPeer_numbered {f : PeerFrame} {n : Nat} (h : ∀ q s, nextSeq q f s = (n, s)) (ports : List Nat) (s : State) :
    (sendPeer ports f s).out = s.out ++ ports.map fun q => Out.peer q n f := by
  unfold sendPeer
  simp only [h]
  exact foldl_emit_out (fun q => Out.peer q n f) ports s

theorem mem_sendPeer_numbered {f : PeerFrame} {n q : Nat} (h : ∀ q s, nextSeq q f s = (n, s)) {ports : List Nat} (hq : q ∈ ports) (s : State) :
    Out.peer q n f ∈ (sendPeer ports f s).out := by
  rw [sendPeer_numbered h]
  exact List.mem_append_right _ (List.mem_map.2 ⟨q, hq, rfl⟩)

theorem Sends.alike {s t : State} : Sends s t → t.par = s.par ∧ t.sys = s.sys ∧ t.now = s.now := by
  rintro ⟨p, a, b, c, o, rfl⟩
  exact ⟨rfl, rfl, rfl⟩

/-! The peer ports. -/

theorem pp_congr {s t : State} (h : Seqs s t) (q : Nat) : pp t q = pp s q := by
  obtain ⟨a, b, c, e⟩ := h
  unfold pp
  rw [e]
theorem pp_modPp_self {q : Nat} (hq : q < 8) (f : Pp → Pp) (s : State) : pp (modPp q f s) q = f (pp s q) :=
  (vget_vmod ..).trans (if_pos ⟨rfl, hq⟩)
theorem ended_pp (x : State) (q : Nat) : pp (ended x) q = pp x q := rfl
theorem setDiam_pp (s : State) (q : Nat) : pp (setDiam s) q = pp s q := by
  have noted (n : Nat) : pp (modRdn (fun r => { r with dDiam := n }) s) q = pp s q := rfl
  unfold setDiam
  split
  · exact noted ..
  · rfl

/-- Whether a port is taken, its measured delay stays. -/
theorem admitPeer_dly {q : Nat} (hq : q < 8) (s : State) : (pp (admitPeer q s) q).dly = (pp s q).dly := by
  unfold admitPeer
  dsimp only
  split
  · rw [pp_congr (raiseDev_calm (by decide) ..).seqs, pp_modPp_self hq]
  · rw [pp_congr ((condHolds_calm ..).trans ((condHolds_calm ..).trans (condHolds_calm ..))).seqs, setDiam_pp, pp_modPp_self hq]

section
variable {s : State}

theorem own_hello_refused {q : Fin 10} (hq : q.val < 8) (hst : (pp s q).st = 1 ∨ (pp s q).st = 2 ∨ (pp s q).st = 3) {h : HelloId}
    (hnode : h.node = nodeId s) (dt seq : Nat) : ∃ t, exec (.peerHelloRx dt q seq h) s = .next t ∧ (pp t q).st = 4 ∧ isHeld 0x3122 0 q t = true := by
  have refused : peerHello q h (s.begin dt) = raiseDev 0x3122 0 q (modPp q (fun p => { p with st := 4 }) (s.begin dt)) := by
    have open_ : ¬(decide ((pp (s.begin dt) q).st = 0) || decide ((pp (s.begin dt) q).st = 4)) = true := by
      show ¬(decide ((pp s q).st = 0) || decide ((pp s q).st = 4)) = true
      rcases hst with e | e | e <;> rw [e] <;> decide
    unfold peerHello
    dsimp only
    rw [if_neg open_, if_pos]
    rw [show nodeId (s.begin dt) = h.node from hnode.symm, decide_eq_true rfl, Bool.true_or]
  refine exec_ends ((if_pos hq).trans (congrArg done refused)) ?_
  rw [ended_pp, ended_isHeld, pp_congr (raiseDev_calm (by decide) ..).seqs, pp_modPp_self hq]
  exact ⟨rfl, raiseDev_held _ _ _ _ (by decide)⟩

theorem time_frame_answered {q : Fin 10} (hq : q.val < 8) (hst : (pp s q).st = 3) (dt seq sec ns frac : Nat) :
    ∃ t k, exec (.ptimeRx dt q seq sec ns frac) s = .next t ∧ .peer q seq (.ptimeReply seq k) ∈ t.out := by
  have named : (timeLinks (s.begin dt)).contains q.val = true := by
    rw [List.contains_iff_mem]
    refine List.mem_append_left _ (List.mem_filter.2 ⟨List.mem_range.2 hq, ?_⟩)
    rw [show (pp (s.begin dt) q).st = 3 from hst]
    rfl
  generalize hk : (s.begin dt).freeWord.1.toNat = k
  obtain ⟨x, runs, out⟩ : ∃ x, exec (.ptimeRx dt q seq sec ns frac) s = done x ∧ Out.peer q seq (.ptimeReply seq k) ∈ x.out := by
    have answered : Out.peer q seq (.ptimeReply seq k) ∈ (sendPeer [q.val] (.ptimeReply seq k) (s.begin dt).freeWord.2).out :=
      mem_sendPeer_numbered (fun _ _ => rfl) (List.mem_singleton_self _) _
    show ∃ x, execPtimeRx dt q seq sec ns frac s = done x ∧ _
    unfold execPtimeRx
    dsimp only
    rw [named, hk]
    split
    · next h => cases h
    · split
      · exact ⟨_, rfl, joinAdvance_out _ ((updateThrough_keeps ..).2.2 answered)⟩
      · exact ⟨_, rfl, answered⟩
  obtain ⟨t, ht, told⟩ := exec_ends (P := fun t => Out.peer q seq (.ptimeReply seq k) ∈ t.out) runs (mem_ended out)
  exact ⟨t, k, ht, told⟩

theorem reply_measured {q : Fin 10} (hq : q.val < 8) {seq tx : Nat} (hfind : (link s q).ptx.find? (fun e => e.1 == seq) = some (seq, tx))
    (dt turn : Nat) : ∃ t, exec (.ptimeReplyRx dt q seq turn) s = .next t ∧ (link t q).dly = ((link s q).dly.measure
      (((s.begin dt).nowStep : Int) - tx - turn + s.pt 10 (0x100 + q) 4 / 4096) 0).1 := by
  have port (x : State) : link x q = pp x q := if_pos hq
  obtain ⟨x, runs, measured⟩ : ∃ x, exec (.ptimeReplyRx dt q seq turn) s = done x ∧ (pp x q).dly = ((link s q).dly.measure
      (((s.begin dt).nowStep : Int) - tx - turn + s.pt 10 (0x100 + q) 4 / 4096) 0).1 := by
    show ∃ x, execPtimeReplyRx dt q seq turn s = done x ∧ _
    unfold execPtimeReplyRx
    dsimp only
    rw [show (link (s.begin dt) q).ptx.find? (fun e => e.1 == seq) = some (seq, tx) from hfind]
    dsimp only
    rw [if_neg (Nat.not_le.2 hq), if_pos hq, show ∀ (f : Pp → Pp) (x : State), modLink q f x = modPp q f x from fun _ _ => if_pos hq]
    split
    · exact ⟨_, rfl, (admitPeer_dly hq _).trans (congrArg Pp.dly (pp_modPp_self hq _ _))⟩
    · exact ⟨_, rfl, (congrArg Pp.dly ((setDiam_pp ..).trans (pp_modPp_self hq _ _)))⟩
  refine exec_ends runs ?_
  rw [port, ended_pp]
  exact measured

/-! Events and broadcasts of other nodes. -/

/-- A GLOBAL_BLOCK event of another node, noted and handed on twice on every other port. -/
def eventRelayed (q : Nat) (origin gseq time : Nat) (w : SeqWin) (s : State) : State :=
  sendPeer (relayPorts s q ++ relayPorts s q) (.gb origin gseq time) (modRdn (fun r => { r with gbWin := tabPut r.gbWin origin w }) s)

/-- The pulse on BLOCK_N of an event that was not held. -/
def eventPulses (s : State) : State :=
  if isHeld 0x3120 0 0 s then s else { s with spu := { s.spu with pulseEnd := some (s.now + 1000 * nsecQ) } }

theorem gbRx_runs {q : Fin 10} (hcarries : carries s q = true) {origin : Nat} (horigin : origin ≠ nodeId s) {gseq : Nat} {w : SeqWin}
    (hw : (tabGet s.rdn.gbWin origin {}).take gseq = some w) (hawake : s.awake = true) (dt time : Nat) :
    exec (.gbRx dt q origin gseq time) s =
      done (raise 0x3120 0 0 origin gseq [] (eventPulses (eventRelayed q origin gseq time w (s.begin dt)))) := by
  have taken : ¬(!carries (s.begin dt) q || decide (origin = nodeId (s.begin dt))) = true := by
    rw [show carries (s.begin dt) q = true from hcarries, decide_eq_false (show ¬origin = nodeId (s.begin dt) from horigin)]
    decide
  have awake : (eventRelayed q origin gseq time w (s.begin dt)).awake = true := by
    have sent := sendPeer_sends (relayPorts (s.begin dt) q ++ relayPorts (s.begin dt) q) (.gb origin gseq time)
      (modRdn (fun r => { r with gbWin := tabPut r.gbWin origin w }) (s.begin dt))
    unfold State.awake eventRelayed
    rw [sent.dev, sent.alike.2.1]
    exact hawake
  show execGbRx dt q origin gseq time s = _
  unfold execGbRx
  dsimp only
  rw [if_neg taken, show (tabGet (s.begin dt).rdn.gbWin origin {}).take gseq = some w from hw]
  exact if_pos awake

theorem applyReaction_dev (old : State) (h : Held) (s : State) :
    (applyReaction old h s).dev = if 4 ≤ h.level ∧ s.dev = .run then .blocked else s.dev := by
  have gone (x : State) : (if 5 ≤ h.level && h.lr.code != 0x3120 then originateGb x else x).dev = x.dev := by
    split
    · exact (originateGb_sends x).dev
    · rfl
  have decided (x : State) (f : PeerFrame) (c : Bool) : (if c then sendPair f x else x).dev = x.dev := by
    split
    · exact sendPair_dev ..
    · rfl
  unfold applyReaction
  dsimp only
  split
  · rw [if_neg (by omega)]
  · rw [decided, gone, applyLinks_dev]

/-- A fault that is new takes the device out of RUN from DEVICE_BLOCK on. -/
theorem raiseWith_dev {c k i : Nat} (hnew : isHeld c k i s = false) (hw : withdrawCode c = false) {cfg : Nat} (hcfg : cfg ≠ 2) (a b : Nat)
    (sc : List Nat) : (raiseWith cfg c k i a b sc s).dev = if 4 ≤ cfg ∧ s.dev = .run then .blocked else s.dev := by
  obtain ⟨h, d, x, hx, -, hlevel, e⟩ := raiseWith_new hnew (stays_of_code hw s) cfg a b sc
  obtain ⟨f, hf⟩ := recData_eq c i a b s
  have before : x.dev = s.dev := by rw [hx, hf]
  rw [e, applyReaction_dev, fireFault, (fireKind_fired ..).dev, holdFault_dev, hlevel hcfg, before]

theorem raise_pulseEnd (a b : Nat) : (raise 0x3120 0 0 a b [] s).spu.pulseEnd = s.spu.pulseEnd := by
  obtain ⟨h, n, l, f, d, w, x, e⟩ := (raise_calm (c := 0x3120) (by decide) 0 0 a b [] s).spu
  rw [e]

theorem ended_pulse (x : State) : (ended x).spu.blockNLow = drivesBlockN x ∧ (ended x).spu.pulseEnd = x.spu.pulseEnd := ⟨rfl, rfl⟩

theorem drivesBlockN_of_pulse (hpow : s.dev.powered = true) (hpulse : s.spu.pulseEnd.isSome = true) : drivesBlockN s = true := by
  unfold drivesBlockN
  rw [hpow, hpulse, Bool.or_true, Bool.true_and]

theorem Calm.powered {t : State} (h : Calm s t) (hpow : s.dev.powered = true) : t.dev.powered = true := by
  rcases h.dev with e | ⟨-, e⟩
  · rw [e, hpow]
  · rw [e]
    rfl

theorem eventRelayed_sends (q origin gseq time : Nat) (w : SeqWin) : Sends (modRdn (fun r => { r with gbWin := tabPut r.gbWin origin w }) s)
    (eventRelayed q origin gseq time w s) := sendPeer_sends ..

theorem eventRelayed_twice {q r : Fin 10} (hr : r ≠ q) (hready : r.val < 8 ∧ (pp s r).st = 3) (origin gseq time : Nat) (w : SeqWin) :
    2 ≤ (eventRelayed q origin gseq time w s).out.count (.peer r gseq (.gb origin gseq time)) := by
  have port : r.val ∈ relayPorts s q := by
    refine List.mem_filter.2 ⟨List.mem_append_left _ (List.mem_filter.2 ⟨List.mem_range.2 hready.1, decide_eq_true hready.2⟩), ?_⟩
    exact bne_iff_ne.2 fun e => hr (Fin.ext e)
  have once : 0 < ((relayPorts s q).map fun p => Out.peer p gseq (.gb origin gseq time)).count
      (.peer r gseq (.gb origin gseq time)) := List.count_pos_iff.2 (List.mem_map.2 ⟨r, port, rfl⟩)
  rw [eventRelayed, sendPeer_numbered (fun _ _ => rfl), List.map_append, List.count_append, List.count_append]
  omega

/-- What an event does, from the state in which it was relayed: held, pulsed where it was not held, and reacted to. -/
structure EventActs (s t : State) : Prop where
  held : isHeld 0x3120 0 0 t = true
  pulse : isHeld 0x3120 0 0 s = false → t.spu.blockNLow = true ∧ t.spu.pulseEnd = some (s.now + 1000 * nsecQ)
  quiet : isHeld 0x3120 0 0 s = true → t.spu.pulseEnd = s.spu.pulseEnd
  dev : isHeld 0x3120 0 0 s = false → 5 ≤ cfgReact s 0x3120 → s.dev = .run → t.dev = .blocked
  out : s.out <+: t.out

theorem eventPulses_out : (eventPulses s).out = s.out := by
  unfold eventPulses
  split <;> rfl

theorem eventPulses_new (hnew : isHeld 0x3120 0 0 s = false) :
    eventPulses s = { s with spu := { s.spu with pulseEnd := some (s.now + 1000 * nsecQ) } } :=
  if_neg (by rw [hnew]; exact Bool.false_ne_true)

theorem event_acts (hpow : s.dev.powered = true) (a b : Nat) : EventActs s (ended (raise 0x3120 0 0 a b [] (eventPulses s))) := by
  have told := (raise_rules 0x3120 0 0 a b [] (eventPulses s) (by decide)).out_prefix
  rw [eventPulses_out] at told
  refine ⟨?_, fun hnew => ?_, fun hold => ?_, fun hnew h5 hrun => ?_, told.trans (ended_out_prefix _)⟩
  · rw [ended_isHeld]
    exact raise_held _ _ _ _ _ _ _ (by decide)
  · have calm := raise_calm (c := 0x3120) (by decide) 0 0 a b [] (eventPulses s)
    have pulse : (raise 0x3120 0 0 a b [] (eventPulses s)).spu.pulseEnd = some (s.now + 1000 * nsecQ) := by
      rw [raise_pulseEnd, eventPulses_new hnew]
    rw [(ended_pulse _).1, (ended_pulse _).2]
    refine ⟨drivesBlockN_of_pulse (calm.powered ?_) (by rw [pulse]; rfl), pulse⟩
    rw [eventPulses_new hnew]
    exact hpow
  · rw [(ended_pulse _).2, raise_pulseEnd, show eventPulses s = s from if_pos hold]
  · have new : isHeld 0x3120 0 0 (eventPulses s) = false := by
      rw [eventPulses_new hnew]
      exact hnew
    have react : cfgReact (eventPulses s) 0x3120 = cfgReact s 0x3120 := by
      rw [eventPulses_new hnew]
      rfl
    have runs : (eventPulses s).dev = .run := by
      rw [eventPulses_new hnew]
      exact hrun
    rw [ended_dev]
    exact (raiseWith_dev new (by decide) (by omega) ..).trans (if_pos ⟨by omega, runs⟩)

theorem event_taken {q : Fin 10} (hcarries : carries s q = true) {origin : Nat} (horigin : origin ≠ nodeId s) {gseq : Nat}
    (hnew : ((tabGet s.rdn.gbWin origin {}).take gseq).isSome) (hawake : s.awake = true) (dt time : Nat) :
    ∃ t, exec (.gbRx dt q origin gseq time) s = .next t ∧ isHeld 0x3120 0 0 t = true ∧
      (isHeld 0x3120 0 0 s = false → t.spu.blockNLow = true ∧ t.spu.pulseEnd = some ((s.begin dt).now + 1000 * nsecQ)) ∧
      (isHeld 0x3120 0 0 s = true → t.spu.pulseEnd = s.spu.pulseEnd) ∧
      (isHeld 0x3120 0 0 s = false → 5 ≤ cfgReact s 0x3120 → s.dev = .run → t.dev = .blocked) ∧
      ∀ r : Fin 10, r ≠ q → (r.val < 8 ∧ (pp s r).st = 3) → 2 ≤ t.out.count (.peer r gseq (.gb origin gseq time)) := by
  obtain ⟨w, hw⟩ := Option.isSome_iff_exists.1 hnew
  have runs := gbRx_runs hcarries horigin hw hawake dt time
  have sends := eventRelayed_sends (s := s.begin dt) q origin gseq time w
  have twice (r : Fin 10) (hr : r ≠ q) (hready : r.val < 8 ∧ (pp s r).st = 3) :=
    eventRelayed_twice (s := s.begin dt) hr hready origin gseq time w
  generalize eventRelayed q origin gseq time w (s.begin dt) = y at runs sends twice
  obtain ⟨hpar, -, hnow⟩ := sends.alike
  have held : isHeld 0x3120 0 0 y = isHeld 0x3120 0 0 s := isHeld_congr (congrArg Spu.held sends.spu) ..
  have react : cfgReact y 0x3120 = cfgReact s 0x3120 := pn_congr hpar ..
  have dev : y.dev = s.dev := sends.dev
  have pulse : y.spu.pulseEnd = s.spu.pulseEnd := congrArg Spu.pulseEnd sends.spu
  have now : y.now = (s.begin dt).now := hnow
  obtain ⟨h1, h2, h3, h4, h5⟩ := event_acts (s := y) (dev ▸ powered_of_live (Bool.and_eq_true_iff.1 hawake).1) origin gseq
  rw [held, now] at h2
  rw [held, pulse] at h3
  rw [held, react, dev] at h4
  exact exec_ends runs ⟨h1, h2, h3, h4, fun r hr hready => Nat.le_trans (twice r hr hready) (h5.sublist.count_le _)⟩

theorem own_event_ignored (hpins : s.pinsHold = true) (dt : Nat) (q : Fin 10) (gseq time : Nat) :
    ∃ t, exec (.gbRx dt q (nodeId s) gseq time) s = .next t ∧ TimePassed dt s t :=
  timePassed_of_done (if_pos (by rw [decide_eq_true (show nodeId s = nodeId (s.begin dt) from rfl), Bool.or_true])) hpins

theorem placeRemote_out (args : List Nat) (s : State) : s.out ⊆ (placeRemote args s).out := by
  unfold placeRemote
  split
  · split
    · exact List.Subset.refl _
    · split
      · next i _ => exact (mirrorEntry_sends i (putEntry i _ s)).out
      · exact List.Subset.refl _
  · exact List.Subset.refl _

theorem broadcast_relayed {q : Fin 8} (hst : (pp s q).st = 3) {origin : Nat} (horigin : origin ≠ nodeId s) {bseq : Nat}
    (hnew : ((tabGet s.rdn.bcWin origin {}).take bseq).isSome) (dt kind : Nat) (args : List Nat) :
    ∃ t, exec (.bcRx dt q origin bseq kind args) s = .next t ∧
      ∀ r : Fin 8, r ≠ q → (pp s r).st = 3 → .peer r bseq (.bc origin bseq kind args) ∈ t.out := by
  obtain ⟨w, hw⟩ := Option.isSome_iff_exists.1 hnew
  have taken : ¬(!carries (s.begin dt) q || decide (origin = nodeId (s.begin dt))) = true := by
    have carried : carries (s.begin dt) q = true := (if_pos q.isLt).trans (beq_iff_eq.2 hst)
    rw [carried, decide_eq_false (show ¬origin = nodeId (s.begin dt) from horigin)]
    decide
  generalize hx : modRdn (fun r => { r with bcWin := tabPut r.bcWin origin w }) (s.begin dt) = x
  generalize hps : (peerPortsReady x).filter (· != q.val) = ps
  obtain ⟨y, runs, out⟩ : ∃ y, exec (.bcRx dt q origin bseq kind args) s = done y ∧
      (sendPeer (ps ++ ps) (.bc origin bseq kind args) x).out ⊆ y.out := by
    show ∃ y, execBcRx dt q origin bseq kind args s = done y ∧ _
    unfold execBcRx
    dsimp only
    rw [if_neg taken, show (tabGet (s.begin dt).rdn.bcWin origin {}).take bseq = some w from hw]
    dsimp only
    rw [hx, hps]
    split
    · exact ⟨_, rfl, placeRemote_out ..⟩
    · split
      · exact ⟨_, rfl, fun o => (fireKind_reacts ..).rules.keep.out o⟩
      · exact ⟨_, rfl, List.Subset.refl _⟩
  refine exec_ends runs fun r hr hready => mem_ended (out (mem_sendPeer_numbered (fun _ _ => rfl) (List.mem_append_left _ ?_) x))
  rw [← hps, ← hx]
  exact List.mem_filter.2 ⟨List.mem_filter.2 ⟨List.mem_range.2 r.isLt, decide_eq_true hready⟩, bne_iff_ne.2 fun e => hr (Fin.ext e)⟩

theorem heights_kept {q : Fin 8} (hst : (pp s q).st = 3) (hup : upward s q = false) (hroot : isRoot s = false) (dt h1 h2 best : Nat)
    (ids : List Nat) : ∃ t, exec (.topoRx dt q h1 h2 best ids) s = .next t ∧ (pp t q).h1 = h1 ∧ (pp t q).h2 = h2 ∧
      (pp t q).best = max best (h1 + h2) ∧ (pp t q).ids = ids := by
  generalize hf : (fun p : Pp => { p with h1 := h1, h2 := h2, best := max best (h1 + h2), ids := ids, depthRefused := false }) = f
  have taken : ¬(decide ((pp (s.begin dt) q).st ≠ 3) || upward (s.begin dt) q) = true := by
    rw [show (pp (s.begin dt) q).st = 3 from hst, show upward (s.begin dt) q = false from hup]
    decide
  have kept : ¬(isRoot (s.begin dt) && decide (gbBudget (s.begin dt) < diam (setDiam (modPp q f (s.begin dt))))) = true := by
    rw [show isRoot (s.begin dt) = false from hroot, Bool.false_and]
    exact Bool.false_ne_true
  have runs : exec (.topoRx dt q h1 h2 best ids) s = done (condHolds 0x3121 0 q (setDiam (modPp q f (s.begin dt)))) := by
    rw [← hf] at kept ⊢
    exact (if_neg taken).trans (if_neg kept)
  refine exec_ends runs ?_
  rw [ended_pp, pp_congr (condHolds_calm ..).seqs, setDiam_pp, pp_modPp_self q.isLt, ← hf]
  exact ⟨rfl, rfl, rfl, rfl⟩

end

/-- Settles O39: each frame as it is taken, answered or handed on. -/
theorem peerFrames : Obligations.PeerFrames := fun dt _ =>
  ⟨fun _ seq _ hq hst hnode => own_hello_refused hq hst hnode dt seq, fun _ seq sec ns frac hq hst => time_frame_answered hq hst dt seq sec ns frac,
    fun _ _ turn _ hq hfind => reply_measured hq hfind dt turn,
    fun _ _ _ time hcarries horigin hnew hawake => event_taken hcarries horigin hnew hawake dt time,
    fun q gseq time hpins => own_event_ignored hpins dt q gseq time,
    fun _ _ _ kind args hst horigin hnew => broadcast_relayed hst horigin hnew dt kind args,
    fun _ h1 h2 best ids hst hup hroot => heights_kept hst hup hroot dt h1 h2 best ids⟩

end Sys2Proof.Machine
end

section
/-! The detectors of the bitstream inputs (R284, R285, R289). -/
namespace Sys2Proof.Machine

/-! The inputs of the bitstream decimators. -/

theorem tabGet_tabPut_ne {α : Type} (t : Tab α) {k j : Nat} (h : j ≠ k) (v d : α) : tabGet (tabPut t k v) j d = tabGet t j d := by
  induction t with
  | nil => exact if_neg (Ne.symm h)
  | cons x r ih =>
    obtain ⟨i, w⟩ := x
    unfold tabPut
    split
    · next hi =>
      subst hi
      exact (if_neg (Ne.symm h)).trans (if_neg (Ne.symm h)).symm
    · split
      · exact if_neg (Ne.symm h)
      · unfold tabGet
        rw [ih]

theorem sd_modSd_self (n : Nat) (f : SdIn → SdIn) (s : State) : sd (modSd n f s) n = f (sd s n) := tabGet_tabPut_self ..
theorem sd_modSd_ne {n m : Nat} (h : m ≠ n) (f : SdIn → SdIn) (s : State) : sd (modSd n f s) m = sd s m := tabGet_tabPut_ne _ h ..
theorem sd_congr {s t : State} (h : t.bsd = s.bsd) (n : Nat) : sd t n = sd s n := by
  unfold sd
  rw [h]
theorem Rules.sdIn {s t : State} (h : Rules s t) (n : Nat) : sd t n = sd s n := sd_congr h.keep.bsd n
theorem ended_sd (x : State) (n : Nat) : sd (ended x) n = sd x n := rfl
theorem sd_modGrp (g : Nat) (f : SdGrp → SdGrp) (s : State) (n : Nat) : sd (modGrp g f s) n = sd s n := rfl

theorem fastCode_stays : ∀ n : Fin 48, withdrawCode (0x2140 + n) = false := by decide

section
variable {s : State}

/-! The fast comparator. -/

/-- An input noted anew, whatever it held. -/
def putSd (n : Nat) (x : SdIn) (s : State) : State := modSd n (fun _ => x) s

/-- An input with a bit taken into its fast filter and the new output counted. -/
def fastCounted (n : Nat) (b : Bool) (s : State) : SdIn :=
  { sd s n with
    fast := (b :: (sd s n).fast).take 94
    nOut := if inBand (fastBand s n).1 (fastNewest s n b) then 0 else min 4 ((sd s n).nOut + 1)
    nIn := if inBand (fastBand s n).2 (fastNewest s n b) then min 4 ((sd s n).nIn + 1) else 0 }

/-- The decision of the comparator of an input whose counts are x. -/
def fastDecides (n : Nat) (v : Int) (out inn : Bool) (x : SdIn) (s : State) : State :=
  if out && !x.fastOut && decide (s.pn 7 n 0x15 ≤ x.nOut) then
    raise (0x2140 + n) kSd n (BitVec.ofInt 32 v).toNat 0 (routeScope s (0x140 + n)) (modSd n (fun x => { x with fastOut := true }) s)
  else if inn && x.fastOut && decide (s.pn 7 n 0x15 ≤ x.nIn) then
    condHolds (0x2140 + n) kSd n (modSd n (fun x => { x with fastOut := false }) s)
  else s

theorem feedFast_eq {n : Nat} (hon : s.pn 7 n 0x10 = 1) (b : Bool) : feedFast n b s =
    fastDecides n (fastNewest s n b) (!inBand (fastBand s n).1 (fastNewest s n b)) (inBand (fastBand s n).2 (fastNewest s n b))
      (fastCounted n b s) (putSd n (fastCounted n b s) s) := by
  have counted : fastCounted n b s = { sd s n with
      fast := (b :: (sd s n).fast).take 94
      nOut := if !inBand (fastBand s n).1 (fastNewest s n b) then min 4 ((sd s n).nOut + 1) else 0
      nIn := if inBand (fastBand s n).2 (fastNewest s n b) then min 4 ((sd s n).nIn + 1) else 0 } := by
    unfold fastCounted
    cases inBand (fastBand s n).1 (fastNewest s n b) <;> rfl
  rw [counted]
  unfold feedFast
  dsimp only
  rw [show (fastOutputs (s.pn 7 n 0x11) 1 ((((b :: (sd s n).fast).take 94).take (3 * (s.pn 7 n 0x11 - 1) + 1)).reverse)).headD 0 =
    fastNewest s n b from rfl]
  generalize fastNewest s n b = v
  generalize fastBand s n = band
  simp only [hon, beq_self_eq_true, Bool.true_and]
  rfl

/-- Whether an input is decided out, once a bit is counted. -/
def fastOutNext (k : Nat) (out inn : Bool) (x : SdIn) : Bool :=
  if out && !x.fastOut && decide (k ≤ x.nOut) then true else if inn && x.fastOut && decide (k ≤ x.nIn) then false else x.fastOut

theorem fastDecides_sd (n : Fin 48) (v : Int) (out inn : Bool) (x : SdIn) (m : Nat) :
    sd (fastDecides n v out inn x (putSd n x s)) m = if m = n then { x with fastOut := fastOutNext (s.pn 7 n 0x15) out inn x } else sd s m := by
  have decided (f : SdIn → SdIn) : sd (modSd n f (putSd n x s)) m = if m = n then f x else sd s m := by
    split
    · next h => rw [h, sd_modSd_self, putSd, sd_modSd_self]
    · next h => rw [sd_modSd_ne h, putSd, sd_modSd_ne h]
  unfold fastDecides fastOutNext
  rw [show (putSd n x s).pn 7 n 0x15 = s.pn 7 n 0x15 from rfl]
  split
  · exact ((raise_rules _ _ _ _ _ _ _ (fastCode_stays n)).sdIn m).trans (decided _)
  · split
    · exact ((condHolds_rules ..).sdIn m).trans (decided _)
    · split
      · next h => rw [h, putSd, sd_modSd_self]
      · next h => rw [putSd, sd_modSd_ne h]

theorem fastDecides_held (n : Fin 48) {v : Int} {inn : Bool} {x : SdIn} (hin : x.fastOut = false) (hcnt : s.pn 7 n 0x15 ≤ x.nOut) :
    isHeld (0x2140 + n) 8 n (fastDecides n v true inn x s) = true := by
  unfold fastDecides
  rw [hin, decide_eq_true hcnt]
  exact raise_held _ _ _ _ _ _ _ (fastCode_stays n)

theorem fastCounted_counts (n : Nat) (b : Bool) : (fastCounted n b s).fastOut = (sd s n).fastOut ∧
    (fastCounted n b s).nOut = (if inBand (fastBand s n).1 (fastNewest s n b) then 0 else min 4 ((sd s n).nOut + 1)) ∧
    (fastCounted n b s).nIn = (if inBand (fastBand s n).2 (fastNewest s n b) then min 4 ((sd s n).nIn + 1) else 0) := by
  unfold fastCounted
  generalize fastNewest s n b = v
  generalize fastBand s n = band
  exact ⟨rfl, rfl, rfl⟩

/-- The state in which a bit is fed: the time has passed, and the bit is ahead of its sampling edge. -/
def bitAhead (n dt : Nat) (s : State) : State := modSd n (fun x => { x with ahead := x.ahead + 1 }) (s.begin dt)

theorem bitAhead_sd (n dt m : Nat) (s : State) : sd (bitAhead n dt s) m = if m = n then { sd s m with ahead := (sd s m).ahead + 1 } else sd s m := by
  split
  · next h => rw [h, bitAhead, sd_modSd_self]; rfl
  · next h => exact sd_modSd_ne h ..

theorem bitAhead_fast (n dt : Nat) (b : Bool) (s : State) : fastBand (bitAhead n dt s) n = fastBand s n ∧
    fastNewest (bitAhead n dt s) n b = fastNewest s n b := by
  refine ⟨rfl, ?_⟩
  unfold fastNewest
  rw [show (sd (bitAhead n dt s) n).fast = (sd s n).fast by rw [bitAhead_sd, if_pos rfl]]
  rfl

theorem fast_decision (hlive : s.dev.live = true) (n : Fin 48) (b : Bool) (hen : s.pn 7 n 1 ≠ 0) (hon : s.pn 7 n 0x10 = 1) (dt : Nat) :
    ∃ t, exec (.bsdFastDecision dt n [b]) s = .next t ∧
      (∀ m : Nat, m ≠ n → sd t m = sd s m) ∧
      (sd t n).nOut = (if inBand (fastBand s n).1 (fastNewest s n b) then 0 else min 4 ((sd s n).nOut + 1)) ∧
      (sd t n).nIn = (if inBand (fastBand s n).2 (fastNewest s n b) then min 4 ((sd s n).nIn + 1) else 0) ∧
      ((sd s n).fastOut = false → inBand (fastBand s n).1 (fastNewest s n b) = false → s.pn 7 n 0x15 ≤ (sd t n).nOut →
        (sd t n).fastOut = true ∧ isHeld (0x2140 + n) 8 n t = true) ∧
      ((sd s n).fastOut = false → (sd t n).nOut < s.pn 7 n 0x15 → (sd t n).fastOut = false) ∧
      ((sd s n).fastOut = true → inBand (fastBand s n).1 (fastNewest s n b) = true → inBand (fastBand s n).2 (fastNewest s n b) = true →
        s.pn 7 n 0x15 ≤ (sd t n).nIn → (sd t n).fastOut = false) := by
  have starts : ¬(!(s.begin dt).dev.live || decide ((s.begin dt).pn 7 n 1 = 0)) = true := by
    rw [State.begin_dev, hlive, decide_eq_false (show ¬(s.begin dt).pn 7 n 1 = 0 from hen)]
    decide
  have runs : exec (.bsdFastDecision dt n [b]) s = done (feedFast n b (bitAhead n dt s)) := if_neg starts
  obtain ⟨hband, hnewest⟩ := bitAhead_fast n dt b s
  have fed := feedFast_eq (s := bitAhead n dt s) (n := n) hon b
  rw [hband, hnewest] at fed
  rw [fed] at runs
  have counts := fastCounted_counts (s := bitAhead n dt s) n b
  have ahead : sd (bitAhead n dt s) n = { sd s n with ahead := (sd s n).ahead + 1 } := (bitAhead_sd ..).trans (if_pos rfl)
  rw [hband, hnewest, ahead] at counts
  generalize fastCounted n b (bitAhead n dt s) = x at runs counts
  generalize fastNewest s n b = v at runs counts ⊢
  generalize fastBand s n = band at runs counts ⊢
  obtain ⟨hfast, hout, hin⟩ := counts
  have decided := fastDecides_sd (s := bitAhead n dt s) n v (!inBand band.1 v) (inBand band.2 v) x
  rw [show (bitAhead n dt s).pn 7 n 0x15 = s.pn 7 n 0x15 from rfl] at decided
  have held (h1 : inBand band.1 v = false) (h2 : x.fastOut = false) (h3 : s.pn 7 n 0x15 ≤ x.nOut) :
      isHeld (0x2140 + n) 8 n (fastDecides n v (!inBand band.1 v) (inBand band.2 v) x (putSd n x (bitAhead n dt s))) = true := by
    rw [h1]
    exact fastDecides_held (s := putSd n x (bitAhead n dt s)) n h2 h3
  have own := decided n
  rw [if_pos rfl] at own
  generalize fastDecides n v (!inBand band.1 v) (inBand band.2 v) x (putSd n x (bitAhead n dt s)) = y at runs decided own held
  refine exec_ends runs ?_
  rw [ended_isHeld, ended_sd, own]
  refine ⟨fun m hm => ?_, hout, hin, fun h1 h2 h3 => ⟨?_, ?_⟩, fun h1 h2 => ?_, fun h1 h2 h3 h4 => ?_⟩
  · rw [ended_sd, decided, if_neg hm, bitAhead_sd, if_neg hm]
  · show fastOutNext _ _ _ x = true
    rw [h1] at hfast
    rw [fastOutNext, h2, hfast, decide_eq_true (show s.pn 7 n 0x15 ≤ x.nOut from h3)]
    rfl
  · exact held h2 (hfast.trans h1) h3
  · show fastOutNext _ _ _ x = false
    rw [h1] at hfast
    rw [fastOutNext, hfast, decide_eq_false (Nat.not_le.2 (show x.nOut < s.pn 7 n 0x15 from h2)), Bool.and_false, Bool.and_false]
    rfl
  · show fastOutNext _ _ _ x = false
    rw [h1] at hfast
    rw [fastOutNext, h2, h3, hfast, decide_eq_true (show s.pn 7 n 0x15 ≤ x.nIn from h4)]
    rfl

/-! Clocks and streams that stop and return. -/

theorem ended_inp (x : State) : (ended x).bsd.inp = x.bsd.inp := rfl

theorem clock_missing (hlive : s.dev.live = true) (g : Fin 6) (dt : Nat) : ∃ t, exec (.bsdMissingClock dt g) s = .next t ∧
    (vget t.bsd.grp g {}).noClk = true ∧ t.bsd.inp = s.bsd.inp := by
  refine exec_ends (x := modGrp g (fun x => { x with noClk := true }) (s.begin dt)) (if_pos hlive) ⟨?_, rfl⟩
  show (sdGrp (ended _) g).noClk = true
  rw [ended_sdGrp, sdGrp_modGrp, if_pos ⟨rfl, g.isLt⟩]

theorem sd_foldl_mark (l : List Nat) (f : SdIn → SdIn) (hf : ∀ x, f (f x) = f x) (s : State) (m : Nat) :
    sd (l.foldl (fun s i => modSd i f s) s) m = if m ∈ l then f (sd s m) else sd s m := by
  induction l generalizing s with
  | nil => exact (if_neg List.not_mem_nil).symm
  | cons i r ih =>
    rw [List.foldl_cons, ih]
    by_cases hi : m = i
    · subst hi
      rw [sd_modSd_self, hf, ite_self, if_pos List.mem_cons_self]
    · rw [sd_modSd_ne hi]
      simp [hi]

theorem clock_returns {g : Fin 6} (hgone : (vget s.bsd.grp g {}).noClk = true) (dt : Nat) : ∃ t, exec (.sdclkReturn dt g) s = .next t ∧
    (vget t.bsd.grp g {}).noClk = false ∧ ∀ i : Fin 8, (sd t (8 * g + i)).badAt = some (s.begin dt).nowStep := by
  generalize hf : (fun x : SdIn => { x with badAt := some (s.begin dt).nowStep }) = f
  have runs : exec (.sdclkReturn dt g) s = done (modGrp g (fun x => { x with noClk := false })
      (((List.range 8).map (8 * g.val + ·)).foldl (fun s i => modSd i f s) (s.begin dt))) := by
    rw [List.foldl_map, ← hf]
    exact if_pos hgone
  refine exec_ends runs ⟨?_, fun i => ?_⟩
  · show (sdGrp (ended _) g).noClk = false
    rw [ended_sdGrp, sdGrp_modGrp, if_pos ⟨rfl, g.isLt⟩]
  · rw [ended_sd, sd_modGrp, sd_foldl_mark _ f (fun x => by rw [← hf]), if_pos, ← hf]
    exact List.mem_map.2 ⟨i, List.mem_range.2 i.isLt, rfl⟩

theorem stream_stuck (hlive : s.dev.live = true) {n : Fin 48} (hen : s.pn 7 n 1 = 1) (dt : Nat) : ∃ t, exec (.bsdStuckStream dt n) s = .next t ∧
    (sd t n).stuck = true ∧ (sd t n).badAt = some (s.begin dt).nowStep ∧ ∀ m : Nat, m ≠ n → sd t m = sd s m := by
  have stuck : ((s.begin dt).dev.live && decide ((s.begin dt).pn 7 n 1 = 1)) = true := by
    rw [State.begin_dev, hlive, decide_eq_true (show (s.begin dt).pn 7 n 1 = 1 from hen)]
    rfl
  refine exec_ends (if_pos stuck) ?_
  rw [ended_sd, sd_modSd_self]
  exact ⟨rfl, rfl, fun m hm => by rw [ended_sd, sd_modSd_ne hm]; rfl⟩

end

/-- Settles O44: one bit through the comparator, and the marks of a clock and of a stream. -/
theorem bitstreamDetectors : Obligations.BitstreamDetectors := fun dt _ hlive =>
  ⟨fun n b hen hon => fast_decision hlive n b hen hon dt, fun g => clock_missing hlive g dt, fun _ hgone => clock_returns hgone dt,
    fun _ hen => stream_stuck hlive hen dt⟩

end Sys2Proof.Machine
end

section
/-! Decisions of a grid-forming engine in RUN (R103, R110, R121, R124, R126, R128, R158). -/
namespace Sys2Proof.Machine

/-! The engines. -/

theorem gfi_modGfi_self (k : Fin 4) (f : Gfi → Gfi) (s : State) : (s.modGfi k f).gfi k = f (s.gfi k) := vget_vmod_self ..
theorem gfi_modGfi_ne {k j : Nat} (h : j ≠ k) (f : Gfi → Gfi) (s : State) : (s.modGfi k f).gfi j = s.gfi j :=
  (vget_vmod ..).trans (if_neg fun e => h e.1.symm)
theorem gfi_congr {s t : State} (h : t.gfe = s.gfe) (k : Nat) : t.gfi k = s.gfi k := by
  unfold State.gfi
  rw [h]
theorem Rules.gfi {s t : State} (h : Rules s t) (k : Nat) : t.gfi k = s.gfi k := gfi_congr h.keep.gfe k
theorem ended_gfi (x : State) (k : Nat) : (ended x).gfi k = x.gfi k := rfl

/-- What a decision about engine k leaves alone: the other engines, the loops, the fields and the time. -/
structure GfeSteps (k : Nat) (s t : State) : Prop where
  others : ∀ j, j ≠ k → t.gfi j = s.gfi j
  lpe : t.lpe = s.lpe
  par : t.par = s.par
  alm : t.alm = s.alm

theorem GfeSteps.refl (k : Nat) (s : State) : GfeSteps k s s := ⟨fun _ _ => rfl, rfl, rfl, rfl⟩
theorem GfeSteps.trans {k : Nat} {s t u : State} (h : GfeSteps k s t) (g : GfeSteps k t u) : GfeSteps k s u :=
  ⟨fun j hj => (g.others j hj).trans (h.others j hj), g.lpe.trans h.lpe, g.par.trans h.par, g.alm.trans h.alm⟩
theorem Rules.gfeSteps {s t : State} (h : Rules s t) (k : Nat) : GfeSteps k s t := ⟨fun j _ => h.gfi j, h.keep.lpe, h.keep.par, h.keep.alm⟩
theorem modGfi_gfeSteps (k : Nat) (f : Gfi → Gfi) (s : State) : GfeSteps k s (s.modGfi k f) := ⟨fun _ hj => gfi_modGfi_ne hj f s, rfl, rfl, rfl⟩

theorem GfeSteps.ended {k : Fin 4} {dt : Nat} {s x : State} (h : GfeSteps k (s.begin dt) x) : GfeOnly k dt s (ended x) :=
  ⟨fun j hj => h.others j fun e => hj (Fin.ext e), h.lpe, h.par, h.alm⟩

theorem goMode_gfeSteps (k : Nat) (m : Mode) (c : Nat) (s : State) : GfeSteps k s (goMode k m c s) := modGfi_gfeSteps ..
theorem doneReq_gfeSteps (k : Nat) (s : State) : GfeSteps k s (doneReq k s) := modGfi_gfeSteps ..

section
variable (k : Fin 4) (m : Mode) (c : Nat) (s : State)

theorem goMode_next : ((goMode k m c s).gfi k).next = some (m, c) := congrArg Gfi.next (gfi_modGfi_self ..)
theorem goMode_keeps : ((goMode k m c s).gfi k).syncOk = (s.gfi k).syncOk ∧ ((goMode k m c s).gfi k).limit = (s.gfi k).limit := by
  unfold goMode
  dsimp only
  rw [gfi_modGfi_self]
  exact ⟨rfl, rfl⟩
theorem doneReq_next : ((doneReq k s).gfi k).next = (s.gfi k).next := by
  unfold doneReq
  rw [gfi_modGfi_self]
theorem doneReq_keeps : ((doneReq k s).gfi k).syncOk = (s.gfi k).syncOk ∧ ((doneReq k s).gfi k).limit = (s.gfi k).limit ∧
    ((doneReq k s).gfi k).reqNew = false := by
  unfold doneReq
  rw [gfi_modGfi_self]
  exact ⟨rfl, rfl, rfl⟩

end

/-! The faults of a decision, raised in order once it is made. -/

/-- No fault of a decision waits. -/
def dueCleared (s : State) : State := { s with spu := { s.spu with due := [] } }

theorem dueCleared_rules (s : State) : Rules s (dueCleared s) := .of ..

theorem inOrder_none {f : State → State} {s : State} (h : (f (dueCleared s)).spu.due = []) : inOrder f s = dueCleared (f (dueCleared s)) := by
  show List.foldl _ (dueCleared (f (dueCleared s))) (List.foldl _ _ (f (dueCleared s)).spu.due) = _
  rw [h]
  rfl

theorem inOrder_one {f : State → State} {s : State} {c k i d : Nat} (h : (f (dueCleared s)).spu.due = [(c, k, i, d)]) :
    inOrder f s = raise c k i d 0 [] (dueCleared (f (dueCleared s))) := by
  show List.foldl _ (dueCleared (f (dueCleared s))) (List.foldl _ _ (f (dueCleared s)).spu.due) = _
  rw [h]
  rfl

theorem inOrder_none_gfeSteps {f : State → State} {s : State} {k : Nat} (h : (f (dueCleared s)).spu.due = [])
    (hf : GfeSteps k (dueCleared s) (f (dueCleared s))) : GfeSteps k s (inOrder f s) := by
  rw [inOrder_none h]
  exact (((dueCleared_rules s).gfeSteps k).trans hf).trans ((dueCleared_rules _).gfeSteps k)

theorem inOrder_one_gfeSteps {f : State → State} {s : State} {k c i d : Nat} (h : (f (dueCleared s)).spu.due = [(c, kGfi, i, d)])
    (hw : withdrawCode c = false) (hf : GfeSteps k (dueCleared s) (f (dueCleared s))) : GfeSteps k s (inOrder f s) := by
  rw [inOrder_one h]
  exact (((dueCleared_rules s).gfeSteps k).trans hf).trans (((dueCleared_rules _).trans (raise_rules _ _ _ _ _ _ _ hw)).gfeSteps k)

theorem inOrder_one_gfi {f : State → State} {s : State} {c k i d : Nat} (h : (f (dueCleared s)).spu.due = [(c, k, i, d)])
    (hw : withdrawCode c = false) (j : Nat) : (inOrder f s).gfi j = (f (dueCleared s)).gfi j := by
  rw [inOrder_one h]
  exact ((dueCleared_rules _).trans (raise_rules _ _ _ _ _ _ _ hw)).gfi j

theorem inOrder_one_held {f : State → State} {s : State} {c k i d : Nat} (h : (f (dueCleared s)).spu.due = [(c, k, i, d)])
    (hw : withdrawCode c = false) : isHeld c k i (inOrder f s) = true := by
  rw [inOrder_one h]
  exact raise_held _ _ _ _ _ _ _ hw

section
variable {k : Fin 4} {s : State}

/-- A decision that orders a mode and one fault. -/
theorem inOrder_ordered {f : State → State} {m : Mode} {c code : Nat} (hf : ∀ x, f x = dueFault code kGfi k 0 (goMode k m c x))
    (hw : withdrawCode code = false) (s : State) : ((inOrder f s).gfi k).next = some (m, c) ∧ isHeld code kGfi k (inOrder f s) = true ∧
      GfeSteps k s (inOrder f s) := by
  have due : (f (dueCleared s)).spu.due = [(code, kGfi, k.val, 0)] := by
    rw [hf]
    rfl
  have steps : GfeSteps k (dueCleared s) (f (dueCleared s)) := by
    rw [hf]
    exact (goMode_gfeSteps ..).trans ((Rules.of ..).gfeSteps k)
  refine ⟨?_, inOrder_one_held due hw, inOrder_one_gfeSteps due hw steps⟩
  rw [inOrder_one_gfi due hw, hf]
  exact goMode_next ..

theorem allowed {dt : Nat} (hrun : s.dev = .run) (hen : gfeEnabled s k = true) {a : Bool} (ha : a = true) :
    (decide ((s.begin dt).dev = .run) && gfeEnabled (s.begin dt) k && a) = true := by
  rw [State.begin_dev, hrun, show gfeEnabled (s.begin dt) k = true from hen, ha]
  rfl

theorem allowed_next {dt : Nat} (hrun : s.dev = .run) (hen : gfeEnabled s k = true) (hnext : (s.gfi k).next = none) {a : Bool} (ha : a = true) :
    (decide ((s.begin dt).dev = .run) && gfeEnabled (s.begin dt) k && ((s.begin dt).gfi k).next.isNone && a) = true := by
  rw [Bool.and_assoc]
  refine allowed hrun hen ?_
  rw [show ((s.begin dt).gfi k).next = none from hnext, ha]
  rfl

theorem ride_times_out (hrun : s.dev = .run) (hen : gfeEnabled s k = true) (hnext : (s.gfi k).next = none)
    (hover : rideOver s k s.alm.tick = true) (dt : Nat) : ∃ t, exec (.gfeRideTimeout dt k) s = .next t ∧
      (t.gfi k).next = some (.stop, 11) ∧ isHeld 0x5106 4 k t = true ∧ GfeOnly k dt s t := by
  have over_ : rideOver (s.begin dt) k (s.begin dt).alm.tick = true := by
    unfold rideOver lasted at hover ⊢
    rw [State.begin_alm_tick, State.begin_alm_period]
    exact hover
  obtain ⟨next, held, steps⟩ := inOrder_ordered (f := rideTimeout k) (k := k) (fun _ => rfl) (by decide) (s.begin dt)
  refine exec_ends (if_pos (allowed_next hrun hen hnext over_)) ?_
  rw [ended_gfi, ended_isHeld]
  exact ⟨next, held, steps.ended⟩

theorem rideEnds_begin {dt : Nat} (h : rideEnds s k = true) : rideEnds (s.begin dt) k = true := by
  unfold rideEnds n20 at h ⊢
  rw [State.begin_alm_period]
  exact h

/-- A decision that raises no fault: an order of a mode, and what it leaves. -/
theorem ride_ends_in {m : Mode} (hrun : s.dev = .run) (hen : gfeEnabled s k = true) (hnext : (s.gfi k).next = none) (hends : rideEnds s k = true) (dt : Nat)
    {g : State → State} (hg : ∀ x, g x = x ∨ g x = doneReq k x)
    (hm : endRide k (dueCleared (s.begin dt)) = g (goMode k m 10 (dueCleared (s.begin dt)))) :
    ∃ t, exec (.rideExit dt k) s = .next t ∧ (t.gfi k).next = some (m, 10) ∧ GfeOnly k dt s t := by
  have ordered : (endRide k (dueCleared (s.begin dt))).spu.due = [] ∧ ((endRide k (dueCleared (s.begin dt))).gfi k).next = some (m, 10) ∧
      GfeSteps k (dueCleared (s.begin dt)) (endRide k (dueCleared (s.begin dt))) := by
    rw [hm]
    rcases hg (goMode k m 10 (dueCleared (s.begin dt))) with e | e
    · rw [e]
      exact ⟨rfl, goMode_next .., goMode_gfeSteps ..⟩
    · rw [e]
      exact ⟨rfl, (doneReq_next ..).trans (goMode_next ..), (goMode_gfeSteps ..).trans (doneReq_gfeSteps ..)⟩
  obtain ⟨due, next, steps⟩ := ordered
  refine exec_ends (if_pos (allowed_next hrun hen hnext (rideEnds_begin hends))) ?_
  refine ⟨?_, (inOrder_none_gfeSteps due steps).ended⟩
  rw [ended_gfi, inOrder_none due, (dueCleared_rules _).gfi]
  exact next

theorem ride_exits (hrun : s.dev = .run) (hen : gfeEnabled s k = true) (hnext : (s.gfi k).next = none) (hends : rideEnds s k = true)
    (hreq : ((s.gfi k).reqNew && (s.gfi k).reqHeld) = false) (dt : Nat) :
    ∃ t, exec (.rideExit dt k) s = .next t ∧ (t.gfi k).next = some ((s.gfi k).rideFrom, 10) ∧ GfeOnly k dt s t :=
  ride_ends_in (g := id) hrun hen hnext hends dt (fun _ => .inl rfl) (if_neg (by
    rw [show (dueCleared (s.begin dt)).gfi k = s.gfi k from rfl, hreq]
    exact Bool.false_ne_true))

theorem ride_exits_as_asked (hrun : s.dev = .run) (hen : gfeEnabled s k = true) (hnext : (s.gfi k).next = none) (hends : rideEnds s k = true)
    (hnew : (s.gfi k).reqNew = true) (hheld : (s.gfi k).reqHeld = true) (hcls : reqClass (s.gfi k).rideFrom (s.pn 1 k 0x7F) = .accept) (dt : Nat) :
    ∃ t, exec (.rideExit dt k) s = .next t ∧ (t.gfi k).next = some (modeOfReq (s.pn 1 k 0x7F), 10) ∧ GfeOnly k dt s t := by
  refine ride_ends_in (g := doneReq k) hrun hen hnext hends dt (fun _ => .inr rfl) ?_
  unfold endRide
  dsimp only
  rw [show (dueCleared (s.begin dt)).gfi k = s.gfi k from rfl, show (dueCleared (s.begin dt)).pn 1 k 0x7F = s.pn 1 k 0x7F from rfl,
    hnew, hheld, hcls]
  rfl

theorem energization_fails (hrun : s.dev = .run) (hen : gfeEnabled s k = true) (hnext : (s.gfi k).next = none)
    (hfails : energizeFails s k = true) (dt : Nat) : ∃ t, exec (.gfeEnergizeFail dt k) s = .next t ∧
      (t.gfi k).next = some (.idle, 4) ∧ isHeld 0x5105 4 k t = true ∧ GfeOnly k dt s t := by
  have fails : energizeFails (s.begin dt) k = true := by
    unfold energizeFails n20 at hfails ⊢
    rw [State.begin_alm_period]
    exact hfails
  obtain ⟨next, held, steps⟩ := inOrder_ordered (f := failEnergize k) (k := k) (fun _ => rfl) (by decide) (s.begin dt)
  refine exec_ends (if_pos (allowed_next hrun hen hnext fails)) ?_
  rw [ended_gfi, ended_isHeld]
  exact ⟨next, held, steps.ended⟩

theorem synchronising_ok (hrun : s.dev = .run) (hen : gfeEnabled s k = true) (hmode : (s.gfi k).mode = .sync) (hcnt : n20 s ≤ (s.gfi k).syncCnt)
    (dt : Nat) : ∃ t, exec (.syncOk dt k) s = .next t ∧ (t.gfi k).syncOk = true ∧ (t.gfi k).limit = (s.gfi k).limit ||| 0x40 ∧ GfeOnly k dt s t ∧
      ((s.gfi k).next = none → (s.gfi k).reqNew = true → reqClass .sync (s.pn 1 k 0x7F) = .hold →
        (t.gfi k).next = some (modeOfReq (s.pn 1 k 0x7F), 5) ∧ (t.gfi k).reqNew = false) := by
  generalize hx : (s.begin dt).modGfi k (fun g => { g with syncOk := true, limit := g.limit ||| 0x40 }) = x
  have marked : x.gfi k = { s.gfi k with syncOk := true, limit := (s.gfi k).limit ||| 0x40 } := by
    rw [← hx, gfi_modGfi_self]
    rfl
  have steps : GfeSteps k (s.begin dt) x := hx ▸ modGfi_gfeSteps ..
  have ok : (decide ((s.begin dt).dev = .run) && gfeEnabled (s.begin dt) k && ((s.begin dt).gfi k).mode == .sync &&
      decide (n20 (s.begin dt) ≤ ((s.begin dt).gfi k).syncCnt)) = true := by
    rw [Bool.and_assoc]
    refine allowed hrun hen ?_
    unfold n20 at hcnt ⊢
    rw [State.begin_alm_period, show (s.begin dt).gfi k = s.gfi k from rfl, hmode, decide_eq_true hcnt]
    rfl
  obtain ⟨y, runs, hy, asked⟩ : ∃ y, exec (.syncOk dt k) s = done y ∧ (y = x ∨ y = doneReq k (goMode k (modeOfReq (s.pn 1 k 0x7F)) 5 x)) ∧
      ((s.gfi k).next = none → (s.gfi k).reqNew = true → reqClass .sync (s.pn 1 k 0x7F) = .hold →
        y = doneReq k (goMode k (modeOfReq (s.pn 1 k 0x7F)) 5 x)) := by
    rw [← hx]
    by_cases h : ((s.gfi k).next.isNone && (s.gfi k).reqNew && decide (reqClass .sync (s.pn 1 k 0x7F) = .hold)) = true
    · exact ⟨_, (if_pos ok).trans (if_pos h), .inr rfl, fun _ _ _ => rfl⟩
    · refine ⟨_, (if_pos ok).trans (if_neg h), .inl rfl, fun h1 h2 h3 => absurd ?_ h⟩
      rw [h1, h2, h3]
      rfl
  refine exec_ends runs ?_
  rw [ended_gfi]
  refine ⟨?_, ?_, ?_, fun h1 h2 h3 => ?_⟩
  · rcases hy with rfl | rfl
    · rw [marked]
    · rw [(doneReq_keeps ..).1, (goMode_keeps ..).1, marked]
  · rcases hy with rfl | rfl
    · rw [marked]
    · rw [(doneReq_keeps ..).2.1, (goMode_keeps ..).2, marked]
  · rcases hy with rfl | rfl
    · exact steps.ended
    · exact ((steps.trans (goMode_gfeSteps ..)).trans (doneReq_gfeSteps ..)).ended
  · rw [asked h1 h2 h3]
    exact ⟨(doneReq_next ..).trans (goMode_next ..), (doneReq_keeps ..).2.2⟩

theorem stop_ends (hrun : s.dev = .run) (hen : gfeEnabled s k = true) (hnext : (s.gfi k).next = none)
    (hends : stopEnds s k s.alm.tick = true) (dt : Nat) : ∃ t, exec (.stopTimeout dt k) s = .next t ∧
      (t.gfi k).next = some (.idle, 13) ∧ GfeOnly k dt s t := by
  have ends : stopEnds (s.begin dt) k (s.begin dt).alm.tick = true := by
    unfold stopEnds lasted at hends ⊢
    rw [State.begin_alm_tick, State.begin_alm_period]
    exact hends
  refine exec_ends (if_pos (allowed_next hrun hen hnext ends)) ?_
  exact ⟨goMode_next .., (goMode_gfeSteps ..).ended⟩

/-! The windows of the impedance observer. -/

/-- An engine with the sums of its window cleared. -/
def sumsCleared (g : Gfi) : Gfi := { g with svr := 0, svi := 0, sir := 0, sii := 0, count := 0 }

theorem gp_begin (dt f : Nat) : gp (s.begin dt) k f = gp s k f := rfl

theorem nW_begin (dt : Nat) : nW (s.begin dt) k = nW s k := by
  unfold nW
  rw [State.begin_alm_period, gp_begin]

theorem closeWindow_begin (dt : Nat) (g : Gfi) : closeWindow (s.begin dt) k g = closeWindow s k g := by
  unfold closeWindow
  simp only [gp_begin, nW_begin]

/-- What a closed window leaves of its engine. -/
def WindowClosed (v : Option (Nat × Nat)) (g : Gfi) : Prop :=
  g.svr = 0 ∧ g.svi = 0 ∧ g.sir = 0 ∧ g.sii = 0 ∧ g.count = 0 ∧
    match v with
    | none => g.scrValid = false
    | some e => g.scrValid = true ∧ g.scrEst = b64 e.1 ∧ g.scrTicks = some 0

theorem scrClosed_none : scrClosed k none s = dueFault 0x510A kGfi k 0 (s.modGfi k (fun g => { g with scrValid := false })) := rfl

theorem condHolds_due (c k i : Nat) (s : State) : (condHolds c k i s).spu.due = s.spu.due := by
  obtain ⟨h, n, l, f, d, w, x, e⟩ := (condHolds_calm c k i s).spu
  rw [e]

theorem scrClosed_some (e : Nat × Nat) : GfeSteps k s (scrClosed k (some e) s) ∧ (scrClosed k (some e) s).spu.due = s.spu.due ∧
    ∃ n, (scrClosed k (some e) s).gfi k = { s.gfi k with scrEst := b64 e.1, scrTicks := some 0, scrValid := true, schedNext := n } := by
  unfold scrClosed
  dsimp only
  rw [(condHolds_rules ..).gfi, gfi_modGfi_self, condHolds_due]
  exact ⟨(modGfi_gfeSteps ..).trans ((condHolds_rules ..).gfeSteps k), rfl, _, rfl⟩

theorem window_closes (hrun : s.dev = .run) (hen : gfeEnabled s k = true) (hon : (s.gfi k).probeOn = true) (hcnt : nW s k ≤ (s.gfi k).count) (dt : Nat) :
    ∃ t, exec (.probeWindowClose dt k) s = .next t ∧ GfeOnly k dt s t ∧ WindowClosed (closeWindow s k (s.gfi k)) (t.gfi k) ∧
      (closeWindow s k (s.gfi k) = none → isHeld 0x510A 4 k t = true) := by
  have ok : (decide ((s.begin dt).dev = .run) && gfeEnabled (s.begin dt) k && ((s.begin dt).gfi k).probeOn &&
      decide (nW (s.begin dt) k ≤ ((s.begin dt).gfi k).count)) = true := by
    rw [Bool.and_assoc]
    refine allowed hrun hen ?_
    rw [nW_begin, show (s.begin dt).gfi k = s.gfi k from rfl, hon, Bool.true_and]
    exact decide_eq_true hcnt
  have runs : exec (.probeWindowClose dt k) s = done (inOrder (scrClosed k (closeWindow s k (s.gfi k))) ((s.begin dt).modGfi k sumsCleared)) := by
    show execProbeWindowClose dt k s = _
    unfold execProbeWindowClose
    dsimp only
    rw [if_pos ok, closeWindow_begin]
    rfl
  have cleared : (dueCleared ((s.begin dt).modGfi k sumsCleared)).gfi k = sumsCleared (s.gfi k) := gfi_modGfi_self ..
  have steps : GfeSteps k (s.begin dt) ((s.begin dt).modGfi k sumsCleared) := modGfi_gfeSteps ..
  generalize (s.begin dt).modGfi k sumsCleared = x at runs cleared steps
  refine exec_ends runs ?_
  rw [ended_gfi, ended_isHeld]
  cases closeWindow s k (s.gfi k) with
  | none =>
    have due : (scrClosed k none (dueCleared x)).spu.due = [(0x510A, kGfi, k.val, 0)] := by
      rw [scrClosed_none]
      rfl
    have own : (scrClosed k none (dueCleared x)).gfi k = { sumsCleared (s.gfi k) with scrValid := false } := by
      rw [scrClosed_none, ← cleared]
      exact gfi_modGfi_self k (fun g => { g with scrValid := false }) (dueCleared x)
    have closed : GfeSteps k (dueCleared x) (scrClosed k none (dueCleared x)) := by
      rw [scrClosed_none]
      exact (modGfi_gfeSteps ..).trans ((Rules.of ..).gfeSteps k)
    refine ⟨(steps.trans (inOrder_one_gfeSteps due (by decide) closed)).ended, ?_, fun _ => inOrder_one_held due (by decide)⟩
    rw [inOrder_one_gfi due (by decide), own]
    exact ⟨rfl, rfl, rfl, rfl, rfl, rfl⟩
  | some e =>
    obtain ⟨closed, due, n, own⟩ := scrClosed_some (k := k) (s := dueCleared x) e
    refine ⟨(steps.trans (inOrder_none_gfeSteps due closed)).ended, ?_, fun h => by cases h⟩
    rw [inOrder_none due, (dueCleared_rules _).gfi, own, cleared]
    exact ⟨rfl, rfl, rfl, rfl, rfl, rfl, rfl, rfl⟩

/-! Inputs that stay invalid. -/

theorem slot_modSlot_self (n : Nat) (f : Slot → Slot) (s : State) : (s.modSlot n f).slot n = f (s.slot n) := tabGet_tabPut_self ..
theorem slot_congr {s t : State} (h : t.lpe = s.lpe) (n : Nat) : t.slot n = s.slot n := by
  unfold State.slot
  rw [h]
theorem ended_slot (x : State) (n : Nat) : (ended x).slot n = x.slot n := rfl

theorem expire_lost {th : Nat} {l : Loss} (h : th < l.cnt) : (expire th l).lost = true := by
  unfold expire
  rw [if_pos h]

/-- A slot whose inputs have been judged. -/
def slotExpired (n : Nat) (s : State) : State := s.modSlot n (fun t => { t with inp := t.inp.map (fun e => (e.1, expire (s.pn 2 n 5) e.2)) })

theorem slotExpired_inp (n dt : Nat) : ((slotExpired n (s.begin dt)).slot n).inp = (s.slot n).inp.map (fun e => (e.1, expire (s.pn 2 n 5) e.2)) := by
  rw [slotExpired, slot_modSlot_self]
  rfl

/-- A lost input of a slot, raised as its run begins. -/
def slotLost (n : Nat) (s : State) : State := if (s.slot n).inp.any (fun e => e.2.lost) then runRaise 0x5203 kSlot n 0 0 [] true s else s

theorem slotLost_rules (n : Nat) (s : State) : Rules s (slotLost n s) := .ite (runRaise_rules _ _ _ _ _ _ _ _ (by decide)) (.refl s)

theorem slotLost_held {n : Nat} (hlost : (s.slot n).inp.any (fun e => e.2.lost) = true)
    (hnew : s.spu.runs.contains (0x5203, kSlot * 4096 + n) = false) : isHeld 0x5203 kSlot n (slotLost n s) = true := by
  unfold slotLost
  rw [if_pos hlost]
  exact runRaise_held (by decide) hnew

theorem inputHoldExpiry_slot (hrun : s.dev = .run) {who : Fin 68} (hslot : who.val < 64) (dt : Nat) :
    exec (.inputHoldExpiry dt who) s = done (slotLost who (slotExpired who (s.begin dt))) := by
  show execInputHoldExpiry dt who s = _
  unfold execInputHoldExpiry
  dsimp only
  rw [if_neg (show ¬(s.begin dt).dev ≠ .run from not_not_intro hrun), if_pos hslot]
  rfl

theorem slot_input_expires (hrun : s.dev = .run) {who : Fin 68} (hslot : who.val < 64) (dt : Nat) : ∃ t, exec (.inputHoldExpiry dt who) s = .next t ∧
      (t.slot who).inp = (s.slot who).inp.map (fun e => (e.1, expire (s.pn 2 who 5) e.2)) ∧ t.gfe = s.gfe ∧ t.par = s.par ∧
      (s.spu.runs.contains (0x5203, kSlot * 4096 + who.val) = false → ((s.slot who).inp.any (fun e => decide (s.pn 2 who 5 < e.2.cnt))) = true →
        isHeld 0x5203 kSlot who t = true) := by
  have runs := inputHoldExpiry_slot hrun hslot dt
  have inp := slotExpired_inp (s := s) who dt
  have kept : (slotExpired who (s.begin dt)).gfe = s.gfe ∧ (slotExpired who (s.begin dt)).par = s.par ∧
      (slotExpired who (s.begin dt)).spu = s.spu := ⟨rfl, rfl, rfl⟩
  generalize slotExpired who (s.begin dt) = x at runs inp kept
  obtain ⟨hgfe, hpar, hspu⟩ := kept
  have rules := slotLost_rules who x
  refine exec_ends runs ?_
  rw [ended_slot, ended_isHeld, ended_gfe, ended_par, slot_congr rules.keep.lpe]
  refine ⟨inp, rules.keep.gfe.trans hgfe, rules.keep.par.trans hpar, fun hnew hlost => ?_⟩
  obtain ⟨e, he, hcnt⟩ := List.any_eq_true.1 hlost
  refine slotLost_held ?_ (by rw [hspu]; exact hnew)
  rw [inp]
  exact List.any_eq_true.2 ⟨_, List.mem_map.2 ⟨e, he, rfl⟩, expire_lost (of_decide_eq_true hcnt)⟩

/-- A loss of an engine's input, raised as it begins. -/
def lossRaised (k : Nat) (cur : Bool) (v : Loss) (was : Loss) (s : State) : State :=
  if v.lost && !was.lost then raise 0x5104 kGfi k (gfeSrc s k cur) 0 [] s else s

theorem lossRaised_rules (k : Nat) (cur : Bool) (v was : Loss) (s : State) : Rules s (lossRaised k cur v was s) :=
  .ite (raise_rules _ _ _ _ _ _ _ (by decide)) (.refl s)

theorem lossRaised_held {th : Nat} {cur : Bool} {was : Loss} (h : was.lost = false) (hcnt : th < was.cnt) :
    isHeld 0x5104 4 k (lossRaised k cur (expire th was) was s) = true := by
  unfold lossRaised
  rw [expire_lost hcnt, h]
  exact raise_held _ _ _ _ _ _ _ (by decide)

theorem lossRaised_isHeld {cur : Bool} {v was : Loss} (h : isHeld 0x5104 4 k s = true) : isHeld 0x5104 4 k (lossRaised k cur v was s) = true := by
  unfold lossRaised
  split
  · exact isHeld_raise h _ _ _ _ _ _ (by decide)
  · exact h

theorem instance_input_expires (hrun : s.dev = .run) (dt : Nat) : ∃ t, exec (.inputHoldExpiry dt ⟨64 + k.val, by omega⟩) s = .next t ∧
      (t.gfi k).lossV = expire (s.pn 1 k 0xF) (s.gfi k).lossV ∧ (t.gfi k).lossI = expire (s.pn 1 k 0xF) (s.gfi k).lossI ∧ GfeOnly k dt s t ∧
      (((s.gfi k).lossV.lost = false ∧ s.pn 1 k 0xF < (s.gfi k).lossV.cnt) ∨ ((s.gfi k).lossI.lost = false ∧ s.pn 1 k 0xF < (s.gfi k).lossI.cnt) →
        isHeld 0x5104 4 k t = true) := by
  generalize hv : expire (s.pn 1 k 0xF) (s.gfi k).lossV = v
  generalize hi : expire (s.pn 1 k 0xF) (s.gfi k).lossI = i
  generalize hx : (s.begin dt).modGfi k (fun g => { g with lossV := v, lossI := i }) = x
  have own : (x.gfi k).lossV = v ∧ (x.gfi k).lossI = i := by
    rw [← hx, gfi_modGfi_self]
    exact ⟨rfl, rfl⟩
  have steps : GfeSteps k (s.begin dt) x := hx ▸ modGfi_gfeSteps ..
  have runs : exec (.inputHoldExpiry dt ⟨64 + k.val, by omega⟩) s =
      done (lossRaised k true i (s.gfi k).lossI (lossRaised k false v (s.gfi k).lossV x)) := by
    rw [← hx, ← hv, ← hi]
    show execInputHoldExpiry dt ⟨64 + k.val, by omega⟩ s = _
    unfold execInputHoldExpiry
    dsimp only
    rw [if_neg (show ¬(s.begin dt).dev ≠ .run from not_not_intro hrun), if_neg (by omega), show 64 + k.val - 64 = k.val by omega]
    rfl
  have rules : Rules x (lossRaised k true i (s.gfi k).lossI (lossRaised k false v (s.gfi k).lossV x)) :=
    (lossRaised_rules ..).trans (lossRaised_rules ..)
  refine exec_ends runs ?_
  rw [ended_gfi, ended_isHeld, rules.gfi]
  refine ⟨own.1, own.2, (steps.trans (rules.gfeSteps k)).ended, fun h => ?_⟩
  rcases h with ⟨hfound, hcnt⟩ | ⟨hfound, hcnt⟩
  · rw [← hv]
    exact lossRaised_isHeld (lossRaised_held hfound hcnt)
  · rw [← hi]
    exact lossRaised_held hfound hcnt

end

/-- Settles O45: each decision of an engine in RUN, and what it leaves alone. -/
theorem gfeDecides : Obligations.GfeDecides := fun dt k s hrun hen =>
  ⟨fun hnext hover => ride_times_out hrun hen hnext hover dt, fun hnext hends hreq => ride_exits hrun hen hnext hends hreq dt,
    fun hnext hends hnew hheld hcls => ride_exits_as_asked hrun hen hnext hends hnew hheld hcls dt,
    fun hnext hfails => energization_fails hrun hen hnext hfails dt, fun hmode hcnt => synchronising_ok hrun hen hmode hcnt dt,
    fun hnext hends => stop_ends hrun hen hnext hends dt,
    fun hon hcnt => by
      obtain ⟨t, ht, only, closed, held⟩ := window_closes hrun hen hon hcnt dt
      obtain ⟨h1, h2, h3, h4, h5, h6⟩ := closed
      refine ⟨t, ht, only, h1, h2, h3, h4, h5, ?_⟩
      revert h6 held
      cases closeWindow s k (s.gfi k) with
      | none => exact fun held h6 => ⟨h6, held rfl⟩
      | some e => exact fun _ h6 => h6,
    fun _ hslot => slot_input_expires hrun hslot dt, instance_input_expires hrun dt⟩

end Sys2Proof.Machine
end

section
/-! The tick instant: its number, a START decided at it and the modes brought into force (R9, R12, R24). -/
namespace Sys2Proof.Machine

/-! What the work of an instant leaves, once its transitions are judged: the time, the device state and its cause, the writes that wait, the
transitions, and what was handed over. -/

structure Goes (s t : State) : Prop where
  alm : t.alm = s.alm
  cause : t.blockCause = s.blockCause
  dev : t.dev = s.dev
  pend : t.pend = s.pend
  pairEn : t.pairEn = s.pairEn
  trans_ : t.trans = s.trans
  out : s.out ⊆ t.out

theorem Goes.refl (s : State) : Goes s s := ⟨rfl, rfl, rfl, rfl, rfl, rfl, List.Subset.refl _⟩
theorem Goes.trans {s t u : State} (h : Goes s t) (k : Goes t u) : Goes s u :=
  ⟨k.alm.trans h.alm, k.cause.trans h.cause, k.dev.trans h.dev, k.pend.trans h.pend, k.pairEn.trans h.pairEn, k.trans_.trans h.trans_,
    List.Subset.trans h.out k.out⟩
theorem Goes.ite {c : Prop} [Decidable c] {s a b : State} (h : Goes s a) (k : Goes s b) : Goes s (if c then a else b) := by
  split <;> assumption
theorem Goes.foldl {α : Type} (f : State → α → State) (l : List α) (hf : ∀ s, ∀ x ∈ l, Goes s (f s x)) (s : State) : Goes s (l.foldl f s) :=
  List.foldlRecOn (motive := Goes s) l f (.refl s) fun t ht x hx => ht.trans (hf t x hx)
theorem Clears.goes {s t : State} : Clears s t → Goes s t := by
  rintro ⟨p, c, h, n, l, w, a, o, rfl, -⟩
  exact ⟨rfl, rfl, rfl, rfl, rfl, rfl, List.subset_append_left _ _⟩
theorem Logs.goes {s t : State} (h : Logs s t) : Goes s t := h.clears.goes
theorem condHolds_goes (c k i : Nat) (s : State) : Goes s (condHolds c k i s) := by
  have marked (p : Spu) : Goes s { s with spu := p } := ⟨rfl, rfl, rfl, rfl, rfl, rfl, List.Subset.refl _⟩
  exact (marked _).trans (clearWhere_clears ..).goes
theorem modGfi_goes (k : Nat) (f : Gfi → Gfi) (s : State) : Goes s (s.modGfi k f) := ⟨rfl, rfl, rfl, rfl, rfl, rfl, List.Subset.refl _⟩
theorem modSd_goes (n : Nat) (f : SdIn → SdIn) (s : State) : Goes s (modSd n f s) := ⟨rfl, rfl, rfl, rfl, rfl, rfl, List.Subset.refl _⟩
theorem setPar_goes {k : Nat} (h : mkId 10 0 1 ≠ k) (v : Wire) (s : State) : Goes s (s.setPar k v) :=
  ⟨rfl, rfl, rfl, rfl, pairEn_setPar h v s, rfl, List.Subset.refl _⟩

/-! The modes brought into force. -/

/-- The request of an engine dropped with its mode. -/
def requestDropped (k : Nat) (s : State) : State := doneReq k (s.setPar (mkId 1 k 0x7F) 0)

/-- A mode in force from tick n on, logged. -/
def modeInForce (n : Int) (k : Nat) (was : Mode) (e : Mode × Nat) (s : State) : State :=
  logAt (s.tickAt n).toNat 4 kGfi k (modeCode was * 256 + modeCode e.1) e.2 (s.modGfi k (fun g => { g with mode := e.1, since := n }))

/-- The conditions of an engine that is IDLE. -/
def idleClears (k : Nat) (m : Mode) (s : State) : State := if m = .idle then condHolds 0x5106 kGfi k (condHolds 0x5101 kGfi k s) else s

/-- The mode that an engine takes at a tick instant. -/
def modeChange (run : Bool) (g : Gfi) : Option (Mode × Nat) :=
  if !run && (g.ran || g.mode != .idle) then (if g.mode = .idle then none else some (.idle, 15)) else if run then g.next else none

/-- An engine at a tick instant, its decision taken. -/
def decisionTaken (k : Nat) (s : State) : State :=
  let x := s.modGfi k (fun g => { g with next := none, ran := s.dev == .run })
  if !(s.dev == .run) && ((s.gfi k).ran || (s.gfi k).mode != .idle) then requestDropped k x else x

theorem gfeInstant_eq (n : Int) (k : Nat) (s : State) : gfeInstant n k s =
    match modeChange (s.dev == .run) (s.gfi k) with
    | none => decisionTaken k s
    | some e => idleClears k e.1 (modeInForce n k (s.gfi k).mode e (decisionTaken k s)) := by
  unfold gfeInstant
  dsimp only
  rw [show (if (!s.dev == .run && ((s.gfi k).ran || (s.gfi k).mode != .idle)) = true then
      (if (s.gfi k).mode = .idle then none else some (Mode.idle, 15)) else if (s.dev == .run) = true then (s.gfi k).next else none) =
      modeChange (s.dev == .run) (s.gfi k) from rfl]
  cases modeChange (s.dev == .run) (s.gfi k) <;> rfl

theorem logAt_logs (at_ c k i a b : Nat) (s : State) : Logs s (logAt at_ c k i a b s) := logRec_logs ..

theorem requestDropped_goes {k : Nat} (hk : k < 4) (s : State) : Goes s (requestDropped k s) :=
  (setPar_goes (by unfold mkId; omega) 0 s).trans (modGfi_goes ..)
theorem decisionTaken_goes {k : Nat} (hk : k < 4) (s : State) : Goes s (decisionTaken k s) :=
  (modGfi_goes ..).trans (.ite (requestDropped_goes hk _) (.refl _))
theorem modeInForce_goes (n : Int) (k : Nat) (was : Mode) (e : Mode × Nat) (s : State) : Goes s (modeInForce n k was e s) :=
  (modGfi_goes ..).trans (logAt_logs ..).goes
theorem idleClears_goes (k : Nat) (m : Mode) (s : State) : Goes s (idleClears k m s) :=
  .ite ((condHolds_goes ..).trans (condHolds_goes ..)) (.refl s)

theorem gfeInstant_goes {k : Nat} (hk : k < 4) (n : Int) (s : State) : Goes s (gfeInstant n k s) := by
  rw [gfeInstant_eq]
  split
  · exact decisionTaken_goes hk s
  · exact ((decisionTaken_goes hk s).trans (modeInForce_goes ..)).trans (idleClears_goes ..)

theorem decisionTaken_others {k j : Nat} (h : j ≠ k) (s : State) : (decisionTaken k s).gfi j = s.gfi j := by
  unfold decisionTaken requestDropped doneReq
  dsimp only
  split
  · exact (gfi_modGfi_ne h ..).trans (gfi_modGfi_ne h _ s)
  · exact gfi_modGfi_ne h ..

theorem idleClears_gfi (k : Nat) (m : Mode) (s : State) (j : Nat) : (idleClears k m s).gfi j = s.gfi j :=
  Rules.gfi (.ite ((condHolds_rules ..).trans (condHolds_rules ..)) (.refl s)) j

theorem modeInForce_gfi (n : Int) (k : Nat) (was : Mode) (e : Mode × Nat) (s : State) (j : Nat) :
    (modeInForce n k was e s).gfi j = (s.modGfi k (fun g => { g with mode := e.1, since := n })).gfi j := (logAt_logs ..).reacts.rules.gfi j

theorem gfeInstant_others {k j : Nat} (h : j ≠ k) (n : Int) (s : State) : (gfeInstant n k s).gfi j = s.gfi j := by
  rw [gfeInstant_eq]
  split
  · exact decisionTaken_others h s
  · rw [idleClears_gfi, modeInForce_gfi, gfi_modGfi_ne h, decisionTaken_others h]

/-- In RUN an engine takes the mode that was decided for it. -/
theorem gfeInstant_takes {k : Fin 4} {s : State} (hrun : s.dev = .run) {e : Mode × Nat} (hnext : (s.gfi k).next = some e) (n : Int) :
    ((gfeInstant n k s).gfi k).mode = e.1 ∧ ((gfeInstant n k s).gfi k).next = none := by
  have change : modeChange (s.dev == .run) (s.gfi k) = some e := by
    rw [hrun]
    exact hnext
  have taken : decisionTaken k s = s.modGfi k (fun g => { g with next := none, ran := s.dev == .run }) := by
    unfold decisionTaken
    rw [hrun]
    rfl
  rw [gfeInstant_eq, change]
  dsimp only
  rw [idleClears_gfi, modeInForce_gfi, taken, gfi_modGfi_self, gfi_modGfi_self]
  exact ⟨rfl, rfl⟩

theorem instants_goes {l : List Nat} (hl : ∀ k ∈ l, k < 4) (n : Int) (s : State) : Goes s (l.foldl (fun s k => gfeInstant n k s) s) :=
  .foldl _ l (fun s k hk => gfeInstant_goes (hl k hk) n s) s

theorem instants_others {l : List Nat} {j : Nat} (hj : j ∉ l) (n : Int) (s : State) : (l.foldl (fun s k => gfeInstant n k s) s).gfi j = s.gfi j :=
  List.foldlRecOn (motive := fun t : State => t.gfi j = s.gfi j) l _ rfl fun t ht k hk =>
    (gfeInstant_others (fun e => hj (by rw [e]; exact hk)) n t).trans ht

theorem instants_take {l : List Nat} (hl : ∀ k ∈ l, k < 4) (hn : l.Nodup) {k : Fin 4} (hk : k.val ∈ l) {s : State} (hrun : s.dev = .run)
    {e : Mode × Nat} (hnext : (s.gfi k).next = some e) (n : Int) :
    ((l.foldl (fun s k => gfeInstant n k s) s).gfi k).mode = e.1 ∧ ((l.foldl (fun s k => gfeInstant n k s) s).gfi k).next = none := by
  induction l generalizing s with
  | nil => cases hk
  | cons i r ih =>
    obtain ⟨hi, hr⟩ := List.nodup_cons.1 hn
    rw [List.foldl_cons]
    by_cases h : k.val = i
    · subst h
      rw [instants_others hi]
      exact gfeInstant_takes hrun hnext n
    · refine ih (fun j hj => hl j (List.mem_cons_of_mem _ hj)) hr ((List.mem_cons.1 hk).resolve_left h) ?_ ?_
      · rw [(gfeInstant_goes (hl i List.mem_cons_self) n s).dev, hrun]
      · rw [gfeInstant_others h, hnext]

/-! The samples of the tick, and the writes that wait: where none waits, nothing is promoted. -/

theorem takeReady_idle {s : State} (hpend : s.pend = []) (f : State → Pend → Bool) (n : Int) : takeReady f n s = s := by
  unfold takeReady
  rw [hpend]
  rfl

theorem tickPromote_goes {s : State} (hpend : s.pend = []) (n : Int) : Goes s (tickPromote n s) := by
  have instants := instants_goes (l := List.range 4) (fun _ => List.mem_range.1) n s
  unfold tickPromote
  rw [takeReady_idle (instants.pend.trans hpend)]
  exact instants

theorem promoteOuts_idle {s : State} (hpend : s.pend = []) : promoteOuts s = s := by
  refine List.foldlRecOn (motive := fun t : State => t = s) (List.range 8) _ rfl fun t ht c _ => ?_
  rw [ht]
  refine if_pos ?_
  rw [hpend]
  exact Bool.or_true _

theorem tickSamples_alone {s : State} (hpair : s.pairEn = false) (n : Int) :
    Goes s (tickSamples n s) ∧ (tickSamples n s).gfe = s.gfe := by
  have sampled (t : Nat) : Goes s (deliverSd [] t s) ∧ (deliverSd [] t s).gfe = s.gfe := by
    refine List.foldlRecOn (motive := fun x : State => Goes s x ∧ x.gfe = s.gfe) _ _ ⟨.refl s, rfl⟩ fun x hx m _ => ?_
    exact ⟨hx.1.trans (modSd_goes ..), hx.2⟩
  have frozen (x : State) (u : Nat → Bool) : Goes x (freezeTel n u x) ∧ (freezeTel n u x).gfe = x.gfe :=
    ⟨⟨rfl, rfl, rfl, rfl, rfl, rfl, List.Subset.refl _⟩, rfl⟩
  obtain ⟨h1, h2⟩ := sampled (s.tickAt n / stepQ).toNat
  obtain ⟨h3, h4⟩ := frozen (deliverSd [] (s.tickAt n / stepQ).toNat s) (fun _ => true)
  have alone : tickSamples n s = freezeTel n (fun _ => true) (deliverSd [] (s.tickAt n / stepQ).toNat s) :=
    if_pos (by rw [hpair]; rfl)
  rw [alone]
  exact ⟨h1.trans h3, h4.trans h2⟩

theorem inShadow_goes {f : State → State} {s : State} (hf : ∀ d, Goes { s with dev := d } (f { s with dev := d })) : Goes s (inShadow f s) := by
  unfold inShadow
  split
  · exact hf s.dev
  · next d _ =>
    obtain ⟨h1, h2, -, h4, h5, h6, h7⟩ := hf d
    exact ⟨h1, h2, rfl, h4, h5, h6, h7⟩

/-- The work of tick n once its transitions are judged. -/
def instantWork (n : Int) (s : State) : State :=
  if (inShadow (tickPromote n) (swapEffect n s)).awake then tickSamples n (promoteOuts (inShadow (tickPromote n) (swapEffect n s)))
  else inShadow (tickPromote n) (swapEffect n s)

theorem swapEffect_none {s : State} (h : s.rdn.swapAt = none) (n : Int) : swapEffect n s = s := by
  unfold swapEffect
  rw [h]

theorem instantWork_goes {s : State} (hpair : s.pairEn = false) (hswap : s.rdn.swapAt = none) (hpend : s.pend = []) (n : Int) :
    Goes s (instantWork n s) := by
  have promoted : Goes s (inShadow (tickPromote n) s) := inShadow_goes fun d => tickPromote_goes (s := { s with dev := d }) hpend n
  unfold instantWork
  rw [swapEffect_none hswap, promoteOuts_idle (promoted.pend.trans hpend)]
  exact .ite (promoted.trans (tickSamples_alone (promoted.pairEn.trans hpair) n).1) promoted

theorem instantWork_modes {s : State} (hpair : s.pairEn = false) (hswap : s.rdn.swapAt = none) (hshadow : s.rdn.shadow = none) (hpend : s.pend = [])
    (hrun : s.dev = .run) {k : Fin 4} {e : Mode × Nat} (hnext : (s.gfi k).next = some e) (n : Int) :
    ((instantWork n s).gfi k).mode = e.1 ∧ ((instantWork n s).gfi k).next = none := by
  have alone : inShadow (tickPromote n) s = tickPromote n s := by
    unfold inShadow
    rw [hshadow]
  have promoted := tickPromote_goes hpend n
  have taken : ((tickPromote n s).gfi k).mode = e.1 ∧ ((tickPromote n s).gfi k).next = none := by
    unfold tickPromote
    rw [takeReady_idle ((instants_goes (l := List.range 4) (fun _ => List.mem_range.1) n s).pend.trans hpend)]
    exact instants_take (fun _ => List.mem_range.1) List.nodup_range (List.mem_range.2 k.isLt) hrun hnext n
  unfold instantWork
  rw [swapEffect_none hswap, alone, promoteOuts_idle (promoted.pend.trans hpend)]
  split
  · rw [gfi_congr (tickSamples_alone (promoted.pairEn.trans hpair) n).2]
    exact taken
  · exact taken

/-! The edges that have come by the instant. -/

/-- What the bits of an edge leave: what a fault and its clearing do, the time, the fields and what waits. -/
structure Fed (s t : State) : Prop where
  calm : Calm s t
  alm : t.alm = s.alm
  par : t.par = s.par
  pend : t.pend = s.pend
  trans_ : t.trans = s.trans

theorem Fed.refl (s : State) : Fed s s := ⟨.refl s, rfl, rfl, rfl, rfl⟩
theorem Fed.trans {s t u : State} (h : Fed s t) (k : Fed t u) : Fed s u :=
  ⟨h.calm.trans k.calm, k.alm.trans h.alm, k.par.trans h.par, k.pend.trans h.pend, k.trans_.trans h.trans_⟩
theorem Fed.ite {c : Prop} [Decidable c] {s a b : State} (h : Fed s a) (k : Fed s b) : Fed s (if c then a else b) := by
  split <;> assumption
theorem Fed.foldl {α : Type} (f : State → α → State) (hf : ∀ s x, Fed s (f s x)) (l : List α) (s : State) : Fed s (l.foldl f s) :=
  List.foldlRecOn (motive := Fed s) l f (.refl s) fun t ht x _ => ht.trans (hf t x)
theorem fed_of {s t : State} (h : Calm s t) (r : Rules s t) : Fed s t := ⟨h, r.keep.alm, r.keep.par, r.keep.pend, r.keep.transitions⟩
theorem modSd_fed (n : Nat) (f : SdIn → SdIn) (s : State) : Fed s (modSd n f s) :=
  ⟨⟨⟨_, _, _, rfl⟩, .inl rfl, ⟨_, rfl⟩, ⟨_, _, rfl, List.Subset.refl _⟩, .refl _⟩, rfl, rfl, rfl, rfl⟩
theorem modGrp_fed (g : Nat) (f : SdGrp → SdGrp) (s : State) : Fed s (modGrp g f s) :=
  ⟨⟨⟨_, _, _, rfl⟩, .inl rfl, ⟨_, rfl⟩, ⟨_, _, rfl, List.Subset.refl _⟩, .refl _⟩, rfl, rfl, rfl, rfl⟩

theorem feedFast_fed {n : Nat} (hn : n < 48) (b : Bool) (s : State) : Fed s (feedFast n b s) := by
  have stays : withdrawCode (0x2140 + n) = false := fastCode_stays ⟨n, hn⟩
  have raised (i a c : Nat) (sc : List Nat) (x : State) : Fed x (raise (0x2140 + n) kSd i a c sc x) :=
    fed_of (raise_calm stays ..) (raise_rules _ _ _ _ _ _ _ stays)
  have cleared (i : Nat) (x : State) : Fed x (condHolds (0x2140 + n) kSd i x) := fed_of (condHolds_calm ..) (condHolds_rules ..)
  exact (modSd_fed ..).trans (.ite ((modSd_fed ..).trans (raised ..)) (.ite ((modSd_fed ..).trans (cleared ..)) (.refl _)))

theorem feedEdge_fed (s : State) (e : SdEdge) : Fed s (feedEdge s e) := by
  have grouped (x : State) (f : SdGrp → SdGrp) : Fed x (if e.rising then modGrp e.group f x else x) := .ite (modGrp_fed ..) (.refl x)
  have marked (x : State) (c : Bool) (n : Nat) (f : SdIn → SdIn) : Fed x (if c then modSd n f x else x) := .ite (modSd_fed ..) (.refl x)
  unfold feedEdge
  dsimp only
  refine (grouped ..).trans (.foldl _ (fun x i => ?_) _ _)
  split
  · exact .refl x
  · next h =>
    have hn : 8 * e.group + i < 48 := by
      simp only [Bool.or_eq_true, decide_eq_true_eq, not_or] at h
      omega
    exact .ite (marked ..) ((marked ..).trans ((modSd_fed ..).trans (.ite (feedFast_fed hn ..) (modSd_fed ..))))

theorem feedEdges_fed (es : List SdEdge) (s : State) : Fed s (feedEdges es s) := .ite (.foldl _ feedEdge_fed es s) (.refl s)

theorem feedEdges_nil (s : State) : feedEdges [] s = s := ite_self s

/-! The transitions. -/

theorem takeEntry_idle {s : State} (hpend : s.pend = []) {due : List Trans} (hdue : ∀ t ∈ due, t.part < 8) (n : Int) (i : Nat) :
    takeEntry n due s i = s := by
  have none : due.filter (fun t => !decide (t.part < 8) && t.entry == i) = [] := List.filter_eq_nil_iff.2 fun t ht => by
    rw [decide_eq_true (hdue t ht)]
    exact Bool.false_ne_true
  unfold takeEntry
  dsimp only
  rw [none]
  exact takeReady_idle hpend _ n

theorem entries_idle {s : State} (hpend : s.pend = []) {due : List Trans} (hdue : ∀ t ∈ due, t.part < 8) (n : Int) (l : List Nat) :
    l.foldl (takeEntry n due) s = s :=
  List.foldlRecOn (motive := fun t : State => t = s) l _ rfl fun t ht i _ => by rw [ht, takeEntry_idle hpend hdue]

theorem takeTransitions_none {s : State} (htrans : s.trans = []) (hpend : s.pend = []) (n : Int) :
    takeTransitions n s = { s with trans := [], blockCause := none } := by
  unfold takeTransitions
  dsimp only
  rw [htrans]
  exact congrArg (fun x : State => { x with blockCause := none }) (entries_idle (s := { s with trans := [] }) (due := []) hpend (fun _ h => nomatch h) n _)

theorem takeTransitions_one {s : State} {x : Trans} (htrans : s.trans = [x]) {n : Int} (hdue : x.tick ≤ n) (hpart : x.part < 8)
    (hpend : (takeTrans n x { s with trans := [] }).pend = []) :
    takeTransitions n s = { takeTrans n x { s with trans := [] } with blockCause := none } := by
  have due : [x].filter (fun t => decide (t.tick ≤ n)) = [x] := by simp [hdue]
  have left : [x].filter (fun t => !decide (t.tick ≤ n)) = [] := by simp [hdue]
  have hosts : [x].filter (fun t => decide (t.part < 8)) = [x] := by simp [hpart]
  unfold takeTransitions
  dsimp only
  rw [htrans, due, left, hosts]
  exact congrArg (fun x : State => { x with blockCause := none }) (entries_idle (due := [x]) hpend (fun _ h => List.mem_singleton.1 h ▸ hpart) n _)

/-! The instant as a whole. -/

/-- A tick numbered, its releases owed. -/
def numbered (n : Int) (s : State) : State :=
  { s with
    alm := { s.alm with tick := n, stage := 1 }
    mod := { s.mod with relOwed := s.mod.relOwed ++ s.mod.relNext, relNext := [] } }

theorem tryBootTrain_idle {s : State} (h : s.dev ≠ .boot) : tryBootTrain s = s := by
  have idle : bootTrain s = s := if_neg (by
    unfold bootTrains
    rw [beq_false_of_ne h]
    exact Bool.false_ne_true)
  unfold tryBootTrain
  rw [idle]
  exact ite_self s

theorem tickInstant_runs {s : State} (hpow : s.dev.powered = true) (hrun : s.alm.running = true) (htick : s.alm.tick ≠ s.tickNow)
    {edges : List SdEdge} (hboot : (feedEdges edges (tickComplete s)).dev ≠ .boot) : tickInstant edges s =
      instantWork s.tickNow (takeTransitions s.tickNow (numbered s.tickNow (feedEdges edges (tickComplete s)))) := by
  have starts : ¬(!s.dev.powered || !s.alm.running || decide (s.alm.tick = s.tickNow)) = true := by
    rw [hpow, hrun, decide_eq_false htick]
    decide
  have numbered_ : instantWork s.tickNow (takeTransitions s.tickNow (numbered s.tickNow (tryBootTrain (feedEdges edges (tickComplete s))))) =
      instantWork s.tickNow (takeTransitions s.tickNow (numbered s.tickNow (feedEdges edges (tickComplete s)))) := by
    rw [tryBootTrain_idle hboot]
  exact (if_neg starts).trans numbered_

theorem tickComplete_next (s : State) (k : Fin 4) : ((tickComplete s).gfi k).next = (s.gfi k).next := by
  unfold State.gfi vget
  rw [dif_pos k.isLt, dif_pos k.isLt]
  simp [tickComplete]

theorem ended_cause (x : State) : (ended x).blockCause = x.blockCause := rfl

theorem instant_numbers {dt : Nat} {s : State} (hlive : s.dev.live = true) (hrun : s.alm.running = true) (htick : s.alm.tick ≠ (s.begin dt).tickNow)
    (hpair : s.pairEn = false) (hswap : s.rdn.swapAt = none) (hshadow : s.rdn.shadow = none) (hpend : s.pend = []) (htrans : s.trans = [])
    (edges : List SdEdge) : ∃ t, exec (.tickInstant dt edges) s = .next t ∧ t.blockCause = none ∧
      t.alm = { (s.begin dt).alm with tick := (s.begin dt).tickNow, stage := 1 } ∧
      (edges = [] → t.dev = s.dev ∧ ∀ k : Fin 4, ∀ e : Mode × Nat, s.dev = .run → (s.gfi k).next = some e →
        (t.gfi k).mode = e.1 ∧ (t.gfi k).next = none) := by
  generalize hy : feedEdges edges (tickComplete (s.begin dt)) = y
  have fed : Fed (tickComplete (s.begin dt)) y := hy ▸ feedEdges_fed ..
  obtain ⟨a, b, c, hrdn⟩ := fed.calm.rdn
  have notBoot : y.dev ≠ .boot := by
    have before : (tickComplete (s.begin dt)).dev = s.dev := rfl
    rcases fed.calm.dev with e | ⟨-, e⟩
    · rw [e, before]
      intro h
      rw [h] at hlive
      cases hlive
    · rw [e]
      decide
  have none_ : takeTransitions (s.begin dt).tickNow (numbered (s.begin dt).tickNow y) =
      { numbered (s.begin dt).tickNow y with trans := [], blockCause := none } :=
    takeTransitions_none (s := numbered (s.begin dt).tickNow y) (fed.trans_.trans htrans) (fed.pend.trans hpend) _
  have runs : exec (.tickInstant dt edges) s = done (instantWork (s.begin dt).tickNow
      { numbered (s.begin dt).tickNow y with trans := [], blockCause := none }) := by
    have running : (s.begin dt).alm.running = true := (State.begin_alm_running ..).trans hrun
    have next : (s.begin dt).alm.tick ≠ (s.begin dt).tickNow := (State.begin_alm_tick dt s).symm ▸ htick
    have instant := tickInstant_runs (s := s.begin dt) (powered_of_live hlive) running next (edges := edges) (hy.symm ▸ notBoot)
    rw [hy, none_] at instant
    exact congrArg done instant
  generalize hz : ({ numbered (s.begin dt).tickNow y with trans := [], blockCause := none } : State) = z at runs
  have pairs : z.pairEn = false := by
    rw [← hz]
    exact (pairEn_congr (t := { numbered (s.begin dt).tickNow y with trans := [], blockCause := none }) (s := s) fed.par).trans hpair
  have alone : z.rdn.swapAt = none ∧ z.rdn.shadow = none ∧ z.pend = [] := by
    rw [← hz]
    refine ⟨?_, ?_, fed.pend.trans hpend⟩
    · show y.rdn.swapAt = none
      rw [hrdn]
      exact hswap
    · show y.rdn.shadow = none
      rw [hrdn]
      exact hshadow
  obtain ⟨hswap', hshadow', hpend'⟩ := alone
  have goes := instantWork_goes pairs hswap' hpend' (s.begin dt).tickNow
  refine exec_ends runs ?_
  rw [ended_cause, ended_alm, goes.cause, goes.alm]
  refine ⟨by rw [← hz], ?_, fun he => ?_⟩
  · rw [← hz]
    exact congrArg (fun a : Alm => { a with tick := (s.begin dt).tickNow, stage := 1 }) fed.alm
  · subst he
    rw [feedEdges_nil] at hy
    have dev : z.dev = s.dev := by
      rw [← hz, ← hy]
      rfl
    rw [ended_dev, goes.dev]
    refine ⟨dev, fun k e hrun hnext => ?_⟩
    rw [ended_gfi]
    refine instantWork_modes pairs hswap' hshadow' hpend' (dev.trans hrun) ?_ _
    rw [← hz, ← hy]
    exact (tickComplete_next (s.begin dt) k).trans hnext

/-! A START that is decided at the instant. -/

/-- What the way into RUN leaves beside the engines: the fields, what waits, the pair but the numbers of its frames, and the host unit but
interrupts. -/
structure Beside (s t : State) : Prop where
  par : t.par = s.par
  pend : t.pend = s.pend
  trans_ : t.trans = s.trans
  seqs : Seqs s t
  mute : ∀ p, (t.hp p).mute = (s.hp p).mute

theorem Beside.trans {s t u : State} (h : Beside s t) (k : Beside t u) : Beside s u :=
  ⟨k.par.trans h.par, k.pend.trans h.pend, k.trans_.trans h.trans_, h.seqs.trans k.seqs, fun p => (k.mute p).trans (h.mute p)⟩
theorem beside_of {s t : State} (h : Rules s t) (k : Seqs s t) : Beside s t := ⟨h.keep.par, h.keep.pend, h.keep.transitions, k, h.keep.hp⟩
theorem Logs.beside {s t : State} (h : Logs s t) : Beside s t := beside_of h.reacts.rules h.calm.seqs

theorem runEntry_beside (n : Int) (c : Nat) (s : State) : Beside s (runEntry n c s) ∧ (runEntry n c s).dev = .run := by
  generalize hx : ({ lpeFresh (modRunEntry n s) with spu := { (lpeFresh (modRunEntry n s)).spu with
    foPrev := if (lpeFresh (modRunEntry n s)).spu.foCur.isEmpty then (lpeFresh (modRunEntry n s)).spu.foPrev else (lpeFresh (modRunEntry n s)).spu.foCur
    foCur := [] } } : State) = x
  have fresh : Beside s x := by
    rw [← hx]
    exact ⟨rfl, rfl, rfl, .of_eq rfl, fun _ => rfl⟩
  have entered : Beside x (setDev .run c x) := beside_of (setDev_reacts ..).rules (setDev_seqs ..)
  have released (cs : List Nat) (e : Nat) (y : State) : Beside y (sendRelease cs e y) :=
    beside_of (sendRelease_reacts ..).rules (sendRelease_sends ..).calm.seqs
  have eq : runEntry n c s = sendRelease ((List.range 256).filter (fun c' => (dueCode (setDev .run c x) c').isNone)) (winStart (setDev .run c x) n)
      (setDev .run c x) := by
    rw [← hx]
    rfl
  rw [eq, (sendRelease_sends ..).dev]
  exact ⟨(fresh.trans entered).trans (released ..), setDev_dev ..⟩

theorem transLog_beside (t : Trans) (n : Int) (s : State) : Beside s (transLog t n s) :=
  Logs.beside (by
    unfold transLog
    split
    · exact logEvent_logs ..
    · exact .refl s)

theorem takeTrans_start {s : State} {x : Trans} {n : Int} (hkind : x.kind = 1) (hdev : s.dev = .armed) (hfree : runRefusal s true = none) :
    takeTrans n x s = transDone x n (runEntry n x.cause (transLog x n s)) := by
  have armed : ¬(decide (s.dev ≠ .armed) && s.blockCause.isNone) = true := by
    rw [hdev]
    exact Bool.false_ne_true
  unfold takeTrans
  rw [hkind]
  refine (if_neg armed).trans ?_
  rw [hfree]

theorem drop_of_mute {s t : State} (p : Nat) (h : (t.hp p).mute = (s.hp p).mute) : (t.hp p).drop = (s.hp p).drop :=
  (show (t.hp p).mute.drop = (s.hp p).mute.drop from congrArg Hp.drop h)

theorem ok_told (p : Fin 8) (ws : List Word) {s : State} (hdrop : (s.hp p).drop = false) :
    ∃ r : Resp, .resp p r ∈ (ok p ws s).out ∧ r.status = 0 ∧ r.payload = ws :=
  ⟨_, respondWith_out p 0 ws false false s hdrop, rfl, rfl⟩

/-- The state in which a START has taken the device into RUN, and its answer. -/
theorem start_taken {s : State} {p : Fin 8} {x : Trans} {n : Int} (hkind : x.kind = 1) (hpart : x.part = p.val) (hdev : s.dev = .armed)
    (hdrop : (s.hp p).drop = false) (hfree : runRefusal s true = none) : ∃ y, takeTrans n x s = y ∧ y.dev = .run ∧ y.par = s.par ∧
      y.pend = s.pend ∧ y.trans = s.trans ∧ Seqs s y ∧ ∃ r : Resp, .resp p r ∈ y.out ∧ r.status = 0 ∧ r.payload = wI n := by
  obtain ⟨entry, run⟩ := runEntry_beside n x.cause (transLog x n s)
  have entered := (transLog_beside x n s).trans entry
  refine ⟨_, takeTrans_start hkind hdev hfree, ?_⟩
  generalize runEntry n x.cause (transLog x n s) = e at run entered
  have answered : transDone x n e = ok p (wI n) e := by
    unfold transDone
    rw [hpart]
    exact if_pos p.isLt
  have keep := (ok_talks p (wI n) e).keep
  rw [answered, keep.dev, keep.par, keep.pend, keep.transitions]
  exact ⟨run, entered.par, entered.pend, entered.trans_, entered.seqs.trans (.of_eq keep.rdn),
    ok_told p (wI n) ((drop_of_mute p (entered.mute p)).trans hdrop)⟩

theorem start_decided {dt : Nat} {s : State} {p : Fin 8} {x : Trans} (hdev : s.dev = .armed) (hrun : s.alm.running = true)
    (htick : s.alm.tick ≠ (s.begin dt).tickNow) (hpair : s.pairEn = false) (hswap : s.rdn.swapAt = none) (hpend : s.pend = []) (htrans : s.trans = [x])
    (hkind : x.kind = 1) (hpart : x.part = p.val) (hdue : x.tick ≤ (s.begin dt).tickNow) (hdrop : (s.hp p).drop = false)
    (hfree : runRefusal (atTick dt s) true = none) : ∃ t r, exec (.tickInstant dt []) s = .next t ∧ t.dev = .run ∧ t.trans = [] ∧
      .resp p r ∈ t.out ∧ r.status = 0 ∧ r.payload = wI (s.begin dt).tickNow := by
  obtain ⟨y, hy, dev, par, pend, left, ⟨a, b, c, hrdn⟩, r, told, status, payload⟩ :=
    start_taken (n := (s.begin dt).tickNow) (s := atTick dt s) (p := p) hkind hpart hdev hdrop hfree
  have judged : takeTransitions (s.begin dt).tickNow (numbered (s.begin dt).tickNow (tickComplete (s.begin dt))) = { y with blockCause := none } := by
    have one := takeTransitions_one (s := numbered (s.begin dt).tickNow (tickComplete (s.begin dt))) htrans hdue (hpart ▸ p.isLt)
      ((congrArg State.pend hy).trans (pend.trans hpend))
    exact one.trans (congrArg (fun x : State => { x with blockCause := none }) hy)
  have running : (s.begin dt).alm.running = true := (State.begin_alm_running ..).trans hrun
  have next : (s.begin dt).alm.tick ≠ (s.begin dt).tickNow := (State.begin_alm_tick dt s).symm ▸ htick
  have powered : (s.begin dt).dev.powered = true := by
    rw [State.begin_dev, hdev]
    rfl
  have notBoot : (feedEdges [] (tickComplete (s.begin dt))).dev ≠ .boot := by
    rw [feedEdges_nil, show (tickComplete (s.begin dt)).dev = s.dev from rfl, hdev]
    decide
  have runs := tickInstant_runs (s := s.begin dt) powered running next notBoot
  rw [feedEdges_nil, judged] at runs
  generalize hz : ({ y with blockCause := none } : State) = z at runs
  have kept : z.pairEn = false ∧ z.rdn.swapAt = none ∧ z.pend = [] ∧ z.dev = .run ∧ z.trans = [] ∧ z.out = y.out := by
    rw [← hz]
    refine ⟨(pairEn_congr (s := s) par).trans hpair, ?_, pend.trans hpend, dev, left, rfl⟩
    show y.rdn.swapAt = none
    rw [hrdn]
    exact hswap
  obtain ⟨pairs, swap, waits, run, none_, out⟩ := kept
  have goes := instantWork_goes pairs swap waits (s.begin dt).tickNow
  have runs' : exec (.tickInstant dt []) s = done (instantWork (s.begin dt).tickNow z) := congrArg done runs
  obtain ⟨t, ht, h1, h2, h3⟩ := exec_ends (P := fun t => t.dev = .run ∧ t.trans = [] ∧ Out.resp p r ∈ t.out) runs' (by
    rw [ended_dev, ended_trans, goes.dev, goes.trans_]
    exact ⟨run, none_, mem_ended (goes.out (out ▸ told))⟩)
  exact ⟨t, r, ht, h1, h2, h3, status, payload⟩

end Sys2Proof.Machine
end

section
/-! The freeze point of a tick: what the engines compute leaves the time and the latched inputs (R13 to R15, R21). -/
namespace Sys2Proof.Machine

/-! A device alone withdraws for no fault. -/

section
variable {c : Nat} {s : State} (hs : synchronised s = false) (cfg k i a b : Nat) (sc : List Nat)
include hs

theorem alone_stays : (withdrawCode c && synchronised s) = false := by rw [hs, Bool.and_false]

theorem raise_rules_alone : Rules s (raise c k i a b sc s) := raiseWith_rules_alone (alone_stays hs) ..
theorem raise_calm_alone : Calm s (raise c k i a b sc s) := raiseWith_calm (alone_stays hs) ..
theorem raise_held_alone : isHeld c k i (raise c k i a b sc s) = true := by
  refine (raiseWith_isHeld_alone (alone_stays hs) ..).trans ?_
  simp
theorem isHeld_raise_alone {c' k' i' : Nat} (h : isHeld c' k' i' s = true) : isHeld c' k' i' (raise c k i a b sc s) = true := by
  refine (raiseWith_isHeld_alone (alone_stays hs) ..).trans ?_
  rw [h]
  rfl

end

/-! What the engines leave of a device alone as they compute. -/

/-- The time, the latched inputs and the pair: a device alone stays alone. -/
structure Computes (s t : State) : Prop where
  alone : synchronised s = false → t.alm = s.alm ∧ t.lpe.latched = s.lpe.latched ∧ synchronised t = false

theorem Computes.refl (s : State) : Computes s s := ⟨fun h => ⟨rfl, rfl, h⟩⟩
theorem Computes.trans {s t u : State} (h : Computes s t) (k : Computes t u) : Computes s u := ⟨fun hs => by
  obtain ⟨h1, h2, h3⟩ := h.alone hs
  obtain ⟨k1, k2, k3⟩ := k.alone h3
  exact ⟨k1.trans h1, k2.trans h2, k3⟩⟩
theorem Computes.ite {c : Prop} [Decidable c] {s a b : State} (h : Computes s a) (k : Computes s b) : Computes s (if c then a else b) := by
  split <;> assumption
theorem Computes.foldl {α : Type} (f : State → α → State) (hf : ∀ s x, Computes s (f s x)) (l : List α) (s : State) : Computes s (l.foldl f s) :=
  List.foldlRecOn (motive := Computes s) l f (.refl s) fun t ht x _ => ht.trans (hf t x)
theorem Computes.foldl_fst {α β : Type} (f : State × β → α → State × β) (hf : ∀ p x, Computes p.1 (f p x).1) (l : List α) (p : State × β) :
    Computes p.1 (l.foldl f p).1 :=
  List.foldlRecOn (motive := fun q : State × β => Computes p.1 q.1) l f (.refl p.1) fun q hq x _ => hq.trans (hf q x)

theorem computes_of {s t : State} (halm : t.alm = s.alm) (hl : t.lpe.latched = s.lpe.latched) (hrdn : t.rdn = s.rdn) : Computes s t := ⟨fun hs => by
  refine ⟨halm, hl, ?_⟩
  unfold synchronised at hs ⊢
  rw [hrdn]
  exact hs⟩
theorem computes_of_rules {s t : State} (h : Rules s t) (k : Calm s t) : Computes s t :=
  ⟨fun hs => ⟨h.keep.alm, congrArg Lpe.latched h.keep.lpe, k.synchronised.trans hs⟩⟩
theorem condHolds_computes (c k i : Nat) (s : State) : Computes s (condHolds c k i s) := computes_of_rules (condHolds_rules ..) (condHolds_calm ..)
theorem condFails_computes (c k i : Nat) (s : State) : Computes s (condFails c k i s) := computes_of_rules (condFails_rules ..) (condFails_calm ..)
theorem raise_computes (c k i a b : Nat) (sc : List Nat) (s : State) : Computes s (raise c k i a b sc s) :=
  ⟨fun hs => (computes_of_rules (raise_rules_alone hs ..) (raise_calm_alone hs ..)).alone hs⟩
theorem modGfi_computes (k : Nat) (f : Gfi → Gfi) (s : State) : Computes s (s.modGfi k f) := computes_of rfl rfl rfl
theorem modSlot_computes (k : Nat) (f : Slot → Slot) (s : State) : Computes s (s.modSlot k f) := computes_of rfl rfl rfl
theorem setPar_computes (k : Nat) (v : Wire) (s : State) : Computes s (s.setPar k v) := computes_of rfl rfl rfl
theorem sourceChanged_computes (k : Nat) (cur : Bool) (s : State) : Computes s (sourceChanged k cur s) := computes_of rfl rfl rfl
theorem dueFault_computes (c k i d : Nat) (s : State) : Computes s (dueFault c k i d s) := computes_of rfl rfl rfl
theorem markRun_computes (c k i : Nat) (x : Bool) (s : State) : Computes s (markRun c k i x s) := computes_of rfl rfl rfl
theorem dueRun_computes (c k i : Nat) (x : Bool) (s : State) : Computes s (dueRun c k i x s) :=
  (markRun_computes ..).trans (.ite (dueFault_computes ..) (.refl _))
theorem doneReq_computes (k : Nat) (s : State) : Computes s (doneReq k s) := modGfi_computes ..
theorem goMode_computes (k : Nat) (m : Mode) (c : Nat) (s : State) : Computes s (goMode k m c s) := modGfi_computes ..

/-! The grid-forming engine. -/

theorem gfeInput_computes (k : Nat) (cur : Bool) (s : State) : Computes s (gfeInput k cur s).s := by
  have lost (x : State) (c : Bool) (d : Nat) : Computes x (if c then dueFault 0x5104 kGfi k d x else x) := .ite (dueFault_computes ..) (.refl x)
  have switched (x : State) (c : Bool) (d : Nat) : Computes x (if c then sourceChanged k cur (dueFault 0x510B kGfi k d x) else x) :=
    .ite ((dueFault_computes ..).trans (sourceChanged_computes ..)) (.refl x)
  unfold gfeInput
  dsimp only
  split
  · exact .refl s
  · split
    · exact modGfi_computes ..
    · exact ((modGfi_computes ..).trans (lost ..)).trans (switched ..)

theorem refuseReq_computes (k r : Nat) (s : State) : Computes s (refuseReq k r s) :=
  ((setPar_computes ..).trans (modGfi_computes ..)).trans (dueFault_computes ..)

theorem endRide_computes (k : Nat) (s : State) : Computes s (endRide k s) := by
  unfold endRide
  dsimp only
  split
  · split
    · exact (goMode_computes ..).trans (doneReq_computes ..)
    · exact (goMode_computes ..).trans (refuseReq_computes ..)
    · exact (goMode_computes ..).trans (doneReq_computes ..)
  · exact goMode_computes ..

theorem acceptReq_computes (k r m : Nat) (s : State) : Computes s (acceptReq k r m s) := by
  have accepted (x : Mode) (c : Nat) : Computes s (doneReq k (goMode k x c s)) := (goMode_computes ..).trans (doneReq_computes ..)
  unfold acceptReq
  dsimp only
  split
  · exact .ite ((accepted ..).trans (condHolds_computes ..)) (refuseReq_computes ..)
  · split
    · exact .ite (accepted ..) (refuseReq_computes ..)
    · exact accepted ..

theorem scrClosed_computes (k : Nat) (v : Option (Nat × Nat)) (s : State) : Computes s (scrClosed k v s) := by
  unfold scrClosed
  split
  · exact (modGfi_computes ..).trans (dueFault_computes ..)
  · exact (modGfi_computes ..).trans (condHolds_computes ..)

/-- The mode that an engine decides, its request being of class cls. -/
def modeDecided (k : Nat) (n : Int) (m : Nat) (vr : Bool) (cls : ReqCls) (s : State) : State :=
  if cls = .accept && s.pn 1 k 0x7F = 0 then acceptReq k (s.pn 1 k 0x7F) m s
  else if energizeFails s k then failEnergize k s
  else if cls = .accept && s.pn 1 k 0x7F = 6 then acceptReq k (s.pn 1 k 0x7F) m s
  else if rideOver s k n then rideTimeout k s
  else if ((s.gfi k).mode == .form || (s.gfi k).mode == .island) && flt m (gp s k 0x50) then goMode k .ride 9 s
  else if rideEnds s k then endRide k s
  else if vr then goMode k .island 3 s
  else if stopEnds s k n then goMode k .idle 13 s
  else match cls with
    | .accept => acceptReq k (s.pn 1 k 0x7F) m s
    | .hold => if (s.gfi k).mode = .sync && (s.gfi k).syncOk then doneReq k (goMode k (modeOfReq (s.pn 1 k 0x7F)) 5 s) else s
    | _ => s

/-- What becomes of the request that an engine has decided about. -/
def requestKept (k r : Nat) (cls : ReqCls) (s : State) : State :=
  match cls with
  | .refuse => if (s.gfi k).reqNew then refuseReq k r s else s
  | .same => doneReq k s
  | .hold => if (s.gfi k).reqNew && (s.gfi k).next.isNone then
      s.modGfi k (fun g => { g with syncWait := g.mode == .sync, reqHeld := g.mode == .ride }) else s
  | .accept => s

theorem modeDecided_computes (k : Nat) (n : Int) (m : Nat) (vr : Bool) (cls : ReqCls) (s : State) : Computes s (modeDecided k n m vr cls s) := by
  have failed (c : Mode) (x code : Nat) : Computes s (dueFault code kGfi k 0 (goMode k c x s)) := (goMode_computes ..).trans (dueFault_computes ..)
  refine .ite (acceptReq_computes ..) (.ite (failed ..) (.ite (acceptReq_computes ..) (.ite (failed ..) (.ite (goMode_computes ..)
    (.ite (endRide_computes ..) (.ite (goMode_computes ..) (.ite (goMode_computes ..) ?_)))))))
  split
  · exact acceptReq_computes ..
  · exact .ite ((goMode_computes ..).trans (doneReq_computes ..)) (.refl s)
  · exact .refl s

theorem requestKept_computes (k r : Nat) (cls : ReqCls) (s : State) : Computes s (requestKept k r cls s) := by
  cases cls with
  | refuse => exact .ite (refuseReq_computes ..) (.refl s)
  | same => exact doneReq_computes ..
  | hold => exact .ite (modGfi_computes ..) (.refl s)
  | accept => exact .refl s

theorem decideMode_computes (k : Nat) (n : Int) (m : Nat) (vr : Bool) (s : State) : Computes s (decideMode k n m vr s) := by
  obtain ⟨cls, e⟩ : ∃ cls, decideMode k n m vr s = requestKept k (s.pn 1 k 0x7F) cls (modeDecided k n m vr cls s) :=
    ⟨if (s.gfi k).reqNew then reqClass (s.gfi k).mode (s.pn 1 k 0x7F) else .same, rfl⟩
  rw [e]
  exact (modeDecided_computes ..).trans (requestKept_computes ..)

theorem schedule_computes (k : Nat) (s : State) : Computes s (schedule k s) := .ite (.refl s) (modGfi_computes ..)

theorem gfeFaults_computes (k : Nat) (x : Bool) (s : State) : Computes s (gfeFaults k x s) := by
  have cleared (c : Nat) (b : Bool) (y : State) : Computes y (if b then condHolds c kGfi k y else y) := .ite (condHolds_computes ..) (.refl y)
  have counted (c n m : Nat) (y : State) : Computes y (if n ≤ m then condHolds c kGfi k y else y) := .ite (condHolds_computes ..) (.refl y)
  unfold gfeFaults
  dsimp only
  exact ((((((((dueRun_computes ..).trans (cleared ..)).trans (modGfi_computes ..)).trans (dueRun_computes ..)).trans (counted ..)).trans
    (dueRun_computes ..)).trans (counted ..)).trans (dueRun_computes ..)).trans (counted ..)

/-- What an engine has computed and found finite, put in force. -/
def gfeStepped (n : Int) (k : Nat) (clamped vr : Bool) (m : Nat) (scr : Option (Option (Nat × Nat))) (g : Gfi) (s : State) : State :=
  let s := s.modGfi k (fun _ => g)
  let s := gfeFaults k clamped s
  let s := match scr with | some v => scrClosed k v s | none => s
  let s := if s.dev = .run then decideMode k n m vr s else s.modGfi k (fun g => { g with reqHeld := g.reqNew })
  let s := s.modGfi k (fun g => { g with deadPrev := flt m vDead })
  let s := schedule k s
  s.modGfi k (fun g => let w := limitWord s k g; { g with limit := w, sig := g.sig.set 18 w })

theorem gfeStepped_computes (n : Int) (k : Nat) (clamped vr : Bool) (m : Nat) (scr : Option (Option (Nat × Nat))) (g : Gfi) (s : State) :
    Computes s (gfeStepped n k clamped vr m scr g s) := by
  have closed (x : State) : Computes x (match scr with | some v => scrClosed k v x | none => x) := by
    split
    · exact scrClosed_computes ..
    · exact .refl x
  have decided (x : State) : Computes x (if x.dev = .run then decideMode k n m vr x else x.modGfi k (fun g => { g with reqHeld := g.reqNew })) :=
    .ite (decideMode_computes ..) (modGfi_computes ..)
  unfold gfeStepped
  dsimp only
  exact ((((((modGfi_computes ..).trans (gfeFaults_computes ..)).trans (closed _)).trans (decided _)).trans (modGfi_computes ..)).trans
    (schedule_computes ..)).trans (modGfi_computes ..)

theorem gfeOne_computes (n : Int) (k : Nat) (s : State) : Computes s (gfeOne n k s) := by
  have inputs : Computes s (gfeInput k true (gfeInput k false s).s).s := (gfeInput_computes ..).trans (gfeInput_computes ..)
  have lost (v : Bool) (x : State) : Computes x (gfeLossFault k v x) := by
    unfold gfeLossFault
    split
    · exact condHolds_computes ..
    · exact condFails_computes ..
  have idle (c : Prop) [Decidable c] (x : State) : Computes x (if c then condHolds 0x5101 kGfi k x else x) := .ite (condHolds_computes ..) (.refl x)
  have before (v : Bool) (f : Gfi → Gfi) : Computes s ((gfeLossFault k v (gfeInput k true (gfeInput k false s).s).s).modGfi k f) :=
    (inputs.trans (lost ..)).trans (modGfi_computes ..)
  unfold gfeOne
  dsimp only
  exact .ite (((before ..).trans ((modGfi_computes ..).trans (dueRun_computes ..))).trans (idle ..))
    (((before ..).trans ((idle ..).trans (dueRun_computes ..))).trans (gfeStepped_computes n k _ _ _ _ _ _))

/-- One engine in a tick: it computes where it is enabled, and shows zeros elsewhere. -/
def gfeOneOr (n : Int) (s : State) (k : Nat) : State :=
  if gfeEnabled s k then gfeOne n k s else s.modGfi k (fun g => { g with sig := List.replicate 19 0, limit := 0 })

theorem gfeOneOr_computes (n : Int) (s : State) (k : Nat) : Computes s (gfeOneOr n s k) := .ite (gfeOne_computes ..) (modGfi_computes ..)

theorem inOrder_computes (f : State → State) (hf : ∀ x, Computes x (f x)) (s : State) : Computes s (inOrder f s) := by
  have cleared (x : State) : Computes x (dueCleared x) := computes_of rfl rfl rfl
  unfold inOrder
  exact ((cleared s).trans (hf _)).trans ((cleared _).trans (.foldl _ (fun _ _ => raise_computes ..) _ _))

theorem gfeTick_computes (n : Int) (s : State) : Computes s (gfeTick n s) := by
  unfold gfeTick
  refine inOrder_computes _ (fun x => ?_) s
  exact .foldl _ (fun y k => (gfeOneOr_computes n y k).trans (modGfi_computes ..)) _ _

/-! The loop engine. -/

theorem slotLoss_computes (k : Nat) (s : State) : Computes s (slotLoss k s).1 := by
  have judged (c : Bool) (x : State) : Computes x (if c then condFails 0x5203 kSlot k (condFails 0x5202 kSlot k x)
      else condHolds 0x5203 kSlot k (condHolds 0x5202 kSlot k x)) :=
    .ite ((condFails_computes ..).trans (condFails_computes ..)) ((condHolds_computes ..).trans (condHolds_computes ..))
  unfold slotLoss
  dsimp only
  exact ((modSlot_computes ..).trans ((markRun_computes ..).trans (markRun_computes ..))).trans (judged ..)

theorem runSink_computes (x : Bool) (acc : State × Nat) (k : Sink) : Computes acc.1 (runSink x acc k).1 := by
  unfold runSink
  dsimp only
  split
  · exact computes_of rfl rfl rfl
  · split
    · exact computes_of rfl rfl rfl
    · split
      · exact modGfi_computes ..
      · exact .refl _

theorem finishSlot_computes (bad zero : List Nat) (acc : State × List (Nat × SlotFault)) (k : Nat) : Computes acc.1 (finishSlot bad zero acc k).1 := by
  have sinks (x : Bool) (l : List Sink) : Computes acc.1 (l.foldl (runSink x) (acc.1, 0)).1 := .foldl_fst _ (runSink_computes x) l (acc.1, 0)
  have cleared (c : Bool) (x : State) : Computes x (if c then x else condHolds 0x5205 kSlot k x) := .ite (.refl x) (condHolds_computes ..)
  unfold finishSlot
  dsimp only
  exact ((sinks ..).trans ((markRun_computes ..).trans (markRun_computes ..))).trans ((cleared ..).trans (modSlot_computes ..))

theorem raiseInOrder_computes (fs : List (Nat × SlotFault)) (s : State) : Computes s (raiseInOrder fs s) :=
  .foldl _ (fun _ _ => .foldl _ (fun _ _ => raise_computes ..) _ _) _ s

/-- The loop engine as a tick begins for it: no request and no override. -/
def lpeCleared (s : State) : State :=
  { s with lpe := { s.lpe with req := [] }, gfe := s.gfe.map (fun g => { g with ovr := [none, none, none, none] }) }

/-- What the loss of feedback of the slots l does, with the faults of it. -/
def lossesOf (l : List Nat) (s : State) : State × List (Nat × SlotFault) :=
  l.foldl (fun acc k =>
    let r := slotLoss k acc.1
    (r.1, acc.2 ++ r.2.map (fun f => (k, f)))) (s, [])

/-- The slots l carried out with the blocks b, after losses that raised the faults fs. -/
def lpeFinished (l bad zero : List Nat) (b : Tab Blk) (i : State × List (Nat × SlotFault)) : State × List (Nat × SlotFault) :=
  l.foldl (finishSlot bad zero) ({ i.1 with lpe := { i.1.lpe with blk := b } }, i.2)

theorem lpeTick_stages (s : State) : ∃ (bad zero : List Nat) (b : Tab Blk) (f : State → Nat → Slot → Slot),
    let t := lpeFinished (enabledSlots s.wire) bad zero b (lossesOf (enabledSlots s.wire) (lpeCleared s))
    lpeTick s = (enabledSlots s.wire).foldl (fun x k => x.modSlot k (f x k)) (raiseInOrder t.2 t.1) := by
  unfold lpeTick
  exact ⟨_, _, _, _, rfl⟩

theorem lpeTick_computes (s : State) : Computes s (lpeTick s) := by
  obtain ⟨bad, zero, b, f, e⟩ := lpeTick_stages s
  have cleared : Computes s (lpeCleared s) := computes_of rfl rfl rfl
  have losses (l : List Nat) (x : State) : Computes x (lossesOf l x).1 := by
    unfold lossesOf
    exact .foldl_fst (fun (acc : State × List (Nat × SlotFault)) k => ((slotLoss k acc.1).1, acc.2 ++ (slotLoss k acc.1).2.map (fun f => (k, f))))
      (fun p k => slotLoss_computes k p.1) l (x, [])
  have blocks (i : State × List (Nat × SlotFault)) : Computes i.1 { i.1 with lpe := { i.1.lpe with blk := b } } := computes_of rfl rfl rfl
  have finished (l : List Nat) (i : State × List (Nat × SlotFault)) : Computes i.1 (lpeFinished l bad zero b i).1 :=
    (blocks i).trans (.foldl_fst _ (finishSlot_computes bad zero) l (_, i.2))
  rw [e]
  exact (((cleared.trans (losses ..)).trans (finished ..)).trans (raiseInOrder_computes ..)).trans (.foldl _ (fun _ _ => modSlot_computes ..) _ _)

/-! The freeze point. -/

section
variable {s : State}

theorem alone_of_role (h : s.rdn.role = 0) : synchronised s = false := by
  unfold synchronised
  rw [h]
  rfl

theorem enginesLate_rules (hs : synchronised s = false) (a b : Bool) : Rules s (enginesLate a b s) := by
  have first : Rules s (if a && (List.range 4).any (gfeEnabled s) then raiseDev 0x4101 0 0 s else s) ∧
      synchronised (if a && (List.range 4).any (gfeEnabled s) then raiseDev 0x4101 0 0 s else s) = false := by
    split
    · exact ⟨raise_rules_alone hs .., (raise_calm_alone hs ..).synchronised.trans hs⟩
    · exact ⟨.refl s, hs⟩
  exact first.1.trans (.ite (raise_rules_alone first.2 ..) (.refl _))

theorem enginesLate_gfe (hs : synchronised s = false) {k : Fin 4} (hk : gfeEnabled s k = true) (b : Bool) :
    isHeld 0x4101 0 0 (enginesLate true b s) = true := by
  have any : (List.range 4).any (gfeEnabled s) = true := List.any_eq_true.2 ⟨k, List.mem_range.2 k.isLt, hk⟩
  have first : isHeld 0x4101 0 0 (raiseDev 0x4101 0 0 s) = true := raise_held_alone hs ..
  have alone : synchronised (raiseDev 0x4101 0 0 s) = false := (raise_calm_alone hs ..).synchronised.trans hs
  unfold enginesLate
  rw [any]
  dsimp only [Bool.and_self, if_true]
  split
  · exact isHeld_raise_alone alone _ _ _ _ _ first
  · exact first

theorem enginesLate_lpe (hs : synchronised s = false) (a : Bool) : isHeld 0x4201 0 0 (enginesLate a true s) = true := by
  have first : synchronised (if a && (List.range 4).any (gfeEnabled s) then raiseDev 0x4101 0 0 s else s) = false := by
    split
    · exact (raise_calm_alone hs ..).synchronised.trans hs
    · exact hs
  exact raise_held_alone first ..

/-- The stage of a tick. -/
def staged (n : Nat) (s : State) : State := { s with alm := { s.alm with stage := n } }

theorem freeze_starts {dt : Nat} (hengines : enginesRun s = true) (hstage : s.alm.stage = 1) (hphase : (s.freezeQ : Int) ≤ (s.begin dt).phaseQ) :
    ¬(!enginesRun (s.begin dt) || decide ((s.begin dt).alm.stage ≠ 1) || decide ((s.begin dt).phaseQ < ((s.begin dt).freezeQ : Int))) = true := by
  rw [show enginesRun (s.begin dt) = true from hengines, State.begin_alm_stage, hstage,
    decide_eq_false (show ¬(s.begin dt).phaseQ < ((s.begin dt).freezeQ : Int) from Int.not_lt.2 hphase)]
  decide

/-- Whether the engines begin at F too late for the schedule. -/
def lateStart (s : State) : Bool := decide ((schedStartQ s.wire s.freezeQ : Int) < s.phaseQ)
/-- Whether the schedule of the engines runs past W. -/
def lateRun (s : State) : Bool := decide (s.alm.phaseW < lpeEndQ s)
/-- The engines late at F. -/
def lateF (s : State) : State := enginesLate (lateStart s) (decide ((s.alm.phaseW : Int) < s.phaseQ) || lateRun s) (staged 3 s)
/-- The state in which the engines compute, the inputs latched. -/
def latchedAlone (s : State) : State := bsdSnap (fixTel (latchInputs [] (staged 2 s)))

theorem lateF_rules (h : synchronised (staged 3 s) = false) : Rules (staged 3 s) (lateF s) := by
  unfold lateF
  exact enginesLate_rules h ..

theorem freeze_goes {dt : Nat} (hengines : enginesRun s = true) (hstage : s.alm.stage = 1) (hphase : (s.freezeQ : Int) ≤ (s.begin dt).phaseQ) :
    exec (.inputFreeze dt) s = if (lateStart (s.begin dt) || lateRun (s.begin dt)) = true then done (lateF (s.begin dt)) else
      let x := bsdSnap (fixTel (if (staged 2 (s.begin dt)).pairEn then latchPair (s.begin dt).alm.tick (staged 2 (s.begin dt)) else latchInputs [] (staged 2 (s.begin dt))))
      if joinBuffers x then done (bufferTick x) else done (inShadow (computeTick (s.begin dt).alm.tick) x) :=
  if_neg (freeze_starts hengines hstage hphase)

theorem freeze_late {dt : Nat} (hengines : enginesRun s = true) (hstage : s.alm.stage = 1) (hphase : (s.freezeQ : Int) ≤ (s.begin dt).phaseQ)
    (hlate : (lateStart (s.begin dt) || lateRun (s.begin dt)) = true) : exec (.inputFreeze dt) s = done (lateF (s.begin dt)) :=
  (freeze_goes hengines hstage hphase).trans (if_pos hlate)

theorem freeze_on_time {dt : Nat} (halone : runsAlone s) (hstage : s.alm.stage = 1) (hphase : (s.freezeQ : Int) ≤ (s.begin dt).phaseQ)
    (hlate : (lateStart (s.begin dt) || lateRun (s.begin dt)) = false) :
    exec (.inputFreeze dt) s = done (computeTick (s.begin dt).alm.tick (latchedAlone (s.begin dt))) := by
  obtain ⟨hengines, hpair, hrole, hshadow⟩ := halone
  have runs := freeze_goes (dt := dt) hengines hstage hphase
  rw [hlate, if_neg Bool.false_ne_true, show (staged 2 (s.begin dt)).pairEn = false from hpair] at runs
  simp only [Bool.false_eq_true, if_false] at runs
  refine runs.trans ((if_neg ?_).trans (congrArg done ?_))
  · unfold joinBuffers
    rw [show (bsdSnap (fixTel (latchInputs [] (staged 2 (s.begin dt))))).rdn.role = 0 from hrole]
    exact Bool.false_ne_true
  · unfold inShadow
    rw [show (bsdSnap (fixTel (latchInputs [] (staged 2 (s.begin dt))))).rdn.shadow = none from hshadow]
    rfl

theorem lateStart_begin {dt : Nat} : lateStart (s.begin dt) = decide ((schedStartQ s.wire s.freezeQ : Int) < (s.begin dt).phaseQ) := rfl
theorem lateRun_begin {dt : Nat} : lateRun (s.begin dt) = decide (s.alm.phaseW < lpeEndQ s) := by
  unfold lateRun
  rw [State.begin_alm_phaseW, show lpeEndQ (s.begin dt) = lpeEndQ s from rfl]

theorem latchedAlone_alm (x : State) : (latchedAlone x).alm = { x.alm with stage := 2 } := rfl
theorem latchedAlone_rdn (x : State) : (latchedAlone x).rdn = x.rdn := rfl
theorem latchedAlone_latched (x : State) : (latchedAlone x).lpe.latched = (latchInputs [] x).lpe.latched := rfl

theorem freeze_latches {dt : Nat} (halone : runsAlone s) (hstage : s.alm.stage = 1) (hphase : (s.freezeQ : Int) ≤ (s.begin dt).phaseQ)
    (hlate : (lateStart (s.begin dt) || lateRun (s.begin dt)) = false) : ∃ t, exec (.inputFreeze dt) s = .next t ∧
      t.alm = { (s.begin dt).alm with stage := 2 } ∧ t.lpe.latched = (latchInputs [] (s.begin dt)).lpe.latched := by
  have runs := freeze_on_time halone hstage hphase hlate
  have computes : Computes (latchedAlone (s.begin dt)) (computeTick (s.begin dt).alm.tick (latchedAlone (s.begin dt))) :=
    (gfeTick_computes ..).trans (lpeTick_computes _)
  obtain ⟨alm, latched, -⟩ := computes.alone (alone_of_role ((congrArg Rdn.role (latchedAlone_rdn _)).trans halone.2.2.1))
  generalize computeTick _ (latchedAlone (s.begin dt)) = x at runs alm latched
  refine exec_ends runs ?_
  rw [ended_alm, ended_lpe]
  exact ⟨alm.trans (latchedAlone_alm _), latched.trans (latchedAlone_latched _)⟩

/-- A fault of late engines leaves the stage and the inputs as they are. -/
theorem freeze_refused {dt : Nat} (halone : runsAlone s) (hstage : s.alm.stage = 1) (hphase : (s.freezeQ : Int) ≤ (s.begin dt).phaseQ)
    (hlate : (lateStart (s.begin dt) || lateRun (s.begin dt)) = true) {c : Nat} (hheld : isHeld c 0 0 (lateF (s.begin dt)) = true) :
    ∃ t, exec (.inputFreeze dt) s = .next t ∧ t.alm.stage = 3 ∧ t.lpe.latched = s.lpe.latched ∧ isHeld c 0 0 t = true := by
  have runs := freeze_late halone.1 hstage hphase hlate
  have alone : synchronised (staged 3 (s.begin dt)) = false := alone_of_role halone.2.2.1
  have rules := lateF_rules alone
  have alm := rules.keep.alm
  have lpe := rules.keep.lpe
  generalize lateF (s.begin dt) = x at runs alm lpe hheld
  refine exec_ends runs ?_
  rw [ended_alm, ended_lpe, ended_isHeld, alm, lpe]
  exact ⟨rfl, rfl, hheld⟩

theorem freeze_point {dt : Nat} (halone : runsAlone s) (hstage : s.alm.stage = 1) (hphase : (s.freezeQ : Int) ≤ (s.begin dt).phaseQ) :
    ((s.begin dt).phaseQ ≤ (schedStartQ s.wire s.freezeQ : Int) → lpeEndQ s ≤ s.alm.phaseW →
        ∃ t, exec (.inputFreeze dt) s = .next t ∧ t.alm = { (s.begin dt).alm with stage := 2 } ∧
          t.lpe.latched = (latchInputs [] (s.begin dt)).lpe.latched) ∧
      ((schedStartQ s.wire s.freezeQ : Int) < (s.begin dt).phaseQ → (∃ k : Fin 4, gfeEnabled s k = true) →
        ∃ t, exec (.inputFreeze dt) s = .next t ∧ t.alm.stage = 3 ∧ t.lpe.latched = s.lpe.latched ∧ isHeld 0x4101 0 0 t = true) ∧
      (s.alm.phaseW < lpeEndQ s → ∃ t, exec (.inputFreeze dt) s = .next t ∧ t.alm.stage = 3 ∧ t.lpe.latched = s.lpe.latched ∧
        isHeld 0x4201 0 0 t = true) := by
  have alone : synchronised (staged 3 (s.begin dt)) = false := alone_of_role halone.2.2.1
  refine ⟨fun h k => freeze_latches halone hstage hphase ?_, fun h ⟨k, hk⟩ => ?_, fun h => ?_⟩
  · rw [lateStart_begin, lateRun_begin, decide_eq_false (Int.not_lt.2 h), decide_eq_false (Nat.not_lt.2 k), Bool.or_false]
  · have start : lateStart (s.begin dt) = true := lateStart_begin.trans (decide_eq_true h)
    refine freeze_refused halone hstage hphase (by rw [start, Bool.true_or]) ?_
    unfold lateF
    rw [start]
    exact enginesLate_gfe alone hk _
  · have run : lateRun (s.begin dt) = true := lateRun_begin.trans (decide_eq_true h)
    refine freeze_refused halone hstage hphase (by rw [run, Bool.or_true]) ?_
    unfold lateF
    rw [run, Bool.or_true]
    exact enginesLate_lpe alone _

end

end Sys2Proof.Machine
end

section
/-! The window of a tick: what is dispatched in RUN, and what comes too late (R16 to R18, R24, R26). -/
namespace Sys2Proof.Machine

/-! What a window leaves of a device alone. -/

/-- The time, the grid-forming engine and the pair: a device alone stays alone. -/
structure Dispatches (s t : State) : Prop where
  alone : synchronised s = false → t.alm = s.alm ∧ t.gfe = s.gfe ∧ t.pairEn = s.pairEn ∧ synchronised t = false

theorem Dispatches.refl (s : State) : Dispatches s s := ⟨fun h => ⟨rfl, rfl, rfl, h⟩⟩
theorem Dispatches.trans {s t u : State} (h : Dispatches s t) (k : Dispatches t u) : Dispatches s u := ⟨fun hs => by
  obtain ⟨h1, h2, h3, h4⟩ := h.alone hs
  obtain ⟨k1, k2, k3, k4⟩ := k.alone h4
  exact ⟨k1.trans h1, k2.trans h2, k3.trans h3, k4⟩⟩
theorem Dispatches.ite {c : Prop} [Decidable c] {s a b : State} (h : Dispatches s a) (k : Dispatches s b) : Dispatches s (if c then a else b) := by
  split <;> assumption
theorem Dispatches.foldl_mem {α : Type} {f : State → α → State} (l : List α) (hf : ∀ s, ∀ x ∈ l, Dispatches s (f s x)) (s : State) :
    Dispatches s (l.foldl f s) :=
  List.foldlRecOn (motive := Dispatches s) l f (.refl s) fun t ht x hx => ht.trans (hf t x hx)
theorem Dispatches.foldl {α : Type} {f : State → α → State} (hf : ∀ s x, Dispatches s (f s x)) (l : List α) (s : State) : Dispatches s (l.foldl f s) :=
  .foldl_mem l (fun s x _ => hf s x) s

theorem dispatches_of {s t : State} (halm : t.alm = s.alm) (hgfe : t.gfe = s.gfe) (hpair : t.pairEn = s.pairEn) (hrdn : t.rdn = s.rdn) :
    Dispatches s t := ⟨fun hs => by
  refine ⟨halm, hgfe, hpair, ?_⟩
  unfold synchronised at hs ⊢
  rw [hrdn]
  exact hs⟩
theorem dispatches_of_rules {s t : State} (h : Rules s t) (k : Calm s t) : Dispatches s t :=
  ⟨fun hs => ⟨h.keep.alm, h.keep.gfe, pairEn_congr h.keep.par, k.synchronised.trans hs⟩⟩
theorem condHolds_dispatches (c k i : Nat) (s : State) : Dispatches s (condHolds c k i s) := dispatches_of_rules (condHolds_rules ..) (condHolds_calm ..)
theorem raise_dispatches (c k i a b : Nat) (sc : List Nat) (s : State) : Dispatches s (raise c k i a b sc s) :=
  ⟨fun hs => (dispatches_of_rules (raise_rules_alone hs ..) (raise_calm_alone hs ..)).alone hs⟩
theorem runRaise_dispatches (c k i a b : Nat) (sc : List Nat) (x : Bool) (s : State) : Dispatches s (runRaise c k i a b sc x s) := by
  have noted (r : List (Nat × Nat)) : Dispatches s { s with spu := { s.spu with runs := r } } := dispatches_of rfl rfl rfl rfl
  exact .ite (.ite (.refl s) ((noted _).trans (raise_dispatches ..))) (noted _)

/-- The report of a run that has ended, or goes on. -/
theorem judged_dispatches (c k i : Nat) (sc : List Nat) (s : State) : Dispatches s (condHolds c k i (runRaise c k i 0 0 sc false s)) :=
  (runRaise_dispatches ..).trans (condHolds_dispatches ..)

/-- The faults of an arm that its cards have been ordered for. -/
def cardJudged (o : CardOut) (g : Nat) (s : State) : State :=
  let s := o.stale.foldl (fun s c => runRaise 0x5301 1 c 0 0 [c] true s) s
  let s := o.fresh.foldl (fun s c => condHolds 0x5301 1 c (runRaise 0x5301 1 c 0 0 [] false s)) s
  match o.short with
  | some true => runRaise 0x5302 10 g 0 0 [] true s
  | some false => condHolds 0x5302 10 g (runRaise 0x5302 10 g 0 0 [] false s)
  | none => s

theorem cardJudged_dispatches (o : CardOut) (g : Nat) (s : State) : Dispatches s (cardJudged o g s) := by
  have cells : Dispatches s (o.fresh.foldl (fun s c => condHolds 0x5301 1 c (runRaise 0x5301 1 c 0 0 [] false s))
      (o.stale.foldl (fun s c => runRaise 0x5301 1 c 0 0 [c] true s) s)) :=
    (Dispatches.foldl (fun _ _ => runRaise_dispatches ..) _ _).trans (.foldl (fun _ _ => judged_dispatches ..) _ _)
  unfold cardJudged
  dsimp only
  refine cells.trans ?_
  split
  · exact runRaise_dispatches ..
  · exact judged_dispatches ..
  · exact .refl _

theorem cardAll_dispatches (s : State) (n : Int) (a : Nat) : Dispatches s (cardAll s n a).2 := by
  have ordered (x : State) (m) : Dispatches x { x with mod := m } := dispatches_of rfl rfl rfl rfl
  unfold cardAll
  refine List.foldlRecOn (motive := fun acc : List (Nat × Option CellDec) × State => Dispatches s acc.2) _ _ (.refl s) fun acc ih g _ => ?_
  exact ih.trans ((ordered ..).trans (cardJudged_dispatches (cardString acc.2 n a g) g _))

theorem directFault_dispatches (s : State) (c : Nat) : Dispatches s (directFault s c) :=
  .ite (runRaise_dispatches ..) ((runRaise_dispatches ..).trans (condHolds_dispatches ..))

theorem pumpReqs_dispatches (p : Nat) (s : State) : Dispatches s (pumpReqs p s) := by
  refine .ite (.refl s) (Dispatches.foldl (fun x r => ?_) _ s)
  exact .ite (.refl _) (dispatches_of rfl rfl rfl rfl)

theorem writeDeadtime_dispatches (c v u : Nat) (s : State) : Dispatches s (writeDeadtime c v u s) := by
  have written (a : Sat) : Dispatches s (writeReg (c / 4) a.hop (0x0100 + 0x40 * (c % 4)) v u s) := dispatches_of rfl rfl rfl rfl
  unfold writeDeadtime
  split
  · exact .ite ((written _).trans (pumpReqs_dispatches ..)) (.refl s)
  · exact .refl s

/-- A parameter of a channel that a window puts in force. -/
theorem chanWrite_dispatches {s x : State} {c : Nat} {n : Int} {e : Pend} (he : e ∈ chanPend s c n) (w : Wire) :
    Dispatches x (afterWrite n e.id w e.val (x.setPar e.id e.val)) := by
  unfold chanPend at he
  simp only [List.mem_filter, Bool.and_eq_true, beq_iff_eq, decide_eq_true_eq] at he
  obtain ⟨-, ⟨⟨⟨unit, -⟩, lower, -⟩, -⟩, -⟩ := he
  have other : mkId 10 0 1 ≠ e.id := fun h => by
    rw [← h] at unit
    exact absurd unit (by decide)
  have put : Dispatches x (x.setPar e.id e.val) := dispatches_of rfl rfl (pairEn_setPar other e.val x) rfl
  refine put.trans ?_
  have notPeriod : idField e.id ≠ 1 := by omega
  unfold afterWrite
  rw [unit]
  dsimp only
  rw [decide_eq_false notPeriod, Bool.and_false, if_neg Bool.false_ne_true]
  exact .ite (writeDeadtime_dispatches ..) (.refl _)

/-- What a channel forms in a window, before the parameters that it puts in force. -/
theorem dispatchChan_formed (n : Int) (a b : Nat) (cells : List (Nat × Option CellDec)) (acc : State × List Edge) (c : Nat) :
    ∃ x, Dispatches acc.1 x ∧ ∃ due : List Pend, (∀ e ∈ due, e ∈ chanPend acc.1 c n) ∧
      (dispatchChan n a b cells acc c).1 = due.foldl (fun s e => afterWrite n e.id (s.wire e.id) e.val (s.setPar e.id e.val)) x := by
  unfold dispatchChan
  dsimp only
  refine ⟨_, ?_, _, ?_, rfl⟩
  · exact dispatches_of rfl rfl rfl rfl
  · split
    · exact fun _ he => he
    · exact fun _ he => nomatch he

theorem dispatchChan_dispatches (n : Int) (a b : Nat) (cells : List (Nat × Option CellDec)) (acc : State × List Edge) (c : Nat) :
    Dispatches acc.1 (dispatchChan n a b cells acc c).1 := by
  obtain ⟨x, formed, due, mem, e⟩ := dispatchChan_formed n a b cells acc c
  rw [e]
  exact formed.trans (.foldl_mem due (fun y e he => chanWrite_dispatches (mem e he) (y.wire e.id)) x)

/-- The state whose window has been formed. -/
theorem dispatch_formed (n : Int) (s : State) : ∃ (x : State) (owed late : List Nat), Dispatches s x ∧
    x.mod.win = some (n, winStart s n, winStart s (n + 1)) ∧ (dispatch n true s).1 =
      late.foldl (fun s c => raise 0x5401 1 c 0 0 [c] s) (if owed.isEmpty then x else sendRelease owed (winStart s n) x) := by
  have direct (cd : List (Nat × Option CellDec) × State) (h : Dispatches s cd.2) : Dispatches s
      (((modChans cd.2).filter (fun c => modeOf cd.2 c == 3)).foldl directFault cd.2) :=
    h.trans (.foldl (fun _ _ => directFault_dispatches ..) _ _)
  have chans (cells : List (Nat × Option CellDec)) (x : State) (l : List Nat) : Dispatches x
      (l.foldl (dispatchChan n (winStart s n) (winStart s (n + 1)) cells) (x, [])).1 :=
    List.foldlRecOn (motive := fun acc : State × List Edge => Dispatches x acc.1) l _ (.refl x)
      fun acc ih c _ => ih.trans (dispatchChan_dispatches n _ _ cells acc c)
  have set (x : State) (m) (p) : Dispatches x { x with mod := m, spu := p } := dispatches_of rfl rfl rfl rfl
  unfold dispatch
  dsimp only
  refine ⟨_, _, _, ?_, ?_, rfl⟩
  · exact ((direct _ (cardAll_dispatches ..)).trans (chans ..)).trans (set ..)
  · rfl

theorem Calm.win {s t : State} (h : Calm s t) : t.mod.win = s.mod.win := by
  obtain ⟨u, c, e, -⟩ := h.mod
  rw [e]

theorem dispatch_alone {s : State} (hs : synchronised s = false) (n : Int) : (dispatch n true s).1.alm = s.alm ∧ (dispatch n true s).1.gfe = s.gfe ∧
    (dispatch n true s).1.pairEn = s.pairEn ∧ (dispatch n true s).1.mod.win = some (n, winStart s n, winStart s (n + 1)) := by
  obtain ⟨x, owed, late, formed, win, e⟩ := dispatch_formed n s
  obtain ⟨alm, gfe, pair, alone⟩ := formed.alone hs
  have sent (y : State) : Calm y (if owed.isEmpty then y else sendRelease owed (winStart s n) y) ∧
      Rules y (if owed.isEmpty then y else sendRelease owed (winStart s n) y) := by
    split
    · exact ⟨.refl y, .refl y⟩
    · exact ⟨(sendRelease_sends ..).calm, (sendRelease_reacts ..).rules⟩
  have raised (l : List Nat) (y : State) (hy : synchronised y = false) : Calm y (l.foldl (fun s c => raise 0x5401 1 c 0 0 [c] s) y) ∧
      Rules y (l.foldl (fun s c => raise 0x5401 1 c 0 0 [c] s) y) :=
    List.foldlRecOn (motive := fun z => Calm y z ∧ Rules y z) l _ ⟨.refl y, .refl y⟩ fun z hz c _ =>
      have still : synchronised z = false := hz.1.synchronised.trans hy
      ⟨hz.1.trans (raise_calm_alone still ..), hz.2.trans (raise_rules_alone still ..)⟩
  have both := raised late _ ((sent x).1.synchronised.trans alone)
  have calm := (sent x).1.trans both.1
  have rules := (sent x).2.trans both.2
  rw [e]
  exact ⟨rules.keep.alm.trans alm, rules.keep.gfe.trans gfe, (pairEn_congr rules.keep.par).trans pair, calm.win.trans win⟩

/-! The instant W. -/

section
variable {s : State}

theorem window_starts {dt : Nat} (hengines : enginesRun s = true) (hstage : s.alm.stage = 1 ∨ s.alm.stage = 2)
    (hphase : (s.alm.phaseW : Int) ≤ (s.begin dt).phaseQ) :
    ¬(!enginesRun (s.begin dt) || (decide ((s.begin dt).alm.stage ≠ 1) && decide ((s.begin dt).alm.stage ≠ 2)) ||
      decide ((s.begin dt).phaseQ < ((s.begin dt).alm.phaseW : Int))) = true := by
  rw [show enginesRun (s.begin dt) = true from hengines, State.begin_alm_stage, State.begin_alm_phaseW, decide_eq_false (Int.not_lt.2 hphase)]
  rcases hstage with h | h <;> rw [h] <;> decide

/-- Whether W comes too late for its window. -/
def lateW (s : State) : Prop := ((s.alm.phaseW + 150 * nsecQ : Nat) : Int) < s.phaseQ

/-- What W does in time. -/
def windowed (s : State) : State :=
  let x := standbyDecides (staged 3 s)
  let d := x.rdn.shadow.getD x.dev
  let r := windowWork s.alm.tick { x with dev := d }
  sendDigest s.alm.tick r.2 { modSnap r.1 with dev := if (modSnap r.1).dev = d then x.dev else (modSnap r.1).dev }

theorem window_goes {dt : Nat} (hengines : enginesRun s = true) (hstage : s.alm.stage = 1 ∨ s.alm.stage = 2)
    (hphase : (s.alm.phaseW : Int) ≤ (s.begin dt).phaseQ) : exec (.writePhase dt) s =
      if (s.begin dt).alm.stage = 1 then done (enginesLate true true (staged 3 (s.begin dt)))
      else if ((s.begin dt).alm.phaseW + 150 * nsecQ : Nat) < (s.begin dt).phaseQ then done (raiseDev 0x4301 0 0 (staged 3 (s.begin dt)))
      else if joinBuffers (staged 3 (s.begin dt)) then done (staged 3 (s.begin dt)) else done (windowed (s.begin dt)) :=
  if_neg (window_starts hengines hstage hphase)

/-- The fault of a window that is late leaves the stage and the newest window. -/
theorem window_refused {dt : Nat} {x : State} (hrole : s.rdn.role = 0) (runs : exec (.writePhase dt) s = done x) (rules : Rules (staged 3 (s.begin dt)) x)
    (calm : Calm (staged 3 (s.begin dt)) x) {c : Nat} (hheld : isHeld c 0 0 x = true) :
    ∃ t, exec (.writePhase dt) s = .next t ∧ t.alm.stage = 3 ∧ t.mod.win = s.mod.win ∧ isHeld c 0 0 t = true := by
  have alm := rules.keep.alm
  have win := calm.win
  refine exec_ends runs ?_
  rw [ended_alm, ended_mod, ended_isHeld, alm, win]
  exact ⟨rfl, rfl, hheld⟩

theorem enginesLate_calm (hs : synchronised s = false) (a b : Bool) : Calm s (enginesLate a b s) := by
  have first : Calm s (if a && (List.range 4).any (gfeEnabled s) then raiseDev 0x4101 0 0 s else s) := by
    split
    · exact raise_calm_alone hs ..
    · exact .refl s
  have second (x : State) (hx : synchronised x = false) : Calm x (if b then raiseDev 0x4201 0 0 x else x) := by
    split
    · exact raise_calm_alone hx ..
    · exact .refl x
  exact first.trans (second _ (first.synchronised.trans hs))

theorem windowed_alone {x : State} (hpair : x.pairEn = false) (hrole : x.rdn.role = 0) (hshadow : x.rdn.shadow = none) (hdev : x.dev = .run) :
    (windowed x).alm = { x.alm with stage := 3 } ∧ (windowed x).gfe = x.gfe ∧
      (windowed x).mod.win = some (x.alm.tick, winStart x x.alm.tick, winStart x (x.alm.tick + 1)) := by
  have waits : standbyDecides (staged 3 x) = staged 3 x := if_pos (by
    show x.rdn.role ≠ 2
    rw [hrole]
    decide)
  have rest : (staged 3 x).rdn.shadow.getD (staged 3 x).dev = .run := by
    rw [show (staged 3 x).rdn.shadow = none from hshadow]
    exact hdev
  have works : windowWork x.alm.tick { staged 3 x with dev := .run } = dispatch x.alm.tick true (staged 3 x) := by
    have same : ({ staged 3 x with dev := .run } : State) = staged 3 x := by
      rw [← show (staged 3 x).dev = .run from hdev]
    rw [same]
    have sends : ((staged 3 x).rdn.role != 4) = true := by
      rw [show (staged 3 x).rdn.role = 0 from hrole]
      decide
    unfold windowWork
    rw [sends]
    exact if_pos hdev
  obtain ⟨alm, gfe, pair, win⟩ := dispatch_alone (s := staged 3 x) (alone_of_role hrole) x.alm.tick
  unfold windowed
  dsimp only
  rw [waits, rest, works]
  generalize dispatch x.alm.tick true (staged 3 x) = r at alm gfe pair win
  have silent (d : Dev) : sendDigest x.alm.tick r.2 { modSnap r.1 with dev := d } = { modSnap r.1 with dev := d } := if_pos (by
    rw [show ({ modSnap r.1 with dev := d } : State).pairEn = false from pair.trans hpair]
    rfl)
  rw [silent]
  exact ⟨alm, gfe, win⟩

theorem winStart_begin (dt : Nat) (n : Int) : winStart (s.begin dt) n = winStart s n := by
  unfold winStart State.tickAt
  rw [State.begin_alm_origin, State.begin_alm_period, State.begin_alm_phaseW, State.begin_alm_lcmd]

theorem window_instant {dt : Nat} (halone : runsAlone s) (hphase : (s.alm.phaseW : Int) ≤ (s.begin dt).phaseQ) :
    (s.alm.stage = 2 → (s.begin dt).phaseQ ≤ ((s.alm.phaseW + 150 * nsecQ : Nat) : Int) → s.dev = .run →
        ∃ t, exec (.writePhase dt) s = .next t ∧ t.alm = { (s.begin dt).alm with stage := 3 } ∧ t.gfe = s.gfe ∧
          t.mod.win = some (s.alm.tick, winStart s s.alm.tick, winStart s (s.alm.tick + 1))) ∧
      (s.alm.stage = 1 → ∃ t, exec (.writePhase dt) s = .next t ∧ t.alm.stage = 3 ∧ t.mod.win = s.mod.win ∧ isHeld 0x4201 0 0 t = true) ∧
      (s.alm.stage = 2 → ((s.alm.phaseW + 150 * nsecQ : Nat) : Int) < (s.begin dt).phaseQ →
        ∃ t, exec (.writePhase dt) s = .next t ∧ t.alm.stage = 3 ∧ t.mod.win = s.mod.win ∧ isHeld 0x4301 0 0 t = true) := by
  obtain ⟨hengines, hpair, hrole, hshadow⟩ := halone
  have alone : synchronised (staged 3 (s.begin dt)) = false := alone_of_role hrole
  have early {n : Nat} (h : s.alm.stage = n) : (s.begin dt).alm.stage = n := (State.begin_alm_stage ..).trans h
  have second (h : s.alm.stage = 2) : ¬(s.begin dt).alm.stage = 1 := by
    rw [early h]
    decide
  refine ⟨fun h hin hdev => ?_, fun h => ?_, fun h hlate => ?_⟩
  · have inTime : ¬(((s.begin dt).alm.phaseW + 150 * nsecQ : Nat) : Int) < (s.begin dt).phaseQ := by
      rw [State.begin_alm_phaseW]
      exact Int.not_lt.2 hin
    have whole : ¬joinBuffers (staged 3 (s.begin dt)) = true := by
      unfold joinBuffers
      rw [show (staged 3 (s.begin dt)).rdn.role = 0 from hrole]
      exact Bool.false_ne_true
    have runs := (window_goes hengines (.inr h) hphase).trans ((if_neg (second h)).trans ((if_neg inTime).trans (if_neg whole)))
    obtain ⟨alm, gfe, win⟩ := windowed_alone (x := s.begin dt) hpair hrole hshadow hdev
    rw [State.begin_alm_tick, winStart_begin, winStart_begin] at win
    generalize windowed (s.begin dt) = x at runs alm gfe win
    refine exec_ends runs ?_
    rw [ended_alm, ended_gfe, ended_mod]
    exact ⟨alm, gfe, win⟩
  · have runs := (window_goes hengines (.inl h) hphase).trans (if_pos (early h))
    exact window_refused hrole runs (enginesLate_rules alone ..) (enginesLate_calm alone ..) (enginesLate_lpe alone _)
  · have late : (((s.begin dt).alm.phaseW + 150 * nsecQ : Nat) : Int) < (s.begin dt).phaseQ := by
      rw [State.begin_alm_phaseW]
      exact hlate
    have runs := (window_goes hengines (.inr h) hphase).trans ((if_neg (second h)).trans (if_pos late))
    exact window_refused hrole runs (raise_rules_alone alone ..) (raise_calm_alone alone ..) (raise_held_alone alone ..)

/-! Before its instant a phase does nothing. -/

theorem freeze_waits {dt : Nat} (h : s.alm.stage ≠ 1 ∨ (s.begin dt).phaseQ < (s.freezeQ : Int)) : exec (.inputFreeze dt) s = done (s.begin dt) := by
  refine if_pos ?_
  rcases h with h | h
  · rw [State.begin_alm_stage, decide_eq_true h, Bool.or_true, Bool.true_or]
  · rw [decide_eq_true (show (s.begin dt).phaseQ < ((s.begin dt).freezeQ : Int) from h), Bool.or_true]

theorem window_waits {dt : Nat} (h : (s.begin dt).phaseQ < (s.alm.phaseW : Int)) : exec (.writePhase dt) s = done (s.begin dt) := by
  refine if_pos ?_
  rw [State.begin_alm_phaseW, decide_eq_true h, Bool.or_true]

end

/-- Settles O46: the instant numbers its tick and brings what waits for it into force, the freeze point latches the inputs once, and W dispatches
the window, each in time or with the fault of the part that is late. -/
theorem tickPhases : Obligations.TickPhases := by
  unfold Obligations.TickPhases
  intro dt s
  refine ⟨?_, ?_, ?_, ?_, fun hpins => ⟨fun h => timePassed_of_done (freeze_waits h) hpins, fun h => timePassed_of_done (window_waits h) hpins⟩⟩
  · intro edges hlive hrun htick hpair hswap hshadow hpend htrans
    exact instant_numbers hlive hrun htick hpair hswap hshadow hpend htrans edges
  · intro p x hdev hstep hrun htick hpair hswap hpend htrans hkind hpart hdue hdrop hfree
    exact start_decided hdev hrun htick hpair hswap hpend htrans hkind hpart hdue hdrop hfree
  · exact fun halone hstage hphase => freeze_point halone hstage hphase
  · exact fun halone hphase => window_instant halone hphase

end Sys2Proof.Machine
end

section
/-! What no event touches: the configuration, the engines and who may operate (R256, R391, R511). -/
namespace Sys2Proof.Machine

/-- The fields and the writes that wait, the keys, the engines, the transitions that wait, and what the host unit holds for its partitions. -/
structure Configured (s t : State) : Prop where
  par : t.par = s.par
  pend : t.pend = s.pend
  sec : t.sec = s.sec
  gfe : t.gfe = s.gfe
  lpe : t.lpe = s.lpe
  trans_ : t.trans = s.trans
  token : t.hst.token = s.hst.token
  staged : t.hst.staged = s.hst.staged
  order : t.hst.order = s.hst.order

theorem Configured.refl (s : State) : Configured s s := ⟨rfl, rfl, rfl, rfl, rfl, rfl, rfl, rfl, rfl⟩
theorem Configured.trans {s t u : State} (h : Configured s t) (k : Configured t u) : Configured s u :=
  ⟨k.par.trans h.par, k.pend.trans h.pend, k.sec.trans h.sec, k.gfe.trans h.gfe, k.lpe.trans h.lpe, k.trans_.trans h.trans_,
    k.token.trans h.token, k.staged.trans h.staged, k.order.trans h.order⟩
theorem Configured.ite {c : Prop} [Decidable c] {s a b : State} (h : Configured s a) (k : Configured s b) : Configured s (if c then a else b) := by
  split <;> assumption
theorem Configured.foldl {α : Type} {f : State → α → State} (hf : ∀ s x, Configured s (f s x)) (l : List α) (s : State) :
    Configured s (l.foldl f s) :=
  List.foldlRecOn (motive := Configured s) l f (.refl s) fun t ht x _ => ht.trans (hf t x)
theorem Rules.configured {s t : State} (h : Rules s t) : Configured s t := by
  have k := h.keep
  exact ⟨k.par, k.pend, k.sec, k.gfe, k.lpe, k.transitions, k.token, k.staged, k.order⟩
theorem begin_configured (dt : Nat) (s : State) : Configured s (s.begin dt) := ⟨rfl, rfl, rfl, rfl, rfl, rfl, rfl, rfl, rfl⟩

/-- The states that an event may end in. -/
def Ends (s : State) (o : Host.Outcome State Fault Refusal) : Prop := ∃ x, o = done x ∧ Configured s x

theorem ends_done {s x : State} (h : Configured s x) : Ends s (done x) := ⟨x, rfl, h⟩
theorem Ends.ite {c : Prop} [Decidable c] {s : State} {a b : Host.Outcome State Fault Refusal} (h : Ends s a) (k : Ends s b) :
    Ends s (if c then a else b) := by
  split <;> assumption
theorem ends_begin (dt : Nat) (s : State) : Ends s (done (s.begin dt)) := ends_done (begin_configured dt s)
theorem Ends.of_begin {dt : Nat} {s : State} {o : Host.Outcome State Fault Refusal} (h : Ends (s.begin dt) o) : Ends s o := by
  obtain ⟨x, e, k⟩ := h
  exact ⟨x, e, (begin_configured dt s).trans k⟩
theorem Ends.same {s : State} : Ends s (done s) := ends_done (.refl s)

/-! What the operations of the units keep. -/

theorem raise_configured {c : Nat} (hw : withdrawCode c = false) (k i a b : Nat) (sc : List Nat) (s : State) : Configured s (raise c k i a b sc s) :=
  (raise_rules _ _ _ _ _ _ _ hw).configured
theorem raiseWith_configured {c : Nat} (hw : withdrawCode c = false) (cfg k i a b : Nat) (sc : List Nat) (s : State) :
    Configured s (raiseWith cfg c k i a b sc s) := (raiseWith_rules _ _ _ _ _ _ _ _ hw).configured
theorem runRaise_configured {c : Nat} (hw : withdrawCode c = false) (k i a b : Nat) (sc : List Nat) (x : Bool) (s : State) :
    Configured s (runRaise c k i a b sc x s) := (runRaise_rules _ _ _ _ _ _ _ _ hw).configured
theorem condHolds_configured (c k i : Nat) (s : State) : Configured s (condHolds c k i s) := (condHolds_rules ..).configured
theorem condFails_configured (c k i : Nat) (s : State) : Configured s (condFails c k i s) := (condFails_rules ..).configured
theorem modSd_configured (n : Nat) (f : SdIn → SdIn) (s : State) : Configured s (modSd n f s) := ⟨rfl, rfl, rfl, rfl, rfl, rfl, rfl, rfl, rfl⟩
theorem modGrp_configured (n : Nat) (f : SdGrp → SdGrp) (s : State) : Configured s (modGrp n f s) := ⟨rfl, rfl, rfl, rfl, rfl, rfl, rfl, rfl, rfl⟩
theorem modSfi_configured (f : Sfi → Sfi) (s : State) : Configured s (modSfi f s) := ⟨rfl, rfl, rfl, rfl, rfl, rfl, rfl, rfl, rfl⟩
theorem modLane_configured (n : Nat) (f : Lane → Lane) (s : State) : Configured s (modLane n f s) := ⟨rfl, rfl, rfl, rfl, rfl, rfl, rfl, rfl, rfl⟩
theorem modCan_configured (n : Nat) (f : CanCtl → CanCtl) (s : State) : Configured s (modCan n f s) := ⟨rfl, rfl, rfl, rfl, rfl, rfl, rfl, rfl, rfl⟩
theorem modPort_configured (p : Nat) (f : Port → Port) (s : State) : Configured s (s.modPort p f) := ⟨rfl, rfl, rfl, rfl, rfl, rfl, rfl, rfl, rfl⟩
theorem emit_configured (x : Out) (s : State) : Configured s (s.emit x) := ⟨rfl, rfl, rfl, rfl, rfl, rfl, rfl, rfl, rfl⟩
theorem modSlice_configured (n : Nat) (f : Slice → Slice) (s : State) : Configured s (modSlice n f s) := ⟨rfl, rfl, rfl, rfl, rfl, rfl, rfl, rfl, rfl⟩
theorem detect_configured (c d : Nat) (cs : List Nat) (s : State) : Configured s (detect c d cs s) := modSfi_configured ..

/-- The wire, the monitors and the converters have states of their own. -/
theorem ownState_configured (s : State) (a : Alm) (p : Spu) (b : Option (Nat × Nat)) (f : Nat) (k : Pkg) (d : Adc) :
    Configured s { s with alm := a, spu := p, blockCause := b, free := f, pkg := k, adc := d } := ⟨rfl, rfl, rfl, rfl, rfl, rfl, rfl, rfl, rfl⟩

theorem remoteBlock_configured (s : State) : Configured s (remoteBlock s) := by
  have noted (q : Nat) : Configured s (noteCause 1 q s) := ⟨rfl, rfl, rfl, rfl, rfl, rfl, rfl, rfl, rfl⟩
  exact .ite (.refl s) (((noted _).trans (raise_configured (by decide) ..)).trans (originateGb_reacts _).rules.configured)

theorem setLatch_configured (i t : Nat) (s : State) : Configured s (setLatch i t s) := by
  have set (m : Modr) : Configured s { s with mod := m } := ⟨rfl, rfl, rfl, rfl, rfl, rfl, rfl, rfl, rfl⟩
  exact .ite (.refl s) ((set _).trans ((discardChans_reacts ..).rules.trans (immediateStates_reacts ..).rules).configured)

theorem pulseSets_configured (w : Nat) (s : State) : Configured s (pulseSets w s).2 := by
  unfold pulseSets
  split
  · exact .refl s
  split
  · exact .refl s
  · exact ⟨rfl, rfl, rfl, rfl, rfl, rfl, rfl, rfl, rfl⟩

theorem feedFast_configured {n : Nat} (hn : n < 48) (b : Bool) (s : State) : Configured s (feedFast n b s) := by
  have stays : withdrawCode (0x2140 + n) = false := fastCode_stays ⟨n, hn⟩
  exact (modSd_configured ..).trans (.ite ((modSd_configured ..).trans (raise_configured stays ..))
    (.ite ((modSd_configured ..).trans (condHolds_configured ..)) (.refl _)))

theorem canErrors_configured (n : Fin 4) (s : State) : Configured s (canErrors n s) := by
  obtain ⟨passive, off⟩ := canFault_not_withdrawn n
  exact .ite (.refl s) (.ite ((modCan_configured ..).trans (raise_configured off ..))
    (.ite (.ite (.refl s) ((modCan_configured ..).trans (raise_configured passive ..)))
      (.ite ((modCan_configured ..).trans (condHolds_configured ..)) (.refl s))))

theorem sinFilter_configured (i t : Nat) (s : State) : Configured s (sinFilter i t s) :=
  .ite ((modSfi_configured ..).trans (detect_configured ..)) (.refl s)

theorem repeatState_configured (p : Nat) (s : State) : Configured s (repeatState p s) := by
  have sent (i : Bool) (e : Nat) (c : List Nat) (x : State) : Configured x (sendState i e c p x) := (sendState_reacts ..).rules.configured
  have first (i : Bool) (e : Nat) (c : List Nat) (v : Bool) (x : State) : Configured x (if v then sendState i e c p x else x) := .ite (sent ..) (.refl x)
  unfold repeatState
  exact .ite (sent ..) ((first ..).trans (.foldl (fun _ _ => sent ..) _ _))

theorem raiseLink_configured {c : Nat} (hw : withdrawCode c = false) (other p hop cfg : Nat) (s : State) :
    Configured s (raiseLink c other p hop cfg s) := by
  unfold raiseLink
  dsimp only
  split
  · exact .ite (repeatFault_rules ..).configured
      (((Rules.of s _).trans (repeatFault_rules ..)).trans (applyReaction_reacts ..).rules).configured
  · exact raiseWith_configured hw ..

/-! The events. -/

section
variable (dt : Nat) (s : State)

theorem blockNFall_ends (fall : Bool) : Ends s (execBlockNFall dt fall s) := by
  refine Ends.of_begin (dt := dt) ?_
  have low (x : State) (p : Spu) : Configured x { x with spu := p } := ⟨rfl, rfl, rfl, rfl, rfl, rfl, rfl, rfl, rfl⟩
  have stamped (x : State) (c : Bool) (a : Alm) (p : Spu) : Configured x (if c then { x with alm := a, spu := p } else x) :=
    .ite ⟨rfl, rfl, rfl, rfl, rfl, rfl, rfl, rfl, rfl⟩ (.refl x)
  exact .ite (ends_done ((stamped ..).trans ((low ..).trans (remoteBlock_configured _)))) (ends_done (low ..))

theorem blockNPulseEnd_ends : Ends s (execBlockNPulseEnd dt s) := by
  refine Ends.of_begin (dt := dt) ?_
  unfold execBlockNPulseEnd
  dsimp only
  split
  · exact .ite (ends_done ⟨rfl, rfl, rfl, rfl, rfl, rfl, rfl, rfl, rfl⟩) .same
  · exact .same

theorem blockNQuietEnd_ends : Ends s (execBlockNQuietEnd dt s) := by
  refine Ends.of_begin (dt := dt) ?_
  have quiet (x : State) (p : Spu) : Configured x { x with spu := p } := ⟨rfl, rfl, rfl, rfl, rfl, rfl, rfl, rfl, rfl⟩
  unfold execBlockNQuietEnd
  dsimp only
  split
  · exact .ite (ends_done ((quiet ..).trans (remoteBlock_configured _))) .same
  · exact .same

theorem faultInLatch_ends (pin : Fin 4) (w : Nat) : Ends s (execFaultInLatch dt pin w s) := by
  refine Ends.of_begin (dt := dt) ?_
  have pulsed := pulseSets_configured w (s.begin dt)
  have stays : withdrawCode (0x2301 + pin.val) = false := by
    revert pin
    decide
  have latched (x : State) (sc : List Nat) : Configured x (raise (0x2301 + pin.val) 9 pin 0 0 sc (setLatch pin x.now x)) :=
    (setLatch_configured ..).trans (raise_configured stays ..)
  exact .ite (ends_done pulsed) (.ite (ends_done ((pulsed.trans (latched ..)).trans (sendPair_reacts ..).rules.configured))
    (ends_done (pulsed.trans (latched ..))))

theorem clearsWhenHeld_ends (code : BitVec 16) (kind : BitVec 4) (index : BitVec 12) : Ends s (execClearsWhenHeld dt code kind index s) :=
  .of_begin (dt := dt) (.ite (ends_done (condHolds_configured ..)) .same)

theorem pkgRail_ends (rail : Fin 10) (ok : Bool) : Ends s (execPkgRail dt rail ok s) := by
  refine Ends.of_begin (dt := dt) (.ite .same (ends_done ?_))
  have set (i : Nat) (v : Bool) (x : State) : Configured x (setRail i v x) := ⟨rfl, rfl, rfl, rfl, rfl, rfl, rfl, rfl, rfl⟩
  have failed (i : Nat) (c : Bool) (x : State) : Configured x (if c then x else condFails 0x7602 0 i x) := .ite (.refl x) (condFails_configured ..)
  exact (set ..).trans ((failed ..).trans (runRaise_configured (by decide) ..))

theorem tempMonitorUpdate_ends (tj : Int) : Ends s (execTempMonitorUpdate dt tj s) := by
  refine Ends.of_begin (dt := dt) (.ite .same (ends_done ?_))
  have read (x : State) (k : Pkg) : Configured x { x with pkg := k } := ⟨rfl, rfl, rfl, rfl, rfl, rfl, rfl, rfl, rfl⟩
  have judged (c : Nat) (v : Prop) [Decidable v] (x : State) : Configured x (if v then condHolds c 0 0 x else condFails c 0 0 x) :=
    .ite (condHolds_configured ..) (condFails_configured ..)
  exact ((read ..).trans ((judged ..).trans (judged ..))).trans
    ((runRaise_configured (by decide) ..).trans (runRaise_configured (by decide) ..))

theorem bsdFastDecision_ends (n : Fin 48) (bits : List Bool) : Ends s (execBsdFastDecision dt n bits s) :=
  .of_begin (dt := dt) (.ite .same (ends_done (.foldl (fun _ _ => (modSd_configured ..).trans (feedFast_configured n.isLt ..)) _ _)))
theorem bsdMissingClock_ends (g : Fin 6) : Ends s (execBsdMissingClock dt g s) :=
  .of_begin (dt := dt) (.ite (ends_done (modGrp_configured ..)) .same)
theorem sdclkReturn_ends (g : Fin 6) : Ends s (execSdclkReturn dt g s) :=
  .of_begin (dt := dt) (.ite (ends_done ((Configured.foldl (fun _ _ => modSd_configured ..) _ _).trans (modGrp_configured ..))) .same)
theorem bsdStuckStream_ends (n : Fin 48) : Ends s (execBsdStuckStream dt n s) :=
  .of_begin (dt := dt) (.ite (ends_done (modSd_configured ..)) .same)

theorem adc_configured (d : Adc) : Configured s { s with adc := d } := ⟨rfl, rfl, rfl, rfl, rfl, rfl, rfl, rfl, rfl⟩

theorem adcShadowStart_ends : Ends s (execAdcShadowStart dt s) := .of_begin (dt := dt) (.ite (ends_done (adc_configured ..)) .same)

theorem adcCalStep_ends : Ends s (execAdcCalStep dt s) := by
  refine Ends.of_begin (dt := dt) (.ite .same (.ite (ends_done ((adc_configured ..).trans (adc_configured ..))) ?_))
  have stepped (x : State) (a b : Adc) (n : Nat) (f : Slice → Slice) : Configured x (modSlice n f { ({ x with adc := a } : State) with adc := b }) :=
    ((adc_configured x a).trans (adc_configured _ b)).trans (modSlice_configured ..)
  exact .ite (ends_done ((stepped ..).trans (raise_configured (by decide) ..)))
    (.ite (ends_done ((stepped ..).trans (condHolds_configured ..))) (ends_done (stepped ..)))

theorem adcCalDone_ends (o g : Int) (r : List Int) : Ends s (execAdcCalDone dt o g r s) := by
  refine Ends.of_begin (dt := dt) (.ite .same (.ite (ends_done ?_) (ends_done (modSlice_configured ..))))
  exact ((modSlice_configured ..).trans (adc_configured ..)).trans (raise_configured (by decide) ..)

theorem laneSyncLost_ends (n : Fin 64) : Ends s (execLaneSyncLost dt n s) :=
  .of_begin (dt := dt) (.ite .same (ends_done ((modLane_configured ..).trans (condFails_configured ..))))

theorem laneEthDown_ends (n : Fin 64) : Ends s (execLaneEthDown dt n s) := by
  refine Ends.of_begin (dt := dt) ?_
  unfold execLaneEthDown
  dsimp only
  split
  · exact .ite (ends_done ((modLane_configured ..).trans (raise_configured (by decide) ..))) .same
  · exact .same

theorem checkerLock_ends (n : Fin 64) : Ends s (execCheckerLock dt n s) := .of_begin (dt := dt) (.ite .same (ends_done (modLane_configured ..)))
theorem checkerLockLost_ends (n : Fin 64) (e : Nat) : Ends s (execCheckerLockLost dt n e s) :=
  .of_begin (dt := dt) (.ite .same (ends_done ((modLane_configured ..).trans (modLane_configured ..))))
theorem marginScanDone_ends (n : Fin 64) (h : Fin 1025) (v : Nat) : Ends s (execMarginScanDone dt n h v s) :=
  .of_begin (dt := dt) (.ite .same (ends_done (modLane_configured ..)))

theorem canTxStart_ends (n : Fin 4) : Ends s (execCanTxStart dt n s) := by
  refine Ends.of_begin (dt := dt) (.ite .same ?_)
  split
  · exact .same
  · exact ends_done (((modCan_configured ..).trans (modCan_configured ..)).trans (emit_configured ..))

theorem canBusIntegration_ends (n : Fin 4) : Ends s (execCanBusIntegration dt n s) := by
  refine Ends.of_begin (dt := dt) (.ite .same (ends_done ?_))
  have quiet (c : Prop) [Decidable c] (x : State) : Configured x (if c then condHolds (0x3310 + n) 0 0 (condHolds (0x3300 + n) 0 0 x) else x) :=
    .ite ((condHolds_configured ..).trans (condHolds_configured ..)) (.refl x)
  exact (modCan_configured ..).trans ((quiet ..).trans (canErrors_configured ..))

theorem canBusOffRecovered_ends (n : Fin 4) : Ends s (execCanBusOffRecovered dt n s) :=
  .of_begin (dt := dt) (.ite .same (ends_done ((modCan_configured ..).trans ((condHolds_configured ..).trans (condHolds_configured ..)))))

theorem soutOffPulse_ends (j : Fin 8) : Ends s (execSoutOffPulse dt j s) := by
  refine Ends.of_begin (dt := dt) (.ite .same (ends_done ?_))
  refine (Configured.foldl (fun x i => ?_) _ _).trans (modSfi_configured ..)
  exact .ite ((sinFilter_configured ..).trans (modSfi_configured ..)) (.refl x)

theorem islandClockCheck_ends (a : Bool) : Ends s (execIslandClockCheck dt a s) := by
  refine Ends.of_begin (dt := dt) (.ite .same (.ite (ends_done ?_) (.ite (ends_done (modSfi_configured ..)) (ends_done ?_))))
  · have found (c : Bool) (x : State) : Configured x (if c then x else detect 0x6033 0 [] x) := .ite (.refl x) (detect_configured ..)
    exact (found ..).trans (modSfi_configured ..)
  · exact ((modSfi_configured ..).trans (modSfi_configured ..)).trans (detect_configured ..)

theorem islandMemoryCheck_ends (g : Bool) : Ends s (execIslandMemoryCheck dt g s) :=
  .of_begin (dt := dt) (.ite .same (ends_done ((modSfi_configured ..).trans (detect_configured ..))))
theorem supplyTestOverdue_ends : Ends s (execSupplyTestOverdue dt s) := .of_begin (dt := dt) (.ite (ends_done (detect_configured ..)) .same)
theorem emberExpired_ends : Ends s (execEmberExpired dt s) := .of_begin (dt := dt) (.ite (ends_done (detect_configured ..)) .same)
theorem sfiPeerDisagree_ends : Ends s (execSfiPeerDisagree dt s) :=
  .of_begin (dt := dt) (.ite (ends_done (raiseWith_configured (by decide) ..)) .same)

theorem scTimeout_ends (k : Fin 4) : Ends s (execScTimeout dt k s) := by
  have told (x : State) (c : Bool) : Configured x (if c then detect 0x6004 k [] x else raiseWith 1 0x6004 0 0 0 k [] x) :=
    .ite (detect_configured ..) (raiseWith_configured (by decide) ..)
  exact .of_begin (dt := dt) (.ite .same (ends_done ((modSfi_configured ..).trans (told ..))))

theorem beaconDue_ends (p : Fin 64) : Ends s (execBeaconDue dt p s) :=
  .of_begin (dt := dt) (.ite .same (ends_done ((modPort_configured ..).trans (emit_configured ..))))
theorem stateRepeat_ends : Ends s (execStateRepeat dt s) :=
  .of_begin (dt := dt) (.ite .same (ends_done (.foldl (fun _ _ => repeatState_configured ..) _ _)))
theorem symbolLock_ends (p : Fin 64) : Ends s (execSymbolLock dt p s) :=
  .of_begin (dt := dt) (.ite .same (ends_done (((modPort_configured ..).trans (repeatState_configured ..)).trans
    ((modPort_configured ..).trans (emit_configured ..)))))
theorem frameDiscarded_ends (p : Fin 64) : Ends s (execFrameDiscarded dt p s) :=
  .of_begin (dt := dt) (ends_done ((modPort_configured ..).trans ((condFails_configured ..).trans (runRaise_configured (by decide) ..))))
theorem linkSupervision_ends (p : Fin 64) (h : Fin 4) : Ends s (execLinkSupervision dt p h s) :=
  .of_begin (dt := dt) (.ite (ends_done (raiseLink_configured (by decide) ..)) .same)

end

theorem event_ends {c : Instr} (h : eventOnly c = true) (s : State) : Ends s (exec c s) := by
  cases c with
  | blockNFall dt fall => exact blockNFall_ends ..
  | blockNPulseEnd dt => exact blockNPulseEnd_ends ..
  | blockNQuietEnd dt => exact blockNQuietEnd_ends ..
  | faultInLatch dt pin w => exact faultInLatch_ends ..
  | clearsWhenHeld dt code kind index => exact clearsWhenHeld_ends ..
  | pkgRail dt rail ok => exact pkgRail_ends ..
  | tempMonitorUpdate dt tj => exact tempMonitorUpdate_ends ..
  | bsdFastDecision dt n bits => exact bsdFastDecision_ends ..
  | bsdMissingClock dt g => exact bsdMissingClock_ends ..
  | sdclkReturn dt g => exact sdclkReturn_ends ..
  | bsdStuckStream dt n => exact bsdStuckStream_ends ..
  | adcShadowStart dt => exact adcShadowStart_ends ..
  | adcCalStep dt => exact adcCalStep_ends ..
  | adcCalDone dt o g r => exact adcCalDone_ends ..
  | laneSyncLost dt n => exact laneSyncLost_ends ..
  | laneEthDown dt n => exact laneEthDown_ends ..
  | checkerLock dt n => exact checkerLock_ends ..
  | checkerLockLost dt n e => exact checkerLockLost_ends ..
  | marginScanDone dt n h v => exact marginScanDone_ends ..
  | canTxStart dt n => exact canTxStart_ends ..
  | canBusIntegration dt n => exact canBusIntegration_ends ..
  | canBusOffRecovered dt n => exact canBusOffRecovered_ends ..
  | soutOffPulse dt j => exact soutOffPulse_ends ..
  | islandClockCheck dt a => exact islandClockCheck_ends ..
  | islandMemoryCheck dt g => exact islandMemoryCheck_ends ..
  | supplyTestOverdue dt => exact supplyTestOverdue_ends ..
  | emberExpired dt => exact emberExpired_ends ..
  | sfiPeerDisagree dt => exact sfiPeerDisagree_ends ..
  | scTimeout dt k => exact scTimeout_ends ..
  | beaconDue dt p => exact beaconDue_ends ..
  | stateRepeat dt => exact stateRepeat_ends ..
  | symbolLock dt p => exact symbolLock_ends ..
  | frameDiscarded dt p => exact frameDiscarded_ends ..
  | linkSupervision dt p h => exact linkSupervision_ends ..
  | _ => exact absurd h Bool.false_ne_true

/-- Settles O60: every event of `eventOnly` ends in a state that keeps what the host configured, as none raises a fault that resets the device. -/
theorem eventsKeepConfiguration : Obligations.EventsKeepConfiguration := by
  unfold Obligations.EventsKeepConfiguration
  intro c s h
  obtain ⟨x, runs, k⟩ := event_ends h s
  refine exec_ends runs ?_
  exact ⟨k.par, k.pend, k.sec, k.gfe, k.lpe, k.trans_, k.token, k.staged, k.order⟩

end Sys2Proof.Machine
end

section
/-! The cycle of the safety island: what waits for it, the demand it decides, and the reset it accepts (R364, R366, R367). -/
namespace Sys2Proof.Machine

/-! What the island gathers in its cycle. -/

/-- Some more detections of the island, beside what waited. -/
structure Gathers (s t : State) : Prop where
  more : ∃ l, t.sfi.detected = s.sfi.detected ++ l ∧ ∀ e ∈ l, 0x6000 ≤ e.1 ∧ e.1 < 0x7000
  high : t.sfi.safeHigh = s.sfi.safeHigh
  par : t.par = s.par

theorem gathers_of {s t : State} (hdet : t.sfi.detected = s.sfi.detected) (hhigh : t.sfi.safeHigh = s.sfi.safeHigh) (hpar : t.par = s.par) :
    Gathers s t := ⟨⟨[], by rw [hdet, List.append_nil], fun _ h => nomatch h⟩, hhigh, hpar⟩
theorem Gathers.refl (s : State) : Gathers s s := gathers_of rfl rfl rfl
theorem Gathers.trans {s t u : State} (h : Gathers s t) (k : Gathers t u) : Gathers s u := by
  obtain ⟨l, hl, hc⟩ := h.more
  obtain ⟨m, km, kc⟩ := k.more
  refine ⟨⟨l ++ m, by rw [km, hl, List.append_assoc], fun e he => ?_⟩, k.high.trans h.high, k.par.trans h.par⟩
  exact (List.mem_append.1 he).elim (hc e) (kc e)
theorem Gathers.ite {c : Prop} [Decidable c] {s a b : State} (h : Gathers s a) (k : Gathers s b) : Gathers s (if c then a else b) := by
  split <;> assumption
theorem Gathers.foldl {α : Type} {f : State → α → State} (hf : ∀ s x, Gathers s (f s x)) (l : List α) (s : State) : Gathers s (l.foldl f s) :=
  List.foldlRecOn (motive := Gathers s) l f (.refl s) fun t ht x _ => ht.trans (hf t x)

theorem Gathers.foldl_mem {α : Type} {f : State → α → State} {l : List α} (hf : ∀ s, ∀ x ∈ l, Gathers s (f s x)) {s : State} : Gathers s (l.foldl f s) :=
  List.foldlRecOn (motive := Gathers s) l f (.refl s) fun t ht x hx => ht.trans (hf t x hx)

theorem detect_gathers {c : Nat} (hc : 0x6000 ≤ c ∧ c < 0x7000) (d : Nat) (cs : List Nat) (s : State) : Gathers s (detect c d cs s) :=
  ⟨⟨[(c, d, cs)], rfl, fun e he => by rw [List.mem_singleton.1 he]; exact hc⟩, rfl, rfl⟩
theorem modSin_gathers (i : Nat) (f : Sin → Sin) (s : State) : Gathers s (modSin i f s) := gathers_of rfl rfl rfl
theorem modSout_gathers (j : Nat) (f : Sout → Sout) (s : State) : Gathers s (modSout j f s) := gathers_of rfl rfl rfl

theorem sinFilter_gathers (i t : Nat) (s : State) : Gathers s (sinFilter i t s) :=
  .ite ((modSin_gathers ..).trans (detect_gathers (by decide) ..)) (.refl s)

theorem pairTrack_gathers (i t : Nat) (s : State) : Gathers s (pairTrack i t s) := by
  unfold pairTrack
  split
  · exact .refl s
  · exact (modSin_gathers ..).trans (modSin_gathers ..)

theorem sinEdge_gathers (i t : Nat) (v : Bool) (s : State) : Gathers s (sinEdge i t v s) := by
  have asked (x : State) (c : Bool) : Gathers x (if c then modSfi (fun y => { y with resetReq := true }) x else x) := .ite (gathers_of rfl rfl rfl) (.refl x)
  have filtered (x : State) : Gathers x (if v then sinFilter i t x else x) := .ite (sinFilter_gathers ..) (.refl x)
  exact ((asked ..).trans (filtered _)).trans (.ite ((modSin_gathers ..).trans (pairTrack_gathers ..)) (modSin_gathers ..))

theorem sinCycle_gathers (i : Nat) (s : State) : Gathers s (sinCycle i s) := by
  have tracked : Gathers s (pairTrack i s.clock (sinFilter i s.clock s)) := (sinFilter_gathers ..).trans (pairTrack_gathers ..)
  have found {c : Nat} (hc : 0x6000 ≤ c ∧ c < 0x7000) (v : Bool) (d : Nat) (f : Sin → Sin) (x : State) :
      Gathers x (if v then detect c d [] (modSin i f x) else x) := .ite ((modSin_gathers ..).trans (detect_gathers hc ..)) (.refl x)
  unfold sinCycle
  dsimp only
  split
  · split
    · exact tracked.trans (found (by decide) ..)
    · exact tracked
  · split
    · split
      · exact (modSin_gathers ..).trans (found (by decide) ..)
      · exact (modSin_gathers ..).trans (modSin_gathers ..)
    · exact .refl s

theorem soutBad_gathers (j : Nat) (s : State) : Gathers s (soutBad j s) := by
  have code (c : Prop) [Decidable c] : 0x6000 ≤ (if c then 0x600A else 0x6031) ∧ (if c then 0x600A else 0x6031) < 0x7000 := by
    split <;> decide
  have told (b : Bool) : Gathers s (if b then s else detect (if sf s (0x100 + j) 1 = 1 then 0x600A else 0x6031) j [] s) :=
    .ite (.refl s) (detect_gathers (code _) ..)
  exact (told _).trans (modSout_gathers ..)

theorem pulseCheck_gathers (j close : Nat) (s : State) : Gathers s (pulseCheck j close s) := by
  have code (c : Prop) [Decidable c] : 0x6000 ≤ (if c then 0x6009 else 0x6032) ∧ (if c then 0x6009 else 0x6032) < 0x7000 := by
    split <;> decide
  have told (i : Nat) (b : Bool) (x : State) : Gathers x (if b then x else detect (if sf x i 1 = 1 then 0x6009 else 0x6032) i [] x) :=
    .ite (.refl x) (detect_gathers (code _) ..)
  refine Gathers.foldl (fun x i => ?_) _ s
  exact .ite (.refl x) (.ite ((modSin_gathers ..).trans (modSin_gathers ..)) ((modSin_gathers ..).trans ((told ..).trans (modSin_gathers ..))))

theorem soutCycle_gathers (j : Nat) (back : Bool) (s : State) : Gathers s (soutCycle j back s) := by
  have seen (c d : Prop) [Decidable c] [Decidable d] (f g : Sout → Sout) (x : State) : Gathers x
      (if c then modSout j f x else if d then x else modSout j g (soutBad j x)) :=
    .ite (modSout_gathers ..) (.ite (.refl x) ((soutBad_gathers ..).trans (modSout_gathers ..)))
  have judged (c : Prop) [Decidable c] (f : Sout → Sout) (x : State) : Gathers x (if c then modSout j f x else soutBad j x) :=
    .ite (modSout_gathers ..) (soutBad_gathers ..)
  unfold soutCycle
  dsimp only
  split
  · exact .ite (seen ..) (((seen ..).trans (judged ..)).trans ((pulseCheck_gathers ..).trans (modSout_gathers ..)))
  · exact .ite (soutBad_gathers ..) (.ite (modSout_gathers ..) (.refl s))

/-- The inputs and outputs read. -/
def sensed (x : SafeIn) (s : State) : State :=
  let s := x.edges.foldl (fun s e => sinEdge e.1 (s.clock - e.2.1) e.2.2 s) s
  let s := (List.range 8).foldl (fun s i => sinCycle i s) s
  (List.range 8).foldl (fun s j => soutCycle j (x.souts.getLsbD j) s) s

/-- SAFE_BLOCK_N read back, and the monitor of the partner's island. -/
def backRead (x : SafeIn) (s : State) : State :=
  let bad := !s.sfi.safeHigh && x.back
  let s := if bad && !s.sfi.outBad then detect 0x6001 0 [] s else s
  modSfi (fun y => { y with outBad := bad, mon := x.mon }) s

/-- One check of the island upon itself. -/
def selfCheck (s : State) (e : Bool × Nat) : State :=
  if e.1 && !s.sfi.latched.contains e.2 then detect e.2 0 [] (modSfi (fun y => { y with latched := y.latched ++ [e.2] }) s) else s

/-- What the island reads and checks in its cycle, before it decides. -/
def gathered (x : SafeIn) (s : State) : State :=
  [(x.lockstep, 0x6010), (x.supply, 0x6012), (x.watchdog, 0x6014)].foldl selfCheck (backRead x (sensed x s))

theorem sensed_gathers (x : SafeIn) (s : State) : Gathers s (sensed x s) := by
  have edges : Gathers s (x.edges.foldl (fun s e => sinEdge e.1 (s.clock - e.2.1) e.2.2 s) s) := .foldl (fun _ _ => sinEdge_gathers ..) _ s
  exact (edges.trans (.foldl (fun y i => sinCycle_gathers i y) _ _)).trans (.foldl (fun y j => soutCycle_gathers j (x.souts.getLsbD j) y) _ _)

theorem backRead_gathers (x : SafeIn) (s : State) : Gathers s (backRead x s) := by
  have back (c : Bool) (y : State) : Gathers y (if c then detect 0x6001 0 [] y else y) := .ite (detect_gathers (by decide) ..) (.refl y)
  have set (b m : Bool) (y : State) : Gathers y (modSfi (fun z => { z with outBad := b, mon := m }) y) := gathers_of rfl rfl rfl
  exact (back ..).trans (set ..)

theorem selfCheck_gathers {e : Bool × Nat} (he : 0x6000 ≤ e.2 ∧ e.2 < 0x7000) (s : State) : Gathers s (selfCheck s e) := by
  have noted : Gathers s (modSfi (fun z => { z with latched := z.latched ++ [e.2] }) s) := gathers_of rfl rfl rfl
  exact .ite (noted.trans (detect_gathers he ..)) (.refl s)

theorem gathered_gathers (x : SafeIn) (s : State) : Gathers s (gathered x s) := by
  refine ((sensed_gathers ..).trans (backRead_gathers x _)).trans (Gathers.foldl_mem fun y e he => selfCheck_gathers ?_ y)
  simp only [List.mem_cons, List.not_mem_nil, or_false] at he
  rcases he with rfl | rfl | rfl <;> exact ⟨by dsimp only; omega, by dsimp only; omega⟩

theorem cycle_runs {dt : Nat} {s : State} (hpow : s.dev.powered = true) (x : SafeIn) : exec (.safetyCycle dt x) s =
    done (statusChanges (driveSouts (raiseStep (decideAll (resetStep (gathered x (s.begin dt))))))) := by
  have on : (!(s.begin dt).dev.powered) = false := by rw [State.begin_dev, hpow]; rfl
  show execSafetyCycle dt x s = _
  unfold execSafetyCycle
  dsimp only
  rw [on, if_neg Bool.false_ne_true]
  delta gathered backRead sensed selfCheck
  dsimp only

/-! What the decision of the cycle does. -/

/-- A detection that is a demand now: not one of the Ember mode. -/
def demands (s : State) (e : Nat × Nat × List Nat) : Bool := !(emberCode e.1 && (emberEn s || !s.sfi.safeHigh))

theorem demands_congr {s t : State} (hpar : t.par = s.par) (hhigh : t.sfi.safeHigh = s.sfi.safeHigh) (e : Nat × Nat × List Nat) :
    demands t e = demands s e := by
  unfold demands emberEn sf
  rw [pn_congr hpar, hhigh]

theorem demandWaiting_gathers {s t : State} (h : Gathers s t) (hw : demandWaiting s = true) : demandWaiting t = true := by
  obtain ⟨⟨l, hl, -⟩, high, par⟩ := h
  obtain ⟨e, he, hd⟩ := List.any_eq_true.1 hw
  refine List.any_eq_true.2 ⟨e, by rw [hl]; exact List.mem_append_left _ he, ?_⟩
  exact (demands_congr par high e).trans hd

theorem mem_insDet {e x : Nat × Nat × List Nat} (l : List (Nat × Nat × List Nat)) : e ∈ insDet x l ↔ e = x ∨ e ∈ l := by
  induction l with
  | nil => simp [insDet]
  | cons y l ih =>
    unfold insDet
    split
    · simp
    · rw [List.mem_cons, ih, List.mem_cons]
      exact or_left_comm

theorem mem_inDet (l acc : List (Nat × Nat × List Nat)) (e : Nat × Nat × List Nat) : e ∈ l.foldl (fun l e => insDet e l) acc ↔ e ∈ l ∨ e ∈ acc := by
  induction l generalizing acc with
  | nil => simp
  | cons y l ih =>
    rw [List.foldl_cons, ih, mem_insDet, List.mem_cons]
    exact or_left_comm.trans or_assoc.symm

/-- The Safe Gate Block is in force and SAFE_BLOCK_N is low. -/
def Forced (s : State) : Prop := s.sfi.inForce = true ∧ s.sfi.safeHigh = false

/-- What the decision about one detection does to the demand: it is in force, or all of it is as before. -/
structure Decided (e : Nat × Nat × List Nat) (s t : State) : Prop where
  par : t.par = s.par
  held : ∀ c k i, isHeld c k i s = true → isHeld c k i t = true
  fault : e.1 ≠ 0x6007 → isHeld e.1 0 0 t = true
  forced : demands s e = true → Forced t
  same : demands s e = false → t.sfi.inForce = s.sfi.inForce ∧ t.sfi.safeHigh = s.sfi.safeHigh

theorem not_withdrawn_of_safety {c : Nat} (h : 0x6000 ≤ c ∧ c < 0x7000) : withdrawCode c = false := by
  simp only [withdrawCode, List.contains_eq_mem, List.mem_cons, List.not_mem_nil, or_false, decide_eq_false_iff_not, not_or]
  omega

theorem clearPositions_keeps (s : State) : (clearPositions s).par = s.par ∧ (clearPositions s).sfi = s.sfi ∧ (clearPositions s).spu = s.spu := by
  have asked (l : List Sat) (p : Nat) (g : Sat → Nat) (x : State) :
      let y := l.foldl (fun s a => addReq p a.hop false 4 0 (g a) 5 s) x
      y.par = x.par ∧ y.sfi = x.sfi ∧ y.spu = x.spu :=
    List.foldlRecOn (motive := fun y : State => y.par = x.par ∧ y.sfi = x.sfi ∧ y.spu = x.spu) l _ ⟨rfl, rfl, rfl⟩ fun _ h _ _ => h
  have pumped (p : Nat) (x : State) : (pumpReqs p x).par = x.par ∧ (pumpReqs p x).sfi = x.sfi ∧ (pumpReqs p x).spu = x.spu := by
    unfold pumpReqs
    split
    · exact ⟨rfl, rfl, rfl⟩
    · refine List.foldlRecOn (motive := fun y : State => y.par = x.par ∧ y.sfi = x.sfi ∧ y.spu = x.spu) _ _ ⟨rfl, rfl, rfl⟩ fun y h r _ => ?_
      dsimp only
      split
      · exact h
      · exact h
  refine List.foldlRecOn (motive := fun y : State => y.par = s.par ∧ y.sfi = s.sfi ∧ y.spu = s.spu) _ _ ⟨rfl, rfl, rfl⟩ fun y h e _ => ?_
  obtain ⟨a1, a2, a3⟩ := asked e.2.sats e.1 (fun a => (List.range a.chans).foldl (fun m j => m + 2 ^ (a.first + j)) 0) y
  obtain ⟨p1, p2, p3⟩ := pumped e.1 (e.2.sats.foldl (fun s a => addReq e.1 a.hop false 4 0
    ((fun a : Sat => (List.range a.chans).foldl (fun m j => m + 2 ^ (a.first + j)) 0) a) 5 s) y)
  exact ⟨p1.trans (a1.trans h.1), p2.trans (a2.trans h.2.1), p3.trans (a3.trans h.2.2)⟩

theorem raiseWith_keeps {c : Nat} (hw : withdrawCode c = false) (cfg k i a b : Nat) (sc : List Nat) (s : State) :
    (raiseWith cfg c k i a b sc s).par = s.par ∧ (raiseWith cfg c k i a b sc s).sfi = s.sfi :=
  have keep := (raiseWith_rules cfg c k i a b sc s hw).keep
  ⟨keep.par, keep.sfi⟩

/-- The place that the fault of a detection takes. -/
def detKind (c : Nat) : Nat := if c = 0x6007 then 1 else 0
def detIndex (c : Nat) (cs : List Nat) : Nat := if c = 0x6007 then cs.headD 0 else 0

/-- The demand put in force for the code c. -/
def forced (c : Nat) (s : State) : State :=
  modSfi (fun x => { x with
    firstCause := if x.inForce then x.firstCause else c
    forceAt := if x.inForce then x.forceAt else s.clock
    inForce := true, safeHigh := false
    testPhase := if x.testPhase = 4 then 4 else 0, resetTest := false }) s

theorem decideOne_demand {e : Nat × Nat × List Nat} {s : State} (h : demands s e = true) : ∃ y, y.par = s.par ∧ y.spu = s.spu ∧ Forced y ∧
    decideOne e s = raiseWith 6 e.1 (detKind e.1) (detIndex e.1 e.2.2) 0 e.2.1 e.2.2 y := by
  obtain ⟨code, d1, cs⟩ := e
  have off : ¬(emberCode code && (emberEn s || !s.sfi.safeHigh)) = true := by
    intro k
    unfold demands at h
    rw [k] at h
    exact Bool.false_ne_true h
  refine ⟨_, ?_, ?_, ?_, if_neg off⟩
  · split
    · exact (clearPositions_keeps _).1
    · rfl
  · split
    · exact (clearPositions_keeps _).2.2
    · rfl
  · unfold Forced
    split
    · rw [(clearPositions_keeps _).2.1]
      exact ⟨rfl, rfl⟩
    · exact ⟨rfl, rfl⟩

theorem decideOne_ember {e : Nat × Nat × List Nat} {s : State} (h : demands s e = false) : ∃ y,
    y = raiseWith 1 e.1 (detKind e.1) (detIndex e.1 e.2.2) 0 e.2.1 e.2.2 s ∧ decideOne e s = if y.sfi.safeHigh then startEmber y else y := by
  obtain ⟨code, d1, cs⟩ := e
  have on : (emberCode code && (emberEn s || !s.sfi.safeHigh)) = true := by
    unfold demands at h
    simpa only [Bool.not_eq_false'] using h
  exact ⟨_, rfl, if_pos on⟩

theorem raised_here {c : Nat} (hw : withdrawCode c = false) (cfg a b : Nat) (cs sc : List Nat) (s : State) :
    (∀ c' k i, isHeld c' k i s = true → isHeld c' k i (raiseWith cfg c (detKind c) (detIndex c cs) a b sc s) = true) ∧
      (c ≠ 0x6007 → isHeld c 0 0 (raiseWith cfg c (detKind c) (detIndex c cs) a b sc s) = true) := by
  refine ⟨fun c' k i h => ?_, fun h => ?_⟩
  · rw [raiseWith_isHeld _ _ _ _ _ _ _ _ hw, h]
    rfl
  · rw [raiseWith_isHeld _ _ _ _ _ _ _ _ hw]
    simp [detKind, detIndex, h]

theorem decideOne_decided {e : Nat × Nat × List Nat} (hc : 0x6000 ≤ e.1 ∧ e.1 < 0x7000) (s : State) : Decided e s (decideOne e s) := by
  have stays : withdrawCode e.1 = false := not_withdrawn_of_safety hc
  cases hd : demands s e with
  | true =>
    obtain ⟨y, par, spu, ⟨inForce, low⟩, eq⟩ := decideOne_demand hd
    obtain ⟨par', sfi'⟩ := raiseWith_keeps stays 6 (detKind e.1) (detIndex e.1 e.2.2) 0 e.2.1 e.2.2 y
    obtain ⟨others, own⟩ := raised_here stays 6 0 e.2.1 e.2.2 e.2.2 y
    rw [eq]
    refine ⟨par'.trans par, fun c k i h => others c k i ?_, own, fun _ => ?_, fun h => absurd (hd.symm.trans h) (by decide)⟩
    · exact (isHeld_congr (congrArg Spu.held spu) c k i).trans h
    · unfold Forced
      rw [sfi']
      exact ⟨inForce, low⟩
  | false =>
    obtain ⟨y, hy, eq⟩ := decideOne_ember hd
    obtain ⟨par', sfi'⟩ := raiseWith_keeps stays 1 (detKind e.1) (detIndex e.1 e.2.2) 0 e.2.1 e.2.2 s
    obtain ⟨others, own⟩ := raised_here stays 1 0 e.2.1 e.2.2 e.2.2 s
    rw [← hy] at par' sfi' others own
    have same : (decideOne e s).par = y.par ∧ (decideOne e s).spu = y.spu ∧ (decideOne e s).sfi.inForce = y.sfi.inForce ∧
        (decideOne e s).sfi.safeHigh = y.sfi.safeHigh := by
      rw [eq]
      split <;> exact ⟨rfl, rfl, rfl, rfl⟩
    obtain ⟨par, spu, inForce, high⟩ := same
    have held (c k i : Nat) : isHeld c k i (decideOne e s) = isHeld c k i y := isHeld_congr (congrArg Spu.held spu) c k i
    refine ⟨par.trans par', fun c k i h => (held c k i).trans (others c k i h), fun h => (held ..).trans (own h), fun h => ?_, fun _ => ?_⟩
    · rw [hd] at h
      exact absurd h Bool.false_ne_true
    · rw [inForce, high, sfi']
      exact ⟨rfl, rfl⟩

theorem Forced.decided {e : Nat × Nat × List Nat} {s t : State} (h : Forced s) (k : Decided e s t) : Forced t := by
  cases hd : demands s e with
  | true => exact k.forced hd
  | false =>
    obtain ⟨inForce, high⟩ := k.same hd
    exact ⟨inForce.trans h.1, high.trans h.2⟩

theorem decideOnes_hold (ds : List (Nat × Nat × List Nat)) (hc : ∀ e ∈ ds, 0x6000 ≤ e.1 ∧ e.1 < 0x7000) (s : State) :
    (∀ c k i, isHeld c k i s = true → isHeld c k i (ds.foldl (fun s e => decideOne e s) s) = true) ∧
      (∀ e ∈ ds, e.1 ≠ 0x6007 → isHeld e.1 0 0 (ds.foldl (fun s e => decideOne e s) s) = true) ∧
      (Forced s ∨ (∃ e ∈ ds, demands s e = true) → Forced (ds.foldl (fun s e => decideOne e s) s)) := by
  induction ds generalizing s with
  | nil => exact ⟨fun _ _ _ h => h, fun _ h => (nomatch h), fun h => h.elim id fun ⟨_, h, _⟩ => nomatch h⟩
  | cons e ds ih =>
    have one := decideOne_decided (hc e (List.mem_cons_self ..)) s
    obtain ⟨held, each, force⟩ := ih (fun e' h => hc e' (List.mem_cons_of_mem _ h)) (decideOne e s)
    refine ⟨fun c k i h => held c k i (one.held c k i h), fun e' h hne => ?_, fun h => force ?_⟩
    · rcases List.mem_cons.1 h with rfl | h
      · exact held _ _ _ (one.fault hne)
      · exact each e' h hne
    · rcases h with h | ⟨e', h, hd⟩
      · exact .inl (h.decided one)
      · cases hd' : demands s e with
        | true => exact .inl (one.forced hd')
        | false =>
          rcases List.mem_cons.1 h with rfl | h
          · exact absurd (hd.symm.trans hd') (by decide)
          · exact .inr ⟨e', h, (demands_congr one.par (one.same hd').2 e').trans hd⟩

theorem decideAll_holds {s : State} (hc : ∀ e ∈ s.sfi.detected, 0x6000 ≤ e.1 ∧ e.1 < 0x7000) :
    (∀ e ∈ s.sfi.detected, e.1 ≠ 0x6007 → isHeld e.1 0 0 (decideAll s) = true) ∧ (demandWaiting s = true → Forced (decideAll s)) := by
  have mem (e : Nat × Nat × List Nat) : e ∈ s.sfi.detected.foldl (fun l e => insDet e l) [] ↔ e ∈ s.sfi.detected := by
    rw [mem_inDet]
    simp
  obtain ⟨-, each, force⟩ := decideOnes_hold (s.sfi.detected.foldl (fun l e => insDet e l) []) (fun e he => hc e ((mem e).1 he))
    (modSfi (fun x => { x with detected := [] }) s)
  refine ⟨fun e he => each e ((mem e).2 he), fun h => force (.inr ?_)⟩
  obtain ⟨e, he, hd⟩ := List.any_eq_true.1 h
  exact ⟨e, (mem e).2 he, hd⟩

theorem Forced.raiseStep {s : State} (h : Forced s) : raiseStep s = s := by
  refine if_pos ?_
  have stays : mayRaise s = false := by
    unfold mayRaise
    rw [h.1]
    simp
  rw [stays]
  simp

/-- What the drives and the status of a cycle leave: all of the island but its outputs and connections, and the faults. -/
structure Reported (s t : State) : Prop where
  inForce : t.sfi.inForce = s.sfi.inForce
  high : t.sfi.safeHigh = s.sfi.safeHigh
  ember : t.sfi.ember = s.sfi.ember
  spu : t.spu = s.spu
  dev : t.dev = s.dev
  sys : t.sys = s.sys

theorem Reported.refl (s : State) : Reported s s := ⟨rfl, rfl, rfl, rfl, rfl, rfl⟩
theorem Reported.trans {s t u : State} (h : Reported s t) (k : Reported t u) : Reported s u :=
  ⟨k.inForce.trans h.inForce, k.high.trans h.high, k.ember.trans h.ember, k.spu.trans h.spu, k.dev.trans h.dev, k.sys.trans h.sys⟩
theorem Reported.foldl {α : Type} {f : State → α → State} (hf : ∀ s x, Reported s (f s x)) (l : List α) (s : State) : Reported s (l.foldl f s) :=
  List.foldlRecOn (motive := Reported s) l f (.refl s) fun t ht x _ => ht.trans (hf t x)

theorem sendStatus_reported (k : Nat) (s : State) : Reported s (sendStatus k s) := by
  unfold sendStatus
  dsimp only
  split <;> exact ⟨rfl, rfl, rfl, rfl, rfl, rfl⟩

theorem driveSouts_reported (s : State) : Reported s (driveSouts s) := by
  refine Reported.foldl (fun x j => ?_) _ s
  exact ⟨rfl, rfl, rfl, rfl, rfl, rfl⟩
theorem statusChanges_reported (s : State) : Reported s (statusChanges s) := by
  refine Reported.foldl (fun x k => ?_) _ s
  split
  · exact sendStatus_reported ..
  · exact .refl x

theorem ended_high (x : State) : (ended x).sfi.safeHigh = (x.sfi.safeHigh && x.awake) := rfl
theorem ended_inForce (x : State) : (ended x).sfi.inForce = x.sfi.inForce := rfl
theorem ended_emberMode (x : State) : (ended x).sfi.ember = x.sfi.ember := rfl

/-! A demand is decided. -/

theorem resetStep_gathers {s : State} (hw : demandWaiting s = true) : Gathers s (resetStep s) := by
  unfold resetStep
  split
  · exact .refl s
  · have asked : Gathers s (modSfi (fun x => { x with resetReq := false }) s) := gathers_of rfl rfl rfl
    have waits := demandWaiting_gathers asked hw
    dsimp only
    rw [waits]
    simp only [Bool.true_or, if_true]
    have keep := (logEvent_logs (9 + (modSfi (fun x => { x with resetReq := false }) s).freeWord.1.toNat % 7) 0 0 0x6000 0
      (modSfi (fun x => { x with resetReq := false }) s).freeWord.2).reacts.rules.keep
    exact asked.trans (gathers_of (congrArg Sfi.detected keep.sfi) (congrArg Sfi.safeHigh keep.sfi) keep.par)

theorem cycle_decides {dt : Nat} {s : State} (hpow : s.dev.powered = true) (hw : demandWaiting s = true)
    (hc : ∀ e ∈ s.sfi.detected, 0x6000 ≤ e.1 ∧ e.1 < 0x7000 ∧ e.1 ≠ 0x6007) (x : SafeIn) :
    ∃ t, exec (.safetyCycle dt x) s = .next t ∧ t.sfi.inForce = true ∧ t.sfi.safeHigh = false ∧ ∀ e ∈ s.sfi.detected, isHeld e.1 0 0 t = true := by
  have runs := cycle_runs (dt := dt) hpow x
  have gathers := gathered_gathers x (s.begin dt)
  have waits := demandWaiting_gathers gathers (show demandWaiting (s.begin dt) = true from hw)
  obtain ⟨l, hl, hlc⟩ := (gathers.trans (resetStep_gathers waits)).more
  have wanted := demandWaiting_gathers (resetStep_gathers waits) waits
  generalize hy : resetStep (gathered x (s.begin dt)) = y at runs hl wanted
  rw [show (s.begin dt).sfi.detected = s.sfi.detected from rfl] at hl
  obtain ⟨each, force⟩ := decideAll_holds (s := y) (by
    rw [hl]
    exact fun e he => (List.mem_append.1 he).elim (fun h => ⟨(hc e h).1, (hc e h).2.1⟩) (hlc e))
  have now := force wanted
  have reported := (driveSouts_reported (decideAll y)).trans (statusChanges_reported _)
  rw [now.raiseStep] at runs
  have held : ∀ e ∈ s.sfi.detected, isHeld e.1 0 0 (decideAll y) = true := fun e he => each e (by rw [hl]; exact List.mem_append_left _ he) (hc e he).2.2
  generalize decideAll y = z at now reported runs held
  generalize statusChanges (driveSouts z) = w at reported runs
  refine exec_ends runs ?_
  refine ⟨?_, ?_, fun e he => ?_⟩
  · rw [ended_inForce, reported.inForce, now.1]
  · rw [ended_high, reported.high, now.2, Bool.false_and]
  · rw [ended_isHeld]
    exact (isHeld_congr (congrArg Spu.held reported.spu) ..).trans (held e he)

/-! A reset is accepted. -/

theorem mem_clearHelds {auto : Bool} (l : List Held) {y : Held} {s : State} (h : y ∈ (l.foldl (fun s f => clearHeld auto f s) s).spu.held) :
    y ∈ s.spu.held ∧ y ∉ l := by
  induction l generalizing s with
  | nil => exact ⟨h, fun k => nomatch k⟩
  | cons f l ih =>
    obtain ⟨held, rest⟩ := ih h
    obtain ⟨before, ne⟩ := mem_clearHeld_held held
    exact ⟨before, fun k => (List.mem_cons.1 k).elim ne rest⟩

/-- No fault that a clear means stays held. -/
theorem clearWhere_none {auto : Bool} {F : Held → Bool} {s : State} {h : Held} (hh : h ∈ (clearWhere auto F s).spu.held) : F h = false := by
  obtain ⟨held, rest⟩ := mem_clearHelds _ hh
  rw [Bool.eq_false_iff]
  exact fun k => rest (List.mem_filter.2 ⟨held, k⟩)

theorem Clears.island {s t : State} (h : Clears s t) : t.sfi = s.sfi ∧ t.par = s.par ∧ t.dev = s.dev ∧ t.sys = s.sys := by
  obtain ⟨p, c, l, n, k, w, a, o, rfl, -⟩ := h
  exact ⟨rfl, rfl, rfl, rfl⟩

theorem awake_congr {s t : State} (hdev : t.dev = s.dev) (hsys : t.sys = s.sys) : t.awake = s.awake := by
  unfold State.awake
  rw [hdev, hsys]

theorem emberCause_congr {s t : State} (hsfi : t.sfi = s.sfi) (hpar : t.par = s.par) : emberCause t = emberCause s := by
  unfold emberCause sf sin sout
  simp only [pn_congr hpar, hsfi]

/-- What the acceptance of a reset leaves where no cause is present. -/
structure Accepted (s t : State) : Prop where
  inForce : t.sfi.inForce = false
  ember : t.sfi.ember = false
  high : t.sfi.safeHigh = (s.awake || s.sfi.safeHigh)
  detected : t.sfi.detected = s.sfi.detected
  held : ∀ h ∈ t.spu.held, codeIsSafety h.lr.code = false
  dev : t.dev = s.dev
  sys : t.sys = s.sys

theorem acceptReset_accepted {s : State} (hcause : emberCause s = false) : Accepted s (acceptReset s) := by
  generalize hy : clearWhere false (fun h => codeIsSafety h.lr.code)
    (modSfi (fun x => { x with inForce := false, firstCause := 0, resetReq := false, resetTest := false }) s) = y
  obtain ⟨sfi, par, dev, sys⟩ := (clearWhere_clears false (fun h => codeIsSafety h.lr.code)
    (modSfi (fun x => { x with inForce := false, firstCause := 0, resetReq := false, resetTest := false }) s)).island
  have held : ∀ h ∈ y.spu.held, codeIsSafety h.lr.code = false := fun h hh => by
    rw [← hy] at hh
    exact clearWhere_none hh
  rw [hy] at sfi par dev sys
  have free (z : State) (hs : z.sfi.sin = s.sfi.sin ∧ z.sfi.sout = s.sfi.sout ∧ z.sfi.xmLost = s.sfi.xmLost ∧ z.sfi.supplyAge = s.sfi.supplyAge)
      (hp : z.par = s.par) : emberCause z = false := by
    obtain ⟨hsin, hsout, hxm, hage⟩ := hs
    rw [← hcause]
    unfold emberCause sf sin sout
    simp only [pn_congr hp, hsin, hsout, hxm, hage]
  have eq : acceptReset s = if (modSfi (fun x => { x with ember := false, emberLeft := emberT y }) y).awake
      then raiseSafe (modSfi (fun x => { x with ember := false, emberLeft := emberT y }) y)
      else modSfi (fun x => { x with ember := false, emberLeft := emberT y }) y := by
    unfold acceptReset
    dsimp only
    rw [hy, free y (by rw [sfi]; exact ⟨rfl, rfl, rfl, rfl⟩) par]
    rfl
  have awake : (modSfi (fun x => { x with ember := false, emberLeft := emberT y }) y).awake = s.awake := awake_congr dev sys
  have raised : raiseSafe (modSfi (fun x => { x with ember := false, emberLeft := emberT y }) y) =
      modSfi (fun x => { x with ember := false, emberLeft := emberT y, safeHigh := true }) y := by
    have calm := free (modSfi (fun x => { x with safeHigh := true }) (modSfi (fun x => { x with ember := false, emberLeft := emberT y }) y)) (by
      show y.sfi.sin = _ ∧ y.sfi.sout = _ ∧ y.sfi.xmLost = _ ∧ y.sfi.supplyAge = _
      rw [sfi]
      exact ⟨rfl, rfl, rfl, rfl⟩) par
    refine if_neg ?_
    rw [calm]
    exact Bool.false_ne_true
  have inForce : y.sfi.inForce = false := by rw [sfi]; rfl
  have high : y.sfi.safeHigh = s.sfi.safeHigh := by rw [sfi]; rfl
  have detected : y.sfi.detected = s.sfi.detected := by rw [sfi]; rfl
  rw [eq, awake, raised]
  cases hup : s.awake with
  | true =>
    rw [if_pos rfl]
    exact ⟨inForce, rfl, by rw [hup]; rfl, detected, held, dev, sys⟩
  | false =>
    rw [if_neg Bool.false_ne_true]
    exact ⟨inForce, rfl, by rw [hup, Bool.false_or]; exact high, detected, held, dev, sys⟩

/-! A cycle in which nothing happens. -/

/-- The conditions of an idle cycle. -/
structure IdleCycle (x : SafeIn) (s : State) : Prop where
  edges : x.edges = []
  back : x.back = false
  mon : x.mon = false
  lockstep : x.lockstep = false
  supply : x.supply = false
  watchdog : x.watchdog = false
  pins : ∀ i : Fin 8, sf s i 1 = 0 ∧ sf s (0x100 + i) 1 = 0 ∧ (sout s i).pulseEnd = none ∧ (sout s i).level = x.souts.getLsbD i

/-- The outputs whose marks of a bad read back have ended. -/
structure Mended (s t : State) : Prop where
  rest : ∃ v, t = { s with sfi := { s.sfi with sout := v } }
  pins : ∀ j, (sout t j).pulseEnd = (sout s j).pulseEnd ∧ (sout t j).level = (sout s j).level ∧ ((sout t j).bad = true → (sout s j).bad = true)

theorem Mended.refl (s : State) : Mended s s := ⟨⟨s.sfi.sout, rfl⟩, fun _ => ⟨rfl, rfl, id⟩⟩
theorem Mended.trans {s t u : State} (h : Mended s t) (k : Mended t u) : Mended s u := by
  obtain ⟨⟨v, rfl⟩, hp⟩ := h
  obtain ⟨⟨w, rfl⟩, kp⟩ := k
  refine ⟨⟨w, rfl⟩, fun j => ?_⟩
  obtain ⟨h1, h2, h3⟩ := hp j
  obtain ⟨k1, k2, k3⟩ := kp j
  exact ⟨k1.trans h1, k2.trans h2, fun h => h3 (k3 h)⟩

theorem sout_modSout (i j : Nat) (f : Sout → Sout) (s : State) : sout (modSout i f s) j = if i = j ∧ i < 8 then f (sout s j) else sout s j :=
  vget_vmod ..

theorem soutCycle_mended {j : Nat} {back : Bool} {s : State} (hend : (sout s j).pulseEnd = none) (hlevel : (sout s j).level = back) :
    Mended s (soutCycle j back s) := by
  unfold soutCycle
  dsimp only
  rw [hend]
  dsimp only
  rw [hlevel, bne_self_eq_false, if_neg Bool.false_ne_true]
  split
  · refine ⟨⟨_, rfl⟩, fun i => ?_⟩
    rw [sout_modSout]
    split
    · exact ⟨rfl, rfl, fun h => absurd h Bool.false_ne_true⟩
    · exact ⟨rfl, rfl, id⟩
  · exact .refl s

theorem sinCycle_idle {i : Nat} {s : State} (h : sf s i 1 = 0) : sinCycle i s = s := by
  unfold sinCycle
  dsimp only
  rw [h]
  rfl

theorem sensed_mended {x : SafeIn} {s : State} (h : IdleCycle x s) : Mended s (sensed x s) := by
  have ins : (List.range 8).foldl (fun s i => sinCycle i s) s = s :=
    List.foldlRecOn (motive := fun y => y = s) (List.range 8) _ rfl fun y hy i hi => by
      subst hy
      exact sinCycle_idle (h.pins ⟨i, List.mem_range.1 hi⟩).1
  unfold sensed
  rw [h.edges]
  dsimp only [List.foldl_nil]
  rw [ins]
  refine List.foldlRecOn (motive := Mended s) (List.range 8) _ (.refl s) fun y hy j hj => ?_
  obtain ⟨-, -, hend, hlevel⟩ := h.pins ⟨j, List.mem_range.1 hj⟩
  obtain ⟨e1, e2, -⟩ := hy.pins j
  exact hy.trans (soutCycle_mended (e1.trans hend) (e2.trans hlevel))

/-- What an idle cycle reads. -/
theorem gathered_idle {x : SafeIn} {s : State} (h : IdleCycle x s) : ∃ t, Mended s t ∧
    gathered x s = modSfi (fun y => { y with outBad := false, mon := false }) t := by
  refine ⟨sensed x s, sensed_mended h, ?_⟩
  have read (t : State) : backRead x t = modSfi (fun y => { y with outBad := false, mon := false }) t := by
    unfold backRead
    rw [h.back, h.mon, Bool.and_false]
    rfl
  unfold gathered
  rw [h.lockstep, h.supply, h.watchdog, read]
  rfl

/-- Causes and demands of a state whose inputs and connections are those of s, and whose outputs are no worse. -/
structure NoWorse (s y : State) : Prop where
  par : y.par = s.par
  inputs : y.sfi.sin = s.sfi.sin
  links : y.sfi.sc = s.sfi.sc
  xm : y.sfi.xmLost = s.sfi.xmLost
  age : y.sfi.supplyAge = s.sfi.supplyAge
  latched : y.sfi.latched = s.sfi.latched
  ember : y.sfi.ember = s.sfi.ember
  left : y.sfi.emberLeft = s.sfi.emberLeft
  outputs : ∀ j, (sout y j).bad = true → (sout s j).bad = true

theorem NoWorse.input {s y : State} (h : NoWorse s y) (i : Nat) : sin y i = sin s i := by
  unfold sin
  rw [h.inputs]
theorem NoWorse.link {s y : State} (h : NoWorse s y) (k : Nat) : sc y k = sc s k := by
  unfold sc
  rw [h.links]

theorem NoWorse.emberCause {s y : State} (h : NoWorse s y) (hc : emberCause s = false) : emberCause y = false := by
  have same (i f : Nat) : sf y i f = sf s i f := pn_congr h.par ..
  have inputs (i : Nat) : sin y i = sin s i := h.input i
  unfold Machine.emberCause at hc ⊢
  rw [Bool.or_eq_false_iff, Bool.or_eq_false_iff, Bool.or_eq_false_iff] at hc ⊢
  obtain ⟨⟨⟨pulses, outs⟩, xm⟩, age⟩ := hc
  refine ⟨⟨⟨?_, ?_⟩, h.xm.trans xm⟩, by rw [same, h.age]; exact age⟩
  · simp only [same, inputs]
    exact pulses
  · rw [List.any_eq_false] at outs ⊢
    intro j hj hb
    rw [same, Bool.and_eq_true] at hb
    exact outs j hj (by rw [hb.1, h.outputs j hb.2]; rfl)

theorem NoWorse.demandPresent {s y : State} (h : NoWorse s y) (hc : Machine.emberCause s = false) (hd : demandPresent s = false) :
    demandPresent y = false := by
  have same (i f : Nat) : sf y i f = sf s i f := pn_congr h.par ..
  have inputs (i : Nat) : sin y i = sin s i := h.input i
  have links (k : Nat) : sc y k = sc s k := h.link k
  unfold Machine.demandPresent scDemands scOn at hd ⊢
  rw [Bool.or_eq_false_iff] at hd ⊢
  refine ⟨?_, by rw [h.emberCause hc, Bool.and_false]⟩
  simp only [same, inputs, links]
  exact hd.1

theorem NoWorse.causePresent {s y : State} (h : NoWorse s y) (hpins : ∀ j : Fin 8, sf s (0x100 + j) 1 = 0) (hout : y.sfi.outBad = false)
    (hmon : y.sfi.mon = false) (hc : causePresent s = false) : causePresent y = false := by
  have same (i f : Nat) : sf y i f = sf s i f := pn_congr h.par ..
  have inputs (i : Nat) : sin y i = sin s i := h.input i
  unfold Machine.causePresent at hc ⊢
  simp only [Bool.or_eq_false_iff] at hc
  obtain ⟨⟨⟨⟨latched, -⟩, ins⟩, -⟩, -⟩ := hc
  rw [h.latched, latched, hout, hmon, Bool.and_false, Bool.or_false, Bool.or_false, Bool.or_eq_false_iff, Bool.or_eq_false_iff]
  refine ⟨⟨rfl, ?_⟩, ?_⟩
  · simp only [same, inputs]
    exact ins
  · refine List.any_eq_false.2 fun j hj hb => ?_
    rw [same, hpins ⟨j, List.mem_range.1 hj⟩] at hb
    exact Bool.false_ne_true hb

theorem resetStep_accepts {x : SafeIn} {s : State} (h : IdleCycle x s) (hdet : s.sfi.detected = []) (hreq : s.sfi.resetReq = true)
    (hconf : s.sfi.setConfirmed = true) (hpend : safetyPend s = false) (hdem : demandPresent s = false) (hcause : causePresent s = false)
    (hember : emberCause s = false) (hpos : heldCode 0x6007 s = false) : ∃ t, resetStep (gathered x s) = acceptReset t ∧ emberCause t = false ∧
      t.sfi.detected = [] ∧ t.sfi.safeHigh = s.sfi.safeHigh ∧ t.dev = s.dev ∧ t.sys = s.sys := by
  obtain ⟨t, ⟨⟨v, rfl⟩, pins⟩, eq⟩ := gathered_idle h
  rw [eq]
  generalize hz : modSfi (fun y => { y with outBad := false, mon := false }) { s with sfi := { s.sfi with sout := v } } = z
  generalize hy : modSfi (fun x => { x with resetReq := false }) z = y
  have req : z.sfi.resetReq = true := by rw [← hz]; exact hreq
  have noWorse : NoWorse s y := by
    rw [← hy, ← hz]
    exact ⟨rfl, rfl, rfl, rfl, rfl, rfl, rfl, rfl, fun j => (pins j).2.2⟩
  have rest : y.sfi.outBad = false ∧ y.sfi.mon = false ∧ y.sfi.detected = [] ∧ y.sfi.setConfirmed = true ∧ safetyPend y = false ∧
      heldCode 0x6007 y = false ∧ y.sfi.safeHigh = s.sfi.safeHigh ∧ y.dev = s.dev ∧ y.sys = s.sys := by
    rw [← hy, ← hz]
    exact ⟨rfl, rfl, hdet, hconf, hpend, hpos, rfl, rfl, rfl⟩
  obtain ⟨outBad, mon, detected, confirmed, pend, pos, high, dev, sys⟩ := rest
  have ember := noWorse.emberCause hember
  have demand := noWorse.demandPresent hember hdem
  have cause := noWorse.causePresent (fun j => (h.pins j).2.1) outBad mon hcause
  have waits : demandWaiting y = false := by
    unfold demandWaiting
    rw [detected]
    rfl
  have whole : needsTest y = false := by
    unfold needsTest
    rw [pos, Bool.false_and]
  refine ⟨y, ?_, ember, detected, high, dev, sys⟩
  unfold resetStep
  dsimp only
  rw [req, hy, waits, demand, cause, confirmed, pend, ember, whole]
  simp only [Bool.not_true, Bool.false_eq_true, if_false, Bool.and_false, Bool.or_false]

theorem decideAll_idle {s : State} (h : s.sfi.detected = []) : decideAll s = modSfi (fun x => { x with detected := [] }) s := by
  unfold decideAll
  rw [h]
  rfl

theorem cycle_accepts {dt : Nat} {x : SafeIn} {s : State} (hpow : s.dev.powered = true) (h : IdleCycle x s) (hdet : s.sfi.detected = [])
    (hreq : s.sfi.resetReq = true) (hconf : s.sfi.setConfirmed = true) (hpend : safetyPend s = false) (hdem : demandPresent s = false)
    (hcause : causePresent s = false) (hember : emberCause s = false) (hpos : heldCode 0x6007 s = false) :
    ∃ t, exec (.safetyCycle dt x) s = .next t ∧ t.sfi.inForce = false ∧ t.sfi.safeHigh = s.awake ∧ t.sfi.ember = false ∧
      ∀ h ∈ t.spu.held, codeIsSafety h.lr.code = false := by
  have idle : IdleCycle x (s.begin dt) := ⟨h.edges, h.back, h.mon, h.lockstep, h.supply, h.watchdog, h.pins⟩
  have runs := cycle_runs (dt := dt) hpow x
  obtain ⟨y, eq, ember, detected, high, dev, sys⟩ := resetStep_accepts idle hdet hreq hconf hpend hdem hcause hember hpos
  have accepted := acceptReset_accepted ember
  rw [eq, decideAll_idle (accepted.detected.trans detected)] at runs
  generalize hz : modSfi (fun x => { x with detected := [] }) (acceptReset y) = z at runs
  have after : z.sfi.inForce = false ∧ z.sfi.ember = false ∧ z.sfi.safeHigh = (y.awake || y.sfi.safeHigh) ∧
      (∀ h ∈ z.spu.held, codeIsSafety h.lr.code = false) ∧ z.dev = y.dev ∧ z.sys = y.sys := by
    rw [← hz]
    exact ⟨accepted.inForce, accepted.ember, accepted.high, accepted.held, accepted.dev, accepted.sys⟩
  obtain ⟨inForce, noEmber, raised, held, zdev, zsys⟩ := after
  have upY : y.awake = s.awake := awake_congr dev sys
  have upZ : z.awake = s.awake := (awake_congr zdev zsys).trans upY
  have stays : raiseStep z = z := by
    refine if_pos ?_
    rw [raised, upY]
    cases hup : s.awake with
    | true => rfl
    | false =>
      have rests : mayRaise z = false := by
        unfold mayRaise
        rw [upZ, hup]
        rfl
      rw [rests]
      simp
  have reported := (driveSouts_reported z).trans (statusChanges_reported _)
  rw [stays] at runs
  generalize statusChanges (driveSouts z) = w at reported runs
  refine exec_ends runs ?_
  rw [ended_inForce, ended_high, ended_emberMode, ended_held, reported.inForce, reported.high, reported.ember, reported.spu,
    awake_congr reported.dev reported.sys, upZ, raised, upY]
  exact ⟨inForce, by cases s.awake <;> simp, noEmber, held⟩

/-- Settles O51: a waiting demand is put in force by the next cycle with its fault held, and an idle cycle accepts a reset request. -/
theorem safetyCycleDecides : Obligations.SafetyCycleDecides := by
  unfold Obligations.SafetyCycleDecides
  intro dt x s hpow
  refine ⟨fun hw hc => cycle_decides hpow hw hc x, ?_⟩
  intro edges back mon lockstep supply watchdog pins hdet hreq hconf hpend hdem hcause hember hpos
  exact cycle_accepts hpow ⟨edges, back, mon, lockstep, supply, watchdog, pins⟩ hdet hreq hconf hpend hdem hcause hember hpos

end Sys2Proof.Machine
end

section
/-! Patterns: load, verify, activate, confirm, roll back (R496 to R501, Table 19-10). -/
namespace Sys2Proof.Machine

/-! A pattern that comes into force leaves the rest of the starts and the partitions as they are. -/

/-- The starts but for an interrupted self-test, the partitions but for their interrupts, and the fault of a trial that expired. -/
structure Follows (s t : State) : Prop where
  sys : ∃ b, t.sys = { s.sys with bist := b }
  mute : ∀ p, (t.hp p).mute = (s.hp p).mute
  expired : isHeld 0x7403 0 0 t = isHeld 0x7403 0 0 s

theorem Follows.refl (s : State) : Follows s s := ⟨⟨_, rfl⟩, fun _ => rfl, rfl⟩
theorem Follows.trans {s t u : State} (h : Follows s t) (k : Follows t u) : Follows s u := by
  obtain ⟨_, h1⟩ := h.sys
  obtain ⟨b, k1⟩ := k.sys
  exact ⟨⟨b, by rw [k1, h1]⟩, fun p => (k.mute p).trans (h.mute p), k.expired.trans h.expired⟩
theorem Follows.ite {c : Prop} [Decidable c] {s a b : State} (h : Follows s a) (k : Follows s b) : Follows s (if c then a else b) := by
  split <;> assumption
theorem follows_of {s t : State} (hsys : t.sys = s.sys) (hhst : t.hst = s.hst) (hspu : t.spu = s.spu := by exact rfl) : Follows s t :=
  ⟨⟨_, hsys⟩, fun p => by unfold State.hp; rw [hhst], isHeld_congr (congrArg Spu.held hspu) ..⟩
theorem Promotes.follows {s t : State} (h : Promotes s t) : Follows s t := ⟨h.sys, h.mute, isHeld_congr h.held ..⟩
theorem condHolds_follows {c : Nat} (hc : c ≠ 0x7403) (k i : Nat) (s : State) : Follows s (condHolds c k i s) :=
  ⟨(condHolds_rules ..).keep.sys, (condHolds_rules ..).keep.hp, condHolds_isHeld (by simp [hc]) s⟩

theorem patSafety_follows (x : Pat) (s : State) : Follows s (patSafety x s) := by
  have set (f : Sfi → Sfi) (y : State) : Follows y (modSfi f y) := follows_of rfl rfl
  have waits (q : List Pend) : Follows s { s with pend := q } := follows_of rfl rfl
  have confirmed (y : State) : Follows y (confirmSet y) := by
    obtain ⟨f, hf, -⟩ := confirmSet_eq y
    rw [hf]
    exact (promoteWhere_promotes ..).follows.trans (set ..)
  exact .ite (set ..) (.ite (((waits _).trans (set ..)).trans (confirmed _)) ((waits _).trans (set ..)))

/-- The fields of a pattern loaded, with what retention keeps of them. -/
def patLoaded (x : Pat) (s : State) : State :=
  { s with
    par := patPar s.par x, pend := []
    bsd := { s.bsd with patOut := patOuts x }
    mod := { s.mod with ch := s.mod.ch.map (fun e => (e.1, { e.2 with forceBy := none })) }
    sys := { s.sys with
    inForce := true
    keepRet := x.entries.foldl (fun t e =>
      if idUnit e.1 = 15 && 0x20 ≤ idField e.1 && idField e.1 < 0x60 then tabPut t (idField e.1 - 0x20) (BitVec.ofNat 32 (lo32 e.2)) else t)
      s.sys.keepRet } }

theorem putInForce_follows (x : Pat) (s : State) : Follows (patLoaded x s) (putInForce x s) := by
  have grid (d : Prop) [Decidable d] (y : State) : Follows y ((if d then tickGrid else id) y) := by
    split
    · exact follows_of rfl rfl
    · exact .refl y
  exact (((patSafety_follows x _).trans (patFollow_promotes s _).follows).trans (grid (s.dev = .boot) _)).trans
    ((condHolds_follows (by decide) 0 0 _).trans (condHolds_follows (by decide) 0 0 _))

/-- What stands of the starts once a pattern is in force. -/
theorem putInForce_stands (x : Pat) (s : State) : (∃ k b, (putInForce x s).sys = { s.sys with inForce := true, keepRet := k, bist := b }) ∧
    ∀ p, ((putInForce x s).hp p).mute = (s.hp p).mute := by
  obtain ⟨⟨b, e⟩, mute, -⟩ := putInForce_follows x s
  exact ⟨⟨_, b, e⟩, mute⟩

/-! The commands. -/

section
variable {p : Fin 8} {s : State}

theorem patCmd_body {op : Nat} {right : State → Right} (h : Granted p op 0x300 (right s) (right s).acts s) (hdev : s.dev ≠ .fallback) (dt : Nat)
    (hright : right (s.begin dt) = right s) (body : State → State) : patCmd p op right body (s.begin dt) = body (takeMsg p op (s.begin dt)) := by
  have granted : Granted p op 0x300 (right (s.begin dt)) (right (s.begin dt)).acts (s.begin dt) := by
    rw [hright]
    exact h.begin dt
  refine (hostCmd_body granted _).trans (if_neg ?_)
  rw [takeMsg_dev]
  exact hdev

theorem takeMsg_sys (p : Fin 8) (op dt : Nat) (s : State) : (takeMsg p op (s.begin dt)).sys = s.sys := rfl

theorem ok_ends {op since : Nat} (h : Accepts p op since s) {dt : Nat} {x : State} (hx : (x.hp p).mute = ((takeMsg p op (s.begin dt)).hp p).mute)
    (ws : List Word) : Answered p op 0 ws s (ended (ok p ws x)) := (ok_answered (h.begin dt) hx ws).ended
theorem refuse_ends {op since : Nat} (h : Accepts p op since s) {dt : Nat} {x : State}
    (hx : (x.hp p).mute = ((takeMsg p op (s.begin dt)).hp p).mute) (st d0 d1 : Nat) :
    Answered p op st [BitVec.ofNat 32 d0, BitVec.ofNat 32 d1] s (ended (refuse p st d0 d1 x)) := (refuse_answered (h.begin dt) hx st d0 d1).ended
theorem ended_ok (ws : List Word) (x : State) : (ended (ok p ws x)).sys = x.sys ∧ (ended (ok p ws x)).par = x.par := by
  rw [ended_sys, ended_par]
  exact ⟨(ok_talks ..).keep.sys, (ok_talks ..).keep.par⟩
theorem ended_refuse (st d0 d1 : Nat) (x : State) : (ended (refuse p st d0 d1 x)).sys = x.sys ∧ (ended (refuse p st d0 d1 x)).par = x.par := by
  rw [ended_sys, ended_par]
  exact ⟨(refuse_talks ..).keep.sys, (refuse_talks ..).keep.par⟩
theorem modSys_mute (f : Sys → Sys) (x : State) (q : Nat) : ((modSys f x).hp q).mute = (x.hp q).mute := rfl

theorem wordBytes_length (ws : List Word) : (wordBytes ws).length = 4 * ws.length := by
  induction ws with
  | nil => rfl
  | cons w ws ih =>
    have four : (bytesBE 4 w.toNat).length = 4 := by simp [bytesBE]
    rw [wordBytes, List.flatMap_cons, List.length_append, four, List.length_cons]
    rw [wordBytes] at ih
    omega

theorem pattern_loads {ws : List Word} (h : Granted p 0x0601 0x300 (patRight s p) (patRight s p).acts s) (hdev : s.dev ≠ .fallback)
    (hsize : 16 + 4 * (1 + ws.length) ≤ maxMsg s p) (dt : Nat) : ∃ t, exec (.patternLoad dt p 0 ws) s = .next t ∧
      Answered p 0x0601 0 [BitVec.ofNat 32 (4 * ws.length)] s t ∧ t.sys.staging = wordBytes ws ∧ t.sys.verified = none ∧ t.par = s.par := by
  have fits : 4 * ws.length ≤ 1048576 := by
    have most : maxMsg s p ≤ 4096 := by unfold maxMsg; split <;> omega
    omega
  have body : exec (.patternLoad dt p 0 ws) s = done (ok p [BitVec.ofNat 32 (4 * ws.length)]
      (modSys (fun y => { y with staging := wordBytes ws, verified := none }) (takeMsg p 0x0601 (s.begin dt)))) := by
    refine congrArg done ((patCmd_body (right := fun s => patRight s p) h hdev dt rfl _).trans ?_)
    refine (if_neg (Nat.not_lt.2 hsize)).trans ((if_neg ?_).trans ?_)
    · simp [wordBytes_length, fits]
    · simp [wordBytes_length]
  refine exec_ends body ?_
  obtain ⟨sys, par⟩ := ended_ok (p := p) [BitVec.ofNat 32 (4 * ws.length)]
    (modSys (fun y => { y with staging := wordBytes ws, verified := none }) (takeMsg p 0x0601 (s.begin dt)))
  rw [sys, par]
  exact ⟨ok_ends h.1 (modSys_mute ..) _, rfl, rfl, takeMsg_par p 0x0601 dt s⟩

theorem pattern_verifies {x : Pat} (h : Granted p 0x0602 0x300 (patRight s p) (patRight s p).acts s) (hdev : s.dev ≠ .fallback) {dt : Nat}
    (hx : verifyPat (takeMsg p 0x0602 (s.begin dt)) = .ok x) : ∃ t, exec (.patternVerify dt p) s = .next t ∧ t.sys.verified = some x ∧ t.par = s.par ∧
      Answered p 0x0602 0 ([BitVec.ofNat 32 x.counter, BitVec.ofNat 32 (patLength s.sys.staging)] ++ bytesWords x.label) s t := by
  have body : exec (.patternVerify dt p) s = done (ok p ([BitVec.ofNat 32 x.counter, BitVec.ofNat 32 (patLength s.sys.staging)] ++ bytesWords x.label)
      (modSys (fun y => { y with verified := some x }) (takeMsg p 0x0602 (s.begin dt)))) := by
    refine congrArg done ((patCmd_body (right := fun s => patRight s p) h hdev dt rfl _).trans ?_)
    rw [hx, takeMsg_sys]
  refine exec_ends body ?_
  obtain ⟨sys, par⟩ := ended_ok (p := p) ([BitVec.ofNat 32 x.counter, BitVec.ofNat 32 (patLength s.sys.staging)] ++ bytesWords x.label)
    (modSys (fun y => { y with verified := some x }) (takeMsg p 0x0602 (s.begin dt)))
  rw [sys, par]
  exact ⟨rfl, takeMsg_par p 0x0602 dt s, ok_ends h.1 (modSys_mute ..) _⟩

theorem pattern_refused {r : Ref} (h : Granted p 0x0602 0x300 (patRight s p) (patRight s p).acts s) (hdev : s.dev ≠ .fallback) {dt : Nat}
    (hr : verifyPat (takeMsg p 0x0602 (s.begin dt)) = .error r) : ∃ t, exec (.patternVerify dt p) s = .next t ∧ t.sys.verified = s.sys.verified ∧
      t.par = s.par ∧ Answered p 0x0602 r.status [BitVec.ofNat 32 r.d0, BitVec.ofNat 32 r.d1] s t := by
  have body : exec (.patternVerify dt p) s = done (refuse p r.status r.d0 r.d1 (takeMsg p 0x0602 (s.begin dt))) := by
    refine congrArg done ((patCmd_body (right := fun s => patRight s p) h hdev dt rfl _).trans ?_)
    rw [hr]
  refine exec_ends body ?_
  obtain ⟨sys, par⟩ := ended_refuse (p := p) r.status r.d0 r.d1 (takeMsg p 0x0602 (s.begin dt))
  rw [sys, par]
  exact ⟨rfl, takeMsg_par p 0x0602 dt s, refuse_ends h.1 rfl ..⟩

theorem pattern_confirms {w : Word} (h : Granted p 0x0604 0x300 .token true s) (hdev : s.dev ≠ .fallback) (htrial : s.sys.trial = true)
    (hleft : s.sys.trialLeft ≠ 0) (hctr : (patOf s).counter = w.toNat) (dt : Nat) : ∃ t, exec (.patternConfirm dt p w) s = .next t ∧
      t.sys.trial = false ∧ t.sys.trialLeft = 0 ∧ t.sys.cur = s.sys.cur ∧ t.par = s.par ∧ Answered p 0x0604 0 [] s t := by
  have body : exec (.patternConfirm dt p w) s = done (ok p [] (modSys (fun y => { y with trial := false, trialLeft := 0 })
      (takeMsg p 0x0604 (s.begin dt)))) := by
    refine congrArg done ((patCmd_body (right := fun _ => .token) h hdev dt rfl _).trans ?_)
    have goes : (!s.sys.trial || decide (s.sys.trialLeft = 0)) = false := by
      rw [htrial, decide_eq_false hleft]
      rfl
    refine (if_neg ?_).trans (if_neg (Classical.not_not.2 hctr))
    rw [takeMsg_sys, goes]
    exact Bool.false_ne_true
  refine exec_ends body ?_
  obtain ⟨sys, par⟩ := ended_ok (p := p) [] (modSys (fun y => { y with trial := false, trialLeft := 0 }) (takeMsg p 0x0604 (s.begin dt)))
  rw [sys, par]
  exact ⟨rfl, rfl, rfl, takeMsg_par p 0x0604 dt s, ok_ends h.1 (modSys_mute ..) _⟩

/-- What an activated pattern does to the starts. -/
def activated (x : Pat) (n : Nat) (y : Sys) : Sys :=
  { y with slot := vmod y.slot (1 - y.cur) (fun _ => x), cur := 1 - y.cur, patHigh := x.counter, trial := n != 0, trialLeft := n }

/-- A start that waited for its pattern is timed anew. -/
def startAgain (s : State) : State := if s.dev = .boot && !s.sys.succeeded then modSys (fun y => { y with targetClock := none }) s else s

theorem startAgain_stands (s : State) : (startAgain s).sys.cur = s.sys.cur ∧ (startAgain s).sys.slot = s.sys.slot ∧
    (startAgain s).sys.patHigh = s.sys.patHigh ∧ (startAgain s).sys.trial = s.sys.trial ∧ (startAgain s).sys.trialLeft = s.sys.trialLeft ∧
    (startAgain s).hst = s.hst := by
  unfold startAgain
  split <;> exact ⟨rfl, rfl, rfl, rfl, rfl, rfl⟩

/-- A pattern put in force whose conditions hold, and its faults cleared. -/
def inForceNow (x : Pat) (s : State) : State := condHolds 0x7402 0 0 (condHolds 0x7403 0 0 (putInForce x s))

theorem inForceNow_stands (x : Pat) (s : State) : (∃ k b, (inForceNow x s).sys = { s.sys with inForce := true, keepRet := k, bist := b }) ∧
    ∀ p, ((inForceNow x s).hp p).mute = (s.hp p).mute := by
  obtain ⟨⟨k, b, e⟩, mute⟩ := putInForce_stands x s
  have cleared := (condHolds_rules 0x7403 0 0 (putInForce x s)).trans (condHolds_rules 0x7402 0 0 _)
  obtain ⟨⟨c, e'⟩, mute'⟩ := And.intro cleared.keep.sys cleared.keep.hp
  exact ⟨⟨k, c, e'.trans (by rw [e])⟩, fun p => (mute' p).trans (mute p)⟩

/-- An answer that a partition which drops none is given. -/
theorem told_of_mute {x : State} {y : State} (hdrop : (y.hp p).drop = false) (hmute : (x.hp p).mute = (y.hp p).mute) (ws : List Word) :
    ∃ r : Resp, .resp p r ∈ (ended (ok p ws x)).out ∧ r.status = 0 ∧ r.payload = ws := by
  obtain ⟨r, told, status, payload⟩ := ok_told p ws ((drop_of_mute p hmute).trans hdrop)
  exact ⟨r, mem_ended told, status, payload⟩

theorem pattern_activates {w : Word} {x : Pat} (h : Granted p 0x0603 0x300 (actRight s p) (actRight s p).acts s) (hdev : s.dev ≠ .fallback)
    (hwhen : s.dev = .parked ∨ waitsPattern s = true) (htrial : s.sys.trial = false) (hver : s.sys.verified = some x)
    (hnewer : s.sys.patHigh < x.counter) (htime : w = 0 ∨ (600 ≤ w.toNat ∧ w.toNat ≤ 86400)) (hcur : s.sys.cur < 2) (dt : Nat) :
    ∃ t, exec (.patternActivate dt p w) s = .next t ∧ t.sys.cur = 1 - s.sys.cur ∧ patSlot t (1 - s.sys.cur) = x ∧ t.sys.patHigh = x.counter ∧
      t.sys.trial = (w != 0) ∧ t.sys.trialLeft = w.toNat ∧ t.sys.inForce = true ∧
      ∃ r, .resp p r ∈ t.out ∧ r.status = 0 ∧ r.payload = [BitVec.ofNat 32 x.counter] := by
  generalize hy : inForceNow x (startAgain (modSys (activated x w.toNat) (takeMsg p 0x0603 (s.begin dt)))) = y
  have body : exec (.patternActivate dt p w) s = done (ok p [BitVec.ofNat 32 x.counter] y) := by
    refine congrArg done ((patCmd_body (right := fun s => actRight s p) h hdev dt rfl _).trans ?_)
    have here : ¬(decide (s.dev ≠ .parked) && !waitsPattern s) = true := by
      rcases hwhen with k | k <;> rw [k] <;> simp
    have inTime : ¬(decide (w.toNat ≠ 0) && (decide (w.toNat < 600) || decide (86400 < w.toNat))) = true := by
      rcases htime with rfl | ⟨k, l⟩
      · simp
      · simp only [Bool.and_eq_true, Bool.or_eq_true, decide_eq_true_eq, not_and, not_or, Nat.not_lt]
        exact fun _ => ⟨k, l⟩
    refine (if_neg here).trans ((if_neg (show ¬s.sys.trial = true from htrial ▸ Bool.false_ne_true)).trans ?_)
    rw [takeMsg_sys, hver]
    refine (if_neg inTime).trans ((if_neg (Nat.not_le.2 hnewer)).trans ?_)
    rw [← hy]
    rfl
  obtain ⟨⟨k, b, sys⟩, mute⟩ := inForceNow_stands x (startAgain (modSys (activated x w.toNat) (takeMsg p 0x0603 (s.begin dt))))
  obtain ⟨cur, slot, high, trial, left, hst⟩ := startAgain_stands (modSys (activated x w.toNat) (takeMsg p 0x0603 (s.begin dt)))
  have same : ((startAgain (modSys (activated x w.toNat) (takeMsg p 0x0603 (s.begin dt)))).hp p).mute = ((takeMsg p 0x0603 (s.begin dt)).hp p).mute := by
    unfold State.hp
    rw [hst]
    rfl
  have drop : ((takeMsg p 0x0603 (s.begin dt)).hp p).drop = false := (takeMsg_drop p 0x0603 (s.begin dt)).trans h.1.2.2.1
  rw [hy] at sys mute
  have answered := told_of_mute drop ((mute p).trans same) [BitVec.ofNat 32 x.counter]
  have fields : y.sys.cur = 1 - s.sys.cur ∧ y.sys.slot = vmod s.sys.slot (1 - s.sys.cur) (fun _ => x) ∧ y.sys.patHigh = x.counter ∧
      y.sys.trial = (w.toNat != 0) ∧ y.sys.trialLeft = w.toNat ∧ y.sys.inForce = true := by
    rw [sys]
    exact ⟨cur, slot, high, trial, left, rfl⟩
  obtain ⟨cur, slot, high, trial, left, inForce⟩ := fields
  have placed : patSlot (ended (ok p [BitVec.ofNat 32 x.counter] y)) (1 - s.sys.cur) = x := by
    unfold patSlot
    rw [(ended_ok ..).1, slot, vget_vmod, if_pos ⟨rfl, by omega⟩]
  have asked : (w.toNat != 0) = (w != 0) := by
    rw [Bool.eq_iff_iff, bne_iff_ne, bne_iff_ne, ne_eq, ne_eq, ← BitVec.toNat_inj]
    rfl
  refine exec_ends body ?_
  rw [placed, (ended_ok ..).1, cur, high, trial, left, inForce, asked]
  exact ⟨rfl, rfl, rfl, rfl, rfl, rfl, answered⟩

theorem swapPattern_stands (s : State) : (∃ k b, (swapPattern s).sys =
      { s.sys with cur := 1 - s.sys.cur, trial := false, trialLeft := 0, inForce := true, keepRet := k, bist := b }) ∧
    ∀ p, ((swapPattern s).hp p).mute = (s.hp p).mute :=
  putInForce_stands _ (modSys (fun y => { y with cur := 1 - y.cur, trial := false, trialLeft := 0 }) s)

theorem pattern_rolls_back (h : Granted p 0x0605 0x300 .token true s) (hdev : s.dev ≠ .fallback) (hwhen : s.dev = .parked ∨ waitsPattern s = true)
    (hstands : patStands s (prevPat s) = true) (hctr : ctrOf s 1 ≤ (prevPat s).counter) (dt : Nat) :
    ∃ t, exec (.patternRollback dt p) s = .next t ∧ t.sys.cur = 1 - s.sys.cur ∧ t.sys.inForce = true ∧ t.sys.trial = false ∧
      ∃ r, .resp p r ∈ t.out ∧ r.status = 0 ∧ r.payload = [BitVec.ofNat 32 (prevPat s).counter] := by
  generalize hy : condHolds 0x7403 0 0 (swapPattern (takeMsg p 0x0605 (s.begin dt))) = y
  have body : exec (.patternRollback dt p) s = done (ok p [BitVec.ofNat 32 (patOf y).counter] y) := by
    refine congrArg done ((patCmd_body (right := fun _ => .token) h hdev dt rfl _).trans ?_)
    have here : ¬(decide (s.dev ≠ .parked) && !waitsPattern s) = true := by
      rcases hwhen with k | k <;> rw [k] <;> simp
    have stands : ¬(!patStands s (prevPat s)) = true := by
      rw [hstands]
      exact Bool.false_ne_true
    refine (if_neg here).trans ((if_neg stands).trans ((if_neg (Nat.not_lt.2 hctr)).trans ?_))
    rw [← hy]
  obtain ⟨⟨k, b, swapped⟩, swapMute⟩ := swapPattern_stands (takeMsg p 0x0605 (s.begin dt))
  have cleared := condHolds_rules 0x7403 0 0 (swapPattern (takeMsg p 0x0605 (s.begin dt)))
  obtain ⟨⟨c, e⟩, mute⟩ := And.intro cleared.keep.sys cleared.keep.hp
  rw [hy] at e mute
  have drop : ((takeMsg p 0x0605 (s.begin dt)).hp p).drop = false := (takeMsg_drop p 0x0605 (s.begin dt)).trans h.1.2.2.1
  have answered := told_of_mute drop ((mute p).trans (swapMute p)) [BitVec.ofNat 32 (patOf y).counter]
  have fields : y.sys.cur = 1 - s.sys.cur ∧ y.sys.slot = s.sys.slot ∧ y.sys.inForce = true ∧ y.sys.trial = false := by
    rw [e, swapped]
    exact ⟨rfl, rfl, rfl, rfl⟩
  obtain ⟨cur, slot, inForce, trial⟩ := fields
  have previous : patOf y = prevPat s := by
    unfold patOf prevPat patSlot
    rw [slot, cur]
  refine exec_ends body ?_
  rw [(ended_ok ..).1, cur, inForce, trial]
  rw [previous] at answered ⊢
  exact ⟨rfl, rfl, rfl, answered⟩

theorem pattern_status (h : Granted p 0x0606 0x300 .observe false s) (hdev : s.dev ≠ .fallback) (dt : Nat) :
    ∃ t ws, exec (.patternStatus dt p) s = .next t ∧ Answered p 0x0606 0 ws s t ∧ ws.headD 0 = BitVec.ofNat 32 (patSlot s 0).counter ∧
      ws.getLast? = some (BitVec.ofNat 32 s.sys.trialLeft) := by
  obtain ⟨first, stg, body⟩ : ∃ first stg, exec (.patternStatus dt p) s =
      done (ok p ((BitVec.ofNat 32 (patSlot s 0).counter :: first) ++ [stg, BitVec.ofNat 32 s.sys.trialLeft]) (takeMsg p 0x0606 (s.begin dt))) :=
    ⟨_, _, congrArg done (patCmd_body (right := fun _ => .observe) h hdev dt rfl _)⟩
  obtain ⟨t, ht, answered⟩ := exec_ends (P := fun t => Answered p 0x0606 0 _ s t) body (ok_ends h.1 rfl _)
  exact ⟨t, _, ht, answered, rfl, List.getLast?_append.trans rfl⟩

end

/-- Settles O55: each pattern command changes the staged, verified, current and trial state as it says, and is answered. -/
theorem patternCommands : Obligations.PatternCommands := by
  unfold Obligations.PatternCommands
  intro dt p s
  refine ⟨fun ws h hdev hsize => pattern_loads h hdev hsize dt, fun h hdev => ⟨fun x hx => pattern_verifies h hdev hx, fun r hr => pattern_refused h hdev hr⟩,
    ?_, ?_, ?_, fun h hdev => pattern_status h hdev dt⟩
  · intro w x h hdev hwhen htrial hver hnewer htime hcur
    exact pattern_activates h hdev hwhen htrial hver hnewer htime hcur dt
  · intro w h hdev htrial hleft hctr
    exact pattern_confirms h hdev htrial hleft hctr dt
  · intro h hdev hwhen hstands hctr
    exact pattern_rolls_back h hdev hwhen hstands hctr dt

end Sys2Proof.Machine
end

section
/-! Images, and the owner's and the fuses' commands (R495, R511 to R519, Table 20-4). -/
namespace Sys2Proof.Machine

/-! A command that changes the state and is answered. -/

/-- The state y, answered to a partition. -/
structure Replied (p : Fin 8) (y t : State) : Prop where
  answer : ∃ st ws m x, t = ended (respondWith p st ws m x y)

section
variable {p : Fin 8} {y t : State} (h : Replied p y t)
include h

theorem Replied.keep : ∃ z, t = ended z ∧ HostOnly y z := by
  obtain ⟨st, ws, m, x, e⟩ := h.answer
  exact ⟨_, e, (respondWith_talks ..).keep⟩
theorem Replied.sys : t.sys = y.sys := by
  obtain ⟨z, rfl, k⟩ := h.keep
  exact (ended_sys z).trans k.sys
theorem Replied.sec : t.sec = y.sec := by
  obtain ⟨z, rfl, k⟩ := h.keep
  exact (ended_sec z).trans k.sec
theorem Replied.par : t.par = y.par := by
  obtain ⟨z, rfl, k⟩ := h.keep
  exact (ended_par z).trans k.par
theorem Replied.pend : t.pend = y.pend := by
  obtain ⟨z, rfl, k⟩ := h.keep
  exact (ended_pend z).trans k.pend
theorem Replied.confirmed : t.sfi.setConfirmed = y.sfi.setConfirmed := by
  obtain ⟨z, rfl, k⟩ := h.keep
  exact (ended_setConfirmed z).trans (congrArg Sfi.setConfirmed k.sfi)

end

/-- A command that ends in the answer of the state y. -/
theorem command_replies {p : Fin 8} {op since : Nat} {s : State} (h : Accepts p op since s) {dt : Nat} {o : Host.Outcome State Fault Refusal} {y : State}
    {st : Nat} {ws : List Word} {m x : Bool} (runs : o = done (respondWith p st ws m x y))
    (hmute : (y.hp p).mute = ((takeMsg p op (s.begin dt)).hp p).mute) : ∃ t, o = .next t ∧ Answered p op st ws s t ∧ Replied p y t :=
  ⟨_, runs, (respondWith_answered (h.begin dt) hmute ..).ended, ⟨_, _, _, _, rfl⟩⟩

/-! Images. -/

theorem tabGet_fold_tabPut {α : Type} (f : Nat → α) (d : α) (n : Nat) (t : Tab α) {i : Nat} (hi : i < n) :
    tabGet ((List.range n).foldl (fun t i => tabPut t (0 + i) (f i)) t) i d = f i := by
  induction n with
  | zero => omega
  | succ n ih =>
    rw [List.range_succ, List.foldl_append, List.foldl_cons, List.foldl_nil]
    by_cases hin : i = n
    · rw [hin, Nat.zero_add, tabGet_tabPut_self]
    · rw [tabGet_tabPut_ne _ (by omega)]
      exact ih (by omega)

section
variable {p : Fin 8} {s : State}

theorem fwSlot_eq {y : State} {v : Vector Fw 2} (h : y.sys.fw = v) (i : Nat) : fwSlot y i = vget v i {} := by
  unfold fwSlot
  rw [h]

theorem sized_body {n : Nat} (hsize : 16 + 4 * n ≤ maxMsg s p) (op dt : Nat) (body : State → State) :
    sized p n body (takeMsg p op (s.begin dt)) = body (takeMsg p op (s.begin dt)) := if_neg (Nat.not_lt.2 hsize)

theorem maxMsg_le (s : State) (p : Nat) : maxMsg s p ≤ 4096 := by
  unfold maxMsg
  split <;> omega

theorem image_loads {slot : Fin 2} {ws : List Word} (h : Granted p 0x0610 0x300 (.priv pvService) false s) (hslot : slot.val ≠ s.sys.runSlot)
    (hsize : 16 + 4 * (2 + ws.length) ≤ maxMsg s p) (dt : Nat) : ∃ t, exec (.imageLoad dt p slot 0 ws) s = .next t ∧
      Answered p 0x0610 0 [BitVec.ofNat 32 (4 * ws.length)] s t ∧ (fwSlot t slot).sigOk = false ∧ fwSlot t (1 - slot.val) = fwSlot s (1 - slot.val) ∧
      ∀ i : Nat, i < ws.length → tabGet (fwSlot t slot).words i 0 = ws.getD i 0 := by
  have small : ¬imageMax < 4 * ws.length := by
    have most := maxMsg_le s p
    unfold imageMax
    omega
  generalize hf : ({ fwSlot (takeMsg p 0x0610 (s.begin dt)) slot with
    words := (List.range ws.length).foldl (fun t i => tabPut t (0 + i) (ws.getD i 0)) [], sigOk := false } : Fw) = f
  have runs : exec (.imageLoad dt p slot 0 ws) s = done (ok p [BitVec.ofNat 32 (4 * ws.length)]
      (modSys (fun y => { y with fw := vmod y.fw slot (fun _ => f) }) (takeMsg p 0x0610 (s.begin dt)))) := by
    refine congrArg done ((hostCmd_body (h.begin dt) _).trans ((sized_body hsize _ _ _).trans ((if_neg hslot).trans ((if_neg ?_).trans ?_))))
    · simpa using small
    · rw [← hf]
      rfl
  obtain ⟨t, ht, answered, replied⟩ := command_replies h.1 runs (modSys_mute ..)
  have fw := fwSlot_eq (y := t) (congrArg Sys.fw replied.sys)
  refine ⟨t, ht, answered, ?_⟩
  have own : fwSlot t slot = f := by
    rw [fw]
    exact (vget_vmod ..).trans (if_pos ⟨rfl, slot.isLt⟩)
  have other : fwSlot t (1 - slot.val) = fwSlot s (1 - slot.val) := by
    rw [fw]
    exact (vget_vmod ..).trans (if_neg fun e => by omega)
  rw [own, ← hf]
  exact ⟨rfl, other, fun i hi => tabGet_fold_tabPut (fun i => ws.getD i 0) 0 _ [] hi⟩

theorem setAtt_att (slot : Fin 2) (n : Nat) (s : State) : attOf (setAtt slot n s) slot = n ∧ (setAtt slot n s).sys.activeSlot = s.sys.activeSlot ∧
    (setAtt slot n s).sys.fallback = s.sys.fallback ∧ (setAtt slot n s).sys.fw = s.sys.fw ∧ (setAtt slot n s).hst = s.hst := by
  match slot with
  | 0 => exact ⟨rfl, rfl, rfl, rfl, rfl⟩
  | 1 => exact ⟨rfl, rfl, rfl, rfl, rfl⟩

theorem image_selects {slot : Fin 2} (h : Granted p 0x0611 0x300 (.priv pvService) false s) (hgood : imageGood s (imageBytes (fwSlot s slot)) = true)
    (dt : Nat) : ∃ t, exec (.imageSelect dt p slot) s = .next t ∧ Answered p 0x0611 0 [] s t ∧ t.sys.activeSlot = slot.val ∧ attOf t slot = 0 ∧
      t.sys.fallback = false ∧ (fwSlot t slot).sigOk = true := by
  generalize hx : modSys (fun y => { y with
      fw := vmod y.fw slot (fun f => { f with sigOk := true, version := Config.imageVersion (imageBytes (fwSlot s slot)), svn := Config.imageSvn (imageBytes (fwSlot s slot)) })
      activeSlot := slot.val, imgSince := true, fallback := false }) (takeMsg p 0x0611 (s.begin dt)) = x
  have runs : exec (.imageSelect dt p slot) s = done (ok p [] (setAtt slot 0 x)) := by
    rw [← hx]
    exact congrArg done ((hostCmd_body (h.begin dt) _).trans (if_pos hgood))
  obtain ⟨att, active, fallback, fw, hst⟩ := setAtt_att slot 0 x
  have mute : ((setAtt slot 0 x).hp p).mute = ((takeMsg p 0x0611 (s.begin dt)).hp p).mute := by
    unfold State.hp
    rw [hst, ← hx]
    rfl
  obtain ⟨t, ht, answered, replied⟩ := command_replies h.1 runs mute
  refine ⟨t, ht, answered, ?_⟩
  have good : (fwSlot t slot).sigOk = true := by
    rw [fwSlot_eq ((congrArg Sys.fw replied.sys).trans fw), ← hx]
    exact congrArg Fw.sigOk ((vget_vmod ..).trans (if_pos ⟨rfl, slot.isLt⟩))
  have count : attOf t slot = 0 := by
    rw [← att]
    unfold attOf
    rw [replied.sys]
  rw [replied.sys, active, fallback, ← hx]
  exact ⟨rfl, count, rfl, good⟩

theorem image_refused {slot : Fin 2} (h : Granted p 0x0611 0x300 (.priv pvService) false s) (hbad : imageGood s (imageBytes (fwSlot s slot)) = false)
    (dt : Nat) : ∃ t, exec (.imageSelect dt p slot) s = .next t ∧ t.sys = s.sys ∧ Answered p 0x0611 0x59 [BitVec.ofNat 32 slot, 0] s t := by
  have runs : exec (.imageSelect dt p slot) s = done (refuse p 0x59 slot.val 0 (takeMsg p 0x0611 (s.begin dt))) :=
    congrArg done ((hostCmd_body (h.begin dt) _).trans (if_neg fun k => Bool.false_ne_true (hbad.symm.trans k)))
  obtain ⟨t, ht, answered, replied⟩ := command_replies h.1 runs rfl
  exact ⟨t, ht, replied.sys, answered⟩

theorem image_status (h : Granted p 0x0612 0x300 (.priv pvService) false s) (dt : Nat) : ∃ t ws, exec (.imageStatus dt p) s = .next t ∧
    Answered p 0x0612 0 ws s t ∧ ws.headD 0 = BitVec.ofNat 32 (fwSlot s 0).version ∧ ws.getLast? = some (if s.sys.fallback then 1 else 0) := by
  obtain ⟨first, slot, runs⟩ : ∃ first slot, exec (.imageStatus dt p) s = done (ok p ((BitVec.ofNat 32 (fwSlot s 0).version :: first) ++
      [slot, if s.sys.fallback then 1 else 0]) (takeMsg p 0x0612 (s.begin dt))) := ⟨_, _, congrArg done (hostCmd_body (h.begin dt) _)⟩
  obtain ⟨t, ht, answered, -⟩ := command_replies h.1 runs rfl
  exact ⟨t, _, ht, answered, rfl, List.getLast?_append.trans rfl⟩

/-! Identity. -/

theorem identity_read (h : Granted p 0x0701 0x400 .observe false s) (dt : Nat) (off : Word) : ∃ t ws, exec (.identityRead dt p 1 off) s = .next t ∧
    t.sec = s.sec ∧ Answered p 0x0701 0 ws s t ∧ ws.take 2 = [BitVec.ofNat 32 s.sec.idKey.length, off] := by
  have runs : exec (.identityRead dt p 1 off) s = done (replyBytes p off.toNat s.sec.idKey (takeMsg p 0x0701 (s.begin dt))) :=
    congrArg done (hostCmd_body (h.begin dt) _)
  obtain ⟨t, ht, answered, replied⟩ := command_replies h.1 runs rfl
  refine ⟨t, _, ht, replied.sec, answered, ?_⟩
  rw [BitVec.ofNat_toNat, BitVec.setWidth_eq]
  rfl

theorem identity_refused (h : Granted p 0x0701 0x400 .observe false s) (dt : Nat) {item : Word} (off : Word) (hitem : 2 < item.toNat) :
    ∃ t, exec (.identityRead dt p item off) s = .next t ∧ Answered p 0x0701 0x21 [item, 0] s t := by
  have runs : exec (.identityRead dt p item off) s = done (refuse p stRange item.toNat 0 (takeMsg p 0x0701 (s.begin dt))) := by
    refine congrArg done ((hostCmd_body (h.begin dt) _).trans ?_)
    split
    · omega
    · omega
    · omega
    · rfl
  obtain ⟨t, ht, answered, -⟩ := command_replies h.1 runs rfl
  rw [BitVec.ofNat_toNat, BitVec.setWidth_eq] at answered
  exact ⟨t, ht, answered⟩

theorem report_answerProof : AnswerProof Hp.report := ⟨fun _ => rfl, fun _ _ _ _ _ => rfl, fun _ => rfl⟩

theorem respondWith_report (st : Nat) (ws : List Word) (m x : Bool) (y : State) : ((respondWith p st ws m x y).hp p).report = (y.hp p).report := by
  have kept : KeepsHp Hp.report y (respondWith p st ws m x y) := by
    unfold respondWith
    dsimp only
    split
    · exact modHp_keepsHp p _ y
    · exact (modHp_keepsHp p _ y).trans (answer_keepsHp report_answerProof ..)
  exact kept.same p

theorem attest_reports (h : Granted p 0x0702 0x400 .observe false s) (hkey : s.sec.idKey ≠ []) (nonce : BitVec 256) (dt : Nat) :
    ∃ t ws, exec (.attest dt p 0 nonce) s = .next t ∧ t.sec = s.sec ∧ Answered p 0x0702 0 ws s t ∧
      (t.hp p).report = report (takeMsg p 0x0702 (s.begin dt)) nonce := by
  generalize hr : report (takeMsg p 0x0702 (s.begin dt)) nonce = r
  have runs : exec (.attest dt p 0 nonce) s = done (replyBytes p 0 r ((takeMsg p 0x0702 (s.begin dt)).modHp p (fun h => { h with report := r }))) := by
    have known : ¬(takeMsg p 0x0702 (s.begin dt)).sec.idKey.isEmpty = true := by
      show ¬s.sec.idKey.isEmpty = true
      simpa using hkey
    refine congrArg done ((hostCmd_body (h.begin dt) _).trans ?_)
    rw [if_pos rfl, if_neg known, hr]
  have place : ((takeMsg p 0x0702 (s.begin dt)).modHp p (fun h => { h with report := r })).hp p = { (takeMsg p 0x0702 (s.begin dt)).hp p with report := r } :=
    State.hp_modHp_self ..
  have drop : (((takeMsg p 0x0702 (s.begin dt)).modHp p (fun h => { h with report := r })).hp p).drop = false := by
    rw [place]
    exact (takeMsg_drop p 0x0702 (s.begin dt)).trans h.1.2.2.1
  have message : (((takeMsg p 0x0702 (s.begin dt)).modHp p (fun h => { h with report := r })).hp p).msg = ((takeMsg p 0x0702 (s.begin dt)).hp p).msg := by
    rw [place]
  refine ⟨_, _, runs, ?_, (respondWith_answers (h.begin dt).1.1 drop message ..).ended, ?_⟩
  · exact (Replied.mk ⟨_, _, _, _, rfl⟩ : Replied p _ _).sec
  · refine (congrArg Hp.report (ended_hp _ p)).trans ((respondWith_report ..).trans ?_)
    rw [place]

theorem attest_refused (h : Granted p 0x0702 0x400 .observe false s) (hkey : s.sec.idKey = []) (nonce : BitVec 256) (dt : Nat) :
    ∃ t, exec (.attest dt p 0 nonce) s = .next t ∧ Answered p 0x0702 0x65 [BitVec.ofNat 32 s.sec.lifecycle, BitVec.ofNat 32 s.sec.latch.toNat] s t := by
  have runs : exec (.attest dt p 0 nonce) s = done (refuse p 0x65 s.sec.lifecycle s.sec.latch.toNat (takeMsg p 0x0702 (s.begin dt))) := by
    refine congrArg done ((hostCmd_body (h.begin dt) _).trans ((if_pos rfl).trans (if_pos ?_)))
    show s.sec.idKey.isEmpty = true
    rw [hkey]
    rfl
  obtain ⟨t, ht, answered, -⟩ := command_replies h.1 runs rfl
  exact ⟨t, ht, answered⟩

/-! Provisioning. -/

theorem provisions (h : Granted p 0x0703 0x400 (.priv pvService) false s) (hlife : s.sec.lifecycle = 0) (hmax : maxMsg s p = 4096) (dt : Nat) :
    ∃ t, exec (.provision dt p) s = .next t ∧ t.sec.lifecycle = 1 ∧ t.sec.idKey = fixLen 2592 (Config.genKey (s.sec.keyNo + 1)) ∧
      Answered p 0x0703 0 (bytesWords t.sec.idKey) s t := by
  generalize hk : fixLen 2592 (Config.genKey (s.sec.keyNo + 1)) = key
  have runs : exec (.provision dt p) s = done (ok p (bytesWords key)
      (modSec (fun c => { c with lifecycle := 1, keyNo := c.keyNo + 1, idKey := key }) (takeMsg p 0x0703 (s.begin dt)))) := by
    refine congrArg done ((hostCmd_body (h.begin dt) _).trans ((if_neg (Classical.not_not.2 hlife)).trans ((if_neg ?_).trans ?_)))
    · show ¬maxMsg s p < 16 + 2592
      rw [hmax]
      decide
    · rw [← hk]
      rfl
  obtain ⟨t, ht, answered, replied⟩ := command_replies h.1 runs rfl
  refine ⟨t, ht, ?_⟩
  rw [replied.sec]
  exact ⟨rfl, rfl, answered⟩

theorem provision_refused (h : Granted p 0x0703 0x400 (.priv pvService) false s) (hlife : s.sec.lifecycle ≠ 0) (dt : Nat) :
    ∃ t, exec (.provision dt p) s = .next t ∧ t.sec = s.sec ∧ Answered p 0x0703 0x60 [BitVec.ofNat 32 s.sec.lifecycle, 1] s t := by
  have runs : exec (.provision dt p) s = done (refuse p 0x60 s.sec.lifecycle 1 (takeMsg p 0x0703 (s.begin dt))) :=
    congrArg done ((hostCmd_body (h.begin dt) _).trans (if_pos hlife))
  obtain ⟨t, ht, answered, replied⟩ := command_replies h.1 runs rfl
  exact ⟨t, ht, replied.sec, answered⟩

/-- The last chunk of a collected item completes it. -/
theorem collect_completes {op total : Nat} {ws : List Word} {y : State} (hop : y.sec.bufOp = op) (hlen : y.sec.buf.length + 4 * ws.length = total)
    (hbuf : y.sec.buf ≠ []) (act : List Byte → State → State) : collect p op total y.sec.buf.length ws act y =
      act (y.sec.buf ++ wordBytes ws) (modSec (fun c => { c with buf := [], bufOp := 0 }) y) := by
  have whole : (y.sec.buf ++ wordBytes ws).length = total := by rw [List.length_append, wordBytes_length, hlen]
  have kept : (if (decide (y.sec.buf.length = 0) || decide (y.sec.bufOp ≠ op)) = true then [] else y.sec.buf) = y.sec.buf := by
    refine if_neg ?_
    simp [hop, hbuf]
  unfold collect
  dsimp only
  rw [kept, whole]
  simp

theorem buf_offset {n : Nat} (h : n < 2 ^ 32) : (BitVec.ofNat 32 n).toNat = n := by
  rw [BitVec.toNat_ofNat, Nat.mod_eq_of_lt h]

theorem owner_set {ws : List Word} (h : Granted p 0x0703 0x400 (.priv pvService) false s) (hdev : s.dev = .parked ∨ s.dev = .boot)
    (hown : s.sec.ownerKey = []) (hop : s.sec.bufOp = 2) (hlen : s.sec.buf.length + 4 * ws.length = 2592) (hbuf : s.sec.buf ≠ [])
    (hsize : 16 + 4 * (2 + ws.length) ≤ maxMsg s p) (dt : Nat) : ∃ t, exec (.ownerKeySet dt p (BitVec.ofNat 32 s.sec.buf.length) ws) s = .next t ∧
      t.sec.ownerKey = s.sec.buf ++ wordBytes ws ∧ t.sys.verified = none ∧ Answered p 0x0703 0 [] s t := by
  have whole : (s.sec.buf ++ wordBytes ws).take 2592 = s.sec.buf ++ wordBytes ws :=
    List.take_of_length_le (Nat.le_of_eq (by rw [List.length_append, wordBytes_length, hlen]))
  generalize hy : modSys (fun y => { y with verified := none }) (modSec (fun c => { c with ownerKey := s.sec.buf ++ wordBytes ws })
    (modSec (fun c => { c with buf := [], bufOp := 0 }) (takeMsg p 0x0703 (s.begin dt)))) = y
  have runs : exec (.ownerKeySet dt p (BitVec.ofNat 32 s.sec.buf.length) ws) s = done (ok p [] y) := by
    refine congrArg done ((hostCmd_body (h.begin dt) _).trans ((sized_body hsize _ _ _).trans ((if_neg ?_).trans ?_)))
    · rw [takeMsg_dev]
      rcases hdev with k | k <;> rw [k] <;> decide
    · rw [buf_offset (by omega), show (takeMsg p 0x0703 (s.begin dt)).sec.ownerKey = [] from hown]
      refine (collect_completes (y := takeMsg p 0x0703 (s.begin dt)) hop hlen hbuf _).trans ((if_neg (by simp)).trans ?_)
      rw [← hy, show (takeMsg p 0x0703 (s.begin dt)).sec.buf = s.sec.buf from rfl, whole]
  obtain ⟨t, ht, answered, replied⟩ := command_replies h.1 runs (by rw [← hy]; rfl)
  refine ⟨t, ht, ?_⟩
  rw [replied.sec, replied.sys, ← hy]
  exact ⟨rfl, rfl, answered⟩

theorem lifecycle_advances (h : Granted p 0x0703 0x400 (.priv pvService) false s) (hlife : s.sec.lifecycle = 1) (hcert : s.sec.cert ≠ []) (dt : Nat) :
    ∃ t, exec (.lifecycleAdvance dt p) s = .next t ∧ t.sec.lifecycle = 2 ∧ Answered p 0x0703 0 [] s t := by
  have runs : exec (.lifecycleAdvance dt p) s = done (ok p [] (modSec (fun c => { c with lifecycle := 2 }) (takeMsg p 0x0703 (s.begin dt)))) := by
    refine congrArg done ((hostCmd_body (h.begin dt) _).trans ((if_neg (Classical.not_not.2 hlife)).trans (if_neg ?_)))
    show ¬s.sec.cert.isEmpty = true
    simpa using hcert
  obtain ⟨t, ht, answered, replied⟩ := command_replies h.1 runs rfl
  exact ⟨t, ht, congrArg Sec.lifecycle replied.sec, answered⟩

theorem rma_enters {ws : List Word} (h : Granted p 0x0703 0x400 (.priv pvService) false s) (hlife : s.sec.lifecycle ≠ 3) (hop : s.sec.bufOp = 4)
    (hlen : s.sec.buf.length + 4 * ws.length = 8 + sigLen) (hbuf : s.sec.buf ≠ [])
    (huid : (s.sec.buf ++ wordBytes ws).take 8 = bytesBE 8 Config.uid.toNat) (hsig : signedBy 0 Config.rmaKey (s.sec.buf ++ wordBytes ws) = true)
    (hsize : 16 + 4 * (2 + ws.length) ≤ maxMsg s p) (dt : Nat) : ∃ t, exec (.rmaEnter dt p (BitVec.ofNat 32 s.sec.buf.length) ws) s = .next t ∧
      t.sec.lifecycle = 3 ∧ t.sec.idKey = [] ∧ t.sec.ownerKey = [] ∧ t.sys.slot = Vector.replicate 2 {} ∧ t.sfi.setConfirmed = false ∧
      Answered p 0x0703 0 [] s t := by
  generalize hy : enterRma (modSec (fun c => { c with buf := [], bufOp := 0 }) (takeMsg p 0x0703 (s.begin dt))) = y
  have small : s.sec.buf.length < 2 ^ 32 := by
    have total : sigLen = 4648 := rfl
    omega
  have runs : exec (.rmaEnter dt p (BitVec.ofNat 32 s.sec.buf.length) ws) s = done (ok p [] y) := by
    refine congrArg done ((hostCmd_body (h.begin dt) _).trans ((sized_body hsize _ _ _).trans ((if_neg hlife).trans ?_)))
    rw [buf_offset small]
    refine (collect_completes (y := takeMsg p 0x0703 (s.begin dt)) hop hlen hbuf _).trans ((if_neg ?_).trans (by rw [← hy]))
    rw [show (takeMsg p 0x0703 (s.begin dt)).sec.buf = s.sec.buf from rfl, huid, hsig]
    simp
  obtain ⟨t, ht, answered, replied⟩ := command_replies h.1 runs (by rw [← hy]; rfl)
  refine ⟨t, ht, ?_⟩
  rw [replied.sec, replied.sys, replied.confirmed, ← hy]
  exact ⟨rfl, rfl, rfl, rfl, rfl, answered⟩

theorem counter_advances {k v : Word} (h : Granted p 0x0703 0x400 (.priv pvService) false s) (hlow : 16 ≤ k.toNat) (hhigh : k.toNat ≤ 31)
    (hv : ctrOf s k.toNat < v.toNat) (dt : Nat) : ∃ t, exec (.counterAdvance dt p k v) s = .next t ∧ ctrOf t k.toNat = v.toNat ∧
      (∀ j : Nat, j ≠ k.toNat → ctrOf t j = ctrOf s j) ∧ Answered p 0x0703 0 [] s t := by
  have runs : exec (.counterAdvance dt p k v) s = done (ok p [] (modSec (fun c => { c with
      ctr := tabPut c.ctr k.toNat v.toNat, mirror := tabPut c.mirror k.toNat v.toNat }) (takeMsg p 0x0703 (s.begin dt)))) := by
    refine congrArg done ((hostCmd_body (h.begin dt) _).trans ((if_neg ?_).trans ((if_neg (Nat.not_le.2 hv)).trans rfl)))
    simp only [Bool.or_eq_true, Bool.and_eq_true, decide_eq_true_eq]
    omega
  obtain ⟨t, ht, answered, replied⟩ := command_replies h.1 runs rfl
  have counts (j : Nat) : ctrOf t j = tabGet (tabPut s.sec.ctr k.toNat v.toNat) j 0 := by
    unfold ctrOf
    rw [replied.sec]
    rfl
  refine ⟨t, ht, (counts _).trans (tabGet_tabPut_self ..), fun j hj => (counts j).trans (tabGet_tabPut_ne _ hj ..), answered⟩

theorem tamper_clears (h : Granted p 0x0703 0x400 (.priv pvService) false s) (i : Fin 3) (dt : Nat) :
    ∃ t, exec (.tamperClear dt p (BitVec.ofNat 32 i) true) s = .next t ∧ t.sec.latch = s.sec.latch &&& ~~~(BitVec.ofNat 3 (2 ^ i.val)) ∧
      Answered p 0x0703 0 [] s t := by
  generalize hy : modSec (fun c => { c with latch := c.latch &&& ~~~(BitVec.ofNat 3 (2 ^ i.val)) }) (takeMsg p 0x0703 (s.begin dt)) = y
  have runs : exec (.tamperClear dt p (BitVec.ofNat 32 i) true) s = done (ok p [] (condHolds 0x7501 0 0 y)) := by
    refine congrArg done ((hostCmd_body (h.begin dt) _).trans ?_)
    rw [buf_offset (by omega)]
    refine (if_neg (by omega)).trans ((if_neg Bool.false_ne_true).trans ?_)
    rw [← hy]
  have cleared := (condHolds_rules 0x7501 0 0 y).keep
  obtain ⟨t, ht, answered, replied⟩ := command_replies h.1 runs ((cleared.hp p).trans (by rw [← hy]; rfl))
  refine ⟨t, ht, ?_, answered⟩
  rw [replied.sec, cleared.sec, ← hy]
  rfl

end

/-! Tamper. -/

theorem latch_set (l : BitVec 3) (i : Fin 2) : (l ||| BitVec.ofNat 3 (2 ^ i.val)).getLsbD i = true := by
  revert l i
  decide

theorem tamperAct_keeps (n : Nat) (s : State) : (tamperAct n s).sec.latch = s.sec.latch ∧ (tamperAct n s).sec.count = s.sec.count ∧
    (n = 2 → (tamperAct n s).sec.ownerKey = [] ∧ (tamperAct n s).sec.idKey = []) ∧ firmwareRuns (tamperAct n s) = firmwareRuns s := by
  have keys (x : State) (hsec : x.sec = s.sec) (hruns : firmwareRuns x = firmwareRuns s) :
      let t := if n = 2 then modSec (fun c => { c with ownerKey := [], idKey := [] }) x else x
      t.sec.latch = s.sec.latch ∧ t.sec.count = s.sec.count ∧ (n = 2 → t.sec.ownerKey = [] ∧ t.sec.idKey = []) ∧ firmwareRuns t = firmwareRuns s := by
    rw [← hsec, ← hruns]
    dsimp only
    split
    · exact ⟨rfl, rfl, fun _ => ⟨rfl, rfl⟩, rfl⟩
    · next h => exact ⟨rfl, rfl, fun k => absurd k h, rfl⟩
  refine keys _ ?_ ?_
  · split <;> rfl
  · split <;> rfl

theorem tamper_latches {i : Fin 2} {s : State} (hkeeper : keeperRuns s = true) (hen : s.pn 16 i 1 = 1) (hnew : s.sec.latch.getLsbD i = false)
    (dt : Nat) : ∃ t, exec (.tamperLatch dt i) s = .next t ∧ t.sec.latch.getLsbD i = true ∧ t.sec.count = sat32 s.sec.count ∧
      (s.pn 16 i 2 = 2 → t.sec.ownerKey = [] ∧ t.sec.idKey = []) ∧ (firmwareRuns s = true → isHeld 0x7501 0 0 t = true) := by
  generalize hx : tamperAct (s.pn 16 i 2) (modSec (fun c => { c with latch := c.latch ||| BitVec.ofNat 3 (2 ^ i.val), count := sat32 c.count }) (s.begin dt)) = x
  have goes : ¬(!keeperRuns (s.begin dt) || decide ((s.begin dt).pn 16 i 1 ≠ 1) || (s.begin dt).sec.latch.getLsbD i) = true := by
    rw [show keeperRuns (s.begin dt) = true from hkeeper, show (s.begin dt).pn 16 i 1 = 1 from hen, show (s.begin dt).sec.latch.getLsbD i = false from hnew]
    decide
  have runs : exec (.tamperLatch dt i) s = done (if firmwareRuns x then raise 0x7501 0 0 i 0 [] x else x) := by
    rw [← hx]
    exact if_neg goes
  obtain ⟨latch, count, keys, firmware⟩ := tamperAct_keeps (s.pn 16 i 2)
    (modSec (fun c => { c with latch := c.latch ||| BitVec.ofNat 3 (2 ^ i.val), count := sat32 c.count }) (s.begin dt))
  rw [hx] at latch count keys firmware
  have told : (if firmwareRuns x then raise 0x7501 0 0 i 0 [] x else x).sec = x.sec := by
    split
    · exact (raise_rules _ _ _ _ _ _ _ (by decide)).keep.sec
    · rfl
  refine exec_ends runs ?_
  rw [ended_sec, ended_isHeld, told, latch, count]
  refine ⟨latch_set .., rfl, keys, fun h => ?_⟩
  rw [if_pos (firmware.trans h)]
  exact raise_held _ _ _ _ _ _ _ (by decide)

/-- Settles O56: each command on images, identity, keys, lifecycle, counters and tamper acts and is answered as its operation says. -/
theorem securityCommands : Obligations.SecurityCommands := by
  unfold Obligations.SecurityCommands
  intro dt p s
  refine ⟨fun slot ws h hslot hsize => image_loads h hslot hsize dt,
    fun slot h => ⟨fun hgood => image_selects h hgood dt, fun hbad => image_refused h hbad dt⟩, fun h => image_status h dt,
    fun h => ⟨identity_read h dt, fun item off hitem => identity_refused h dt off hitem⟩,
    fun nonce h => ⟨fun hkey => attest_reports h hkey nonce dt, fun hkey => attest_refused h hkey nonce dt⟩, fun h => ?_,
    fun i hkeeper hen hnew => tamper_latches hkeeper hen hnew dt⟩
  refine ⟨fun hlife hmax => provisions h hlife hmax dt, fun hlife => provision_refused h hlife dt, ?_, fun hlife hcert => lifecycle_advances h hlife hcert dt,
    ?_, fun k v hlow hhigh hv => counter_advances h hlow hhigh hv dt, fun i => tamper_clears h i dt⟩
  · exact fun ws hdev hown hop hlen hbuf hsize => owner_set h hdev hown hop hlen hbuf hsize dt
  · exact fun ws hlife hop hlen hbuf huid hsig hsize => rma_enters h hlife hop hlen hbuf huid hsig hsize dt

end Sys2Proof.Machine
end

section
/-! Parameter commands and reads (R66, R268, R269, R393 to R404, R438 to R440, Table 14-8). -/
namespace Sys2Proof.Machine

/-! A drawn free value does not enter the checks of a set. -/

set_option maxRecDepth 5000

section
variable (s : State) (n : Nat)
theorem checkSpu_congr {c d : State} (hpar : d.par = c.par) : checkSpu d = checkSpu c := by
  have hpn : d.pn = c.pn := funext fun i => funext fun j => funext fun k => pn_congr hpar i j k
  unfold checkSpu
  rw [hpar, hpn]
theorem checkGfe_free : checkGfe { s with free := n } = checkGfe s := by cases s; rfl
theorem checkLpe_free : checkLpe { s with free := n } = checkLpe s := by cases s; rfl
theorem checkMod_free : checkMod { s with free := n } = checkMod s := by cases s; rfl

theorem checkUnit_free (u : Nat) : checkUnit { s with free := n } u = checkUnit s u := by
  unfold checkUnit
  split
  case h_4 => exact checkSpu_congr rfl
  all_goals (cases s; rfl)

theorem crossCheck_free (ids : List Nat) : crossCheck { s with free := n } ids = crossCheck s ids := by
  unfold crossCheck
  rw [show checkUnit { s with free := n } = checkUnit s from funext (checkUnit_free s n)]
theorem checkTickSet_free (c : State) (ids : List Nat) (m : Nat) : checkTickSet { s with free := m } { c with free := n } ids = checkTickSet s c ids := by
  unfold checkTickSet
  have ok : tickSetOk { c with free := n } = tickSetOk c := funext fun k => by
    unfold tickSetOk ainMode
    rw [pn_congr (s := c) (t := { c with free := n }) rfl]
  rw [ok]
theorem fullCand_free (es : List (Nat × Wire)) : fullCand { s with free := n } es = { fullCand s es with free := n } := by cases s; rfl
theorem liveCand_free (es : List (Nat × Wire)) : liveCand { s with free := n } es = { liveCand s es with free := n } := by cases s; rfl
theorem checkSet_free (es : List (Nat × Wire)) : checkSet { s with free := n } es = checkSet s es := by
  have entries : (List.range es.length).findSome? (fun i => entryCheck { s with free := n } i (es.getD i (0, 0))) =
    (List.range es.length).findSome? (fun i => entryCheck s i (es.getD i (0, 0))) := by cases s; rfl
  have whole : crossCheck (withPar { s with free := n } s.par) (es.map (·.1)) = crossCheck (withPar s s.par) (es.map (·.1)) :=
    crossCheck_free (withPar s s.par) n _
  unfold checkSet
  rw [entries, fullCand_free, liveCand_free]
  simp only [crossCheck_free, whole, checkTickSet_free]

theorem opAny_check_free (low : BitVec 4) (id val : Nat) : (opAny low id val).bind (fun o => o.check { s with free := n }) =
    (opAny low id val).bind (fun o => o.check s) := by
  unfold opAny opOf
  dsimp only
  repeat' split
  all_goals rfl

/-- The low pins enter the check of FAULT_IN_CLEAR alone. -/
theorem opAny_low (low : BitVec 4) (id val : Nat) : opAny low id val = opAny 0 id val ∨
    ∃ m, opAny low id val = some (opFaultInClear m low) ∧ opAny 0 id val = some (opFaultInClear m 0) := by
  unfold opAny opOf
  dsimp only
  repeat' split
  any_goals exact .inl rfl
  exact .inr ⟨_, rfl, rfl⟩

/-- Pins that are low refuse no more than pins that are high. -/
theorem opAny_check_low (low : BitVec 4) (id val : Nat) (h : (opAny 0 id val).bind (fun o => o.check s) = none) :
    (opAny low id val).bind (fun o => o.check s) = none := by
  rcases opAny_low low id val with e | ⟨m, e, e0⟩
  · rw [e]
    exact h
  · rw [e0] at h
    rw [e]
    have none_ : (List.range 4).find? (fun i => m.testBit i && !(0 : BitVec 4).getLsbD i) = none := Option.map_eq_none_iff.1 h
    refine Option.map_eq_none_iff.2 (List.find?_eq_none.2 fun i hi hb => List.find?_eq_none.1 none_ i hi ?_)
    rw [Bool.and_eq_true] at hb
    rw [hb.1]
    simp

/-- The checks of the entries that are commands. -/
def cmdRefusal (s : State) (p : Nat) (low : BitVec 4) (e : Nat × Wire) : Option Ref :=
  if isCmd s e.1 then ((opAny low e.1 (opVal p e)).bind (fun o => o.check s)).map (fun r => ⟨r.1, r.2.1, r.2.2⟩) else none

theorem isCmd_free (id : Nat) : isCmd { s with free := n } id = isCmd s id := rfl

theorem cmdRefusal_pins {p : Nat} {e : Nat × Wire} (low : BitVec 4) (h : cmdRefusal s p 0 e = none) : cmdRefusal { s with free := n } p low e = none := by
  unfold cmdRefusal at h ⊢
  rw [isCmd_free]
  split
  · next hc =>
    rw [if_pos hc, Option.map_eq_none_iff] at h
    rw [Option.map_eq_none_iff, opAny_check_free]
    exact opAny_check_low s low _ _ h
  · rfl

/-- A set that no check refuses with every pin high is not refused with the pins as they are. -/
theorem setRefusal_pins {es : List (Nat × Wire)} {p : Nat} (low : BitVec 4) (h : setRefusal s p 0 es = none) :
    setRefusal { s with free := n } p low es = none := by
  unfold setRefusal at h ⊢
  split at h
  · cases h
  · next known =>
    split at h
    · cases h
    · next active =>
      refine (if_neg active).trans ?_
      split at h
      · cases h
      · next rights =>
        rw [show es.findSome? (fun e => rightRefusal { s with free := n } p (rightOf e.1)) = none from rights, checkSet_free]
        dsimp only
        split at h
        · cases h
        · next checks =>
          exact List.findSome?_eq_none_iff.2 fun e he => cmdRefusal_pins s n low (List.findSome?_eq_none_iff.1 h e he)

/-- A set checked with its pins is accepted, whatever the pins are. -/
theorem pinsFor_accepts {es : List (Nat × Wire)} {p : Nat} (h : setRefusal s p 0 es = none) :
    setRefusal (pinsFor es s).2 p (pinsFor es s).1 es = none := by
  unfold pinsFor
  split
  · exact setRefusal_pins s _ _ h
  · exact h

end

/-! Reading and describing parameters. -/

section
variable {p : Fin 8} {s : State}

theorem readEntry_length (s : State) (id : Nat) (r : Row) : (readEntry s id r).length = 8 := rfl

/-- The words of the entries read. -/
def readWords (s : State) (ids : List Word) : List Word :=
  ids.flatMap (fun w => match rowOf w.toNat with | some r => readEntry s w.toNat r | none => [])

theorem readWords_length {ids : List Word} (h : ∀ w ∈ ids, (rowOf w.toNat).isSome = true) (s : State) : (readWords s ids).length = 8 * ids.length := by
  induction ids with
  | nil => rfl
  | cons w ids ih =>
    obtain ⟨r, hr⟩ := Option.isSome_iff_exists.1 (h w (List.mem_cons_self ..))
    have rest := ih fun v hv => h v (List.mem_cons_of_mem _ hv)
    unfold readWords at rest ⊢
    rw [List.flatMap_cons, List.length_append, rest, hr, List.length_cons]
    dsimp only
    rw [readEntry_length]
    omega

/-- The first entry that no field has. -/
def firstUnknown (ids : List Word) : Option Nat := (List.range ids.length).find? (fun i => (rowOf (ids.getD i 0).toNat).isNone)

theorem firstUnknown_none {ids : List Word} (h : ∀ w ∈ ids, (rowOf w.toNat).isSome = true) : firstUnknown ids = none := by
  refine List.find?_eq_none.2 fun i hi hn => ?_
  have bound := List.mem_range.1 hi
  have known := h (ids.getD i 0) (by
    rw [List.getD_eq_getElem?_getD, List.getElem?_eq_getElem bound, Option.getD_some]
    exact List.getElem_mem bound)
  rw [Option.isNone_iff_eq_none] at hn
  rw [hn] at known
  cases known

theorem firstUnknown_some {ids : List Word} {i : Nat} (hi : i < ids.length) (h : rowOf (ids.getD i 0).toNat = none)
    (hbefore : ∀ j : Nat, j < i → rowOf (ids.getD j 0).toNat ≠ none) : firstUnknown ids = some i := by
  unfold firstUnknown
  rw [List.find?_range_eq_some]
  refine ⟨by rw [h]; rfl, List.mem_range.2 hi, fun j hj => ?_⟩
  rw [Bool.not_eq_true', Option.isNone_eq_false_iff]
  exact Option.isSome_iff_ne_none.2 (hbefore j hj)

theorem params_read {ids : List Word} (h : Granted p 0x0301 0x300 .observe false s) (hsize : 16 + 4 * (1 + ids.length) ≤ maxMsg s p)
    (hknown : ∀ w ∈ ids, (rowOf w.toNat).isSome = true) (hfits : 16 + 32 * ids.length ≤ maxMsg s p) (dt : Nat) :
    ∃ t ws, exec (.paramRead dt p ids) s = .next t ∧ Answered p 0x0301 0 ws s t ∧ ws.length = 8 * ids.length ∧ t.par = s.par ∧ t.pend = s.pend := by
  have runs : exec (.paramRead dt p ids) s = done (ok p (readWords (takeMsg p 0x0301 (s.begin dt)) ids) (takeMsg p 0x0301 (s.begin dt))) := by
    refine congrArg done ((hostCmd_body (h.begin dt) _).trans ((sized_body hsize _ _ _).trans ?_))
    rw [show (List.range ids.length).find? (fun i => (rowOf (ids.getD i 0).toNat).isNone) = none from firstUnknown_none hknown]
    refine if_neg ?_
    show ¬maxMsg s p < 16 + 4 * (readWords (takeMsg p 0x0301 (s.begin dt)) ids).length
    rw [readWords_length hknown]
    omega
  obtain ⟨t, ht, answered, replied⟩ := command_replies h.1 runs rfl
  exact ⟨t, _, ht, answered, readWords_length hknown _, replied.par, replied.pend⟩

theorem params_unknown {ids : List Word} (h : Granted p 0x0301 0x300 .observe false s) (hsize : 16 + 4 * (1 + ids.length) ≤ maxMsg s p) {i : Nat}
    (hi : i < ids.length) (hnone : rowOf (ids.getD i 0).toNat = none) (hbefore : ∀ j : Nat, j < i → rowOf (ids.getD j 0).toNat ≠ none) (dt : Nat) :
    ∃ t, exec (.paramRead dt p ids) s = .next t ∧ Answered p 0x0301 0x20 [ids.getD i 0, BitVec.ofNat 32 i] s t := by
  have runs : exec (.paramRead dt p ids) s = done (refuse p stBadId (ids.getD i 0).toNat i (takeMsg p 0x0301 (s.begin dt))) := by
    refine congrArg done ((hostCmd_body (h.begin dt) _).trans ((sized_body hsize _ _ _).trans ?_))
    rw [show (List.range ids.length).find? (fun i => (rowOf (ids.getD i 0).toNat).isNone) = some i from firstUnknown_some hi hnone hbefore]
  obtain ⟨t, ht, answered, -⟩ := command_replies h.1 runs rfl
  rw [BitVec.ofNat_toNat, BitVec.setWidth_eq] at answered
  exact ⟨t, ht, answered⟩

/-- What PARAM_DESCRIBE says of a field; the words a and b stand for the limits of a field that has none. -/
def describeWords (s : State) (n : Nat) (r : Row) (a b : Word) : List Word :=
  let lim := (limitsOf n r).getD (wireN a.toNat, wireN b.toNat)
  [tyCode r.ty, clsCode (rowClass s n r), if r.cls = .ro then 0 else rightCode (rightOf n)].map (BitVec.ofNat 32)
    ++ w2 lim.1.toNat ++ w2 lim.2.toNat ++ w2 (defaultOf s n r).toNat

theorem rowClass_congr {s t : State} (hpar : t.par = s.par) (hpend : t.pend = s.pend) (id : Nat) (r : Row) : rowClass t id r = rowClass s id r := by
  unfold rowClass
  rw [hpend, show t.wire = s.wire from funext fun i => by unfold State.wire; rw [hpar]]

theorem param_described {id : Word} {r : Row} (h : Granted p 0x0305 0x402 .observe false s) (hr : rowOf id.toNat = some r) (dt : Nat) :
    ∃ t ws, exec (.paramDescribe dt p id) s = .next t ∧ Answered p 0x0305 0 ws s t ∧ ws.length = 9 ∧ ws.headD 0 = BitVec.ofNat 32 (tyCode r.ty) ∧
      ws.getD 1 0 = BitVec.ofNat 32 (clsCode (rowClass s id.toNat r)) := by
  obtain ⟨a, b, y, runs, mute⟩ : ∃ a b y, exec (.paramDescribe dt p id) s =
      done (ok p (describeWords (takeMsg p 0x0305 (s.begin dt)) id.toNat r a b) y) ∧ (y.hp p).mute = ((takeMsg p 0x0305 (s.begin dt)).hp p).mute := by
    let x := takeMsg p 0x0305 (s.begin dt)
    refine ⟨x.freeWord.1, x.freeWord.2.freeWord.1, if (limitsOf id.toNat r).isSome then x else x.freeWord.2.freeWord.2,
      congrArg done ((hostCmd_body (h.begin dt) _).trans ?_), ?_⟩
    · dsimp only
      rw [hr]
      rfl
    · split <;> rfl
  obtain ⟨t, ht, answered, -⟩ := command_replies h.1 runs mute
  refine ⟨t, _, ht, answered, rfl, rfl, ?_⟩
  rw [← rowClass_congr (takeMsg_par p 0x0305 dt s) (takeMsg_pend p 0x0305 dt s) id.toNat r]
  rfl

theorem param_unknown {id : Word} (h : Granted p 0x0305 0x402 .observe false s) (hr : rowOf id.toNat = none) (dt : Nat) :
    ∃ t, exec (.paramDescribe dt p id) s = .next t ∧ Answered p 0x0305 0x20 [id, 0] s t := by
  have runs : exec (.paramDescribe dt p id) s = done (refuse p stBadId id.toNat 0 (takeMsg p 0x0305 (s.begin dt))) := by
    refine congrArg done ((hostCmd_body (h.begin dt) _).trans ?_)
    dsimp only
    rw [hr]
  obtain ⟨t, ht, answered, -⟩ := command_replies h.1 runs rfl
  rw [BitVec.ofNat_toNat, BitVec.setWidth_eq] at answered
  exact ⟨t, ht, answered⟩

/-! Staging a set. -/

theorem pinsFor_same (es : List (Nat × Wire)) (s : State) : ∃ n, (pinsFor es s).2 = { s with free := n } := by
  unfold pinsFor
  split
  · exact ⟨_, rfl⟩
  · exact ⟨s.free, rfl⟩

theorem canonSet_length (es : List (Nat × Wire)) : (canonSet es).length = es.length := List.length_map ..

theorem ofNat_fin16 (n : Fin 16) : (BitVec.ofNat 32 n.val).toNat = n.val := by
  rw [BitVec.toNat_ofNat]
  omega

theorem Replied.staged {y t : State} (h : Replied p y t) : t.hst.staged = y.hst.staged := by
  obtain ⟨st, ws, m, x, rfl⟩ := h.answer
  rw [ended_hst]
  exact (respondWith_keepsHost ..).2.1

theorem set_staged {n : Fin 16} {es : List (Nat × Wire)} (h : Granted p 0x0303 0x401 .observe false s) (hsize : 16 + 4 * (2 + 3 * es.length) ≤ maxMsg s p)
    (hlen : es.length ≤ 256) {dt : Nat} (hset : setRefusal (takeMsg p 0x0303 (s.begin dt)) p 0 (canonSet es) = none) :
    ∃ t, exec (.paramStage dt p (BitVec.ofNat 32 n) es) s = .next t ∧ Answered p 0x0303 0 [] s t ∧
      t.hst.staged = tabPut s.hst.staged n (canonSet es) ∧ t.par = s.par ∧ t.pend = s.pend := by
  obtain ⟨m, pins⟩ := pinsFor_same (canonSet es) (takeMsg p 0x0303 (s.begin dt))
  have runs : exec (.paramStage dt p (BitVec.ofNat 32 n) es) s = done (ok p [] { takeMsg p 0x0303 (s.begin dt) with
      free := m, hst := { (takeMsg p 0x0303 (s.begin dt)).hst with staged := tabPut (takeMsg p 0x0303 (s.begin dt)).hst.staged n (canonSet es) } }) := by
    refine congrArg done ((hostCmd_body (h.begin dt) _).trans ((sized_body hsize _ _ _).trans ?_))
    refine (if_neg (by rw [ofNat_fin16]; omega)).trans ((if_neg (by rw [canonSet_length]; omega)).trans ?_)
    dsimp only
    rw [pinsFor_accepts _ hset, ofNat_fin16, pins]
  obtain ⟨t, ht, answered, replied⟩ := command_replies h.1 runs rfl
  exact ⟨t, ht, answered, replied.staged, replied.par.trans (takeMsg_par p 0x0303 dt s), replied.pend.trans (takeMsg_pend p 0x0303 dt s)⟩

theorem set_unstaged {n : Fin 16} (h : Granted p 0x0304 0x401 .token true s) (dt : Nat) : ∃ t, exec (.paramUnstage dt p (BitVec.ofNat 32 n)) s = .next t ∧
    Answered p 0x0304 0 [] s t ∧ t.hst.staged = tabDel s.hst.staged n := by
  have runs : exec (.paramUnstage dt p (BitVec.ofNat 32 n)) s = done (ok p [] { takeMsg p 0x0304 (s.begin dt) with
      hst := { (takeMsg p 0x0304 (s.begin dt)).hst with staged := tabDel (takeMsg p 0x0304 (s.begin dt)).hst.staged n } }) := by
    refine congrArg done ((hostCmd_body (h.begin dt) _).trans ((if_neg (by rw [ofNat_fin16]; omega)).trans ?_))
    rw [ofNat_fin16]
  obtain ⟨t, ht, answered, replied⟩ := command_replies h.1 runs rfl
  exact ⟨t, ht, answered, replied.staged⟩

/-! Reading times, launches and faults. -/

theorem Replied.alm {y t : State} (h : Replied p y t) : t.alm = y.alm := by
  obtain ⟨z, rfl, k⟩ := h.keep
  exact (ended_alm z).trans k.alm
theorem Replied.held {y t : State} (h : Replied p y t) : t.spu.held = y.spu.held := by
  obtain ⟨z, rfl, k⟩ := h.keep
  exact (ended_held z).trans (congrArg Spu.held k.spu)
theorem ended_records (x : State) : (ended x).spu.log = x.spu.log ∧ (ended x).spu.foCur = x.spu.foCur ∧ (ended x).spu.foPrev = x.spu.foPrev := ⟨rfl, rfl, rfl⟩
theorem Replied.records {y t : State} (h : Replied p y t) : t.spu.log = y.spu.log ∧ t.spu.foCur = y.spu.foCur ∧ t.spu.foPrev = y.spu.foPrev := by
  obtain ⟨z, rfl, k⟩ := h.keep
  obtain ⟨log, cur, prev⟩ := ended_records z
  rw [log, cur, prev, k.spu]
  exact ⟨rfl, rfl, rfl⟩

theorem takeMsg_spu (p : Fin 8) (op dt : Nat) (s : State) : (takeMsg p op (s.begin dt)).spu = s.spu := rfl

theorem timeWords_congr {s t : State} (hpar : t.par = s.par) (hrdn : t.rdn = s.rdn) (halm : t.alm = s.alm) : timeWords t = timeWords s := by
  funext k
  unfold timeWords State.tickNow State.now State.nowK State.tb
  rw [halm, tbSrc_congr hpar (congrArg Rdn.role hrdn)]

theorem times_read {mask : Word} (h : Granted p 0x0401 0x300 .observe false s) (dt : Nat) : ∃ t, exec (.timeRead dt p mask) s = .next t ∧
    t.alm = (s.begin dt).alm ∧ Answered p 0x0401 0 (((List.range 4).filter (fun k => mask.getLsbD k)).flatMap (timeWords (s.begin dt))) s t := by
  obtain ⟨x, runs⟩ : ∃ x, exec (.timeRead dt p mask) s = done (respondWith p 0
      (((List.range 4).filter (fun k => mask.getLsbD k)).flatMap (timeWords (takeMsg p 0x0401 (s.begin dt)))) false x
      (takeMsg p 0x0401 (s.begin dt))) := ⟨_, congrArg done (hostCmd_body (h.begin dt) _)⟩
  rw [timeWords_congr (s := s.begin dt) (takeMsg_par p 0x0401 dt s) (takeMsg_rdn p 0x0401 dt s) (takeMsg_alm p 0x0401 dt s)] at runs
  obtain ⟨t, ht, answered, replied⟩ := command_replies h.1 runs rfl
  exact ⟨t, ht, replied.alm.trans (takeMsg_alm p 0x0401 dt s), answered⟩

theorem launchWords_length (l : Option Launch) : (launchWords l).length = 8 := by cases l <;> rfl

theorem maxMsg_ge (s : State) (p : Nat) : 1456 ≤ maxMsg s p := by
  unfold maxMsg
  split <;> omega

theorem reply_fits {ws : List Word} (p : Nat) (s : State) (h : ws.length ≤ 256) : reply p ws s = ok p ws s := by
  have most := maxMsg_ge s p
  exact if_neg (by omega)

theorem launches_read (h : Granted p 0x0406 0x400 .observe false s) (dt : Nat) : ∃ t, exec (.launchList dt p) s = .next t ∧ t.alm = (s.begin dt).alm ∧
    Answered p 0x0406 0 ((List.range 32).flatMap (fun i => launchWords (tabGet? s.alm.launch i))) s t := by
  have length : ((List.range 32).flatMap (fun i => launchWords (tabGet? s.alm.launch i))).length = 256 := by
    rw [List.length_flatMap, List.map_congr_left (g := fun _ => 8) fun i _ => launchWords_length _]
    rfl
  have runs : exec (.launchList dt p) s = done (ok p ((List.range 32).flatMap (fun i => launchWords (tabGet? s.alm.launch i)))
      (takeMsg p 0x0406 (s.begin dt))) := by
    refine congrArg done ((hostCmd_body (h.begin dt) _).trans ?_)
    rw [takeMsg_alm, State.begin_alm_launch]
    exact reply_fits p _ (Nat.le_of_eq length)
  obtain ⟨t, ht, answered, replied⟩ := command_replies h.1 runs rfl
  exact ⟨t, ht, replied.alm.trans (takeMsg_alm p 0x0406 dt s), answered⟩

theorem faults_read (h : Granted p 0x0501 0x300 .observe false s) (dt : Nat) : ∃ t, exec (.faultList dt p 0) s = .next t ∧ t.spu.held = s.spu.held ∧
    Answered p 0x0501 0 ((s.spu.held.take (pageSize s p 0)).flatMap (fun h => recordWords h.lr)) s t := by
  obtain ⟨m, runs⟩ : ∃ m, exec (.faultList dt p 0) s = done (respond p 0
      (((s.spu.held.map (·.lr)).take (pageSize s p 0)).flatMap recordWords) m (takeMsg p 0x0501 (s.begin dt))) :=
    ⟨_, congrArg done (hostCmd_body (h.begin dt) _)⟩
  rw [← List.map_take, List.flatMap_map] at runs
  obtain ⟨t, ht, answered, replied⟩ := command_replies h.1 runs rfl
  exact ⟨t, ht, replied.held.trans (congrArg Spu.held (takeMsg_spu p 0x0501 dt s)), answered⟩

theorem log_read {first count : Word} (h : Granted p 0x0502 0x300 .observe false s) (dt : Nat) : ∃ t ws, exec (.logRead dt p first count) s = .next t ∧
    t.spu.log = s.spu.log ∧ Answered p 0x0502 0 ws s t ∧ ws.drop 1 =
      (((s.spu.log.reverse.filter (fun r => decide (first.toNat ≤ r.seq))).take count.toNat).take (pageSize s p 1)).flatMap recordWords := by
  obtain ⟨w, m, runs⟩ : ∃ w m, exec (.logRead dt p first count) s = done (respond p 0
      (w :: (((s.spu.log.reverse.filter (fun r => decide (first.toNat ≤ r.seq))).take count.toNat).take (pageSize s p 1)).flatMap recordWords) m
      (takeMsg p 0x0502 (s.begin dt))) := ⟨_, _, congrArg done (hostCmd_body (h.begin dt) _)⟩
  obtain ⟨t, ht, answered, replied⟩ := command_replies h.1 runs rfl
  exact ⟨t, _, ht, replied.records.1, answered, rfl⟩

theorem firstOut_read (h : Granted p 0x0503 0x300 .observe false s) (dt : Nat) :
    (∃ t, exec (.firstOutRead dt p 0) s = .next t ∧ t.spu.foCur = s.spu.foCur ∧
      Answered p 0x0503 0 (BitVec.ofNat 32 s.spu.foCur.length :: s.spu.foCur.flatMap recordWords) s t) ∧
    (∃ t, exec (.firstOutRead dt p 1) s = .next t ∧ t.spu.foPrev = s.spu.foPrev ∧
      Answered p 0x0503 0 (BitVec.ofNat 32 s.spu.foPrev.length :: s.spu.foPrev.flatMap recordWords) s t) := by
  have cur : exec (.firstOutRead dt p 0) s = done (ok p (BitVec.ofNat 32 s.spu.foCur.length :: s.spu.foCur.flatMap recordWords)
      (takeMsg p 0x0503 (s.begin dt))) := congrArg done (hostCmd_body (h.begin dt) _)
  have prev : exec (.firstOutRead dt p 1) s = done (ok p (BitVec.ofNat 32 s.spu.foPrev.length :: s.spu.foPrev.flatMap recordWords)
      (takeMsg p 0x0503 (s.begin dt))) := congrArg done (hostCmd_body (h.begin dt) _)
  obtain ⟨t, ht, answered, replied⟩ := command_replies h.1 cur rfl
  obtain ⟨u, hu, answered', replied'⟩ := command_replies h.1 prev rfl
  exact ⟨⟨t, ht, replied.records.2.1, answered⟩, ⟨u, hu, replied'.records.2.2, answered'⟩⟩

end

end Sys2Proof.Machine
end

section
/-! Sets that are written, and Ethernet frames (R393 to R404, R438 to R440). -/
namespace Sys2Proof.Machine

/-! What the store of a set leaves. -/

/-- The fields, the values that wait for their tick, the time and the partitions stay. -/
structure Writes (s t : State) : Prop where
  par : t.par = s.par
  pend : t.pend = s.pend
  alm : t.alm = s.alm
  hst : t.hst = s.hst

theorem Writes.refl (s : State) : Writes s s := ⟨rfl, rfl, rfl, rfl⟩
theorem Writes.trans {s t u : State} (h : Writes s t) (k : Writes t u) : Writes s u :=
  ⟨k.par.trans h.par, k.pend.trans h.pend, k.alm.trans h.alm, k.hst.trans h.hst⟩
theorem Writes.ite {c : Prop} [Decidable c] {s a b : State} (h : Writes s a) (k : Writes s b) : Writes s (if c then a else b) := by
  split <;> assumption
theorem Writes.foldl {α : Type} (f : State → α → State) (hf : ∀ s x, Writes s (f s x)) (l : List α) (s : State) : Writes s (l.foldl f s) :=
  List.foldlRecOn (motive := Writes s) l f (.refl s) fun t ht x _ => ht.trans (hf t x)

theorem Sends.writes {s t : State} : Sends s t → Writes s t := by
  rintro ⟨p, a, b, c, o, rfl⟩
  exact ⟨rfl, rfl, rfl, rfl⟩
theorem storeOption_writes (s : State) : Writes s (storeOption s) := ⟨rfl, rfl, rfl, rfl⟩
theorem modSfi_writes (f : Sfi → Sfi) (s : State) : Writes s (modSfi f s) := ⟨rfl, rfl, rfl, rfl⟩

theorem pumpReqs_writes (p : Nat) (s : State) : Writes s (pumpReqs p s) := by
  refine Writes.ite (.refl s) (Writes.foldl _ (fun x r => ?_) _ s)
  exact .ite (.refl _) ⟨rfl, rfl, rfl, rfl⟩

theorem writeDeadtime_writes (c v u : Nat) (s : State) : Writes s (writeDeadtime c v u s) := by
  have written (a : Sat) : Writes s (writeReg (c / 4) a.hop (0x0100 + 0x40 * (c % 4)) v u s) := ⟨rfl, rfl, rfl, rfl⟩
  unfold writeDeadtime
  split
  · exact .ite ((written _).trans (pumpReqs_writes ..)) (.refl s)
  · exact .refl s

theorem txbWritten_writes (ids : List Nat) (s : State) : Writes s (txbWritten ids s) := by
  refine Writes.foldl _ (fun x id => ?_) _ s
  exact ⟨rfl, rfl, rfl, rfl⟩

/-- No field of a unit is in the set. -/
theorem any_unit {ids : List Nat} {u : Nat} (h : ∀ id ∈ ids, idUnit id ≠ u) (f : Nat → Bool) : ids.any (fun id => idUnit id == u && f id) = false :=
  List.any_eq_false.2 fun id hid => by simp [h id hid]

/-- A set without a clock field leaves the outputs as they are. -/
theorem clkWritten_none {ids : List Nat} (h : ∀ id ∈ ids, idUnit id ≠ 13) (s : State) : clkWritten ids s = s := by
  have clk : ids.filter (fun id => idUnit id == 13) = [] := List.filter_eq_nil_iff.2 fun id hid => by simp [h id hid]
  unfold clkWritten
  rw [clk]
  rfl

/-- The values of a set, waiting for their tick. -/
def waitingSet (tick : Int) (entry : Nat) (es : List (Nat × Wire)) : List Pend :=
  es.map (fun e => { id := e.1, val := e.2, tick := tick, entry := entry })

/-- A set without a field of the clocks and of the partitions waits for its tick. -/
theorem acceptEntries_waits {es : List (Nat × Wire)} (hclk : ∀ e ∈ es, idUnit e.1 ≠ 13) (hhst : ∀ e ∈ es, idUnit e.1 ≠ 17) (tick : Int) (entry : Nat)
    (s : State) : Writes { s with pend := s.pend ++ waitingSet tick entry es } (acceptEntries tick entry es s) := by
  have clk : ∀ id ∈ es.map (·.1), idUnit id ≠ 13 := fun id hid => by
    obtain ⟨e, he, rfl⟩ := List.mem_map.1 hid
    exact hclk e he
  have hst : ∀ id ∈ es.map (·.1), idUnit id ≠ 17 := fun id hid => by
    obtain ⟨e, he, rfl⟩ := List.mem_map.1 hid
    exact hhst e he
  have atOnce : ∀ e ∈ es, clkAtOnce e.1 = false := fun e he => by
    unfold clkAtOnce
    rw [beq_eq_false_iff_ne.2 (hclk e he), Bool.false_and]
  have later : es.filter (fun e => !clkAtOnce e.1) = es := List.filter_eq_self.2 fun e he => by rw [atOnce e he]; rfl
  have none_ : es.filter (fun e => clkAtOnce e.1) = [] := List.filter_eq_nil_iff.2 fun e he => by rw [atOnce e he]; decide
  have promoted (p : Nat) (x : State) :
      (if (es.map (·.1)).any (fun id => idUnit id == 17 && idInst id == p) then promoteHst p x else x) = x := if_neg (by
    rw [any_unit hst]
    decide)
  have gated : (es.map (·.1)).any (fun id => idUnit id == 13) = false := List.any_eq_false.2 fun id hid => by simp [clk id hid]
  have kept (x : State) : (List.range 8).foldl
      (fun s p => if (es.map (·.1)).any (fun id => idUnit id == 17 && idInst id == p) then promoteHst p s else s) x = x :=
    List.foldlRecOn (motive := fun t : State => t = x) _ _ rfl fun t ht p _ => (promoted p t).trans ht
  unfold acceptEntries
  dsimp only
  rw [later, none_, gated, List.foldl_nil, clkWritten_none clk, kept, if_neg Bool.false_ne_true]
  refine .trans ?_ (txbWritten_writes ..)
  refine .trans ?_ (.foldl _ (fun _ _ => writeDeadtime_writes ..) _ _)
  refine .trans ?_ (.ite (modSfi_writes ..) (.refl _))
  exact .ite (storeOption_writes ..) (.refl _)

/-- A set without a command waits for its tick. -/
theorem acceptSet_waits {es : List (Nat × Wire)} {s : State} (h : ∀ e ∈ es, idUnit e.1 ≠ 13 ∧ idUnit e.1 ≠ 17 ∧ isCmd s e.1 = false) (tick : Int)
    (entry p : Nat) (low : BitVec 4) : Writes { s with pend := s.pend ++ waitingSet tick entry es } (acceptSet tick entry p low es s) := by
  have plain : es.filter (fun e => !isCmd s e.1) = es := List.filter_eq_self.2 fun e he => by rw [(h e he).2.2]; rfl
  have cmds : es.filter (fun e => isCmd s e.1 && e.1 != idFaultClear) = [] := List.filter_eq_nil_iff.2 fun e he => by rw [(h e he).2.2, Bool.false_and]; decide
  unfold acceptSet
  dsimp only
  rw [plain, cmds, List.foldl_nil]
  exact (acceptEntries_waits (fun e he => (h e he).1) (fun e he => (h e he).2.1) ..).trans (forwardWrite_sends ..).writes

theorem isCmd_congr {s t : State} (hpar : t.par = s.par) (hpend : t.pend = s.pend) (id : Nat) : isCmd t id = isCmd s id := by
  unfold isCmd classOf
  split
  · rw [rowClass_congr hpar hpend]
  · rfl

theorem faultClear_isCmd (s : State) : isCmd s idFaultClear = true := rfl

/-- A set without a command is answered with its tick. -/
theorem answerSet_accepted {es : List (Nat × Wire)} {s : State} (h : ∀ e ∈ es, isCmd s e.1 = false) (p : Nat) (x : State) :
    answerSet p es x = accepted p x := by
  have none_ : es.find? (fun e => e.1 == idFaultClear) = none := List.find?_eq_none.2 fun e he heq => by
    have := h e he
    rw [beq_iff_eq.1 heq, faultClear_isCmd] at this
    cases this
  unfold answerSet
  rw [none_]

section
variable {p : Fin 8} {s : State}

theorem set_written {es : List (Nat × Wire)} (h : Granted p 0x0302 0x300 .observe false s) (hdev : s.dev ≠ .fallback)
    (hsize : 16 + 4 * (1 + 3 * es.length) ≤ maxMsg s p) (hes : ∀ e ∈ canonSet es, idUnit e.1 ≠ 13 ∧ idUnit e.1 ≠ 17 ∧ isCmd s e.1 = false) {dt : Nat}
    (hset : setRefusal (takeMsg p 0x0302 (s.begin dt)) p 0 (canonSet es) = none) : ∃ t, exec (.paramWrite dt p es) s = .next t ∧
      Answered p 0x0302 0 (wI (applyTick (s.begin dt))) s t ∧ t.par = s.par ∧
      t.pend = s.pend ++ (canonSet es).map (fun e => { id := e.1, val := e.2, tick := applyTick (s.begin dt) }) := by
  have par := takeMsg_par p 0x0302 dt s
  have pend := takeMsg_pend p 0x0302 dt s
  have alm := takeMsg_alm p 0x0302 dt s
  have dev := takeMsg_dev p 0x0302 dt s
  obtain ⟨n, pins⟩ := pinsFor_same (canonSet es) (takeMsg p 0x0302 (s.begin dt))
  have accepts := pinsFor_accepts _ hset
  rw [pins] at accepts
  have plain : ∀ e ∈ canonSet es, idUnit e.1 ≠ 13 ∧ idUnit e.1 ≠ 17 ∧ isCmd { takeMsg p 0x0302 (s.begin dt) with free := n } e.1 = false := fun e he =>
    ⟨(hes e he).1, (hes e he).2.1, (isCmd_congr par pend e.1).trans (hes e he).2.2⟩
  have tick : applyTick { takeMsg p 0x0302 (s.begin dt) with free := n } = applyTick (s.begin dt) := applyTick_congr alm (pairEn_congr par)
  have writes := acceptSet_waits plain (applyTick (s.begin dt)) 32 p (pinsFor (canonSet es) (takeMsg p 0x0302 (s.begin dt))).1
  have runs : exec (.paramWrite dt p es) s = done (accepted p (acceptSet (applyTick (s.begin dt)) 32 p
      (pinsFor (canonSet es) (takeMsg p 0x0302 (s.begin dt))).1 (canonSet es) { takeMsg p 0x0302 (s.begin dt) with free := n })) := by
    refine congrArg done ((hostCmd_body (h.begin dt) _).trans ((sized_body hsize _ _ _).trans ?_))
    dsimp only
    rw [pins]
    refine (if_neg ?_).trans ?_
    · unfold fallbackWrite
      rw [show (takeMsg p 0x0302 (s.begin dt)).dev = s.dev from dev, beq_eq_false_iff_ne.2 hdev, Bool.false_and]
      decide
    · rw [accepts, tick]
      exact answerSet_accepted (fun e he => (plain e he).2.2) p _
  generalize acceptSet (applyTick (s.begin dt)) 32 p (pinsFor (canonSet es) (takeMsg p 0x0302 (s.begin dt))).1 (canonSet es)
    { takeMsg p 0x0302 (s.begin dt) with free := n } = x at writes runs
  have final : applyTick x = applyTick (s.begin dt) := applyTick_congr (writes.alm.trans alm) (pairEn_congr (writes.par.trans par))
  unfold accepted at runs
  rw [final] at runs
  obtain ⟨t, ht, answered, replied⟩ := command_replies h.1 runs (by
    unfold State.hp
    rw [writes.hst])
  refine ⟨t, ht, answered, replied.par.trans (writes.par.trans par), replied.pend.trans (writes.pend.trans ?_)⟩
  exact congrArg (· ++ _) pend

/-! Ethernet frames. -/

/-- An event frame's arrival is stamped. -/
def arrived (n : Nat) (s : State) : State := if s.alm.running && s.dev.powered && isEth s n && (lane s n).pst == 0 then stampNow s else s

/-- An arrival is stamped, and no more. -/
theorem arrived_keeps (n : Nat) (s : State) : (arrived n s).par = s.par ∧ (arrived n s).lanes = s.lanes ∧ (arrived n s).dev = s.dev ∧
    (arrived n s).out = s.out := by
  unfold arrived
  split <;> exact ⟨rfl, rfl, rfl, rfl⟩

/-- The lane does not take Ethernet frames, or the frame is none. -/
def deafTo (n : Nat) (f : EthFrame) (s : State) : Bool := !s.dev.powered || !isEth s n || (lane s n).pst ≠ 0 || !ethGood f

/-- A frame that no address field of the device matches. -/
def foreign (n : Nat) (f : EthFrame) (s : State) : Bool := !vidMatches f (lf s.wire n 0x10) && !ptpTakes s n f

section
variable {x : State} {n : Fin 64} {f : EthFrame} (hpar : x.par = s.par) (hlanes : x.lanes = s.lanes) (hdev : x.dev = s.dev)
include hpar

theorem foreign_congr : foreign n f x = foreign n f s := by
  unfold foreign ptpTakes lf State.wire
  simp only [pn_congr hpar, hpar]

include hlanes hdev

theorem deafTo_none (hpow : s.dev.powered = true) (heth : isEth s n = true) (hpst : (lane s n).pst = 0) (hgood : ethGood f = true) :
    ¬deafTo n f x = true := by
  have eth : isEth x n = isEth s n := by
    unfold isEth proto lf State.wire
    rw [hpar]
  unfold deafTo
  rw [eth, lane_congr hlanes, hdev, hpow, heth, hpst, hgood]
  decide

end

theorem told_empty {x : State} (h : x.out = []) : told x = [] := by
  unfold told
  rw [h]
  rfl
theorem told_modLane (n : Nat) (f : Lane → Lane) (x : State) : told (modLane n f x) = told x := rfl
theorem told_emit_eth {x : State} (h : x.out = []) (n k : Nat) : told (x.emit (.eth n k)) = [.eth n k] := by
  unfold told State.emit
  rw [h]
  rfl
theorem emit_lanes (x : State) (o : Out) : (x.emit o).lanes = x.lanes := rfl

section
variable {n : Fin 64} {f : EthFrame} (hpow : s.dev.powered = true) (heth : isEth s n = true) (hpst : (lane s n).pst = 0) (hgood : ethGood f = true)
include hpow heth hpst hgood

theorem ethFrame_foreign (hvid : vidMatches f (lf s.wire n 0x10) = false) (hptp : ptpTakes s n f = false) (dt : Nat) :
    ∃ t, exec (.ethFrameRx dt n f) s = .next t ∧ (lane t n).ethDrop = sat32 (lane s n).ethDrop ∧ told t = [] := by
  obtain ⟨par, lanes, dev, out⟩ := arrived_keeps n (s.begin dt)
  have unknown : foreign n f (arrived n (s.begin dt)) = true := by
    rw [foreign_congr (s := s) par]
    unfold foreign
    rw [hvid, hptp]
    rfl
  have runs : exec (.ethFrameRx dt n f) s = done (modLane n (fun x => { x with ethDrop := sat32 x.ethDrop }) (arrived n (s.begin dt))) :=
    (if_neg (deafTo_none (s := s) par lanes dev hpow heth hpst hgood)).trans (if_pos unknown)
  refine exec_ends runs ?_
  rw [ended_lane, lane_modLane_self, lane_congr lanes, told_ended, told_modLane, told_empty out]
  exact ⟨rfl, rfl⟩

theorem ethFrame_arp (hvid : vidMatches f (lf s.wire n 0x10) = true) (harp : f.kind = .arp (lf s.wire n 0x11)) (dt : Nat) :
    ∃ t, exec (.ethFrameRx dt n f) s = .next t ∧ told t = [.eth n 0] ∧ t.lanes = s.lanes := by
  obtain ⟨par, lanes, dev, out⟩ := arrived_keeps n (s.begin dt)
  have known : ¬foreign n f (arrived n (s.begin dt)) = true := by
    rw [foreign_congr (s := s) par]
    unfold foreign
    rw [hvid, Bool.not_true, Bool.false_and]
    decide
  have here : lf (arrived n (s.begin dt)).wire n 0x11 = lf s.wire n 0x11 := by
    unfold lf State.wire
    rw [par]
    rfl
  have runs : exec (.ethFrameRx dt n f) s = done ((arrived n (s.begin dt)).emit (.eth n 0)) := by
    refine (if_neg (deafTo_none (s := s) par lanes dev hpow heth hpst hgood)).trans ((if_neg known).trans ?_)
    rw [harp]
    exact if_pos here.symm
  refine exec_ends runs ?_
  rw [ended_lanes, told_ended, told_emit_eth out, emit_lanes, lanes]
  exact ⟨rfl, rfl⟩

end

end

/-- Settles O57: each read and write is its command's body on the state with the message taken; what a set waits for is `Writes` of its store. -/
theorem readsAndParameters : Obligations.ReadsAndParameters := by
  unfold Obligations.ReadsAndParameters
  intro dt p s
  refine ⟨fun ids h hsize => ⟨fun hknown hfits => params_read h hsize hknown hfits dt, fun i hi hnone hbefore => params_unknown h hsize hi hnone hbefore dt⟩,
    fun es h hdev hsize hes hset => set_written h hdev hsize hes hset, fun n es h hsize hlen hset => set_staged h hsize hlen hset,
    fun n h => set_unstaged h dt, fun id h => ⟨fun r hr => param_described h hr dt, fun hr => param_unknown h hr dt⟩, fun mask h => times_read h dt,
    fun h => launches_read h dt, fun h => faults_read h dt, fun first count h => log_read h dt, fun h => firstOut_read h dt,
    fun n f hpow heth hpst hgood => ⟨fun hvid hptp => ethFrame_foreign hpow heth hpst hgood hvid hptp dt,
      fun hvid harp => ethFrame_arp hpow heth hpst hgood hvid harp dt⟩⟩

end Sys2Proof.Machine
end

section
/-! The keeper, the rails, block resets and the self-test (R40, R380, R485, R486, R504, R505, R507, R508). -/
namespace Sys2Proof.Machine

/-! The keeper. -/

theorem keeper_second {s : State} {dt : Nat} (hkeep : keeperRuns s = true) (hdue : secondDue (s.begin dt) = true) :
    ∃ t, exec (.keeperSecond dt) s = .next t ∧ t.sys.keepSec = s.sys.keepSec + 1 ∧ t.dev = s.dev ∧ t.par = s.par ∧
      t.sys.trialLeft = (if s.sys.trial then s.sys.trialLeft - 1 else s.sys.trialLeft) ∧
      (s.dev.powered = true → t.sfi.supplyAge = satAdd32 s.sfi.supplyAge 1 ∧
        t.sfi.emberLeft = if s.sfi.ember then s.sfi.emberLeft - 1 else s.sfi.emberLeft) := by
  have runs : ¬(!keeperRuns (s.begin dt) || !secondDue (s.begin dt)) = true := by
    rw [show keeperRuns (s.begin dt) = true from hkeep, hdue]
    decide
  by_cases hpow : s.dev.powered = true
  · have awake : ¬(!s.dev.powered) = true := by rw [hpow]; decide
    exact exec_ends ((if_neg runs).trans (if_neg awake)) ⟨rfl, rfl, rfl, rfl, fun _ => ⟨rfl, rfl⟩⟩
  · have off : (!s.dev.powered) = true := by simpa using hpow
    exact exec_ends ((if_neg runs).trans (if_pos off)) ⟨rfl, rfl, rfl, rfl, fun h => absurd h hpow⟩

theorem keeper_mirrored {s : State} (hpow : s.dev.powered = true) (hdue : s.sys.mirrorSec + 10 ≤ s.sys.keepSec ∨ s.sys.keepSec < s.sys.mirrorSec)
    (dt : Nat) : ∃ t, exec (.keeperMirror dt) s = .next t ∧ t.sys.mirrorSec = s.sys.keepSec ∧ t.sys.keepSec = s.sys.keepSec ∧ t.dev = s.dev := by
  have due : ¬(!s.dev.powered || (decide (s.sys.keepSec < s.sys.mirrorSec + 10) && decide (s.sys.mirrorSec ≤ s.sys.keepSec))) = true := by
    rw [hpow]
    simp
    omega
  exact exec_ends (if_neg due) ⟨rfl, rfl, rfl⟩

theorem failStart_keeps (s : State) : (failStart s).sys.keepSec = s.sys.keepSec ∧ (failStart s).sys.vbat = s.sys.vbat ∧ (failStart s).sec = s.sec := by
  unfold failStart
  split <;> exact ⟨rfl, rfl, rfl⟩

theorem rails_lost {s : State} (hpow : s.dev.powered = true) (dt : Nat) : ∃ t, exec (.railsLoss dt) s = .next t ∧
    t.dev = (if s.sys.vbat then .shelf else .off) ∧ t.sys.keepSec = s.sys.keepSec ∧ t.sys.asserted = [1] ∧ t.hst.token = 15 ∧ t.sec = s.sec ∧
    (s.sys.vbat = false → t.sys.keeperLost = true) := by
  have awake : ¬(!s.dev.powered) = true := by rw [hpow]; decide
  obtain ⟨keepSec, -, sec⟩ := failStart_keeps (s.begin dt)
  refine exec_ends (if_neg awake) ⟨rfl, keepSec, rfl, rfl, sec, fun hv => ?_⟩
  show (!s.sys.vbat || _) = true
  rw [hv]
  rfl

theorem vbat_returns (s : State) (dt : Nat) : ∃ t, exec (.vbatInRange dt) s = .next t ∧ t.sys.vbat = true ∧
    t.dev = (if s.dev = .off then .shelf else s.dev) ∧ t.par = s.par := exec_ends rfl ⟨rfl, rfl, rfl⟩

theorem vbat_lost (s : State) (dt : Nat) : ∃ t, exec (.vbatLoss dt) s = .next t ∧ t.sys.vbat = false ∧
    t.dev = (if s.dev = .shelf then .off else s.dev) ∧ t.par = (if s.dev = .shelf then s.par.filter (fun e => idUnit e.1 != 16) else s.par) ∧
    (s.dev = .shelf → t.sys.keeperLost = true) := by
  by_cases h : s.dev = .shelf
  · refine exec_ends (if_pos h) ?_
    rw [if_pos h, if_pos h]
    exact ⟨rfl, rfl, rfl, fun _ => rfl⟩
  · refine exec_ends (if_neg h) ?_
    rw [if_neg h, if_neg h]
    exact ⟨rfl, rfl, rfl, fun k => absurd k h⟩

/-! Resetting a block. -/

/-- Nothing of the configuration changes, no reset that waits and no other cause of one, and of the faults only other ones. -/
structure Restarts (s t : State) : Prop where
  par : t.par = s.par
  blk : t.sys.blk = s.sys.blk
  cause : t.sys.cause = s.sys.cause
  held : isHeld 0x7406 0 0 t = isHeld 0x7406 0 0 s

theorem Restarts.refl (s : State) : Restarts s s := ⟨rfl, rfl, rfl, rfl⟩
theorem Restarts.trans {s t u : State} (h : Restarts s t) (k : Restarts t u) : Restarts s u :=
  ⟨k.par.trans h.par, k.blk.trans h.blk, k.cause.trans h.cause, k.held.trans h.held⟩

theorem restarts_of_reacts {s t : State} (h : Reacts s t) : Restarts s t := by
  have sys := h.rules.keep.sys
  obtain ⟨b, hb⟩ := sys
  exact ⟨h.rules.keep.par, by rw [hb], by rw [hb], isHeld_congr h.held ..⟩

theorem blockForReset_restarts (s : State) : Restarts s (blockForReset s) ∧ (blockForReset s).gfe = s.gfe ∧ (blockForReset s).pend = s.pend := by
  have reacts : Reacts (modSys (fun y => { y with bist := if y.bist = 1 then 0 else y.bist }) s) (blockForReset s) :=
    (blockFrames_reacts _).trans ((discardChans_reacts ..).trans (setDev_reacts ..))
  have tested : Restarts s (modSys (fun y => { y with bist := if y.bist = 1 then 0 else y.bist }) s) := ⟨rfl, rfl, rfl, rfl⟩
  exact ⟨tested.trans (restarts_of_reacts reacts), reacts.rules.keep.gfe, reacts.rules.keep.pend⟩

theorem restartStream_restarts {i : Nat} (hi : i < 4) (s : State) : Restarts s (restartStream i s) := by
  obtain ⟨b, hb⟩ := (condHolds_rules (0x7101 + i) 0 0 (modRst i (fun r => { r with run := 1, started := false, fires := [] }) s)).keep.sys
  refine ⟨(condHolds_rules ..).keep.par, by unfold restartStream; rw [hb]; rfl, by unfold restartStream; rw [hb]; rfl, ?_⟩
  exact condHolds_isHeld (by simp; omega) _

theorem promoteWhere_none {s : State} (h : s.pend = []) (f : Pend → Bool) : promoteWhere f s = s := by
  unfold promoteWhere
  rw [h]
  cases s
  cases h
  rfl

theorem canRefresh_restarts {s : State} (h : s.pend = []) (n : Nat) : Restarts s (canRefresh n s) ∧ (canRefresh n s).gfe = s.gfe := by
  have same : promoteCan n s = s := by
    unfold promoteCan
    rw [promoteWhere_none h, ite_self]
  unfold canRefresh
  dsimp only
  rw [same]
  repeat' split
  all_goals exact ⟨⟨rfl, rfl, rfl, rfl⟩, rfl⟩

/-- A block in its initial state. -/
theorem resetBlock_restarts {s : State} (h : s.pend = []) (code : Nat) : Restarts s (resetBlock code s) ∧
    (code = 3 → (resetBlock code s).gfe = Vector.replicate 4 {}) ∧ (code ≠ 3 → (resetBlock code s).gfe = s.gfe) := by
  have kept {t : State} (hr : Restarts s t) (hg : t.gfe = s.gfe) (h3 : code ≠ 3) : Restarts s t ∧
      (code = 3 → t.gfe = Vector.replicate 4 {}) ∧ (code ≠ 3 → t.gfe = s.gfe) := ⟨hr, fun h => absurd h h3, fun _ => hg⟩
  unfold resetBlock
  split
  · exact kept ⟨rfl, rfl, rfl, rfl⟩ rfl (by omega)
  split
  · exact kept ⟨rfl, rfl, rfl, rfl⟩ rfl (by omega)
  split
  · next h3 => exact ⟨⟨rfl, rfl, rfl, rfl⟩, fun _ => rfl, fun h => absurd h3 h⟩
  split
  · exact kept ⟨rfl, rfl, rfl, rfl⟩ rfl (by omega)
  split
  · exact kept ⟨rfl, rfl, rfl, rfl⟩ rfl (by omega)
  split
  · have cleared : Restarts s (modRst (code - 0x10) (fun _ => {}) s) := ⟨rfl, rfl, rfl, rfl⟩
    dsimp only
    split
    · exact kept (cleared.trans (restartStream_restarts (by omega) _)) (condHolds_rules ..).keep.gfe ‹_›
    · exact kept cleared rfl ‹_›
  split
  · have refreshed := canRefresh_restarts (s := modCan (code - 0x20) CanCtl.reset s) h (code - 0x20)
    have cleared : Restarts s (modCan (code - 0x20) CanCtl.reset s) := ⟨rfl, rfl, rfl, rfl⟩
    exact kept (cleared.trans refreshed.1) refreshed.2 ‹_›
  · exact kept ⟨rfl, rfl, rfl, rfl⟩ rfl ‹_›

/-- A reset that waits no more. -/
def blkDone (code : Nat) (s : State) : State := modSys (fun y => { y with blk := y.blk.filter (fun e => e.1 != code), cause := 0x0409 }) s

/-- The block of a reset, out of RUN where it works each tick, in its initial state. -/
def blockRestarted (code : Nat) (s : State) : State :=
  resetBlock code (if perTickBlock code && (s.dev = .run || s.dev = .armed) then blockForReset s else s)

theorem blockRestarted_restarts {s : State} (h : s.pend = []) (code : Nat) : Restarts s (blockRestarted code s) ∧
    (code = 3 → (blockRestarted code s).gfe = Vector.replicate 4 {}) ∧ (code ≠ 3 → (blockRestarted code s).gfe = s.gfe) := by
  unfold blockRestarted
  split
  · obtain ⟨blocked, gfe, pend⟩ := blockForReset_restarts s
    obtain ⟨reset, g, k⟩ := resetBlock_restarts (pend.trans h) code
    exact ⟨blocked.trans reset, g, fun h3 => (k h3).trans gfe⟩
  · exact resetBlock_restarts h code

theorem ended_restarts (x : State) : Restarts x (ended x) := ⟨rfl, rfl, rfl, rfl⟩

section
variable {s : State} {code n : Nat} (hpend : s.pend = []) (hblk : s.sys.blk.find? (fun e => e.1 == code) = some (code, n))
include hpend hblk

theorem block_resets (dt : Nat) : ∃ t, exec (.blockResetComplete dt code true) s = .next t ∧ t.sys.blk = s.sys.blk.filter (fun e => e.1 != code) ∧
    t.sys.cause = 0x0409 ∧ t.par = s.par ∧ (code = 3 → t.gfe = Vector.replicate 4 {}) ∧ (code ≠ 3 → t.gfe = s.gfe) := by
  have runs : exec (.blockResetComplete dt code true) s = done (blockRestarted code (condHolds 0x7406 0 0 (blkDone code (s.begin dt)))) := by
    show (match s.sys.blk.find? (fun e => e.1 == code) with
      | none => _
      | some e => _) = _
    rw [hblk]
    rfl
  have rules := condHolds_rules 0x7406 0 0 (blkDone code (s.begin dt))
  obtain ⟨b, hb⟩ := rules.keep.sys
  obtain ⟨restarts, other, same⟩ := blockRestarted_restarts (rules.keep.pend.trans hpend) code
  have all := restarts.trans (ended_restarts _)
  refine exec_ends runs ⟨all.blk.trans (by rw [hb]; rfl), all.cause.trans (by rw [hb]; rfl), all.par.trans rules.keep.par, ?_⟩
  rw [ended_gfe]
  exact ⟨other, fun h => (same h).trans rules.keep.gfe⟩

theorem block_late {dt : Nat} (hlate : n + s.ptn 15 0 0x11 / stepQ ≤ s.clock + dt) : ∃ t, exec (.blockResetComplete dt code false) s = .next t ∧
    t.sys.blk = s.sys.blk.filter (fun e => e.1 != code) ∧ isHeld 0x7406 0 0 t = true := by
  have runs : exec (.blockResetComplete dt code false) s = done (blockRestarted code (raise 0x7406 0 0 code 0 [] (blkDone code (s.begin dt)))) := by
    show (match s.sys.blk.find? (fun e => e.1 == code) with
      | none => _
      | some e => _) = _
    rw [hblk]
    refine if_neg ?_
    show ¬(!false && decide (s.clock + dt < n + s.ptn 15 0 0x11 / stepQ)) = true
    simpa using hlate
  have rules := raise_rules 0x7406 0 0 code 0 [] (blkDone code (s.begin dt)) rfl
  obtain ⟨b, hb⟩ := rules.keep.sys
  have all := (blockRestarted_restarts (rules.keep.pend.trans hpend) code).1.trans (ended_restarts _)
  refine exec_ends runs ⟨all.blk.trans (by rw [hb]; rfl), all.held.trans ?_⟩
  exact raise_held _ _ _ _ _ _ _ rfl

end

/-! The self-test. -/

/-- The fields of the starts and resets stay, but for the self-test that a blocking cause interrupts. -/
structure Tested (s t : State) : Prop where
  sys : s.sys.bist ≠ 1 → t.sys = s.sys

theorem tested_of {s t : State} (h : t.sys = s.sys) : Tested s t := ⟨fun _ => h⟩
theorem Tested.refl (s : State) : Tested s s := tested_of rfl
theorem Tested.trans {s t u : State} (h : Tested s t) (k : Tested t u) : Tested s u :=
  ⟨fun hb => (k.sys (by rw [h.sys hb]; exact hb)).trans (h.sys hb)⟩
theorem Tested.ite {c : Prop} [Decidable c] {s a b : State} (h : Tested s a) (k : Tested s b) : Tested s (if c then a else b) := by
  split <;> assumption

theorem Logs.tested {s t : State} : Logs s t → Tested s t := by
  rintro ⟨n, l, a, o, rfl, -⟩
  exact tested_of rfl
theorem Clears.sys {s t : State} : Clears s t → t.sys = s.sys := by
  rintro ⟨p, c, h, n, l, w, a, o, rfl, -⟩
  rfl

/-! What every step of a raise leaves, the raise leaves. -/

/-- A relation that each step of a raise is in. -/
structure Reactive (R : State → State → Prop) : Prop where
  refl : ∀ s, R s s
  trans : ∀ {s t u}, R s t → R t u → R s u
  logs : ∀ {s t}, Logs s t → R s t
  spu : ∀ s q, R s { s with spu := q }
  rdn : ∀ s n, R s { s with rdn := n }
  free : ∀ s n, R s { s with free := n }
  frame : ∀ i e c p s, R s (sendState i e c p s)
  channels : ∀ cs s, R s (discardChans cs s)
  stream : ∀ i g s, R s (modRst i g s)
  block : ∀ op c d s, R s (blockWith op c d s)

section
variable {R : State → State → Prop} (hR : Reactive R)
include hR

theorem Reactive.ite {c : Prop} [Decidable c] {s a b : State} (h : R s a) (k : R s b) : R s (if c then a else b) := by
  split <;> assumption
theorem Reactive.foldl {α : Type} (f : State → α → State) (hf : ∀ s x, R s (f s x)) (l : List α) (s : State) : R s (l.foldl f s) :=
  List.foldlRecOn (motive := R s) l f (hR.refl s) fun t ht x _ => hR.trans ht (hf t x)
theorem Reactive.hears {s t : State} (h : Hears s t) : R s t := hR.logs h.logs

theorem Reactive.sendPeer (ps : List Nat) (f : PeerFrame) (s : State) : R s (sendPeer ps f s) := by
  refine hR.foldl _ (fun s q => ?_) _ s
  obtain ⟨x, n, e⟩ := nextSeq_eq q f s
  rw [e]
  exact hR.trans (hR.rdn s n) (hR.hears (emit_hears ..))
theorem Reactive.sendPair (f : PeerFrame) (s : State) : R s (sendPair f s) := by
  unfold Machine.sendPair
  obtain ⟨x, n, e⟩ := nextSeq_eq 8 f s
  rw [e]
  exact hR.trans (hR.rdn s n) (hR.foldl _ (fun _ _ => hR.hears (emit_hears ..)) _ _)
theorem Reactive.originateGb (s : State) : R s (originateGb s) := hR.trans (hR.rdn s _) (hR.sendPeer ..)
theorem Reactive.originateBc (k : Nat) (a : List Nat) (s : State) : R s (originateBc k a s) := hR.trans (hR.rdn s _) (hR.sendPeer ..)

theorem Reactive.fireStream (f : Fire) (i : Nat) (s : State) : R s (fireStream f i s) :=
  hR.ite (hR.refl s) (hR.ite (hR.trans (hR.stream ..) (hR.originateBc ..)) (hR.stream ..))
theorem Reactive.fireKind (k : Nat) (hit : Nat → Nat → Bool) (t a : Nat) (s : State) : R s (fireKind k hit t a s) :=
  hR.foldl _ (fun s _ => hR.foldl _ (fun s _ => hR.ite (hR.fireStream ..) (hR.refl s)) _ s) _ s

theorem Reactive.immediateStates (old s : State) : R s (immediateStates old s) :=
  hR.foldl _ (fun s _ => hR.ite (hR.frame ..) (hR.refl s)) _ s
theorem Reactive.applyLinks (old : State) (h : Held) (s : State) : R s (applyLinks old h s) := by
  have linked (cs : List Nat) : R s (Machine.immediateStates old (discardChans cs s)) := hR.trans (hR.channels ..) (hR.immediateStates ..)
  exact hR.ite (hR.refl s) (hR.ite (hR.trans (hR.trans (linked _) (hR.spu ..)) (hR.block ..)) (hR.trans (linked _) (hR.spu ..)))
theorem Reactive.applyReaction (old : State) (h : Held) (s : State) : R s (applyReaction old h s) :=
  hR.ite (hR.refl s) (hR.trans (hR.trans (hR.applyLinks old h s) (hR.ite (hR.originateGb _) (hR.refl _))) (hR.ite (hR.sendPair ..) (hR.refl _)))

theorem Reactive.recData (c i a b : Nat) (s : State) : R s (recData c i a b s).2 := by
  unfold Machine.recData
  dsimp only
  split
  · exact hR.refl s
  · split
    · exact hR.refl s
    · exact hR.free s _
theorem Reactive.repeatFault (c k i : Nat) (s : State) : R s (repeatFault c k i s) := by
  unfold Machine.repeatFault
  dsimp only
  split
  · exact hR.refl s
  · exact hR.trans (hR.spu ..) (hR.hears ((holdRec_hears ..).trans (setEventAll_hears _)))

/-- A fault for which no pair member withdraws. -/
theorem Reactive.raise {c : Nat} (hw : withdrawCode c = false) (k i a b : Nat) (sc : List Nat) (s : State) : R s (raise c k i a b sc s) := by
  unfold Machine.raise raiseWith
  dsimp only
  split
  · exact hR.repeatFault ..
  · rw [hw]
    simp only [Bool.false_and, Bool.false_eq_true, if_false]
    exact hR.trans (hR.recData c i a b s) (hR.trans (hR.trans (hR.spu ..) (hR.logs (logRec_logs ..)))
      (hR.trans (hR.fireKind ..) (hR.applyReaction ..)))

end

theorem setDev_tested (d : Dev) (c : Nat) (s : State) : Tested s (setDev d c s) :=
  .ite (.refl s) (.trans (t := { s with dev := d }) (tested_of rfl) (logEvent_logs ..).tested)
theorem blockWith_tested (op c d : Nat) (s : State) : Tested s (blockWith op c d s) := by
  let noted : State := discardChans (List.range 256) { noteCause c d s with sys := { s.sys with bist := if s.sys.bist = 1 then 0 else s.sys.bist } }
  have interrupted : Tested s noted := ⟨fun hb => by
    show { s.sys with bist := if s.sys.bist = 1 then 0 else s.sys.bist } = s.sys
    rw [if_neg hb]⟩
  exact interrupted.trans (.ite (setDev_tested ..) (.refl _))
theorem sendState_sys (i : Bool) (e : Nat) (c : List Nat) (p : Nat) (s : State) : (sendState i e c p s).sys = s.sys := by
  unfold sendState
  dsimp only
  split <;> rfl

theorem tested_reactive : Reactive Tested where
  refl := .refl
  trans := .trans
  logs := Logs.tested
  spu _ _ := tested_of rfl
  rdn _ _ := tested_of rfl
  free _ _ := tested_of rfl
  frame _ _ _ _ _ := tested_of (sendState_sys ..)
  channels _ _ := tested_of rfl
  stream _ _ _ := tested_of rfl
  block := blockWith_tested

theorem condHolds_tested (c k i : Nat) (s : State) : Tested s (condHolds c k i s) := tested_of (condHolds_clears ..).sys

theorem resetBlock_tested {code : Nat} (hcode : code < 0x14) (s : State) : Tested s (resetBlock code s) := by
  unfold resetBlock
  split
  · exact tested_of rfl
  split
  · exact tested_of rfl
  split
  · exact tested_of rfl
  split
  · exact tested_of rfl
  split
  · exact tested_of rfl
  have cleared : Tested s (modRst (code - 0x10) (fun _ => {}) s) := tested_of rfl
  have opened (x : State) : Tested x (modRst (code - 0x10) (fun r => { r with run := 1, started := false, fires := [] }) x) := tested_of rfl
  exact cleared.trans (.ite ((opened _).trans (condHolds_tested ..)) (.refl _))

theorem resetBlock_beside {code : Nat} (hcode : code < 0x14) (s : State) :
    (resetBlock code s).dev = s.dev ∧ ∀ q, ((resetBlock code s).hp q).mute = (s.hp q).mute := by
  have opened (i : Nat) (x : State) : (restartStream i x).dev = x.dev ∧ ∀ q, ((restartStream i x).hp q).mute = (x.hp q).mute :=
    ⟨condHolds_dev .., (condHolds_rules ..).keep.hp⟩
  unfold resetBlock
  split
  · exact ⟨rfl, fun _ => rfl⟩
  split
  · exact ⟨rfl, fun _ => rfl⟩
  split
  · exact ⟨rfl, fun _ => rfl⟩
  split
  · exact ⟨rfl, fun _ => rfl⟩
  split
  · exact ⟨rfl, fun _ => rfl⟩
  dsimp only
  split
  · exact opened ..
  · exact ⟨rfl, fun _ => rfl⟩

/-- The starts, the device state and the partitions stay. -/
structure Reinits (s t : State) : Prop where
  tested : Tested s t
  dev : t.dev = s.dev
  mute : ∀ q, (t.hp q).mute = (s.hp q).mute

theorem Reinits.trans {s t u : State} (h : Reinits s t) (k : Reinits t u) : Reinits s u :=
  ⟨h.tested.trans k.tested, k.dev.trans h.dev, fun q => (k.mute q).trans (h.mute q)⟩

theorem resetBlocks_reinits {l : List Nat} (hl : ∀ c ∈ l, c < 0x14) (s : State) : Reinits s (l.foldl (fun s c => resetBlock c s) s) :=
  List.foldlRecOn (motive := Reinits s) l _ ⟨.refl s, rfl, fun _ => rfl⟩ fun t ht c hc =>
    ht.trans ⟨resetBlock_tested (hl c hc) t, (resetBlock_beside (hl c hc) t).1, (resetBlock_beside (hl c hc) t).2⟩

/-- The end of a self-test in PARKED. -/
theorem reinitEngines_parked {s : State} (h : s.dev = .parked) : Reinits s (reinitEngines s) := by
  have blocks := (resetBlocks_reinits (l := [1, 2, 3, 4, 5]) (by decide) s).trans (resetBlocks_reinits (l := [0x10, 0x11, 0x12, 0x13]) (by decide) _)
  have stopped (x : State) : Reinits x (runPlls false false false false x) := ⟨tested_of rfl, rfl, fun _ => rfl⟩
  unfold reinitEngines
  dsimp only
  rw [if_pos (blocks.dev.trans h)]
  exact blocks.trans (stopped _)

section
variable {p : Fin 8} {s : State}

theorem selfTest_refused {mask : BitVec 2} (h : Granted p 0x0801 0x300 (.priv pvService) false s) (hparked : s.dev ≠ .parked) (harmed : s.dev ≠ .armed)
    (dt : Nat) : ∃ t, exec (.bistRun dt p mask) s = .next t ∧ t.sys.bist = s.sys.bist ∧ Answered p 0x0801 0x23 [BitVec.ofNat 32 (devCode s.dev), 0] s t := by
  have runs : exec (.bistRun dt p mask) s = done (refuse p stWrongState (devCode s.dev) 0 (takeMsg p 0x0801 (s.begin dt))) := by
    refine congrArg done ((hostCmd_body (h.begin dt) _).trans ((if_pos ?_).trans ?_))
    · rw [takeMsg_dev]
      simp [hparked, harmed]
    · rw [takeMsg_dev]
  obtain ⟨t, ht, answered, replied⟩ := command_replies h.1 runs rfl
  exact ⟨t, ht, congrArg Sys.bist (replied.sys.trans (takeMsg_sys p 0x0801 dt s)), answered⟩

/-- The self-test of the memory and that of the PLLs begin. -/
def selfTesting (mask : BitVec 2) (s : State) : State :=
  let s := if mask.getLsbD 1 then loseMemory s else s
  if s.dev = .parked then runPlls true true false false s else s

theorem loseMemory_keeps (s : State) : (loseMemory s).sys = s.sys ∧ (loseMemory s).out = s.out := by
  unfold loseMemory
  refine List.foldlRecOn (motive := fun t : State => t.sys = s.sys ∧ t.out = s.out) _ _ ?_ fun t ht q _ => ht
  exact List.foldlRecOn (motive := fun t : State => t.sys = s.sys ∧ t.out = s.out) _ _ ⟨rfl, rfl⟩ fun t ht i _ => ht

theorem selfTesting_keeps (mask : BitVec 2) (s : State) : (selfTesting mask s).sys = s.sys ∧ (selfTesting mask s).out = s.out := by
  have clocked (x : State) (hx : x.sys = s.sys ∧ x.out = s.out) : (if x.dev = .parked then runPlls true true false false x else x).sys = s.sys ∧
      (if x.dev = .parked then runPlls true true false false x else x).out = s.out := by
    split <;> exact hx
  refine clocked _ ?_
  split
  · exact loseMemory_keeps s
  · exact ⟨rfl, rfl⟩

theorem resp_told {p : Fin 8} {r : Resp} {t : State} : .resp p r ∈ t.out ↔ .resp p r ∈ told t := by
  unfold told
  rw [List.mem_filter]
  exact ⟨fun h => ⟨h, rfl⟩, And.left⟩

theorem selfTest_starts {mask : BitVec 2} (h : Granted p 0x0801 0x300 (.priv pvService) false s) (hdev : s.dev = .parked ∨ s.dev = .armed)
    (hbist : s.sys.bist ≠ 1) (dt : Nat) : ∃ t, exec (.bistRun dt p mask) s = .next t ∧ t.sys.bist = 1 ∧ t.sys.bistMask = mask.toNat ∧
      t.sys.bistPart = p.val ∧ ∀ r, .resp p r ∉ t.out := by
  have runs : exec (.bistRun dt p mask) s = done (selfTesting mask (modSys (fun y => { y with
      bist := 1, bistMask := mask.toNat, bistPart := p.val, bistSig := [0, 0, 0, 0], bistPass := 0 }) (takeMsg p 0x0801 (s.begin dt)))) := by
    refine congrArg done ((hostCmd_body (h.begin dt) _).trans ((if_neg ?_).trans rfl))
    rw [takeMsg_dev, takeMsg_sys]
    rcases hdev with e | e <;> simp [e, hbist]
  refine exec_ends runs ?_
  obtain ⟨sys, out⟩ := selfTesting_keeps mask (modSys (fun y => { y with
    bist := 1, bistMask := mask.toNat, bistPart := p.val, bistSig := [0, 0, 0, 0], bistPass := 0 }) (takeMsg p 0x0801 (s.begin dt)))
  rw [ended_sys, sys]
  refine ⟨rfl, rfl, rfl, fun r hr => ?_⟩
  rw [resp_told, told_ended, told_empty (out.trans rfl)] at hr
  cases hr

/-- The result of a self-test. -/
def selfTestNoted (sig : BitVec 128) (pass : BitVec 2) (s : State) : State :=
  modSys (fun y => { y with
    bist := if (BitVec.ofNat 2 s.sys.bistMask &&& pass).toNat == s.sys.bistMask then 2 else 3
    bistPass := (BitVec.ofNat 2 s.sys.bistMask &&& pass).toNat
    bistSig := (List.range 4).map (fun i => BitVec.ofNat 32 (sig.toNat / 2 ^ (32 * i))) }) s

/-- A self-test that has ended, with its fault. -/
def selfTested (sig : BitVec 128) (pass : BitVec 2) (s : State) : State :=
  if (BitVec.ofNat 2 s.sys.bistMask &&& pass).toNat == s.sys.bistMask then condHolds 0x7408 0 0 (reinitEngines (selfTestNoted sig pass s))
  else raiseDev 0x7408 0 0 (reinitEngines (selfTestNoted sig pass s))

theorem selfTested_keeps (sig : BitVec 128) (pass : BitVec 2) {s : State} (hdev : s.dev = .parked) :
    (selfTested sig pass s).sys = (selfTestNoted sig pass s).sys ∧ ∀ q, ((selfTested sig pass s).hp q).mute = (s.hp q).mute := by
  have ended_ : (selfTestNoted sig pass s).sys.bist ≠ 1 := by
    show (if _ then 2 else 3) ≠ 1
    split <;> decide
  have engines := reinitEngines_parked (s := selfTestNoted sig pass s) hdev
  have faults : Tested (reinitEngines (selfTestNoted sig pass s)) (selfTested sig pass s) :=
    .ite (condHolds_tested ..) (tested_reactive.raise (by rfl) ..)
  have rules : Rules (reinitEngines (selfTestNoted sig pass s)) (selfTested sig pass s) := .ite (condHolds_rules ..) (raiseDev_rules _ _ _ _ rfl)
  exact ⟨(engines.tested.trans faults).sys ended_, fun q => (rules.keep.hp q).trans (engines.mute q)⟩

theorem selfTest_ends {sig : BitVec 128} {pass : BitVec 2} (hbist : s.sys.bist = 1) (hdev : s.dev = .parked) (hpart : s.sys.bistPart = p.val)
    (hdrop : (s.hp p).drop = false) (dt : Nat) : ∃ t r, exec (.bistComplete dt sig pass) s = .next t ∧ .resp p r ∈ t.out ∧ r.status = 0 ∧
      r.payload = [] ∧ t.sys.bistPart = 8 ∧ t.sys.bist = if (BitVec.ofNat 2 s.sys.bistMask &&& pass).toNat = s.sys.bistMask then 2 else 3 := by
  obtain ⟨sys, mute⟩ := selfTested_keeps sig pass (s := s.begin dt) hdev
  have waits : bistWaits (selfTested sig pass (s.begin dt)) = true := by
    unfold bistWaits
    rw [sys]
    show decide (s.sys.bistPart < 8) = true
    rw [hpart]
    exact decide_eq_true p.isLt
  have runs : exec (.bistComplete dt sig pass) s = done (modSys (fun y => { y with bistPart := 8 }) (ok p [] (selfTested sig pass (s.begin dt)))) := by
    rw [← hpart]
    exact (if_neg (Classical.not_not.2 hbist)).trans (congrArg done (if_pos waits))
  obtain ⟨r, told, status, payload⟩ := told_of_mute (p := p) (y := s) hdrop (mute p) []
  refine ⟨_, r, runs, told, status, payload, rfl, ?_⟩
  refine (congrArg Sys.bist ((ok_talks p.val [] _).keep.sys.trans sys)).trans ?_
  show (if (BitVec.ofNat 2 s.sys.bistMask &&& pass).toNat == s.sys.bistMask then 2 else 3) = _
  simp only [beq_iff_eq]

theorem selfTest_read (h : Accepts p 0x0802 0x300 s) (dt : Nat) : ∃ t, exec (.bistResult dt p) s = .next t ∧ Answered p 0x0802 0
    (if s.sys.bist < 2 then [0, 0, 0, 0, 0] else s.sys.bistSig ++ [BitVec.ofNat 32 s.sys.bistPass]) s t := by
  have runs : exec (.bistResult dt p) s = done (ok p (if s.sys.bist < 2 then [0, 0, 0, 0, 0] else s.sys.bistSig ++ [BitVec.ofNat 32 s.sys.bistPass])
      (takeMsg p 0x0802 (s.begin dt))) := by
    refine congrArg done ((hostCmd_body (h.observed.begin dt) _).trans ?_)
    rw [takeMsg_sys]
    split <;> rfl
  obtain ⟨t, ht, answered, -⟩ := command_replies h runs rfl
  exact ⟨t, ht, answered⟩

end

/-- Settles O54: the keeper's commands by their equations, a block's reset by what `resetBlock` leaves, the self-test by `Tested`. -/
theorem keeperAndBist : Obligations.KeeperAndBist := by
  unfold Obligations.KeeperAndBist
  intro dt p s
  exact ⟨fun hkeep hdue => keeper_second hkeep hdue, fun hpow hdue => keeper_mirrored hpow hdue dt, fun hpow => rails_lost hpow dt, vbat_returns s dt,
    vbat_lost s dt, fun code n hpend hblk => ⟨block_resets hpend hblk dt, fun hlate => block_late hpend hblk hlate⟩,
    fun mask h => ⟨fun hdev hbist => selfTest_starts h hdev hbist dt, fun hparked harmed => selfTest_refused h hparked harmed dt⟩,
    fun sig pass hbist hdev hpart hdrop => selfTest_ends hbist hdev hpart hdrop dt, fun h => selfTest_read h dt⟩

end Sys2Proof.Machine
end

section
/-! The PlynLink ports through reactions and training (R204, R228). -/
namespace Sys2Proof.Machine

/-! The pre-start diagnostics. -/

/-- A port but for what STATE frames write and for its requests. -/
def Port.asking (q : Port) : Port := { q with seqState := 0, code := [], eff := [], reqs := [], seqCfg := 0, seqDiag := 0 }

/-- A relation that the end of a sweep is in: the books of the diagnostics, and a fault. -/
structure Sweeping (R : State → State → Prop) : Prop where
  refl : ∀ s, R s s
  trans : ∀ {s t u}, R s t → R t u → R s u
  books : ∀ s q, q.held = s.spu.held → R s { s with spu := q }
  fault : ∀ c k i a b sc s, withdrawCode c = false → R s (raise c k i a b sc s)

/-- A relation that each step of the diagnostics is in: besides, a request and its frame. -/
structure Diagnostic (R : State → State → Prop) : Prop extends Sweeping R where
  asks : ∀ p f s, (∀ q : Port, (f q).asking = q.asking) → R s (s.modPort p f)
  emit : ∀ o s, R s (s.emit o)

section
variable {R : State → State → Prop} (hR : Sweeping R)
include hR

theorem Sweeping.ite {c : Prop} [Decidable c] {s a b : State} (h : R s a) (k : R s b) : R s (if c then a else b) := by
  split <;> assumption
theorem Sweeping.foldl {α : Type} (f : State → α → State) (hf : ∀ s x, R s (f s x)) (l : List α) (s : State) : R s (l.foldl f s) :=
  List.foldlRecOn (motive := R s) l f (hR.refl s) fun t ht x _ => hR.trans ht (hf t x)

theorem Sweeping.setSweep (w : Sweep) (s : State) : R s (setSweep w s) := hR.books s _ rfl
theorem Sweeping.endPrestart (s : State) : R s (endPrestart s) := hR.ite (hR.books s _ rfl) (hR.refl s)
theorem Sweeping.sweepMissing (c : Nat) (s : State) : R s (sweepResult c 6 s) :=
  hR.trans (t := setSweepRes c 6 s) (hR.books s _ rfl) (hR.fault _ _ _ _ _ _ _ rfl)
theorem Sweeping.guardMissing (c : Nat) (s : State) : R s (raise 0x1030 1 c 0 0 [c] (setGuardRes c 2 s)) :=
  hR.trans (t := setGuardRes c 2 s) (hR.books s _ rfl) (hR.fault _ _ _ _ _ _ _ rfl)
theorem Sweeping.endSweep (w : Sweep) (s : State) : R s (endSweep w s) :=
  hR.trans (hR.trans (hR.foldl _ (fun _ _ => hR.sweepMissing ..) _ s) (hR.foldl _ (fun _ _ => hR.guardMissing ..) _ _)) (hR.setSweep ..)
theorem Sweeping.endSweeps (p : Nat) (s : State) : R s (endSweeps p s) :=
  hR.trans (hR.foldl _ (fun _ _ => hR.endSweep ..) _ s) (hR.endPrestart _)

end

section
variable {R : State → State → Prop} (hR : Diagnostic R)
include hR

theorem Diagnostic.addReq (p hop : Nat) (diag : Bool) (op addr data use : Nat) (s : State) : R s (addReq p hop diag op addr data use s) :=
  hR.asks _ _ _ fun _ => rfl
theorem Diagnostic.writeReg (p hop addr data use : Nat) (s : State) : R s (writeReg p hop addr data use s) := hR.addReq ..
theorem Diagnostic.pumpReqs (p : Nat) (s : State) : R s (pumpReqs p s) := by
  refine hR.ite (hR.refl s) (hR.foldl _ (fun x r => ?_) _ s)
  refine hR.ite (hR.refl x) (hR.trans (hR.asks p _ x ?_) (hR.emit ..))
  exact fun _ => rfl

theorem Diagnostic.goGuard (w : Sweep) (pos : Nat) (s : State) : R s (goGuard w pos s) := by
  unfold Machine.goGuard
  split
  · next j _ =>
    have untested : R s (setGuardRes (4 * w.port + j) 3 s) := hR.books s _ rfl
    exact hR.ite (hR.trans (hR.trans untested (hR.fault _ _ _ _ _ _ _ rfl)) (hR.setSweep ..)) (hR.trans (hR.addReq ..) (hR.setSweep ..))
  · exact hR.trans (hR.setSweep ..) (hR.endPrestart _)

theorem Diagnostic.goGuards (p hop fuel : Nat) : ∀ (pos : Nat) (s : State), R s (goGuards p hop fuel pos s) := by
  induction fuel with
  | zero => exact fun _ s => hR.refl s
  | succ fuel ih =>
    intro pos s
    unfold Machine.goGuards
    split
    · dsimp only
      split
      · exact hR.ite (hR.trans (hR.goGuard ..) (ih ..)) (hR.goGuard ..)
      · exact hR.goGuard ..
    · exact hR.refl s

theorem Diagnostic.goSweepN (p hop fuel : Nat) : ∀ (pos : Nat) (s : State), R s (goSweepN p hop fuel pos s) := by
  induction fuel with
  | zero => exact fun _ s => hR.goGuards ..
  | succ fuel ih =>
    intro pos s
    unfold Machine.goSweepN
    split
    · split
      · exact hR.ite (hR.trans (hR.sweepMissing ..) (ih ..)) (hR.trans (hR.setSweep ..) (hR.addReq ..))
      · exact hR.goGuards ..
    · exact hR.refl s

theorem Diagnostic.startPrestart (ps : List Nat) (s : State) : R s (startPrestart ps s) := by
  unfold Machine.startPrestart
  extract_lets ws cs spu noted swept
  have first : R s noted := hR.books s _ rfl
  have sweeps : R noted swept := hR.foldl _ (fun _ _ => hR.goSweepN ..) ws noted
  exact hR.trans (hR.trans (hR.trans first sweeps) (hR.foldl _ (fun _ _ => hR.pumpReqs ..) _ _)) (hR.endPrestart _)

theorem Diagnostic.maybePrestart (p : Nat) (s : State) : R s (maybePrestart p s) :=
  hR.ite (hR.refl s) (hR.ite (hR.ite (hR.startPrestart ..) (hR.refl s)) (hR.ite (hR.startPrestart ..) (hR.refl s)))

end

/-! What reactions leave of the ports. -/

/-- A port but for what STATE frames write. -/
def Port.quiet (q : Port) : Port := { q with seqState := 0, code := [], eff := [] }

/-- Of the ports named only what STATE frames write changes, and the fields, the values that wait and the time stay. -/
structure Ports (still : Nat → Prop) (s t : State) : Prop where
  port : ∀ q, still q → (t.port q).quiet = (s.port q).quiet
  par : t.par = s.par
  pend : t.pend = s.pend
  alm : t.alm = s.alm

/-- Every port. -/
abbrev Links : State → State → Prop := Ports fun _ => True

section
variable {still : Nat → Prop}

theorem Ports.of_plk {s t : State} (hplk : t.plk.port = s.plk.port) (hpar : t.par = s.par := by exact rfl) (hpend : t.pend = s.pend := by exact rfl)
    (halm : t.alm = s.alm := by exact rfl) : Ports still s t :=
  ⟨fun q _ => by unfold State.port; rw [hplk], hpar, hpend, halm⟩
theorem Ports.refl (s : State) : Ports still s s := .of_plk rfl
theorem Ports.trans {s t u : State} (h : Ports still s t) (k : Ports still t u) : Ports still s u :=
  ⟨fun q hq => (k.port q hq).trans (h.port q hq), k.par.trans h.par, k.pend.trans h.pend, k.alm.trans h.alm⟩
theorem Ports.st {s t : State} (h : Ports still s t) {q : Nat} (hq : still q) : (t.port q).st = (s.port q).st := by
  have e := congrArg Port.st (h.port q hq)
  exact e
theorem Ports.mono {s t : State} {fewer : Nat → Prop} (h : Ports still s t) (hf : ∀ q, fewer q → still q) : Ports fewer s t :=
  ⟨fun q hq => h.port q (hf q hq), h.par, h.pend, h.alm⟩
theorem Ports.ite {c : Prop} [Decidable c] {s a b : State} (h : Ports still s a) (k : Ports still s b) : Ports still s (if c then a else b) := by
  split <;> assumption
theorem Ports.foldl {α : Type} (f : State → α → State) (hf : ∀ s x, Ports still s (f s x)) (l : List α) (s : State) : Ports still s (l.foldl f s) :=
  List.foldlRecOn (motive := Ports still s) l f (.refl s) fun t ht x _ => ht.trans (hf t x)

theorem port_modPort_self (p : Nat) (f : Port → Port) (s : State) : (s.modPort p f).port p = f (s.port p) := tabGet_tabPut_self ..
theorem port_modPort_ne {p q : Nat} (h : q ≠ p) (f : Port → Port) (s : State) : (s.modPort p f).port q = s.port q := tabGet_tabPut_ne _ h ..

theorem modPort_ports {p : Nat} (f : Port → Port) (hf : still p → ∀ x : Port, (f x).quiet = x.quiet) (s : State) : Ports still s (s.modPort p f) := by
  refine ⟨fun q hq => ?_, rfl, rfl, rfl⟩
  by_cases hqp : q = p
  · subst hqp
    rw [port_modPort_self]
    exact hf hq _
  · rw [port_modPort_ne hqp]

theorem Logs.ports {s t : State} : Logs s t → Ports still s t := by
  rintro ⟨n, l, a, o, rfl, -⟩
  exact .of_plk rfl
theorem Talks.ports {s t : State} : Talks s t → Ports still s t := by
  rintro ⟨h, o, rfl⟩
  exact .of_plk rfl

theorem sendState_ports (i : Bool) (e : Nat) (c : List Nat) (p : Nat) (s : State) : Ports still s (sendState i e c p s) := by
  have framed (x : Port) (a : Nat) (b d : List Nat) : ({ x with seqState := a, code := b, eff := d } : Port).quiet = x.quiet := rfl
  have noted : Ports still s (s.modPort p (fun q => { q with
      seqState := if mute s then q.seqState else (q.seqState + 1) % 65536
      code := (List.range 4).map (fun j => if c.getD j 15 = 15 then q.code.getD j 0 else c.getD j 15)
      eff := (List.range 4).map (fun j => if c.getD j 15 = 1 then e else q.eff.getD j 0) })) := modPort_ports _ (fun _ x => framed x _ _ _) s
  exact .ite noted (noted.trans (.of_plk rfl))

theorem blockWith_ports (op c d : Nat) (s : State) : Ports still s (blockWith op c d s) := by
  have set (e : Dev) (n : Nat) (x : State) : Ports still x (setDev e n x) := .ite (.refl x) (.trans (t := { x with dev := e }) (.of_plk rfl) (logEvent_logs ..).ports)
  let noted : State := discardChans (List.range 256) { noteCause c d s with sys := { s.sys with bist := if s.sys.bist = 1 then 0 else s.sys.bist } }
  exact Ports.trans (t := noted) (.of_plk rfl) (.ite (set ..) (.refl _))

theorem ports_reactive : Reactive (Ports still) where
  refl := .refl
  trans := .trans
  logs := Logs.ports
  spu _ _ := .of_plk rfl
  rdn _ _ := .of_plk rfl
  free _ _ := .of_plk rfl
  frame := sendState_ports
  channels _ _ := .of_plk rfl
  stream _ _ _ := .of_plk rfl
  block := blockWith_ports

/-! Sweeps given up and requests dropped. -/

theorem ports_sweeping : Sweeping (Ports still) where
  refl := .refl
  trans := .trans
  books _ _ _ := .of_plk rfl
  fault _ _ _ _ _ _ _ hw := ports_reactive.raise hw ..

/-- A satellite that does not answer clears no fault. -/
theorem clearAnswered_ports (c : Nat) (s : State) : Ports still s (clearAnswered c false s) := by
  have marked (q : Spu) : Ports still s { s with spu := q } := .of_plk rfl
  unfold clearAnswered
  dsimp only
  rw [if_neg Bool.false_ne_true]
  split
  · exact marked _
  · split
    · exact marked _
    · split
      · exact (marked _).trans (accepted_talks ..).ports
      · exact (marked _).trans (refuse_talks ..).ports

/-- The requests of a port but those for the fields of its satellites are given up, and those are to be sent anew. -/
def reqsDropped (q : Port) : Port := { q with reqs := (q.reqs.filter (fun r => r.use == 4)).map (fun r => { r with sent := false, tries := 0 }) }

theorem dropReqs_after (p : Nat) (s : State) : Ports still (s.modPort p reqsDropped) (dropReqs p s) :=
  (ports_sweeping.endSweeps ..).trans (.foldl _ (fun _ _ => .foldl _ (fun _ _ => clearAnswered_ports ..) _ _) _ _)

theorem dropReqs_ports (p : Nat) (s : State) : Ports (· ≠ p) s (dropReqs p s) :=
  (modPort_ports _ (fun h => absurd rfl h) s).trans (dropReqs_after p s)

theorem dropReqs_port (p : Nat) (s : State) : ((dropReqs p s).port p).quiet = (reqsDropped (s.port p)).quiet := by
  rw [← port_modPort_self p reqsDropped s]
  exact (dropReqs_after (still := fun _ => True) p s).port p trivial

theorem reqsDropped_use {q : Port} {r : CfgReq} (h : r ∈ (reqsDropped q).reqs) : r.use = 4 := by
  obtain ⟨x, hx, rfl⟩ := List.mem_map.1 h
  exact beq_iff_eq.1 (List.mem_filter.1 hx).2

end

/-! Training starts. -/

/-- A port in training anew since t, with the requests for its satellites' fields. -/
def trains (t : Nat) (q : Port) : Prop := q.st = .lock ∧ q.trainAt = t ∧ ∀ r ∈ q.reqs, r.use = 4

theorem trains_of_quiet {t : Nat} {q r : Port} (h : r.quiet = q.quiet) (hq : trains t q) : trains t r := by
  have st := congrArg Port.st h
  have at_ := congrArg Port.trainAt h
  have reqs := congrArg Port.reqs h
  dsimp only [Port.quiet] at st at_ reqs
  unfold trains
  rw [st, at_, reqs]
  exact hq

theorem writeReg_trains {p t : Nat} {s : State} (h : trains t (s.port p)) (hop addr data : Nat) : trains t ((writeReg p hop addr data 4 s).port p) := by
  obtain ⟨lock, at_, use⟩ := h
  unfold writeReg addReq
  rw [port_modPort_self]
  refine ⟨lock, at_, fun r hr => ?_⟩
  rcases List.mem_append.1 hr with old | new
  · exact use r old
  · rw [List.mem_singleton.1 new]

theorem writeReg_ports (p hop addr data use : Nat) (s : State) : Ports (· ≠ p) s (writeReg p hop addr data use s) :=
  modPort_ports _ (fun h => absurd rfl h) s

theorem chClear_ports {still : Nat → Prop} (p : Nat) (s : State) : Ports still s (chClear p s) := by
  refine Ports.foldl _ (fun x j => ?_) _ s
  exact .of_plk rfl

/-- A port that takes training up, once its requests are dropped and the values that waited for this are in force. -/
def trainFresh (p : Nat) (s : State) : State :=
  if s.pn 5 p 1 = 0 then s.modPort p (fun q => { q with st := .off })
  else if s.pn 14 p 8 ≠ 0 then s.modPort p (fun q => { q with st := .down })
  else
    let peer := s.pairEn && s.rdn.pdig.ready.getLsbD p
    let asked := (s.port p).reqs
    let seq := if peer then s.rdn.pdig.stateSeq.getD p 0 else 0
    asked.foldl (fun s r => writeReg p r.hop r.addr r.data 4 s) (chClear p (s.modPort p (fun q =>
      { discards := q.discards, retries := q.retries, xIns := q.xIns, xDel := q.xDel
        st := .lock, trainAt := s.now, failedOnce := q.failedOnce, seqState := seq
        seqEdge := if peer then q.seqEdge else 0, seqCfg := if peer then q.seqCfg else 0, seqDiag := if peer then q.seqDiag else 0 })))

section
variable {p : Nat} {s : State}

theorem dropped_ports (p : Nat) (s : State) : Ports (· ≠ p) s (clearTx p (dropReqs p s)) := (dropReqs_ports p s).trans (.of_plk rfl)

theorem startTraining_eq (h : s.pend = []) : startTraining p s = trainFresh p (clearTx p (dropReqs p s)) := by
  have none_ : (clearTx p (dropReqs p s)).pend = [] := (dropped_ports p s).pend.trans h
  have same (x : State) (hx : x.pend = []) : ({ x with
      par := (x.pend.filter (fun e => portHalt p e.id && decide (e.tick ≤ x.tickNow))).foldl (fun (t : Tab Wire) (e : Pend) => tabPut t e.id e.val) x.par
      pend := x.pend.filter (fun e => !(x.pend.filter (fun e => portHalt p e.id && decide (e.tick ≤ x.tickNow))).contains e) } : State) = x := by
    rw [hx]
    cases x
    cases hx
    rfl
  exact congrArg (trainFresh p) (same _ none_)

theorem trainFresh_ports (p : Nat) (s : State) : Ports (· ≠ p) s (trainFresh p s) := by
  have set (f : Port → Port) : Ports (· ≠ p) s (s.modPort p f) := modPort_ports f (fun h => absurd rfl h) s
  exact .ite (set _) (.ite (set _) (((set _).trans (chClear_ports ..)).trans (.foldl _ (fun _ _ => writeReg_ports ..) _ _)))

theorem trainFresh_trains (hen : s.pn 5 p 1 ≠ 0) (hup : s.pn 14 p 8 = 0) : trains s.now ((trainFresh p s).port p) := by
  unfold trainFresh
  rw [if_neg hen, if_neg (Classical.not_not.2 hup)]
  refine List.foldlRecOn (motive := fun x : State => trains s.now (x.port p)) _ _ ?_ fun x hx r _ => writeReg_trains hx ..
  refine trains_of_quiet ((chClear_ports (still := fun _ => True) p _).port p trivial) ?_
  rw [port_modPort_self]
  exact ⟨rfl, rfl, fun r hr => absurd hr List.not_mem_nil⟩

theorem startTraining_ports (h : s.pend = []) : Ports (· ≠ p) s (startTraining p s) := by
  rw [startTraining_eq h]
  exact (dropped_ports p s).trans (trainFresh_ports ..)

theorem startTraining_trains (h : s.pend = []) (hen : s.pn 5 p 1 ≠ 0) (hup : s.pn 14 p 8 = 0) : trains s.now ((startTraining p s).port p) := by
  have dropped := dropped_ports p s
  rw [startTraining_eq h, show s.now = (clearTx p (dropReqs p s)).now by unfold State.now State.nowK State.tb; rw [dropped.alm]]
  exact trainFresh_trains (by rw [pn_congr dropped.par]; exact hen) (by rw [pn_congr dropped.par]; exact hup)

theorem retrainFront_ports {still : Nat → Prop} (h : s.pend = []) (n : Nat) : Ports still s (retrainFront n s) := by
  have same : promoteFront n s = s := promoteWhere_none h _
  unfold retrainFront
  rw [same]
  exact .ite (.refl s) (.of_plk rfl)

/-- The port about to train. -/
def aboutToTrain (p : Nat) (s : State) : State := (retrainFront p s).modPort p (fun q => { q with failedOnce := false })

theorem aboutToTrain_ports (h : s.pend = []) : Ports (· ≠ p) s (aboutToTrain p s) :=
  (retrainFront_ports h p).trans (modPort_ports _ (fun h => absurd rfl h) _)

/-- The first n ports have started their training. -/
theorem trained (h : s.pend = []) (n : Nat) : Ports (n ≤ ·) s ((List.range n).foldl (fun s p => startTraining p (aboutToTrain p s)) s) ∧
    ∀ q, q < n → s.pn 5 q 1 ≠ 0 → s.pn 14 q 8 = 0 →
      (((List.range n).foldl (fun s p => startTraining p (aboutToTrain p s)) s).port q).st = .lock := by
  induction n with
  | zero => exact ⟨.refl s, fun q hq => absurd hq (Nat.not_lt_zero q)⟩
  | succ n ih =>
    rw [List.range_succ, List.foldl_append, List.foldl_cons, List.foldl_nil]
    generalize (List.range n).foldl (fun s p => startTraining p (aboutToTrain p s)) s = x at ih ⊢
    obtain ⟨before, locked⟩ := ih
    have none_ : x.pend = [] := before.pend.trans h
    have about := aboutToTrain_ports (p := n) none_
    have step := about.trans (startTraining_ports (p := n) (about.pend.trans none_))
    refine ⟨(before.mono fun q hq => by omega).trans (step.mono fun q hq => by omega), fun q hq hen hup => ?_⟩
    by_cases hqn : q = n
    · subst hqn
      exact (startTraining_trains (about.pend.trans none_) (by rw [pn_congr (about.par.trans before.par)]; exact hen)
        (by rw [pn_congr (about.par.trans before.par)]; exact hup)).1
    · rw [step.st hqn]
      exact locked q (by omega) hen hup

theorem trainPorts_locks (h : s.pend = []) (p : Fin 64) (hen : s.pn 5 p 1 ≠ 0) (hup : s.pn 14 p 8 = 0) : ((trainPorts s).port p).st = .lock :=
  (trained h 64).2 p p.isLt hen hup

theorem trainPorts_alm (h : s.pend = []) : (trainPorts s).alm = s.alm := (trained h 64).1.alm

end

end Sys2Proof.Machine
end

section
/-! Resets and starts (R45, R478 to R481, R489, R492, R493, R500, Tables 19-1 to 19-3). -/
namespace Sys2Proof.Machine

/-! What stays when the device changes state. -/

/-- The device state outside RUN, the time, and the starts but for an interrupted self-test. -/
structure Steady (s t : State) : Prop where
  dev : s.dev ≠ .run → t.dev = s.dev
  clock : t.clock = s.clock
  sys : ∃ b, t.sys = { s.sys with bist := b }

theorem steady_of {s t : State} (hdev : t.dev = s.dev := by exact rfl) (hclock : t.clock = s.clock := by exact rfl) (hsys : t.sys = s.sys := by exact rfl) :
    Steady s t := ⟨fun _ => hdev, hclock, _, hsys⟩
theorem Steady.refl (s : State) : Steady s s := steady_of
theorem Steady.trans {s t u : State} (h : Steady s t) (k : Steady t u) : Steady s u := by
  obtain ⟨b, hb⟩ := h.sys
  obtain ⟨c, hc⟩ := k.sys
  exact ⟨fun hs => (k.dev (by rw [h.dev hs]; exact hs)).trans (h.dev hs), k.clock.trans h.clock, c, by rw [hc, hb]⟩
theorem Steady.ite {c : Prop} [Decidable c] {s a b : State} (h : Steady s a) (k : Steady s b) : Steady s (if c then a else b) := by
  split <;> assumption
theorem Steady.foldl {α : Type} (f : State → α → State) (hf : ∀ s x, Steady s (f s x)) (l : List α) (s : State) : Steady s (l.foldl f s) :=
  List.foldlRecOn (motive := Steady s) l f (.refl s) fun t ht x _ => ht.trans (hf t x)

theorem Promotes.steady {s t : State} (h : Promotes s t) : Steady s t := ⟨fun _ => h.dev, h.clock, h.sys⟩
theorem Rules.steady {s t : State} (h : Rules s t) (k : Calm s t) : Steady s t := ⟨k.dev_of_not_run, h.keep.clock, h.keep.sys⟩
theorem Sends.steady {s t : State} : Sends s t → Steady s t := by
  rintro ⟨p, a, b, c, o, rfl⟩
  exact steady_of
theorem raise_steady {c : Nat} (hw : withdrawCode c = false) (k i a b : Nat) (sc : List Nat) (s : State) : Steady s (raise c k i a b sc s) :=
  (raise_rules _ _ _ _ _ _ _ hw).steady (raise_calm hw ..)
theorem condHolds_steady (c k i : Nat) (s : State) : Steady s (condHolds c k i s) := (condHolds_rules ..).steady (condHolds_calm ..)

/-! The lanes. -/

/-- The lanes alone change. -/
def LanesOnly (s t : State) : Prop := ∃ l, t = { s with lanes := l }

theorem LanesOnly.refl (s : State) : LanesOnly s s := ⟨s.lanes, rfl⟩
theorem LanesOnly.trans {s t u : State} : LanesOnly s t → LanesOnly t u → LanesOnly s u := by
  rintro ⟨_, rfl⟩ ⟨l, rfl⟩
  exact ⟨l, rfl⟩
theorem LanesOnly.ite {c : Prop} [Decidable c] {s a b : State} (h : LanesOnly s a) (k : LanesOnly s b) : LanesOnly s (if c then a else b) := by
  split <;> assumption
theorem LanesOnly.foldl {α : Type} (f : State → α → State) (hf : ∀ s x, LanesOnly s (f s x)) (l : List α) (s : State) : LanesOnly s (l.foldl f s) :=
  List.foldlRecOn (motive := LanesOnly s) l f (.refl s) fun t ht x _ => ht.trans (hf t x)
theorem LanesOnly.steady {s t : State} : LanesOnly s t → Steady s t := by
  rintro ⟨l, rfl⟩
  exact steady_of

theorem modLane_lanesOnly (n : Nat) (f : Lane → Lane) (s : State) : LanesOnly s (modLane n f s) := ⟨_, rfl⟩
theorem setLock_lanesOnly (q : Nat) (v : Bool) (s : State) : LanesOnly s (setLock q v s) := ⟨_, rfl⟩
theorem stopQuads_lanesOnly (s : State) : LanesOnly s (stopQuads s) := .foldl _ (fun _ _ => .ite (.refl _) (setLock_lanesOnly ..)) _ s
theorem goPower_lanesOnly (n v : Nat) (s : State) : LanesOnly s (goPower n v s) :=
  .ite ((modLane_lanesOnly ..).trans (stopQuads_lanesOnly _)) (.ite (modLane_lanesOnly ..) (modLane_lanesOnly ..))
theorem releaseHeld_lanesOnly (n : Nat) (s : State) : LanesOnly s (releaseHeld n s) := by
  unfold releaseHeld
  split
  · exact .refl s
  · split
    · exact .refl s
    · exact .ite ((modLane_lanesOnly ..).trans (goPower_lanesOnly ..)) (modLane_lanesOnly ..)
theorem lanesArmed_lanesOnly (s : State) : LanesOnly s (lanesArmed s) := by
  have lanes (x : State) : LanesOnly x ((List.range 64).foldl (fun s n => if proto s n = 0 then goPower n 2 s else releaseHeld n (goPower n 0 s)) x) :=
    .foldl _ (fun _ _ => .ite (goPower_lanesOnly ..) ((goPower_lanesOnly ..).trans (releaseHeld_lanesOnly ..))) _ x
  unfold lanesArmed
  dsimp only
  exact (LanesOnly.ite (.refl s) (setLock_lanesOnly ..)).trans (lanes _)
/-- A lane whose power state a link partner asked for in this step. -/
def askedHeld (n : Nat) (s : State) : State :=
  modLane n (fun x => { x with heldPwr := if x.pwrAt.any (fun t => t / 20 == s.clock / 20) then some (s.pn 14 n 9) else x.heldPwr }) s

/-- A lane in PARKED. -/
def laneParked (s : State) (n : Nat) : State :=
  if n = wakeLane (askedHeld n s) then goPower n 0 (askedHeld n s) else goPower n 2 (askedHeld n s)

theorem laneParked_lanesOnly (s : State) (n : Nat) : LanesOnly s (laneParked s n) :=
  .ite ((modLane_lanesOnly ..).trans (goPower_lanesOnly ..)) ((modLane_lanesOnly ..).trans (goPower_lanesOnly ..))

theorem lanesParked_steady (s : State) : Steady s (lanesParked s) := by
  have stopped (x : State) : LanesOnly x (stopQuads (if 1 < quadFam x.wire (parkedQuad x) then setLock (parkedQuad x) false x else x)) :=
    (LanesOnly.ite (setLock_lanesOnly ..) (.refl x)).trans (stopQuads_lanesOnly _)
  have lanes (x : State) : LanesOnly x ((List.range 64).foldl laneParked x) := .foldl _ laneParked_lanesOnly _ x
  exact (promoteWhere_promotes (fun e => e.id == mkId 14 0x200 1) s).steady.trans ((lanes _).trans (stopped _)).steady

/-! PARKED and ARMED. -/

theorem endSession_steady (p cause : Nat) (s : State) : Steady s (endSession p cause s) := by
  have dropped : Steady s (dropToken p cause s) := .ite (moveToken_promotes ..).steady (.refl s)
  have closed (x : State) : Steady x (promoteHst p (releaseQueues p (x.modHp p (fun h => { h with session := false, version := 0 })))) :=
    .trans (t := releaseQueues p (x.modHp p (fun h => { h with session := false, version := 0 }))) steady_of (.ite (.refl _) (promoteWhere_promotes ..).steady)
  exact .ite (.refl s) (dropped.trans (closed _))

theorem canRefreshAll_steady (s : State) : Steady s (canRefreshAll s) := .foldl _ (fun _ _ => (canRefresh_promotes ..).steady) _ s
theorem canClockChange_steady (s : State) : Steady s (canClockChange s) := by
  refine Steady.trans (Steady.foldl _ (fun x n => ?_) _ s) (canRefreshAll_steady _)
  exact .ite (.refl x) (.ite steady_of steady_of)

theorem parkedClocks_steady (s : State) : Steady s (parkedClocks s) := by
  have stopped : Steady s { runPlls false false false false s with alm := { (runPlls false false false false s).alm with coarse := true } } := steady_of
  have down (x : State) : Steady x (pcieDown x) := by
    refine Steady.trans (t := { x with lanes := { x.lanes with pcie := false } }) steady_of (Steady.foldl _ (fun y p => ?_) _ _)
    exact .ite (endSession_steady ..) (.refl y)
  exact (((stopped.trans (lanesParked_steady _)).trans (down _)).trans (canClockChange_steady _)).trans (refreshOuts_promotes _).steady

theorem remoteBlock_steady (s : State) : Steady s (remoteBlock s) := by
  unfold remoteBlock
  split
  · exact .refl s
  · dsimp only
    exact (Steady.trans (t := noteCause _ _ s) steady_of (raise_steady (by rfl) ..)).trans (originateGb_sends _).steady

theorem armStart_enters (s : State) (sched : List (Nat × Nat)) (lcyc cause : Nat) :
    (armStart sched lcyc cause s).dev = .armed ∧ (armStart sched lcyc cause s).clock = s.clock := by
  have entered (x : State) : Steady x (adcEnterArmed (bsdEnterArmed (sfiEnterArmed x))) := by
    refine Steady.trans (Steady.trans (t := modSfi _ x) steady_of (Steady.foldl _ (fun y k => ?_) _ _)) steady_of
    exact steady_of
  unfold armStart
  extract_lets cleared a e alm lpe engines fresh steered parked spu armed lanes clocks started
  have clock : armed.clock = s.clock := (setDev_reacts ..).rules.keep.clock.trans (condHolds_rules ..).keep.clock
  have after : Steady armed (if started.spu.blockNLow then started else remoteBlock started) := by
    refine ((lanesArmed_lanesOnly armed).steady.trans ?_).trans (.ite (.refl started) (remoteBlock_steady started))
    exact (Steady.trans (Steady.ite (canClockChange_steady lanes) (canRefreshAll_steady lanes)) (refreshOuts_promotes _).steady).trans (entered clocks)
  have dev : armed.dev = .armed := setDev_dev ..
  exact ⟨(after.dev (by rw [dev]; decide)).trans dev, after.clock.trans clock⟩

theorem steady_diagnostic : Diagnostic Steady where
  refl := .refl
  trans := .trans
  books _ _ _ := steady_of
  fault _ _ _ _ _ _ _ hw := raise_steady hw ..
  asks _ _ _ _ := steady_of
  emit _ _ := steady_of

/-! Sources of a reset (R478, Table 19-2). -/

section
variable {s : State}

/-- A reset of reach FULL. -/
theorem assertReset_full (src cause : Nat) (held : Bool) (s : State) : (assertReset 1 src cause held s).dev = .boot ∧
    (assertReset 1 src cause held s).sys.step = (if (if held then s.sys.asserted ++ [src] else s.sys.asserted).isEmpty then 1 else 0) ∧
    (assertReset 1 src cause held s).sys.cause = 1 * 256 + src ∧
    (assertReset 1 src cause held s).sys.asserted = (if held then s.sys.asserted ++ [src] else s.sys.asserted) ∧
    (assertReset 1 src cause held s).hst.token = 15 ∧ (assertReset 1 src cause held s).pend = [] := by
  have again : (!decide (s.sys.step < 9) || decide (firstStep 1 ≤ s.sys.step) || (s.sys.step == 0)) = true := by
    by_cases h : s.sys.step = 0
    · rw [h]
      decide
    · simp [firstStep, Nat.one_le_iff_ne_zero.2 h]
  have widest : (if s.sys.asserted.isEmpty then 1 else wider s.sys.reach 1) = 1 := by
    split
    · rfl
    · unfold wider
      split
      · rfl
      · simp
        omega
  unfold assertReset
  simp only [again, widest, beq_self_eq_true, Bool.and_self, if_true, Bool.not_true, Bool.false_eq_true, if_false, Nat.reduceLeDiff]
  exact ⟨setDev_dev .boot cause _, rfl, trivial, trivial, setDev_token .boot cause _, (setDev_reacts .boot cause _).rules.keep.pend⟩

theorem powerOn_low (hpow : s.dev.powered = true) (hfree : s.sys.asserted.contains 1 = false) (dt : Nat) :
    ∃ t, exec (.powerOnReset dt true) s = .next t ∧ t.dev = .boot ∧ t.sys.step = 0 ∧ t.sys.cause = 0x0101 ∧
      t.sys.asserted = s.sys.asserted ++ [1] ∧ t.hst.token = 15 ∧ t.pend = [] := by
  have runs : exec (.powerOnReset dt true) s = done (assertReset 1 1 0 true (s.begin dt)) := by
    refine if_pos ?_
    show (s.dev.powered && !s.sys.asserted.contains 1) = true
    rw [hpow, hfree]
    rfl
  obtain ⟨dev, step, cause, asserted, token, pend⟩ := assertReset_full 1 0 true (s.begin dt)
  generalize assertReset 1 1 0 true (s.begin dt) = x at runs dev step cause asserted token pend
  refine exec_ends runs ⟨dev, step.trans ?_, cause, asserted, token, pend⟩
  simp

theorem resetPin_low (hpow : s.dev.powered = true) (hfree : s.sys.asserted.contains 2 = false) (dt : Nat) :
    ∃ t, exec (.resetN dt true) s = .next t ∧ t.dev = .boot ∧ t.sys.step = 0 ∧ t.sys.cause = 0x0102 ∧
      t.sys.asserted = s.sys.asserted ++ [2] ∧ t.hst.token = 15 ∧ t.pend = [] := by
  have runs : exec (.resetN dt true) s = done (assertReset 1 2 0 true (s.begin dt)) := by
    refine (if_neg ?_).trans ((if_pos rfl).trans (if_neg ?_))
    · show ¬(!s.dev.powered) = true
      rw [hpow]
      decide
    · show ¬s.sys.asserted.contains 2 = true
      rw [hfree]
      decide
  obtain ⟨dev, step, cause, asserted, token, pend⟩ := assertReset_full 2 0 true (s.begin dt)
  generalize assertReset 1 2 0 true (s.begin dt) = x at runs dev step cause asserted token pend
  refine exec_ends runs ⟨dev, step.trans ?_, cause, asserted, token, pend⟩
  simp

theorem jtag_resets (hpow : s.dev.powered = true) (hlife : s.sec.lifecycle ≠ 2) (hfree : s.sys.asserted = []) (dt : Nat) :
    ∃ t, exec (.jtagReset dt) s = .next t ∧ t.dev = .boot ∧ t.sys.step = 1 ∧ t.sys.cause = 0x0103 := by
  have runs : exec (.jtagReset dt) s = done (assertReset 1 3 0 false (s.begin dt)) := by
    refine if_pos ?_
    show (s.dev.powered && decide (s.sec.lifecycle ≠ 2)) = true
    rw [hpow, decide_eq_true hlife]
    rfl
  obtain ⟨dev, step, cause, -⟩ := assertReset_full 3 0 false (s.begin dt)
  generalize assertReset 1 3 0 false (s.begin dt) = x at runs dev step cause
  refine exec_ends runs ⟨dev, step.trans ?_, cause⟩
  rw [if_neg Bool.false_ne_true, State.begin_sys, hfree]
  rfl

theorem jtag_locked (hlife : s.sec.lifecycle = 2) (dt : Nat) : ∃ t, exec (.jtagReset dt) s = .next t ∧ t.sys = s.sys ∧ t.dev = s.dev := by
  have locked : ¬(s.dev.powered && decide (s.sec.lifecycle ≠ 2)) = true := by
    rw [decide_eq_false (Classical.not_not.2 hlife), Bool.and_false]
    decide
  exact exec_ends (if_neg locked) ⟨rfl, rfl⟩

/-- The last source of a reset is released. -/
theorem releaseReset_last {src : Nat} (hasserted : s.sys.asserted = [src]) (hstep : s.sys.step = 0) :
    (releaseReset src s).sys.step = firstStep s.sys.reach ∧ (releaseReset src s).sys.asserted = [] := by
  have left : s.sys.asserted.erase src = [] := by
    rw [hasserted]
    simp
  unfold releaseReset
  simp [left, hstep]

theorem resetPin_high (hpow : s.dev.powered = true) (hasserted : s.sys.asserted = [2]) (hstep : s.sys.step = 0) (dt : Nat) :
    ∃ t, exec (.resetN dt false) s = .next t ∧ t.sys.step = firstStep s.sys.reach ∧ t.sys.asserted = [] := by
  have runs : exec (.resetN dt false) s = done (releaseReset 2 (s.begin dt)) := by
    refine (if_neg ?_).trans ((if_neg Bool.false_ne_true).trans (if_pos ?_))
    · show ¬(!s.dev.powered) = true
      rw [hpow]
      decide
    · show s.sys.asserted.contains 2 = true
      rw [hasserted]
      rfl
  exact exec_ends runs (releaseReset_last (s := s.begin dt) hasserted hstep)

theorem powerOn_high (hasserted : s.sys.asserted = [1]) (hstep : s.sys.step = 0) (hreach : s.sys.reach = 1) (dt : Nat) :
    ∃ t, exec (.powerOnReset dt false) s = .next t ∧ t.sys.step = 1 ∧ t.sys.asserted = [] ∧ t.dev = if s.dev.powered then s.dev else .boot := by
  let b : State := if s.dev.powered then s.begin dt else setDev .boot 0 (s.begin dt)
  let c : State := if b.sys.keeperLost then b else mirrorCounts (modSys (fun y => { y with powerCycles := sat32 y.powerCycles }) b)
  have runs : exec (.powerOnReset dt false) s = done (releaseReset 1 c) := by
    show (if false = true then (if (s.dev.powered && !s.sys.asserted.contains 1) = true then done (assertReset 1 1 0 true (s.begin dt))
      else done (s.begin dt)) else if s.sys.asserted.contains 1 = true then done (releaseReset 1 c) else done (s.begin dt)) = _
    rw [if_neg Bool.false_ne_true, hasserted]
    rfl
  have booted : b.sys = s.sys ∧ b.dev = if s.dev.powered then s.dev else .boot := by
    by_cases hpow : s.dev.powered = true
    · rw [if_pos hpow, show b = s.begin dt from if_pos hpow]
      exact ⟨rfl, rfl⟩
    · rw [if_neg hpow, show b = setDev .boot 0 (s.begin dt) from if_neg hpow, setDev_sys, setDev_dev]
      exact ⟨rfl, rfl⟩
  have counted : c.sys.asserted = b.sys.asserted ∧ c.sys.step = b.sys.step ∧ c.sys.reach = b.sys.reach ∧ c.dev = b.dev := by
    by_cases hlost : b.sys.keeperLost = true
    · rw [show c = b from if_pos hlost]
      exact ⟨rfl, rfl, rfl, rfl⟩
    · rw [show c = mirrorCounts (modSys (fun y => { y with powerCycles := sat32 y.powerCycles }) b) from if_neg hlost]
      exact ⟨rfl, rfl, rfl, rfl⟩
  obtain ⟨sys, dev⟩ := booted
  obtain ⟨asserted, step, reach, dev'⟩ := counted
  rw [sys] at asserted step reach
  obtain ⟨step', asserted'⟩ := releaseReset_last (asserted.trans hasserted) (step.trans hstep)
  have after : (releaseReset 1 c).dev = c.dev := rfl
  rw [reach, hreach] at step'
  generalize releaseReset 1 c = x at runs step' asserted' after
  exact exec_ends runs ⟨step', asserted', after.trans (dev'.trans dev)⟩

/-! The release order (R481, Table 19-3). -/

theorem step_waits {dt : Nat} (hopen : stepOpen (s.begin dt) = false) (hpins : s.pinsHold = true) :
    ∃ t, exec (.resetReleaseStep dt) s = .next t ∧ TimePassed dt s t := by
  refine timePassed_of_done (if_neg ?_) hpins
  rw [hopen, Bool.and_false, Bool.false_and]
  decide

theorem step_runs {dt : Nat} (hpow : s.dev.powered = true) (hheld : s.sys.stepHeld = false) (hopen : stepOpen (s.begin dt) = true)
    (hmet : stepMet s = true) (hfrom : 1 ≤ s.sys.step) (hto : s.sys.step < 9) : exec (.resetReleaseStep dt) s = done (stepDone (s.begin dt)) := by
  refine if_pos ?_
  show (s.dev.powered && decide (s.sys.step ≠ 0) && decide (s.sys.step < 9) && !s.sys.stepHeld && stepOpen (s.begin dt) && stepMet s) = true
  rw [hpow, hheld, hopen, hmet, decide_eq_true hto, decide_eq_true (show s.sys.step ≠ 0 by omega)]
  rfl

theorem stepDone_next {k : Nat} (hk : s.sys.step = k) (hto : k < 8) : (stepDone s).sys.step = k + 1 := by
  unfold stepDone
  rw [hk]
  dsimp only
  split
  case h_6 => omega
  all_goals rfl

theorem stepDone_almanac (h : s.sys.step = 6) : (stepDone s).sys.step = 7 ∧ (stepDone s).alm.running = true ∧
    ∀ k : Fin 4, ((stepDone s).tb k).acc = s.sys.keepSec * (10 ^ 9 * 2 ^ 56) ∧ ((stepDone s).tb k).st = .free := by
  have next : stepDone s = modSys (fun y => { y with step := 6 + 1, stepAt := s.clock, stepBefore := 6 }) (stepAlmanac s) := by
    unfold stepDone
    rw [h]
    rfl
  have all : ∀ k : Fin 4, vget (Vector.replicate 4 ({ acc := s.sys.keepSec * (10 ^ 9 * 2 ^ 56) } : Tb)) k {} =
      { acc := s.sys.keepSec * (10 ^ 9 * 2 ^ 56) } := fun k => by
    match k with
    | 0 | 1 | 2 | 3 => rfl
  rw [next]
  refine ⟨rfl, rfl, fun k => ?_⟩
  have tb : (modSys (fun y => { y with step := 6 + 1, stepAt := s.clock, stepBefore := 6 }) (stepAlmanac s)).tb k =
      { acc := s.sys.keepSec * (10 ^ 9 * 2 ^ 56) } := all k
  rw [tb]
  exact ⟨rfl, rfl⟩

theorem sfiLeave_steady (s : State) : Steady s (sfiLeave s) := by
  refine Steady.trans (t := modSfi _ s) steady_of (Steady.foldl _ (fun y k => ?_) _ _)
  exact steady_of

/-- The engines are released in a device that was live. -/
theorem stepEngines_live (hlive : s.dev.live = true) (hrevert : s.sys.revert = false) :
    stepEngines s = parkedClocks (sfiLeave (setDev .parked 0x0207 (modSys (fun y => { y with step := 9 }) s))) := by
  unfold stepEngines
  extract_lets x y
  have stays : x.sys.revert = false := hrevert
  obtain ⟨b, hb⟩ := ((sfiLeave_steady _).trans (parkedClocks_steady (sfiLeave (setDev .parked (if x.sys.revert then 0x7403 else 0x0207) x)))).sys
  have kept : y.sys.revert = false := by
    rw [show y.sys = _ from hb, setDev_sys]
    exact stays
  rw [if_pos (show x.dev.live = true from hlive), kept]
  show parkedClocks (sfiLeave (setDev .parked (if x.sys.revert = true then 0x7403 else 0x0207) x)) = _
  rw [stays, if_neg Bool.false_ne_true]

theorem stepDone_engines (h : s.sys.step = 8) (hlive : s.dev.live = true) (hrevert : s.sys.revert = false) :
    (stepDone s).sys.step = 9 ∧ (stepDone s).dev = .parked := by
  have next : stepDone s = stepEngines s := by
    unfold stepDone
    rw [h]
    rfl
  rw [next, stepEngines_live hlive hrevert]
  generalize hx : setDev .parked 0x0207 (modSys (fun y => { y with step := 9 }) s) = x
  have dev : x.dev = .parked := by rw [← hx, setDev_dev]
  have step : x.sys.step = 9 := by
    rw [← hx, setDev_sys]
    rfl
  have steady := (sfiLeave_steady x).trans (parkedClocks_steady _)
  obtain ⟨b, hb⟩ := steady.sys
  exact ⟨by rw [hb]; exact step, (steady.dev (by rw [dev]; decide)).trans dev⟩

theorem limit_resets {dt : Nat} (hpow : s.dev.powered = true) (hlimit : limitPassed (s.begin dt) = true) (hheld : s.sys.stepHeld = false)
    (hfree : s.sys.asserted = []) : ∃ t, exec (.releaseWaitLimit dt) s = .next t ∧ t.dev = .boot ∧ t.sys.step = 1 ∧ t.sys.cause = 0x0180 + s.sys.step := by
  have runs : exec (.releaseWaitLimit dt) s = done (assertReset 1 (0x80 + s.sys.step) 0 false (s.begin dt)) := by
    refine if_pos ?_
    show (s.dev.powered && !s.sys.stepHeld && limitPassed (s.begin dt)) = true
    rw [hpow, hheld, hlimit]
    rfl
  obtain ⟨dev, step, cause, -⟩ := assertReset_full (0x80 + s.sys.step) 0 false (s.begin dt)
  generalize assertReset 1 (0x80 + s.sys.step) 0 false (s.begin dt) = x at runs dev step cause
  refine exec_ends runs ⟨dev, step.trans ?_, cause.trans (by omega)⟩
  rw [if_neg Bool.false_ne_true, State.begin_sys, hfree]
  rfl

/-! Training in BOOT and the start target (R45, R492). -/

theorem LanesOnly.rest {s t : State} : LanesOnly s t → t.par = s.par ∧ t.pend = s.pend ∧ t.alm = s.alm := by
  rintro ⟨l, rfl⟩
  exact ⟨rfl, rfl, rfl⟩

theorem boot_trains {dt : Nat} (hdue : s.sys.startClock + s.ptn 6 0 0xA / stepQ ≤ s.clock + dt) (htrains : bootTrains s = true) (hpend : s.pend = []) :
    ∃ t, exec (.acqWaitExpiry dt) s = .next t ∧ t.alm.acqDone = true ∧
      ∀ p : Fin 64, s.pn 5 p 1 ≠ 0 → s.pn 14 p 8 = 0 → (t.port p).st = .lock := by
  let x : State := lanesArmed { s.begin dt with alm := { (s.begin dt).alm with acqDone := true } }
  have again : bootTrains (s.begin dt) = true := by
    unfold bootTrains at htrains ⊢
    rw [State.begin_alm_acqDone]
    exact htrains
  have runs : exec (.acqWaitExpiry dt) s = done (trainPorts x) := (if_pos hdue).trans (congrArg done (if_pos again))
  obtain ⟨par, pend, alm⟩ := (lanesArmed_lanesOnly { s.begin dt with alm := { (s.begin dt).alm with acqDone := true } }).rest
  have none_ : x.pend = [] := pend.trans hpend
  refine exec_ends runs ?_
  rw [ended_alm, trainPorts_alm none_, show x.alm = _ from alm]
  refine ⟨rfl, fun p hen hup => ?_⟩
  unfold State.port
  rw [ended_plk]
  exact trainPorts_locks none_ p (by rw [pn_congr (s := s) par]; exact hen) (by rw [pn_congr (s := s) par]; exact hup)

theorem modSys_fields (f : Sys → Sys) (x : State) : (modSys f x).dev = x.dev ∧ (modSys f x).sys = f x.sys := ⟨rfl, rfl⟩
theorem targetReached_fields (x : State) : (targetReached x).dev = x.dev ∧ (targetReached x).sys.targetClock = some x.clock :=
  ⟨(modSys_fields _ x).1, congrArg Sys.targetClock (modSys_fields _ x).2⟩

section
variable {dt : Nat} (hdev : s.dev = .boot) (hstep : s.sys.step = 9) (hforce : s.sys.inForce = true) (hfall : s.sys.fallback = false)
  (hstrikes : (s.begin dt).strikes 0 s.alm.period s.alm.origin = true)
include hdev hstep hforce hfall hstrikes

theorem target_open : ¬(decide ((s.begin dt).dev ≠ .boot) || decide ((s.begin dt).sys.step ≠ 9) || !(s.begin dt).sys.inForce || (s.begin dt).sys.fallback ||
    !(s.begin dt).strikes 0 (s.begin dt).alm.period (s.begin dt).alm.origin) = true := by
  rw [State.begin_alm_period, State.begin_alm_origin, hstrikes, State.begin_dev, State.begin_sys, hdev, hstep, hforce, hfall]
  decide

theorem target_parked (htarget : s.sys.opt.startTarget = 0) : ∃ t, exec (.startTargetReached dt) s = .next t ∧ t.dev = .parked ∧
    t.sys.targetClock = some (s.clock + dt) := by
  have runs : exec (.startTargetReached dt) s = done (targetReached (parkedClocks (setDev .parked 0 (s.begin dt)))) := by
    show execStartTargetReached dt s = _
    unfold execStartTargetReached
    dsimp only
    rw [if_neg (target_open hdev hstep hforce hfall hstrikes), if_pos (show (s.begin dt).sys.opt.startTarget = 0 from htarget)]
  have steady := parkedClocks_steady (setDev .parked 0 (s.begin dt))
  have dev : (setDev .parked 0 (s.begin dt)).dev = .parked := setDev_dev ..
  have clock := (setDev_reacts .parked 0 (s.begin dt)).rules.keep.clock
  have parked : (parkedClocks (setDev .parked 0 (s.begin dt))).dev = .parked := (steady.dev (by rw [dev]; decide)).trans dev
  have now := steady.clock.trans clock
  generalize parkedClocks (setDev .parked 0 (s.begin dt)) = x at runs parked now
  refine exec_ends runs ?_
  obtain ⟨dev, reached⟩ := targetReached_fields x
  rw [ended_dev, ended_sys, dev, reached, parked, now]
  exact ⟨rfl, rfl⟩

theorem target_armed (htarget : s.sys.opt.startTarget ≠ 0) (hacq : s.alm.acqDone = true) (hports : portsSettled s = true) (hwaits : armWaits s = false)
    (hcheck : checkAll (s.begin dt) = none) (hlpe : (compileLpe s.wire).isOk = true) : ∃ t, exec (.startTargetReached dt) s = .next t ∧ t.dev = .armed ∧
      t.sys.targetClock = some (s.clock + dt) := by
  obtain ⟨r, hr⟩ : ∃ r, compileLpe (s.begin dt).wire = .ok r := by
    rw [show (s.begin dt).wire = s.wire from rfl]
    cases h : compileLpe s.wire with
    | error e =>
      rw [h] at hlpe
      cases hlpe
    | ok r => exact ⟨r, rfl⟩
  have ready : ¬(!(s.begin dt).alm.acqDone || !portsSettled (s.begin dt) || armWaits (s.begin dt)) = true := by
    have waits : armWaits (s.begin dt) = armWaits s := by
      unfold armWaits
      rw [begin_tb Tb.leapt (fun _ _ => by unfold Tb.advance; rfl)]
      rfl
    rw [State.begin_alm_acqDone, hacq, show portsSettled (s.begin dt) = true from hports, waits, hwaits]
    decide
  have runs : exec (.startTargetReached dt) s = done (maybePrestart 0 (targetReached (armStart r.1 r.2 0 (s.begin dt)))) := by
    show execStartTargetReached dt s = _
    unfold execStartTargetReached
    dsimp only
    rw [if_neg (target_open hdev hstep hforce hfall hstrikes), if_neg (show ¬(s.begin dt).sys.opt.startTarget = 0 from htarget), if_neg ready, hcheck, hr]
  obtain ⟨dev, clock⟩ := armStart_enters (s.begin dt) r.1 r.2 0
  generalize armStart r.1 r.2 0 (s.begin dt) = x at runs dev clock
  have steady := steady_diagnostic.maybePrestart 0 (targetReached x)
  have armed : (maybePrestart 0 (targetReached x)).dev = .armed := (steady.dev (by rw [(targetReached_fields x).1, dev]; decide)).trans
    ((targetReached_fields x).1.trans dev)
  obtain ⟨b, hb⟩ := steady.sys
  have reached : (maybePrestart 0 (targetReached x)).sys.targetClock = some (s.clock + dt) := by
    rw [hb]
    exact (targetReached_fields x).2.trans (congrArg some clock)
  generalize maybePrestart 0 (targetReached x) = y at runs armed reached
  exact exec_ends runs ⟨armed, reached⟩

end

/-! A start that succeeds, and a trial that expires (R493, R500). -/

theorem setAtt_keeps (slot n : Nat) (s : State) : (setAtt slot n s).sys.succeeded = s.sys.succeeded ∧ (setAtt slot n s).sec = s.sec ∧
    attOf (setAtt slot n s) slot = n := by
  cases slot <;> exact ⟨rfl, rfl, rfl⟩

/-- The version that a start has shown to run. -/
def versionKept (v : Nat) (s : State) : State :=
  if v = 0 then s else { s with sec := { s.sec with ctr := tabPut s.sec.ctr 0 v, mirror := tabPut s.sec.mirror 0 v } }

theorem versionKept_keeps (v : Nat) (s : State) : (versionKept v s).sys = s.sys ∧ v ≤ ctrOf (versionKept v s) 0 := by
  unfold versionKept
  split
  · exact ⟨rfl, by omega⟩
  · exact ⟨rfl, Nat.le_of_eq (tabGet_tabPut_self ..).symm⟩

theorem start_succeeds {c dt : Nat} (htarget : s.sys.targetClock = some c) (hnot : s.sys.succeeded = false)
    (hdue : c + s.sys.opt.startOk * 16000000000 ≤ s.clock + dt) : ∃ t, exec (.startSuccess dt) s = .next t ∧ t.sys.succeeded = true ∧
      attOf t s.sys.runSlot = 0 ∧ (fwSlot s s.sys.runSlot).svn ≤ ctrOf t 0 := by
  let v : Nat := max (ctrOf (s.begin dt) 0) (fwSlot (s.begin dt) s.sys.runSlot).svn
  let x : State := versionKept v (setAtt s.sys.runSlot 0 (modSys (fun y => { y with succeeded := true }) (s.begin dt)))
  have runs : exec (.startSuccess dt) s = done (condHolds 0x7405 0 0 x) := by
    show execStartSuccess dt s = _
    unfold execStartSuccess
    dsimp only
    rw [show (s.begin dt).sys.targetClock = some c from htarget]
    dsimp only
    refine if_neg ?_
    show ¬(s.sys.succeeded || decide (s.clock + dt < c + s.sys.opt.startOk * 16000000000)) = true
    rw [hnot]
    simpa using hdue
  obtain ⟨succeeded, -, att⟩ := setAtt_keeps s.sys.runSlot 0 (modSys (fun y => { y with succeeded := true }) (s.begin dt))
  obtain ⟨sys, counter⟩ := versionKept_keeps v (setAtt s.sys.runSlot 0 (modSys (fun y => { y with succeeded := true }) (s.begin dt)))
  have rules := condHolds_rules 0x7405 0 0 x
  obtain ⟨b, hb⟩ := rules.keep.sys
  refine exec_ends runs ?_
  unfold attOf ctrOf
  rw [ended_sys, ended_sec, hb, rules.keep.sec]
  refine ⟨(congrArg Sys.succeeded sys).trans succeeded, ?_, Nat.le_trans (Nat.le_max_right ..) counter⟩
  unfold attOf at att
  rw [show x.sys = _ from sys]
  exact att

theorem trial_reverts (htrial : s.sys.trial = true) (hleft : s.sys.trialLeft = 0) (hforce : s.sys.inForce = true) (hrevert : s.sys.revert = false)
    (hdev : s.dev = .parked ∨ s.dev = .boot) (hstands : patStands s (prevPat s) = true) (dt : Nat) : ∃ t, exec (.trialExpiry dt) s = .next t ∧
      t.sys.cur = 1 - s.sys.cur ∧ t.sys.trial = false ∧ t.sys.inForce = true ∧ isHeld 0x7403 0 0 t = isHeld 0x7403 0 0 s := by
  have open_ : ¬(!s.sys.trial || decide (s.sys.trialLeft ≠ 0) || !s.sys.inForce || s.sys.revert) = true := by
    rw [htrial, hleft, hforce, hrevert]
    decide
  have asleep : ¬(s.begin dt).awake = true := by
    unfold State.awake
    rw [State.begin_dev]
    rcases hdev with e | e <;> rw [e] <;> exact Bool.false_ne_true
  have runs : exec (.trialExpiry dt) s = done (swapPattern (s.begin dt)) := by
    show execTrialExpiry dt s = _
    unfold execTrialExpiry
    dsimp only
    refine (if_neg open_).trans ((if_neg asleep).trans ((if_pos ?_).trans (congrArg done (if_pos hstands))))
    rcases hdev with e | e <;> rw [State.begin_dev, e] <;> rfl
  let y : State := modSys (fun y => { y with cur := 1 - y.cur, trial := false, trialLeft := 0 }) (s.begin dt)
  obtain ⟨⟨k, b, sys⟩, -⟩ := putInForce_stands (patOf y) y
  have expired := (putInForce_follows (patOf y) y).expired
  have swapped : swapPattern (s.begin dt) = putInForce (patOf y) y := rfl
  rw [swapped] at runs
  generalize putInForce (patOf y) y = z at runs sys expired
  refine exec_ends runs ?_
  rw [ended_sys, ended_isHeld, sys, expired]
  exact ⟨rfl, rfl, rfl, rfl⟩

/-- The engines reset where a trial has expired. -/
theorem assertReset_engines (hstep : s.sys.step = 9) (hfree : s.sys.asserted = []) : (assertReset 3 8 0x7403 false s).sys.step = 7 ∧
    (assertReset 3 8 0x7403 false s).sys.cause = 0x0308 ∧ (assertReset 3 8 0x7403 false s).spu.held = s.spu.held := by
  simp [assertReset, hstep, hfree, firstStep, resetEngines]

theorem trial_resets (htrial : s.sys.trial = true) (hleft : s.sys.trialLeft = 0) (hforce : s.sys.inForce = true) (hrevert : s.sys.revert = false)
    (hawake : s.awake = true) (hfree : s.sys.asserted = []) (dt : Nat) : ∃ t, exec (.trialExpiry dt) s = .next t ∧ t.sys.revert = true ∧
      t.sys.step = 7 ∧ t.sys.cause = 0x0308 ∧ isHeld 0x7403 0 0 t = true := by
  have open_ : ¬(!s.sys.trial || decide (s.sys.trialLeft ≠ 0) || !s.sys.inForce || s.sys.revert) = true := by
    rw [htrial, hleft, hforce, hrevert]
    decide
  let x : State := raiseDev 0x7403 0 0 (s.begin dt)
  let y : State := blockFrames (blockNow 0x7403 (x.spu.logSeq - 1) x)
  have runs : exec (.trialExpiry dt) s = done (modSys (fun y => { y with revert := true }) (assertReset 3 8 0x7403 false y)) := by
    show execTrialExpiry dt s = _
    unfold execTrialExpiry
    dsimp only
    exact (if_neg open_).trans (if_pos hawake)
  have raised : Rules (s.begin dt) x := raiseDev_rules _ _ _ _ (by rfl)
  have blocked : Reacts x y := (blockWith_reacts ..).trans (blockFrames_reacts _)
  obtain ⟨b, hb⟩ := (raised.trans blocked.rules).keep.sys
  have held : isHeld 0x7403 0 0 y = true := (isHeld_congr blocked.held ..).trans (raiseDev_held _ _ _ _ (by rfl))
  have nine : s.sys.step = 9 := by
    unfold State.awake at hawake
    rw [Bool.and_eq_true, beq_iff_eq] at hawake
    exact hawake.2
  obtain ⟨step, cause, faults⟩ := assertReset_engines (s := y) (by rw [hb]; exact nine) (by rw [hb]; exact hfree)
  generalize assertReset 3 8 0x7403 false y = z at runs step cause faults
  refine exec_ends runs ?_
  rw [ended_sys, ended_isHeld, (modSys_fields _ z).2]
  exact ⟨rfl, step, cause, (isHeld_congr faults ..).trans held⟩

end

/-- Settles O53: the sources of a reset by what `assertReset` leaves, the release order by `stepDone`, the start target and the trial by `Steady`. -/
theorem startsAndResets : Obligations.StartsAndResets := by
  unfold Obligations.StartsAndResets
  intro dt s
  refine ⟨fun hpow => ⟨fun hfree => powerOn_low hpow hfree dt, fun hfree => resetPin_low hpow hfree dt, fun hlife hfree => jtag_resets hpow hlife hfree dt,
    fun hlife => jtag_locked hlife dt, fun ha hstep => resetPin_high hpow ha hstep dt⟩, fun ha hstep hreach => powerOn_high ha hstep hreach dt,
    fun _ _ _ hopen hpins => step_waits hopen hpins, fun hpow hheld hopen hmet => ⟨fun hfrom hto => ?_, fun h6 => ?_, fun h8 hlive hrevert => ?_⟩,
    fun hpow hlimit hheld hfree => limit_resets hpow hlimit hheld hfree, fun hdue htrains hpend => boot_trains hdue htrains hpend,
    fun hdev hstep hforce hfall hstrikes => ⟨fun h => target_parked hdev hstep hforce hfall hstrikes h,
      fun h hacq hports hwaits hcheck hlpe => target_armed hdev hstep hforce hfall hstrikes h hacq hports hwaits hcheck hlpe⟩,
    fun c htarget hnot hdue => start_succeeds htarget hnot hdue,
    fun htrial hleft hforce hrevert hawake hfree => trial_resets htrial hleft hforce hrevert hawake hfree dt,
    fun htrial hleft hforce hrevert hdev hstands => trial_reverts htrial hleft hforce hrevert hdev hstands dt⟩
  · exact exec_ends (step_runs hpow hheld hopen hmet hfrom (by omega)) (stepDone_next (s := s.begin dt) rfl hto)
  · obtain ⟨step, running, tb⟩ := stepDone_almanac (s := s.begin dt) h6
    have runs := step_runs hpow hheld hopen hmet (by omega) (by omega)
    generalize stepDone (s.begin dt) = x at runs step running tb
    exact exec_ends runs ⟨step, running, tb⟩
  · obtain ⟨step, dev⟩ := stepDone_engines (s := s.begin dt) h8 hlive hrevert
    have runs := step_runs hpow hheld hopen hmet (by omega) (by omega)
    generalize stepDone (s.begin dt) = x at runs step dev
    exact exec_ends runs ⟨step, dev⟩

end Sys2Proof.Machine
end

section
/-! A PlynLink port from beacon to supervision (R204 to R231). -/
namespace Sys2Proof.Machine

/-! Part of a port that stays. -/

/-- What g reads of every port stays, and what telemetry brought. -/
structure KeepsPort {α : Type} (g : Port → α) (s t : State) : Prop where
  port : ∀ q, g (t.port q) = g (s.port q)
  tel : t.plk.tel = s.plk.tel

section
variable {α : Type} {g : Port → α}

theorem KeepsPort.of_plk {s t : State} (hplk : t.plk = s.plk) : KeepsPort g s t := ⟨fun q => by unfold State.port; rw [hplk], by rw [hplk]⟩
theorem KeepsPort.refl (s : State) : KeepsPort g s s := .of_plk rfl
theorem KeepsPort.trans {s t u : State} (h : KeepsPort g s t) (k : KeepsPort g t u) : KeepsPort g s u :=
  ⟨fun q => (k.port q).trans (h.port q), k.tel.trans h.tel⟩
theorem KeepsPort.ite {c : Prop} [Decidable c] {s a b : State} (h : KeepsPort g s a) (k : KeepsPort g s b) : KeepsPort g s (if c then a else b) := by
  split <;> assumption
theorem KeepsPort.foldl {β : Type} (f : State → β → State) (hf : ∀ s x, KeepsPort g s (f s x)) (l : List β) (s : State) : KeepsPort g s (l.foldl f s) :=
  List.foldlRecOn (motive := KeepsPort g s) l f (.refl s) fun t ht x _ => ht.trans (hf t x)

theorem modPort_keepsPort (p : Nat) (f : Port → Port) (hf : ∀ x, g (f x) = g x) (s : State) : KeepsPort g s (s.modPort p f) := by
  refine ⟨fun q => ?_, rfl⟩
  by_cases h : q = p
  · subst h
    rw [port_modPort_self, hf]
  · rw [port_modPort_ne h]

theorem Logs.keepsPort {s t : State} : Logs s t → KeepsPort g s t := by
  rintro ⟨n, l, a, o, rfl, -⟩
  exact .of_plk rfl
theorem Talks.keepsPort {s t : State} : Talks s t → KeepsPort g s t := by
  rintro ⟨h, o, rfl⟩
  exact .of_plk rfl

section
variable (hg : ∀ (x : Port) (a : Nat) (b c : List Nat), g { x with seqState := a, code := b, eff := c } = g x)
include hg

theorem sendState_keepsPort (i : Bool) (e : Nat) (c : List Nat) (p : Nat) (s : State) : KeepsPort g s (sendState i e c p s) := by
  have noted := modPort_keepsPort (g := g) p (fun q => { q with
      seqState := if mute s then q.seqState else (q.seqState + 1) % 65536
      code := (List.range 4).map (fun j => if c.getD j 15 = 15 then q.code.getD j 0 else c.getD j 15)
      eff := (List.range 4).map (fun j => if c.getD j 15 = 1 then e else q.eff.getD j 0) }) (fun x => hg x _ _ _) s
  exact .ite noted (noted.trans (.of_plk rfl))

theorem blockWith_keepsPort (op c d : Nat) (s : State) : KeepsPort g s (blockWith op c d s) := by
  have set (e : Dev) (n : Nat) (x : State) : KeepsPort g x (setDev e n x) :=
    .ite (.refl x) (.trans (t := { x with dev := e }) (.of_plk rfl) (logEvent_logs ..).keepsPort)
  let noted : State := discardChans (List.range 256) { noteCause c d s with sys := { s.sys with bist := if s.sys.bist = 1 then 0 else s.sys.bist } }
  exact KeepsPort.trans (t := noted) (.of_plk rfl) (.ite (set ..) (.refl _))

theorem keepsPort_reactive : Reactive (KeepsPort g) where
  refl := .refl
  trans := .trans
  logs := Logs.keepsPort
  spu _ _ := .of_plk rfl
  rdn _ _ := .of_plk rfl
  free _ _ := .of_plk rfl
  frame := sendState_keepsPort hg
  channels _ _ := .of_plk rfl
  stream _ _ _ := .of_plk rfl
  block := blockWith_keepsPort hg

theorem clearHeld_keepsPort (auto : Bool) (h : Held) (s : State) : KeepsPort g s (clearHeld auto h s) := by
  have hR := keepsPort_reactive hg
  unfold clearHeld
  extract_lets spu gone lr r logged n freed framed
  have ended_ : KeepsPort g s logged := .trans (t := gone) (.of_plk rfl) (logRec_logs ..).keepsPort
  have linked : KeepsPort g s framed := ended_.trans (hR.immediateStates ..)
  have released (e : Nat) (x : State) : KeepsPort g x (sendRelease freed e x) := .foldl _ (fun _ _ => .ite (sendState_keepsPort hg ..) (.refl _)) _ x
  exact .ite ended_ (.ite (linked.trans (.trans (t := rejoinChans freed _ _ framed) (.of_plk rfl) (released ..))) linked)
theorem condHolds_keepsPort (c k i : Nat) (s : State) : KeepsPort g s (condHolds c k i s) :=
  .trans (t := { s with spu := { s.spu with held := s.spu.held.map (fun h => if sameFault c k i h then { h with ok := true } else h) } }) (.of_plk rfl)
    (.foldl _ (fun _ _ => clearHeld_keepsPort hg ..) _ _)
theorem runRaise_keepsPort {c : Nat} (hw : withdrawCode c = false) (k i a b : Nat) (sc : List Nat) (x : Bool) (s : State) :
    KeepsPort g s (runRaise c k i a b sc x s) := by
  have hR := keepsPort_reactive hg
  have noted (q : Spu) : KeepsPort g s { s with spu := q } := .of_plk rfl
  exact .ite (.ite (.refl s) ((noted _).trans (hR.raise hw ..))) (noted _)

end

/-- What the diagnostics do to a port are its requests. -/
theorem keepsPort_diagnostic (hg : ∀ x y : Port, x.asking = y.asking → g x = g y) : Diagnostic (KeepsPort g) where
  refl := .refl
  trans := .trans
  books _ _ _ := .of_plk rfl
  fault _ _ _ _ _ _ _ hw := (keepsPort_reactive fun x _ _ _ => hg _ x rfl).raise hw ..
  asks p f s hf := modPort_keepsPort p f (fun x => hg _ _ (hf x)) s
  emit _ _ := .of_plk rfl

end

/-! Beacons and their replies (R207, R210). -/

section
variable {p : Fin 64} {s : State}

theorem beacon_waits {dt : Nat} (hstrikes : (s.begin dt).strikes 0 (1000 * nsecQ) 0 = false) (hpins : s.pinsHold = true) :
    ∃ t, exec (.beaconDue dt p) s = .next t ∧ TimePassed dt s t := by
  refine timePassed_of_done (if_pos ?_) hpins
  rw [hstrikes, Bool.not_false, Bool.or_true]

/-- The place and the SEQ of the next beacon. -/
def beaconed (p : Nat) (s : State) : State :=
  s.modPort p (fun q => { q with
    seqBeacon := (q.seqBeacon + 1) % 65536
    dreqHop := if (s.port p).sats.length = 0 then 0 else (q.dreqHop + 1) % (s.port p).sats.length })

/-- The beacon that leaves next. -/
def beaconFrame (p : Nat) (s : State) : PlyFrame :=
  .beacon (s.port p).seqBeacon 0
    (if (s.port p).sats.length = 0 then none else some ((s.port p).dreqHop % (s.port p).sats.length))
    ((s.port p).delay.toList.map (fun d => if d.valid then some d.value else none))
def nextBeacon (p : Nat) (s : State) : Out := .plink p (beaconFrame p s)

theorem emit_mem (x : State) (o : Out) : o ∈ (ended (x.emit o)).out := mem_ended (List.mem_append_right _ (List.mem_singleton_self o))

theorem ended_port (x : State) (q : Nat) : (ended x).port q = x.port q := rfl
theorem emit_port (x : State) (o : Out) (q : Nat) : (x.emit o).port q = x.port q := rfl
theorem ended_tel (x : State) (c : Nat) : (ended x).tel c = x.tel c := rfl

theorem beacon_runs {dt : Nat} (hsends : linkSends (s.port p).st = true) (hstrikes : (s.begin dt).strikes 0 (1000 * nsecQ) 0 = true) :
    exec (.beaconDue dt p) s = done ((beaconed p (s.begin dt)).emit (nextBeacon p (s.begin dt))) := by
  have sends : ¬(!linkSends (s.port p).st || !(s.begin dt).strikes 0 (1000 * nsecQ) 0) = true := by
    rw [hsends, hstrikes]
    decide
  exact if_neg sends

theorem beacon_leaves {dt : Nat} (hsends : linkSends (s.port p).st = true) (hstrikes : (s.begin dt).strikes 0 (1000 * nsecQ) 0 = true) :
    ∃ t, exec (.beaconDue dt p) s = .next t ∧ t.spu.held = s.spu.held ∧ t.mod = s.mod ∧ t.par = s.par ∧
      (t.port p).seqBeacon = ((s.port p).seqBeacon + 1) % 65536 ∧
      .plink p (.beacon (s.port p).seqBeacon 0
        (if (s.port p).sats = [] then none else some ((s.port p).dreqHop % (s.port p).sats.length))
        ((s.port p).delay.toList.map (fun d => if d.valid then some d.value else none))) ∈ t.out := by
  have runs := beacon_runs hsends hstrikes
  have leaves := emit_mem (beaconed p (s.begin dt)) (nextBeacon p (s.begin dt))
  refine exec_ends runs ⟨rfl, rfl, rfl, ?_, ?_⟩
  · rw [ended_port, emit_port, beaconed, port_modPort_self]
    rfl
  · have beacon : nextBeacon p (s.begin dt) = .plink p (.beacon (s.port p).seqBeacon 0
        (if (s.port p).sats = [] then none else some ((s.port p).dreqHop % (s.port p).sats.length))
        ((s.port p).delay.toList.map (fun d => if d.valid then some d.value else none))) := by
      simp only [nextBeacon, beaconFrame, List.length_eq_zero_iff]
      rfl
    rw [← beacon]
    exact leaves

/-- A frame from a hop that is in order. -/
def frameSeen (p hop : Nat) (s : State) : State :=
  s.modPort p (fun q => { q with
    lastRx := q.lastRx.set hop s.now
    xIns := satAdd32 q.xIns (Config.filler true p s.clock), xDel := satAdd32 q.xDel (Config.filler false p s.clock) })

theorem frameFrom_eq (p hop : Nat) (s : State) : frameFrom p hop s = condHolds 0x3011 3 (4 * p + hop) (frameSeen p hop s) := rfl

/-- The delays of the hops of a port, and when they were heard. -/
def heardFrom (q : Port) : List Nat × Vector Delay 4 := (q.lastRx, q.delay)

theorem heardFrom_reactive : Reactive (KeepsPort heardFrom) := keepsPort_reactive fun _ _ _ _ => rfl
theorem heardFrom_diagnostic : Diagnostic (KeepsPort heardFrom) :=
  keepsPort_diagnostic fun _ _ h => by
    have e := congrArg heardFrom h
    exact e
theorem heardFrom_condHolds (c k i : Nat) (s : State) : KeepsPort heardFrom s (condHolds c k i s) := condHolds_keepsPort (fun _ _ _ _ => rfl) c k i s

theorem recheckBudget_heardFrom (p : Nat) (s : State) : KeepsPort heardFrom s (recheckBudget p s) := by
  have budget : KeepsPort heardFrom s (setBudget p s) := by
    refine modPort_keepsPort p _ (fun _ => ?_) s
    rfl
  have judged (b : Bool) (x : State) : KeepsPort heardFrom x (if b then condFails 0x3002 2 p x else condHolds 0x3002 2 p x) :=
    .ite (.of_plk rfl) (heardFrom_condHolds ..)
  exact .ite budget (.ite ((budget.trans (judged ..)).trans (runRaise_keepsPort (fun _ _ _ _ => rfl) (by decide) ..)) (budget.trans (judged ..)))

theorem startTel_heardFrom (p : Nat) (s : State) : KeepsPort heardFrom s (startTel p s) := by
  have hR := heardFrom_diagnostic
  unfold startTel
  extract_lets lead per n origin started
  have first : KeepsPort heardFrom s started := by
    refine modPort_keepsPort p _ (fun _ => ?_) s
    rfl
  exact first.trans (hR.trans (hR.foldl _ (fun _ _ => hR.trans (hR.trans (hR.writeReg ..) (hR.writeReg ..)) (hR.writeReg ..)) _ _) (hR.pumpReqs ..))

/-- A delay measured, and what follows from it. -/
def replyTaken (p hop : Nat) (m : Delay × Bool × Bool) (s : State) : State :=
  let s := s.modPort p (fun q => { q with delay := vmod q.delay hop (fun _ => m.1) })
  let s := if m.2.2 then condHolds 0x3014 3 (4 * p + hop) (raise 0x3014 3 (4 * p + hop) m.1.value 0 (hopScope s p hop) s) else s
  let s := if m.2.1 then recheckBudget p s else s
  if (s.port p).st = .delay && (s.port p).sats.all (fun a => (vget (s.port p).delay a.hop {}).valid) then startTel p s else s

theorem replyTaken_after (p hop : Nat) (m : Delay × Bool × Bool) (s : State) :
    KeepsPort heardFrom (s.modPort p (fun q => { q with delay := vmod q.delay hop (fun _ => m.1) })) (replyTaken p hop m s) := by
  unfold replyTaken
  extract_lets noted judged checked
  have first : KeepsPort heardFrom noted judged := .ite ((heardFrom_reactive.raise (by decide) ..).trans (heardFrom_condHolds ..)) (.refl _)
  have second : KeepsPort heardFrom judged checked := .ite (recheckBudget_heardFrom ..) (.refl _)
  exact (first.trans second).trans (.ite (startTel_heardFrom ..) (.refl _))

theorem reply_measures {hop : Fin 4} {bseq tTurn tx : Nat} {dn up : Int} (hsends : linkSends (s.port p).st = true)
    (hseq : (tabGet s.tx.beacons p []).find? (fun e => e.1 == bseq) = some (bseq, tx)) (dt : Nat) :
    ∃ t, exec (.beaconReplyRx dt p hop bseq tTurn dn up) s = .next t ∧ (t.port p).lastRx = (s.port p).lastRx.set hop (s.begin dt).now ∧
      vget (t.port p).delay hop {} =
        ((vget (s.port p).delay hop {}).measure (((s.begin dt).nowStep : Int) - tx - tTurn - dn - up + s.pt 5 p 5 / stepQ) dn.toNat).1 := by
  have fed := condHolds_rules 0x3011 3 (4 * p + hop) (frameSeen p hop (s.begin dt))
  have heard := heardFrom_condHolds 0x3011 3 (4 * p + hop) (frameSeen p hop (s.begin dt))
  let m := (vget (s.port p).delay hop {}).measure (((s.begin dt).nowStep : Int) - tx - tTurn - dn - up + s.pt 5 p 5 / stepQ) dn.toNat
  have runs : exec (.beaconReplyRx dt p hop bseq tTurn dn up) s = done (replyTaken p hop m (frameFrom p hop (s.begin dt))) := by
    refine congrArg done ?_
    have closed : ¬(!linkSends ((s.begin dt).port p).st) = true := by
      rw [show (s.begin dt).port p = s.port p from rfl, hsends]
      decide
    unfold beaconReply
    dsimp only
    rw [if_neg closed]
    have beacons : (frameFrom p hop (s.begin dt)).tx = s.tx := fed.keep.tx
    have now : (frameFrom p hop (s.begin dt)).nowStep = (s.begin dt).nowStep := by
      unfold State.nowStep State.now State.nowK State.tb
      rw [show (frameFrom p hop (s.begin dt)).alm = (s.begin dt).alm from fed.keep.alm]
    have time : (frameFrom p hop (s.begin dt)).pt 5 p 5 = s.pt 5 p 5 := pt_congr fed.keep.par ..
    rw [beacons, hseq, now, time]
    rfl
  have after := replyTaken_after p hop m (frameFrom p hop (s.begin dt))
  generalize replyTaken p hop m (frameFrom p hop (s.begin dt)) = x at runs after
  have port := after.port p
  rw [port_modPort_self] at port
  have before := heard.port p
  rw [frameSeen, port_modPort_self] at before
  refine exec_ends runs ?_
  rw [ended_port]
  refine ⟨(congrArg Prod.fst port).trans (congrArg Prod.fst before), ?_⟩
  rw [show (x.port p).delay = _ from congrArg Prod.snd port]
  exact vget_vmod_self ..

end

/-! What telemetry brought stays, and the faults of a code. -/

/-- What telemetry brought stays, and what is held of a code. -/
structure Tells (code : Nat) (s t : State) : Prop where
  tel : t.plk.tel = s.plk.tel
  held : ∀ k i, isHeld code k i s = true → isHeld code k i t = true

section
variable {code : Nat}

theorem Tells.of_same {s t : State} (hplk : t.plk = s.plk) (hheld : t.spu.held = s.spu.held) : Tells code s t :=
  ⟨by rw [hplk], fun k i h => (isHeld_congr hheld code k i).trans h⟩
theorem Tells.refl (s : State) : Tells code s s := ⟨rfl, fun _ _ => id⟩
theorem Tells.trans {s t u : State} (h : Tells code s t) (k : Tells code t u) : Tells code s u :=
  ⟨k.tel.trans h.tel, fun n i x => k.held n i (h.held n i x)⟩
theorem Tells.ite {c : Prop} [Decidable c] {s a b : State} (h : Tells code s a) (k : Tells code s b) : Tells code s (if c then a else b) := by
  split <;> assumption
theorem Tells.foldl_mem {α : Type} {f : State → α → State} (l : List α) (hf : ∀ s, ∀ x ∈ l, Tells code s (f s x)) (s : State) : Tells code s (l.foldl f s) :=
  List.foldlRecOn (motive := Tells code s) l f (.refl s) fun t ht x hx => ht.trans (hf t x hx)
theorem Tells.foldl {α : Type} (f : State → α → State) (hf : ∀ s x, Tells code s (f s x)) (l : List α) (s : State) : Tells code s (l.foldl f s) :=
  .foldl_mem l (fun s x _ => hf s x) s

theorem modPort_tells (p : Nat) (f : Port → Port) (s : State) : Tells code s (s.modPort p f) := ⟨rfl, fun _ _ => id⟩
theorem Talks.tells {s t : State} : Talks s t → Tells code s t := by
  rintro ⟨h, o, rfl⟩
  exact .of_same rfl rfl
theorem raise_tells {c : Nat} (hw : withdrawCode c = false) (k i a b : Nat) (sc : List Nat) (s : State) : Tells code s (raise c k i a b sc s) :=
  ⟨((keepsPort_reactive (g := fun _ => ()) fun _ _ _ _ => rfl).raise hw ..).tel, fun _ _ h => isHeld_raise h _ _ _ _ _ _ hw⟩
theorem condHolds_tells {c : Nat} (hc : c ≠ code) (k i : Nat) (s : State) : Tells code s (condHolds c k i s) :=
  ⟨(condHolds_keepsPort (g := fun _ => ()) (fun _ _ _ _ => rfl) c k i s).tel, fun n j h => (condHolds_isHeld (by simp [hc]) s).trans h⟩
theorem runRaise_tells {c : Nat} (hw : withdrawCode c = false) (k i a b : Nat) (sc : List Nat) (x : Bool) (s : State) :
    Tells code s (runRaise c k i a b sc x s) := by
  have noted (r : List (Nat × Nat)) : Tells code s { s with spu := { s.spu with runs := r } } := .of_same rfl rfl
  exact .ite (.ite (.refl s) ((noted _).trans (raise_tells hw ..))) (noted _)

theorem tells_diagnostic : Diagnostic (Tells code) where
  refl := .refl
  trans := .trans
  books _ _ h := .of_same rfl h
  fault _ _ _ _ _ _ _ hw := raise_tells hw ..
  asks p f s _ := modPort_tells p f s
  emit _ _ := .of_same rfl rfl

/-- A satellite that does not answer clears no fault. -/
theorem clearAnswered_tells (c : Nat) (s : State) : Tells code s (clearAnswered c false s) := by
  have marked (q : Spu) : Tells code s { s with spu := { q with held := s.spu.held.map (fun h =>
      if h.clearing && h.lr.kind == 1 && h.lr.index == c then { h with clearing := false } else h) } } :=
    ⟨rfl, fun k i h => (isHeld_map s q _ fun f => by split <;> rfl).trans h⟩
  unfold clearAnswered
  dsimp only
  rw [if_neg Bool.false_ne_true]
  split
  · exact marked s.spu
  · split
    · exact marked { s.spu with clearBy := _ }
    · split
      · exact (marked { s.spu with clearBy := none }).trans (accepted_talks ..).tells
      · exact (marked { s.spu with clearBy := none }).trans (refuse_talks ..).tells

theorem dropReqs_tells (p : Nat) (s : State) : Tells code s (dropReqs p s) :=
  ((modPort_tells ..).trans (tells_diagnostic.endSweeps ..)).trans
    (.foldl _ (fun _ _ => .foldl _ (fun _ _ => clearAnswered_tells ..) _ _) _ _)

theorem portRefused_tells {c : Nat} (hw : withdrawCode c = false) (p : Nat) (s : State) : Tells code s (portRefused p c s) :=
  (((dropReqs_tells ..).trans (modPort_tells ..)).trans (raise_tells hw ..)).trans (tells_diagnostic.maybePrestart ..)

end

/-! Telemetry (R223, Table 8-5). -/

theorem satLevel_tells {code c : Nat} (hc : c ≠ code) (hw : withdrawCode c = false) (n : Nat) (sc : List Nat) (k i a b : Nat) (x : Bool) (s : State) :
    Tells code s (satLevel c n sc k i a b x s) := by
  have judged : Tells code s (runRaise c k i a b sc x s) := runRaise_tells hw ..
  exact .ite judged (judged.trans (condHolds_tells hc ..))
theorem satEvent_tells {code c : Nat} (hc : c ≠ code) (hw : withdrawCode c = false) (n a b : Nat) (x : Bool) (s : State) :
    Tells code s (satEvent c n a b x s) := .ite (raise_tells hw ..) (.ite (condHolds_tells hc ..) (.refl s))

/-- The satellites of a replica that is ready are released, where the pair runs. -/
theorem released_tells (code p : Nat) (b : Bool) (s : State) :
    Tells code s (if b then { s with mod := { s.mod with relNext := s.mod.relNext ++ portScope s p } } else s) := by
  have queued (m : Modr) : Tells code s { s with mod := m } := .of_same rfl rfl
  cases b
  · exact .refl s
  · exact queued _

theorem tryReady_tells {code : Nat} (hcode : code = 0x1001 ∨ code = 0x1002) (p : Nat) (s : State) : Tells code s (tryReady p s) := by
  unfold tryReady
  extract_lets q budgeted ready cleared tested mod_ released
  have budget : Tells code s budgeted := modPort_tells ..
  have first : Tells code s ready := budget.trans (modPort_tells ..)
  have second : Tells code ready cleared := .foldl_mem _ (fun x k hk => condHolds_tells (by
    simp only [List.mem_cons, List.not_mem_nil, or_false] at hk
    omega) ..) _
  have third : Tells code cleared tested := .ite (.refl _) (.foldl _ (fun _ _ => condHolds_tells (by omega) ..) _ _)
  have fourth : Tells code tested released := released_tells ..
  have refused_ : Tells code s (portRefused p 0x3001 budgeted) := budget.trans (portRefused_tells (by decide) ..)
  have enters : Tells code s (maybePrestart p released) := (((first.trans second).trans third).trans fourth).trans (tells_diagnostic.maybePrestart ..)
  exact .ite (.ite refused_ enters) (.refl s)

/-- The runs of conditions that reactions and clears leave as they are. -/
theorem Calm.runs {s t : State} (h : Calm s t) : t.spu.runs = s.spu.runs := by
  obtain ⟨_, _, _, _, _, _, _, e⟩ := h.spu
  rw [e]

/-- The run of another condition. -/
theorem runRaise_runs {c k i : Nat} (hw : withdrawCode c = false) {y : Nat × Nat} (hy : y ≠ (c, k * 4096 + i)) (a b : Nat) (sc : List Nat) (x : Bool)
    (s : State) : (runRaise c k i a b sc x s).spu.runs.contains y = s.spu.runs.contains y := by
  have noted (q : Spu) : (raise c k i a b sc { s with spu := q }).spu.runs = q.runs := (raise_calm hw k i a b sc { s with spu := q }).runs
  have ended_ : y ∈ s.spu.runs.filter (· != (c, k * 4096 + i)) ↔ y ∈ s.spu.runs :=
    List.mem_filter.trans (and_iff_left (bne_iff_ne.2 hy))
  unfold runRaise
  cases x with
  | false => exact Bool.eq_iff_iff.2 ((List.contains_iff_mem.trans ended_).trans List.contains_iff_mem.symm)
  | true =>
    rw [if_pos rfl]
    split
    · rfl
    · rw [noted, List.contains_cons, beq_eq_false_iff_ne.2 hy, Bool.false_or]

theorem confirmClear_calm (c t : Nat) (b : Bool) (s : State) : Calm s (confirmClear c t b s) := by
  have marked (l : List Held) (x : State) : Calm x { x with spu := { x.spu with held := l } } := of_books ⟨_, _, _, _, _, _, _, rfl⟩
  refine Calm.foldl _ (fun x h => .ite ?_ (clearHeld_clears ..).calm) _ s
  exact (((marked _ x).trans (repeatFault_calm ..)).trans (discardChans_calm ..)).trans (immediateStates_sends ..).calm

theorem confirmClear_tel (c t : Nat) (b : Bool) (s : State) : (confirmClear c t b s).plk.tel = s.plk.tel := by
  have hR := keepsPort_reactive (g := fun _ : Port => ()) fun _ _ _ _ => rfl
  have cleared : KeepsPort (fun _ : Port => ()) s (confirmClear c t b s) := by
    refine KeepsPort.foldl _ (fun x h => .ite ?_ (clearHeld_keepsPort (fun _ _ _ _ => rfl) ..)) _ s
    have marked (l : List Held) : KeepsPort (fun _ : Port => ()) x { x with spu := { x.spu with held := l } } := .of_plk rfl
    exact (((marked _).trans (hR.repeatFault ..)).trans (hR.channels ..)).trans (hR.immediateStates ..)
  exact cleared.tel

/-- A condition of a status reported anew holds its fault. -/
theorem runRaise_reports {c k i : Nat} (hw : withdrawCode c = false) {s : State} {x : Bool} (hx : x = true)
    (hruns : s.spu.runs.contains (c, k * 4096 + i) = false) (a b : Nat) (sc : List Nat) : isHeld c k i (runRaise c k i a b sc x s) = true := by
  rw [hx]
  exact runRaise_held hw hruns

theorem applyStatus_reports (p pos t : Nat) (st : Word) (old : Option Word) (s : State) : (applyStatus p pos t st old s).plk.tel = s.plk.tel ∧
    (st.getLsbD 30 = true → s.spu.runs.contains (0x1001, 1 * 4096 + (4 * p + pos)) = false → isHeld 0x1001 1 (4 * p + pos) (applyStatus p pos t st old s) = true) ∧
    (st.getLsbD 29 = true → s.spu.runs.contains (0x1002, 1 * 4096 + (4 * p + pos)) = false → isHeld 0x1002 1 (4 * p + pos) (applyStatus p pos t st old s) = true) := by
  unfold applyStatus
  extract_lets c b hop n tl testing s1 s2 s3 s4 s5 s6 s7 s8 s9 s10 s11 was s12 q
  have started : s1.plk.tel = s.plk.tel ∧ s1.spu.runs = s.spu.runs := ⟨confirmClear_tel .., (confirmClear_calm ..).runs⟩
  have ran {y : Nat × Nat} (hy : y ≠ (0x1001, 1 * 4096 + c)) : s2.spu.runs.contains y = s1.spu.runs.contains y := runRaise_runs (by decide) hy ..
  have later {code : Nat} (w : Bool) (hcode : code = 0x1001 ∨ code = 0x1002) : Tells code s3 (runRaise 0x1015 1 c n tl [c] w s12) := by
    have tested : Tells code s3 s6 := .ite (.refl _)
      (((satLevel_tells (by omega) (by decide) ..).trans (satLevel_tells (by omega) (by decide) ..)).trans (satLevel_tells (by omega) (by decide) ..))
    have hopped : Tells code s6 s7 := satLevel_tells (by omega) (by decide) ..
    have events : Tells code s7 s11 := (((satEvent_tells (by omega) (by decide) ..).trans (satEvent_tells (by omega) (by decide) ..)).trans
      (satEvent_tells (by omega) (by decide) ..)).trans (satEvent_tells (by omega) (by decide) ..)
    have fed : Tells code s11 s12 := .ite (raise_tells (by decide) ..) (.ite (condHolds_tells (by omega) ..) (.refl _))
    exact (((tested.trans hopped).trans events).trans fed).trans (runRaise_tells (by decide) ..)
  have second : Tells 0x1001 s2 s3 := runRaise_tells (by decide) ..
  have first : Tells 0x1001 s1 s2 := runRaise_tells (by decide) ..
  refine ⟨(((later _ (.inl rfl)).tel.trans second.tel).trans first.tel).trans started.1, fun set fresh => ?_, fun set fresh => ?_⟩
  · refine (later _ (.inl rfl)).held _ _ (second.held _ _ (runRaise_reports (by decide) set ?_ ..))
    rw [started.2]
    exact fresh
  · refine (later _ (.inr rfl)).held _ _ (runRaise_reports (by decide) set ?_ ..)
    rw [ran (by simp), started.2]
    exact fresh

section
variable {p : Fin 64} {s : State}

theorem tel_modTel_self (c : Nat) (f : Tel → Tel) (s : State) : (s.modTel c f).tel c = f (s.tel c) := tabGet_tabPut_self ..

theorem tel_congr {s t : State} (h : t.plk.tel = s.plk.tel) (c : Nat) : t.tel c = s.tel c := by
  unfold State.tel
  rw [h]

/-- What follows from a telemetry frame, once it is noted. -/
def telTaken (p : Fin 64) (hop pos t : Nat) (st : Word) (old : Option Word) (s : State) : State :=
  tryReady p (applyStatus p pos t st old (frameFrom p hop s))

theorem telTaken_reports (p : Fin 64) (hop pos t : Nat) (st : Word) (old : Option Word) (s : State) : (telTaken p hop pos t st old s).plk.tel = s.plk.tel ∧
    (st.getLsbD 30 = true → s.spu.runs.contains (0x1001, 1 * 4096 + (4 * p.val + pos)) = false → isHeld 0x1001 1 (4 * p + pos) (telTaken p hop pos t st old s) = true) ∧
    (st.getLsbD 29 = true → s.spu.runs.contains (0x1002, 1 * 4096 + (4 * p.val + pos)) = false → isHeld 0x1002 1 (4 * p + pos) (telTaken p hop pos t st old s) = true) := by
  have heard : KeepsPort heardFrom (frameSeen p hop s) (frameFrom p hop s) := heardFrom_condHolds ..
  have runs : (frameFrom p hop s).spu.runs = s.spu.runs := (condHolds_calm 0x3011 3 (4 * p + hop) (frameSeen p hop s)).runs
  obtain ⟨tel, first, second⟩ := applyStatus_reports p pos t st old (frameFrom p hop s)
  refine ⟨((tryReady_tells (.inl rfl) p _).tel.trans tel).trans heard.tel, fun set fresh => ?_, fun set fresh => ?_⟩
  · exact (tryReady_tells (.inl rfl) p _).held _ _ (first set (by rw [runs]; exact fresh))
  · exact (tryReady_tells (.inr rfl) p _).held _ _ (second set (by rw [runs]; exact fresh))

theorem telemetry_taken {pos : Fin 4} (hsends : linkSends (s.port p).st = true) (hpos : (s.port p).positions.testBit pos = true)
    (dt at_ : Nat) (st : Word) (mask : BitVec 16) (items : List (BitVec 16)) :
    ∃ t, exec (.telRx dt p pos at_ st mask items) s = .next t ∧
        (t.tel (4 * p + pos)).status = st ∧ (t.tel (4 * p + pos)).seen = true ∧
        (t.tel (4 * p + pos)).sampleTime = timeOfCount (s.begin dt).nowStep at_ ∧
        (st.getLsbD 30 = true → s.spu.runs.contains (0x1001, 1 * 4096 + (4 * p.val + pos.val)) = false → isHeld 0x1001 1 (4 * p + pos) t = true) ∧
        (st.getLsbD 29 = true → s.spu.runs.contains (0x1002, 1 * 4096 + (4 * p.val + pos.val)) = false → isHeld 0x1002 1 (4 * p + pos) t = true) := by
  have open_ : ¬(!linkSends ((s.begin dt).port p).st || !((s.begin dt).port p).positions.testBit pos) = true := by
    rw [show (s.begin dt).port p = s.port p from rfl, hsends, hpos]
    decide
  have runs : ∃ hop old, ∃ f : Tel → Tel, (∀ x, (f x).status = st ∧ (f x).seen = true ∧ (f x).sampleTime = timeOfCount (s.begin dt).nowStep at_) ∧
      exec (.telRx dt p pos at_ st mask items) s =
        done (telTaken p hop pos (timeOfCount (s.begin dt).nowStep at_) st old ((s.begin dt).modTel (4 * p + pos) f)) := by
    refine ⟨_, _, _, fun x => ?_, if_neg open_⟩
    exact ⟨rfl, rfl, rfl⟩
  obtain ⟨hop, old, f, hf, runs⟩ := runs
  obtain ⟨tel, first, second⟩ := telTaken_reports p hop pos (timeOfCount (s.begin dt).nowStep at_) st old ((s.begin dt).modTel (4 * p + pos) f)
  generalize telTaken p hop pos (timeOfCount (s.begin dt).nowStep at_) st old ((s.begin dt).modTel (4 * p + pos) f) = x at runs tel first second
  obtain ⟨status, seen, at_eq⟩ := hf ((s.begin dt).tel (4 * p + pos))
  refine exec_ends runs ?_
  rw [ended_tel, tel_congr tel, tel_modTel_self]
  exact ⟨status, seen, at_eq, first, second⟩

end

end Sys2Proof.Machine
end

section
/-! Training, configuration and supervision of a PlynLink port (R204, R225 to R229). -/
namespace Sys2Proof.Machine

section
variable {p : Fin 64} {s : State}

/-! Symbol lock (R228). -/

/-- What sending STATE frames leaves: the ports but for what those frames write, the modulator, the fields and the faults. -/
structure Stated (s t : State) : Prop where
  port : ∀ q, (t.port q).quiet = (s.port q).quiet
  mod : t.mod = s.mod
  par : t.par = s.par
  spu : t.spu = s.spu

theorem Stated.refl (s : State) : Stated s s := ⟨fun _ => rfl, rfl, rfl, rfl⟩
theorem Stated.trans {s t u : State} (h : Stated s t) (k : Stated t u) : Stated s u :=
  ⟨fun q => (k.port q).trans (h.port q), k.mod.trans h.mod, k.par.trans h.par, k.spu.trans h.spu⟩

theorem sendState_stated (i : Bool) (e : Nat) (c : List Nat) (p : Nat) (s : State) : Stated s (sendState i e c p s) := by
  have kept : ((sendState i e c p s).mod = s.mod) ∧ (sendState i e c p s).spu = s.spu := by
    unfold sendState
    dsimp only
    split
    · exact ⟨rfl, rfl⟩
    · exact ⟨rfl, rfl⟩
  have ports : Links s (sendState i e c p s) := sendState_ports ..
  exact ⟨fun q => ports.port q trivial, kept.1, ports.par, kept.2⟩

theorem repeatState_stated (p : Nat) (s : State) : Stated s (repeatState p s) := by
  unfold repeatState
  extract_lets q imm begun effs
  have first : Stated s begun := by
    unfold begun
    split
    · exact sendState_stated ..
    · exact .refl s
  split
  · exact sendState_stated ..
  · exact List.foldlRecOn (motive := Stated s) effs _ first fun t ht e _ => ht.trans (sendState_stated ..)

/-- A port in HELLO since t. -/
def inHello (t : Nat) (q : Port) : Port := { q with st := .hello, sats := [], helloAt := t, lastRx := [t, t, t, t] }

/-- The HELLO frame that a port sends next. -/
def helloFrame (p : Nat) (s : State) : Out := .plink p (.cfg false (s.port p).seqCfg 7 1 0 (s.pn 5 p 4 * 2 ^ 24 + 0x20 * 2 ^ 16))

theorem lock_greets (hlock : (s.port p).st = .lock) (dt : Nat) :
    ∃ t, exec (.symbolLock dt p) s = .next t ∧ (t.port p).st = .hello ∧ (t.port p).sats = [] ∧
      .plink p (.cfg false (s.port p).seqCfg 7 1 0 (s.pn 5 p 4 * 2 ^ 24 + 0x20 * 2 ^ 16)) ∈ t.out ∧ t.mod = s.mod ∧ t.spu.held = s.spu.held := by
  let greeting := (s.begin dt).modPort p (inHello (s.begin dt).now)
  let x := repeatState p greeting
  have stated : Stated greeting x := repeatState_stated p greeting
  have port := stated.port p
  rw [port_modPort_self] at port
  have frame : helloFrame p x = helloFrame p s := by
    have seq : (x.port p).seqCfg = (s.port p).seqCfg := by
      have e := congrArg Port.seqCfg port
      exact e
    unfold helloFrame
    rw [seq, pn_congr (s := s) stated.par]
  have runs : exec (.symbolLock dt p) s = done ((x.modPort p (fun q => { q with seqCfg := (q.seqCfg + 1) % 65536 })).emit (helloFrame p x)) :=
    if_neg (Classical.not_not.2 hlock)
  rw [frame] at runs
  have mod : x.mod = s.mod := stated.mod
  have held : x.spu.held = s.spu.held := congrArg Spu.held stated.spu
  have st := congrArg Port.st port
  have sats := congrArg Port.sats port
  generalize x = x at runs mod held st sats
  refine exec_ends runs ?_
  rw [ended_port, emit_port, port_modPort_self]
  exact ⟨st, sats, emit_mem .., mod, held⟩

/-! The window for HELLO (R229). -/

/-- The state of a port, and whether its training has failed. -/
def standing (q : Port) : LinkSt × Bool := (q.st, q.failedOnce)

theorem standing_asks (x y : Port) (h : x.asking = y.asking) : standing x = standing y := by
  have e := congrArg standing h
  exact e

/-- A fault of a port, and the diagnostics that it lets end. -/
theorem portFault_standing {c : Nat} (hw : withdrawCode c = false) (p b : Nat) (sc : List Nat) (s : State) :
    standing ((maybePrestart p (raise c 2 p b 0 sc s)).port p) = standing (s.port p) ∧ isHeld c 2 p (maybePrestart p (raise c 2 p b 0 sc s)) = true := by
  have hR : Diagnostic (KeepsPort standing) := keepsPort_diagnostic standing_asks
  refine ⟨(hR.trans (hR.fault c 2 p b 0 sc s hw) (hR.maybePrestart ..)).port p, ?_⟩
  exact (tells_diagnostic.maybePrestart p _).held 2 p (raise_held _ _ _ _ _ _ _ hw)

/-- A port that is refused, with its fault. -/
theorem portRefused_refuses {c : Nat} (hw : withdrawCode c = false) (p : Nat) (s : State) :
    ((portRefused p c s).port p).st = .refused ∧ isHeld c 2 p (portRefused p c s) = true := by
  obtain ⟨same, held⟩ := portFault_standing hw p _ _ ((dropReqs p s).modPort p (fun q => { q with st := .refused }))
  refine ⟨(congrArg Prod.fst same).trans ?_, held⟩
  rw [port_modPort_self]
  rfl

theorem agree_error {s : State} {p : Nat} {sats : List Sat} {c : Nat} (h : agree s p sats = .error c) : withdrawCode c = false := by
  unfold agree at h
  dsimp only at h
  split at h
  · cases h
    decide
  · split at h
    · cases h
      decide
    · split at h
      · cases h
        decide
      · cases h

/-- A request but for when and how often it was sent. -/
def CfgReq.asked (r : CfgReq) : CfgReq := { r with sent := false, tries := 0, at_ := 0 }

/-- A port keeps its state, its version and its satellites, and every request it has. -/
structure Enlists (p : Nat) (s t : State) : Prop where
  st : (t.port p).st = (s.port p).st
  version : (t.port p).version = (s.port p).version
  reqs : (s.port p).reqs.map CfgReq.asked ⊆ (t.port p).reqs.map CfgReq.asked

theorem Enlists.refl (p : Nat) (s : State) : Enlists p s s := ⟨rfl, rfl, List.Subset.refl _⟩
theorem Enlists.trans {p : Nat} {s t u : State} (h : Enlists p s t) (k : Enlists p t u) : Enlists p s u :=
  ⟨k.st.trans h.st, k.version.trans h.version, List.Subset.trans h.reqs k.reqs⟩
theorem Enlists.foldl {p : Nat} {α : Type} (f : State → α → State) (hf : ∀ s x, Enlists p s (f s x)) (l : List α) (s : State) : Enlists p s (l.foldl f s) :=
  List.foldlRecOn (motive := Enlists p s) l f (.refl p s) fun t ht x _ => ht.trans (hf t x)

theorem writeReg_port (p hop addr data use : Nat) (s : State) : (writeReg p hop addr data use s).port p = { s.port p with
    reqs := (s.port p).reqs ++ [{ hop := hop, seq := (s.port p).seqCfg, diag := false, op := 2, addr := addr, data := data, use := use }]
    seqCfg := ((s.port p).seqCfg + 1) % 65536 } := port_modPort_self ..

theorem writeReg_enlists (p hop addr data use : Nat) (s : State) : Enlists p s (writeReg p hop addr data use s) := by
  have port := writeReg_port p hop addr data use s
  refine ⟨by rw [port], by rw [port], ?_⟩
  rw [port, List.map_append]
  exact List.subset_append_left ..

/-- A request that is sent is the same request. -/
theorem sent_asked (diag : Bool) (seq n : Nat) (l : List CfgReq) :
    (l.map (fun x => if x.diag == diag && x.seq == seq then { x with sent := true, at_ := n } else x)).map CfgReq.asked = l.map CfgReq.asked := by
  rw [List.map_map]
  refine List.map_congr_left fun x _ => ?_
  dsimp only [Function.comp]
  split <;> rfl

/-- What sending its requests leaves of a port. -/
def Port.awaiting (q : Port) : Port := { q with reqs := q.reqs.map CfgReq.asked }

theorem pumpReqs_awaiting (p : Nat) (s : State) : ((pumpReqs p s).port p).awaiting = (s.port p).awaiting := by
  unfold pumpReqs
  split
  · rfl
  · refine List.foldlRecOn (motive := fun x : State => (x.port p).awaiting = (s.port p).awaiting) _ _ rfl fun x hx r _ => ?_
    dsimp only
    split
    · exact hx
    · rw [emit_port, port_modPort_self]
      refine Eq.trans ?_ hx
      unfold Port.awaiting
      rw [sent_asked]

theorem pumpReqs_enlists (p : Nat) (s : State) : Enlists p s (pumpReqs p s) := by
  have same := pumpReqs_awaiting p s
  have st := congrArg Port.st same
  have version := congrArg Port.version same
  have reqs := congrArg Port.reqs same
  dsimp only [Port.awaiting] at st version reqs
  exact ⟨st, version, reqs ▸ List.Subset.refl _⟩

/-- A satellite is to be told the version agreed on. -/
def versionAsked (a : Sat) (v : Nat) (x : CfgReq) : Prop := x.hop = a.hop ∧ x.op = 2 ∧ x.addr = 0x000C ∧ x.data = v

theorem Enlists.asked {p : Nat} {s t : State} (h : Enlists p s t) {a : Sat} {v : Nat} (hs : ∃ r ∈ (s.port p).reqs, versionAsked a v r) :
    ∃ r ∈ (t.port p).reqs, versionAsked a v r := by
  obtain ⟨r, hr, wanted⟩ := hs
  obtain ⟨x, hx, e⟩ := List.mem_map.1 (h.reqs (List.mem_map_of_mem hr))
  have same : versionAsked a v x.asked := by
    rw [e]
    exact wanted
  exact ⟨x, hx, same⟩

theorem trainWrites_enlists (p : Nat) (a : Sat) (v : Nat) (s : State) :
    Enlists p (writeReg p a.hop 0x000C v 0 s) (trainWrites p a v s) := by
  refine Enlists.trans ?_ (.foldl _ (fun _ _ => writeReg_enlists ..) _ _)
  exact (((writeReg_enlists ..).trans (writeReg_enlists ..)).trans (writeReg_enlists ..)).trans (writeReg_enlists ..)

theorem trainWrites_asks (p : Nat) (a : Sat) (v : Nat) (s : State) : ∃ r ∈ ((trainWrites p a v s).port p).reqs, versionAsked a v r := by
  refine (trainWrites_enlists p a v s).asked ?_
  rw [writeReg_port]
  refine ⟨_, List.mem_append_right _ (List.mem_singleton_self _), ?_⟩
  exact ⟨rfl, rfl, rfl, rfl⟩

theorem trained_asks (p v : Nat) (l : List Sat) : ∀ (s : State), Enlists p s (l.foldl (fun s a => trainWrites p a v s) s) ∧
    ∀ a ∈ l, ∃ r ∈ ((l.foldl (fun s a => trainWrites p a v s) s).port p).reqs, versionAsked a v r := by
  induction l with
  | nil => exact fun s => ⟨.refl p s, fun a ha => absurd ha List.not_mem_nil⟩
  | cons a l ih =>
    intro s
    obtain ⟨later, asked⟩ := ih (trainWrites p a v s)
    have first : Enlists p s (trainWrites p a v s) := (writeReg_enlists ..).trans (trainWrites_enlists ..)
    refine ⟨first.trans later, fun b hb => ?_⟩
    rcases List.mem_cons.1 hb with rfl | hb
    · exact later.asked (trainWrites_asks ..)
    · exact asked b hb

theorem window_over {dt : Nat} (hhello : (s.port p).st = .hello) (hend : (s.port p).helloAt + 100000 * nsecQ ≤ (s.begin dt).now) :
    ¬(((s.begin dt).port p).st ≠ .hello || (s.begin dt).now < ((s.begin dt).port p).helloAt + 100000 * nsecQ) = true := by
  rw [Bool.or_eq_true, decide_eq_true_eq, decide_eq_true_eq]
  exact not_or.2 ⟨Classical.not_not.2 hhello, Nat.not_lt.2 hend⟩

/-- The positions at which a port has satellites. -/
def positionsOf (l : List Sat) : Nat := l.foldl (fun m a => (List.range a.chans).foldl (fun m j => m ||| 2 ^ (a.first + j)) m) 0

theorem window_refuses {c dt : Nat} (hhello : (s.port p).st = .hello) (hend : (s.port p).helloAt + 100000 * nsecQ ≤ (s.begin dt).now)
    (hbad : agree s p (s.port p).sats = .error c) :
    ∃ t, exec (.helloWindowEnd dt p) s = .next t ∧ (t.port p).st = .refused ∧ isHeld c 2 p t = true := by
  have ends := window_over hhello hend
  have runs : exec (.helloWindowEnd dt p) s = done (portRefused p c (s.begin dt)) := by
    show execHelloWindowEnd dt p s = _
    unfold execHelloWindowEnd
    dsimp only
    rw [if_neg ends, show agree (s.begin dt) p ((s.begin dt).port p).sats = .error c from hbad] <;> rfl
  have refused_ := portRefused_refuses (agree_error hbad) p (s.begin dt)
  generalize portRefused p c (s.begin dt) = x at runs refused_
  exact exec_ends runs refused_

theorem window_agrees {v dt : Nat} (hhello : (s.port p).st = .hello) (hend : (s.port p).helloAt + 100000 * nsecQ ≤ (s.begin dt).now)
    (hok : agree s p (s.port p).sats = .ok v) :
    ∃ t, exec (.helloWindowEnd dt p) s = .next t ∧ (t.port p).st = .config ∧
        (t.port p).version = v ∧ ∀ a ∈ (s.port p).sats, ∃ r ∈ (t.port p).reqs, r.hop = a.hop ∧ r.op = 2 ∧ r.addr = 0x000C ∧ r.data = v := by
  have ends := window_over hhello hend
  let pos := positionsOf (s.port p).sats
  have runs : exec (.helloWindowEnd dt p) s = done (pumpReqs p ((s.port p).sats.foldl (fun s a => trainWrites p a v s)
      ((s.begin dt).modPort p (fun q => { q with st := .config, version := v, positions := pos })))) := by
    show execHelloWindowEnd dt p s = _
    unfold execHelloWindowEnd
    dsimp only
    rw [if_neg ends, show agree (s.begin dt) p ((s.begin dt).port p).sats = .ok v from hok] <;> rfl
  let begun := (s.begin dt).modPort p (fun q => { q with st := .config, version := v, positions := pos })
  have begun_port : begun.port p = { s.port p with st := .config, version := v, positions := pos } := port_modPort_self ..
  obtain ⟨enlisted, asked⟩ := trained_asks p v (s.port p).sats begun
  have pumped := pumpReqs_enlists p ((s.port p).sats.foldl (fun s a => trainWrites p a v s) begun)
  have all := enlisted.trans pumped
  have wanted := fun a ha => pumped.asked (asked a ha)
  generalize pumpReqs p ((s.port p).sats.foldl (fun s a => trainWrites p a v s) begun) = x at runs all wanted
  refine exec_ends runs ⟨all.st.trans ?_, all.version.trans ?_, wanted⟩
  · rw [begun_port]
  · rw [begun_port]

end
end Sys2Proof.Machine
end

section
/-! Responses, repeats and silence of a PlynLink port's satellites (R204, R225, R226, R228). -/
namespace Sys2Proof.Machine

section
variable {p : Fin 64} {hop : Fin 4} {s : State}

/-! A response (R225, R228). -/

theorem abortSweeps_unhit (h : ∀ x ∈ s.spu.sweeps, x.step ≤ 3 → x.pos ∉ x.hit) : abortSweeps s = endPrestart s := by
  have none_ : s.spu.sweeps.filter (fun w => decide (w.step ≤ 3) && w.hit.contains w.pos) = [] := by
    refine List.filter_eq_nil_iff.2 fun w hw => ?_
    rw [Bool.and_eq_true, decide_eq_true_eq, List.contains_iff_mem]
    exact fun hit => h w hw hit.1 hit.2
  unfold abortSweeps
  rw [none_]
  rfl

theorem endPrestart_port (s : State) (q : Nat) : (endPrestart s).port q = s.port q := by
  unfold endPrestart
  split <;> rfl

/-- What a response leaves of a port, but for the words in which its clearing of faults may be told. -/
theorem quiet_condHolds (c k i : Nat) (s : State) : KeepsPort Port.quiet s (condHolds c k i s) :=
  condHolds_keepsPort (fun _ _ _ _ => rfl) c k i s

/-- What a satellite says of itself in its answer to HELLO. -/
def answeringSat (d : Nat) : Sat := { hop := d / 256 % 256, verMax := d / 2 ^ 24, verMin := d / 2 ^ 16 % 256, first := d / 16 % 16, chans := d % 16 }

/-- A port that a satellite has answered. -/
def greeted (a : Sat) (q : Port) : Port := { q with sats := (q.sats.filter (fun x => x.hop != a.hop)) ++ [a] }

theorem greeting_noted (hunhit : ∀ x ∈ s.spu.sweeps, x.step ≤ 3 → x.pos ∉ x.hit) (hhello : (s.port p).st = .hello)
    (dt seq status addr : Nat) (data : Word) (ws : List Word) :
    ∃ t, exec (.cfgResponseRx dt p false hop seq 1 status addr data ws) s = .next t ∧
        (t.port p).sats = ((s.port p).sats.filter (fun x => x.hop != data.toNat / 256 % 256)) ++
          [{ hop := data.toNat / 256 % 256, verMax := data.toNat / 2 ^ 24, verMin := data.toNat / 2 ^ 16 % 256,
             first := data.toNat / 16 % 16, chans := data.toNat % 16 }] := by
  let begun := endPrestart (s.begin dt)
  have begun_port : begun.port p = s.port p := endPrestart_port ..
  let a := answeringSat data.toNat
  let noted := begun.modPort p (greeted a)
  have runs : exec (.cfgResponseRx dt p false hop seq 1 status addr data ws) s =
      done (condHolds 0x3012 3 (4 * p + a.hop) (frameFrom p a.hop noted)) := by
    show execCfgResponseRx dt p false hop seq 1 status addr data ws s = _
    unfold execCfgResponseRx
    rw [abortSweeps_unhit (s := s.begin dt) hunhit]
    dsimp only
    rw [begun_port, hhello, if_neg (by decide), if_pos (by decide), if_pos rfl] <;> rfl
  have heard := (quiet_condHolds 0x3011 3 (4 * p + a.hop) (frameSeen p a.hop noted)).port p
  have answered := (quiet_condHolds 0x3012 3 (4 * p + a.hop) (frameFrom p a.hop noted)).port p
  have sats := congrArg Port.sats (answered.trans heard)
  rw [frameSeen, port_modPort_self, port_modPort_self, begun_port] at sats
  generalize condHolds 0x3012 3 (4 * p + a.hop) (frameFrom p a.hop noted) = x at runs sats
  exact exec_ends runs sats

/-- The requests that a response does not end. -/
def responded (diag : Bool) (seq : Nat) (q : Port) : Port := { q with reqs := q.reqs.filter (fun x => !(x.diag == diag && x.seq == seq)) }

/-- A response to a write of the training. -/
def trainedBy (p hop seq : Nat) (s : State) : State :=
  condHolds 0x3012 3 (4 * p + hop) ((frameFrom p hop s).modPort p (responded false seq))

theorem trainedBy_port (p hop seq : Nat) (s : State) :
    ((trainedBy p hop seq s).port p).st = (s.port p).st ∧ ((trainedBy p hop seq s).port p).reqs = (responded false seq (s.port p)).reqs := by
  have answered := (quiet_condHolds 0x3012 3 (4 * p + hop) ((frameFrom p hop s).modPort p (responded false seq))).port p
  have heard := (quiet_condHolds 0x3011 3 (4 * p + hop) (frameSeen p hop s)).port p
  rw [port_modPort_self] at answered
  rw [frameSeen, port_modPort_self] at heard
  have st := congrArg Port.st answered
  have st' := congrArg Port.st heard
  have reqs := congrArg Port.reqs answered
  have reqs' := congrArg Port.reqs heard
  dsimp only [Port.quiet, responded] at st st' reqs reqs' ⊢
  refine ⟨st.trans st', reqs.trans ?_⟩
  rw [← reqs'] <;> rfl

/-- A port trained: what comes next is the delay of its hops. -/
def trainedUp (q : Port) : Port := { q with st := .delay }

theorem training_ends (hunhit : ∀ x ∈ s.spu.sweeps, x.step ≤ 3 → x.pos ∉ x.hit) {op seq : Nat} {r : CfgReq} (hop1 : op ≠ 1)
    (hconfig : (s.port p).st = .config) (huse : r.use = 0)
    (hfind : (s.port p).reqs.find? (fun r => r.diag == false && r.seq == seq && r.sent && r.hop == hop.val) = some r)
    (hlast : ((s.port p).reqs.any (fun x => !(x.diag == false && x.seq == seq) && x.use == 0)) = false)
    (dt status addr : Nat) (data : Word) (ws : List Word) :
    ∃ t, exec (.cfgResponseRx dt p false hop seq op status addr data ws) s = .next t ∧ (t.port p).st = .delay ∧
          ∀ x ∈ (t.port p).reqs, ¬(x.diag = false ∧ x.seq = seq) := by
  let begun := endPrestart (s.begin dt)
  have begun_port : begun.port p = s.port p := endPrestart_port ..
  obtain ⟨st, reqs⟩ := trainedBy_port p hop seq begun
  rw [begun_port] at st reqs
  have lastOne : ((decide (((trainedBy p hop seq begun).port p).st = .config) && !((trainedBy p hop seq begun).port p).reqs.any (fun x => x.use == 0))) = true := by
    rw [st, hconfig, reqs, responded, List.any_filter, hlast]
    decide
  have runs : exec (.cfgResponseRx dt p false hop seq op status addr data ws) s =
      done (endPrestart (pumpReqs p ((trainedBy p hop seq begun).modPort p trainedUp))) := by
    show execCfgResponseRx dt p false hop seq op status addr data ws s = _
    unfold execCfgResponseRx
    rw [abortSweeps_unhit (s := s.begin dt) hunhit]
    dsimp only
    rw [show (endPrestart (s.begin dt)).port p = s.port p from begun_port, hconfig, if_neg (by decide), if_neg (by simp [hop1]), hfind]
    dsimp only
    rw [huse]
    refine congrArg (fun x => done (endPrestart (pumpReqs p x))) ?_
    exact if_pos lastOne
  have awaited := pumpReqs_awaiting p ((trainedBy p hop seq begun).modPort p trainedUp)
  rw [port_modPort_self] at awaited
  have st_up := congrArg Port.st awaited
  have reqs_up := congrArg Port.reqs awaited
  dsimp only [Port.awaiting, trainedUp] at st_up reqs_up
  rw [reqs] at reqs_up
  have ended_ := endPrestart_port (pumpReqs p ((trainedBy p hop seq begun).modPort p trainedUp)) p
  generalize pumpReqs p ((trainedBy p hop seq begun).modPort p trainedUp) = x at runs st_up reqs_up ended_
  refine exec_ends runs ?_
  rw [ended_port, ended_]
  refine ⟨st_up, fun x hx => ?_⟩
  have kept := reqs_up ▸ List.mem_map_of_mem (f := CfgReq.asked) hx
  obtain ⟨y, hy, same⟩ := List.mem_map.1 kept
  have other := (List.mem_filter.1 hy).2
  have diag := congrArg CfgReq.diag same
  have seq_ := congrArg CfgReq.seq same
  dsimp only [CfgReq.asked] at diag seq_
  rintro ⟨not_diag, same_seq⟩
  rw [diag, seq_, not_diag, same_seq, beq_self_eq_true, beq_self_eq_true] at other
  exact Bool.false_ne_true other

/-! A response that is missing (R225, R226). -/

theorem Diagnostic.sweepNoResponse {R : State → State → Prop} (hR : Diagnostic R) (w : Sweep) (s : State) : R s (sweepNoResponse w s) :=
  hR.ite (hR.trans (hR.sweepMissing ..) (hR.goSweepN ..)) (hR.trans (hR.guardMissing ..) (hR.goGuards ..))

/-- A fault of a hop whose other fault is not held. -/
theorem raiseLink_held {code other : Nat} (hw : withdrawCode code = false) {p hop : Nat} {s : State} (hother : isHeld other 3 (4 * p + hop) s = false)
    (cfg : Nat) : isHeld code 3 (4 * p + hop) (raiseLink code other p hop cfg s) = true := by
  have alone : s.spu.held.find? (fun h => sameFault other 3 (4 * p + hop) h && decide (s.now ≤ h.time + supEffQ s p)) = none := by
    refine List.find?_eq_none.2 fun h hh both => ?_
    have found : isHeld other 3 (4 * p + hop) s = true := List.any_eq_true.2 ⟨h, hh, (Bool.and_eq_true_iff.1 both).1⟩
    rw [hother] at found
    exact Bool.false_ne_true found
  unfold raiseLink
  dsimp only
  rw [alone]
  exact raiseWith_held _ _ _ _ _ _ _ _ hw

theorem silence_held {dt : Nat} (hready : (s.port p).st = .ready) (hsat : ((s.port p).sats.any (fun a => a.hop == hop.val)) = true)
    (hlate : (s.port p).lastRx.getD hop 0 + supEffQ s p ≤ (s.begin dt).now) (hfail : isHeld 0x3012 3 (4 * p + hop) s = false) :
    ∃ t, exec (.linkSupervision dt p hop) s = .next t ∧ isHeld 0x3011 3 (4 * p + hop) t = true := by
  have silent : (decide (((s.begin dt).port p).st = .ready) && ((s.begin dt).port p).sats.any (fun a => a.hop == hop.val) &&
      decide (((s.begin dt).port p).lastRx.getD hop 0 + supEffQ (s.begin dt) p ≤ (s.begin dt).now)) = true := by
    have limit : supEffQ (s.begin dt) p = supEffQ s p := by
      unfold supEffQ
      rw [State.begin_alm_period] <;> rfl
    rw [show (s.begin dt).port p = s.port p from rfl, limit, hsat, decide_eq_true hready]
    exact decide_eq_true hlate
  have held := raiseLink_held (code := 0x3011) (s := s.begin dt) (by decide) hfail (linkReact (s.begin dt) 0x3011 p)
  have runs : exec (.linkSupervision dt p hop) s = done (raiseLink 0x3011 0x3012 p hop (linkReact (s.begin dt) 0x3011 p) (s.begin dt)) := if_pos silent
  generalize raiseLink 0x3011 0x3012 p hop (linkReact (s.begin dt) 0x3011 p) (s.begin dt) = x at runs held
  exact exec_ends runs held

section
variable {diag : Bool} {seq dt : Nat} {r : CfgReq}
  (hfind : (s.port p).reqs.find? (fun r => r.diag == diag && r.seq == seq && r.sent && r.hop == hop.val) = some r)
  (hlate : r.at_ + s.ptn 5 p 10 ≤ (s.begin dt).now)
include hfind hlate

/-- A port that sends a request again. -/
def resent (diag : Bool) (seq n : Nat) (q : Port) : Port := { q with
  retries := sat32 q.retries
  reqs := q.reqs.map (fun x => if x.diag == diag && x.seq == seq then { x with tries := x.tries + 1, at_ := n } else x) }

theorem request_resent (htries : r.tries < s.pn 5 p 9) :
    ∃ t, exec (.cfgRetry dt p diag hop seq) s = .next t ∧ (t.port p).retries = sat32 (s.port p).retries ∧
        .plink p (.cfg r.diag r.seq r.hop r.op r.addr r.data) ∈ t.out ∧ t.spu.held = s.spu.held := by
  have late : r.at_ + (s.begin dt).ptn 5 p 10 ≤ (s.begin dt).now := hlate
  have tries : r.tries < (s.begin dt).pn 5 p 9 := htries
  have runs : exec (.cfgRetry dt p diag hop seq) s =
      done (((s.begin dt).modPort p (resent diag seq (s.begin dt).now)).emit (.plink p (.cfg r.diag r.seq r.hop r.op r.addr r.data))) := by
    show execCfgRetry dt p diag hop seq s = _
    unfold execCfgRetry
    dsimp only
    rw [show (s.begin dt).port p = s.port p from rfl, hfind]
    dsimp only
    rw [if_neg (Nat.not_lt.2 late), if_pos tries] <;> rfl
  refine exec_ends runs ⟨?_, emit_mem .., rfl⟩
  rw [ended_port, emit_port, port_modPort_self]
  rfl

/-- What becomes of a request that no response ever meets. -/
def requestFailed (p : Nat) (diag : Bool) (seq use : Nat) (s : State) : State :=
  if use = 0 then s
  else if use = 4 then s.modPort p (fun q => { q with
    reqs := q.reqs.map (fun x => if x.diag == diag && x.seq == seq then { x with sent := false, tries := 0 } else x) })
  else s.modPort p (fun q => { q with reqs := q.reqs.filter (fun x => !(x.diag == diag && x.seq == seq)) })

/-- What waited for a request that no response ever meets goes on. -/
def requestGivenUp (p hop : Nat) (r : CfgReq) (s : State) : State :=
  match r.use with
  | 1 => ((List.range 4).filter (fun j => r.data.testBit j)).foldl (fun s j => clearAnswered (4 * p + j) false s) s
  | 2 => match sweepOf s p hop with | some w => sweepNoResponse w s | none => s
  | 3 => match sweepOf s p hop with | some w => sweepNoResponse w s | none => s
  | _ => s

omit hfind hlate in
theorem requestGivenUp_tells {code : Nat} (p hop : Nat) (r : CfgReq) (s : State) : Tells code s (requestGivenUp p hop r s) := by
  have swept : Tells code s (match sweepOf s p hop with | some w => sweepNoResponse w s | none => s) := by
    split
    · exact tells_diagnostic.sweepNoResponse ..
    · exact .refl s
  unfold requestGivenUp
  split
  · exact .foldl _ (fun _ _ => clearAnswered_tells ..) _ s
  · exact swept
  · exact swept
  · exact .refl s

omit hfind hlate in
theorem requestFailed_held (p : Nat) (diag : Bool) (seq use : Nat) (s : State) : (requestFailed p diag seq use s).spu.held = s.spu.held := by
  unfold requestFailed
  split
  · rfl
  · split <;> rfl

theorem request_fails (htries : s.pn 5 p 9 ≤ r.tries) (hsilent : isHeld 0x3011 3 (4 * p + hop) s = false) :
    ∃ t, exec (.cfgRetry dt p diag hop seq) s = .next t ∧ isHeld 0x3012 3 (4 * p + hop) t = true := by
  let failed := requestFailed p diag seq r.use (s.begin dt)
  let raised := raiseLink 0x3012 0x3011 p hop (cfgReact failed 0x3012) failed
  have held : isHeld 0x3012 3 (4 * p + hop) raised = true := by
    refine raiseLink_held (by decide) ?_ _
    exact (isHeld_congr (requestFailed_held ..) ..).trans hsilent
  have later : Tells 0x3012 raised (endPrestart (pumpReqs p (requestGivenUp p hop r raised))) :=
    ((requestGivenUp_tells ..).trans (tells_diagnostic.pumpReqs ..)).trans (tells_diagnostic.endPrestart _)
  have late : r.at_ + (s.begin dt).ptn 5 p 10 ≤ (s.begin dt).now := hlate
  have tries : (s.begin dt).pn 5 p 9 ≤ r.tries := htries
  have runs : exec (.cfgRetry dt p diag hop seq) s = done (endPrestart (pumpReqs p (requestGivenUp p hop r raised))) := by
    show execCfgRetry dt p diag hop seq s = _
    unfold execCfgRetry
    dsimp only
    rw [show (s.begin dt).port p = s.port p from rfl, hfind]
    dsimp only
    rw [if_neg (Nat.not_lt.2 late), if_neg (Nat.not_lt.2 tries)] <;> rfl
  have held_ := later.held _ _ held
  generalize endPrestart (pumpReqs p (requestGivenUp p hop r raised)) = x at runs held_
  exact exec_ends runs held_

end

/-! Training that fails, and the frames that are discarded (R204, R228). -/

/-- A port whose training has failed. -/
def trainFailed (t : Nat) (q : Port) : Port := { q with st := .down, failAt := t, failedOnce := true }

theorem training_fails {dt : Nat} (htrains : (s.port p).st ∉ [LinkSt.off, .ready, .refused, .down])
    (hlate : (s.port p).trainAt + s.ptn 5 p 12 ≤ (s.begin dt).now) :
    ∃ t, exec (.trainTimeout dt p) s = .next t ∧ (t.port p).st = .down ∧ (t.port p).failedOnce = true ∧ isHeld 0x3005 2 p t = true := by
  let failed := clearTx p ((dropReqs p (s.begin dt)).modPort p (trainFailed (s.begin dt).now))
  have fails : ¬(((s.begin dt).port p).st = .off || ((s.begin dt).port p).st = .ready || ((s.begin dt).port p).st = .refused ||
      ((s.begin dt).port p).st = .down || (s.begin dt).now < ((s.begin dt).port p).trainAt + (s.begin dt).ptn 5 p 12) = true := by
    simp only [List.mem_cons, List.not_mem_nil, or_false, not_or] at htrains
    obtain ⟨off, ready, refused_, down⟩ := htrains
    simp only [Bool.or_eq_true, decide_eq_true_eq, not_or]
    exact ⟨⟨⟨⟨off, ready⟩, refused_⟩, down⟩, Nat.not_lt.2 hlate⟩
  have runs : exec (.trainTimeout dt p) s = done (maybePrestart p (raise 0x3005 2 p 0 0 (portScope failed p) failed)) := if_neg fails
  obtain ⟨same, held⟩ := portFault_standing (c := 0x3005) (by decide) p 0 (portScope failed p) failed
  have failed_port : failed.port p = trainFailed (s.begin dt).now ((dropReqs p (s.begin dt)).port p) := port_modPort_self ..
  rw [failed_port] at same
  generalize maybePrestart p (raise 0x3005 2 p 0 0 (portScope failed p) failed) = x at runs same held
  refine exec_ends runs ?_
  rw [ended_port]
  exact ⟨congrArg Prod.fst same, congrArg Prod.snd same, held⟩

theorem training_restarts {dt : Nat} (hdown : (s.port p).st = .down) (hlate : (s.port p).failAt + 100000000 * nsecQ ≤ (s.begin dt).now)
    (hdev : s.dev.live = true ∨ s.dev = .boot) (hpend : s.pend = []) (hen : s.pn 5 p 1 ≠ 0) (hup : s.pn 14 p 8 = 0) :
    ∃ t, exec (.trainRestart dt p) s = .next t ∧
      (t.port p).st = .lock ∧ (t.port p).trainAt = (s.begin dt).now ∧ ∀ r ∈ (t.port p).reqs, r.use = 4 := by
  have restarts : (decide (((s.begin dt).port p).st = .down) && decide (((s.begin dt).port p).failAt + 100000000 * nsecQ ≤ (s.begin dt).now) &&
      ((s.begin dt).dev.live || (s.begin dt).dev = .boot)) = true := by
    refine Bool.and_eq_true_iff.2 ⟨Bool.and_eq_true_iff.2 ⟨decide_eq_true hdown, decide_eq_true hlate⟩, ?_⟩
    exact Bool.or_eq_true_iff.2 (hdev.imp_right decide_eq_true)
  have runs : exec (.trainRestart dt p) s = done (startTraining p (retrainFront p (s.begin dt))) := if_pos restarts
  have front : Links (s.begin dt) (retrainFront p (s.begin dt)) := retrainFront_ports (s := s.begin dt) hpend p
  have trains_ := startTraining_trains (p := p) (front.pend.trans hpend) (by rw [pn_congr front.par]; exact hen) (by rw [pn_congr front.par]; exact hup)
  rw [show (retrainFront p (s.begin dt)).now = (s.begin dt).now by unfold State.now State.nowK State.tb; rw [front.alm]] at trains_
  generalize startTraining p (retrainFront p (s.begin dt)) = x at runs trains_
  exact exec_ends runs trains_

/-- A port that discards a frame. -/
def discarding (ts : List Nat) (q : Port) : Port := { q with discards := sat32 q.discards, discardTimes := ts.take 64 }

theorem frame_discarded (p : Fin 64) (s : State) (dt : Nat) :
    ∃ t, exec (.frameDiscarded dt p) s = .next t ∧ (t.port p).discards = sat32 (s.port p).discards ∧ t.par = s.par ∧ t.gfe = s.gfe ∧
      (16 ≤ ((s.port p).discardTimes.filter (fun x => decide ((s.begin dt).now < x + 1000000 * nsecQ))).length →
        s.spu.runs.contains (0x3013, 2 * 4096 + p.val) = false → isHeld 0x3013 2 p t = true) := by
  let ts := (s.begin dt).now :: ((s.port p).discardTimes.filter (fun t => decide ((s.begin dt).now < t + 1000000 * nsecQ)))
  let counted := (s.begin dt).modPort p (discarding ts)
  let many := decide (16 < ts.length)
  let scope := portScope counted p
  have runs : exec (.frameDiscarded dt p) s = done (runRaise 0x3013 2 p ts.length 0 scope many (condFails 0x3013 2 p counted)) := rfl
  have keep := ((condFails_rules 0x3013 2 p counted).trans (runRaise_rules 0x3013 2 p ts.length 0 scope many _ (by decide))).keep
  have quiet := (runRaise_keepsPort (g := Port.quiet) (fun _ _ _ _ => rfl) (by decide) 2 p ts.length 0 scope many (condFails 0x3013 2 p counted) : KeepsPort _ _ (runRaise 0x3013 ..)).port p
  have discards := congrArg Port.discards quiet
  have counted_port : (condFails 0x3013 2 p counted).port p = discarding ts (s.port p) := port_modPort_self ..
  rw [counted_port] at discards
  have held : 16 ≤ ((s.port p).discardTimes.filter (fun x => decide ((s.begin dt).now < x + 1000000 * nsecQ))).length →
      s.spu.runs.contains (0x3013, 2 * 4096 + p.val) = false →
      isHeld 0x3013 2 p (runRaise 0x3013 2 p ts.length 0 scope many (condFails 0x3013 2 p counted)) = true :=
    fun hmany hfresh => runRaise_reports (s := condFails 0x3013 2 p counted) (by decide) (decide_eq_true (Nat.lt_succ_of_le hmany)) hfresh ..
  generalize runRaise 0x3013 2 p ts.length 0 scope many (condFails 0x3013 2 p counted) = x at runs keep discards held
  exact exec_ends runs ⟨discards, keep.par, keep.gfe, held⟩

end

/-- Settles O48: each clause is one command at a port; what raises, clears, sweeps and requests leave of a port
and of the faults of a hop is carried by the relations `KeepsPort`, `Tells` and `Enlists`. -/
theorem linkOperates : Obligations.LinkOperates := by
  refine fun dt p hop s => ⟨fun hpins hno => beacon_waits hno hpins, beacon_leaves, fun _ _ _ _ _ hsends hseq => reply_measures hsends hseq dt,
    fun _ at_ st mask items hsends hpos => telemetry_taken hsends hpos dt at_ st mask items, fun hlock => lock_greets hlock dt, fun hhello hend =>
      ⟨fun _ => window_refuses hhello hend, fun _ => window_agrees hhello hend⟩, fun seq op status addr data ws hunhit =>
      ⟨fun hhello => greeting_noted hunhit hhello dt seq status addr data ws, fun r hop1 hconfig huse hfind hlast =>
        training_ends hunhit hop1 hconfig huse hfind hlast dt status addr data ws⟩, fun diag seq r hfind hlate =>
      ⟨request_resent hfind hlate, request_fails hfind hlate⟩, silence_held, training_fails, training_restarts, frame_discarded p s dt⟩

end Sys2Proof.Machine
end

section
/-! The order in which frames leave, aborts and the hold around a tick instant (R203, R206, R207, R340). -/
namespace Sys2Proof.Machine

/-! The frame picked. -/

section
variable {α : Type} (r : TxRule α)

/-- The better of the best frame so far and the next. -/
def TxRule.better (t : Nat) (m : Option (α × Nat)) (e : α × Nat) : Option (α × Nat) :=
  match m with
  | none => some e
  | some x => if r.rank t e.1 e.2 < r.rank t x.1 x.2 then some e else some x

/-- A frame of the list that none of it goes before. -/
def TxRule.Best (t : Nat) (l : List (α × Nat)) (e : α × Nat) : Prop := e ∈ l ∧ ∀ x ∈ l, r.rank t e.1 e.2 ≤ r.rank t x.1 x.2

theorem TxRule.better_best {t : Nat} {l : List (α × Nat)} {x : α × Nat} (hx : r.Best t l x) (e : α × Nat) :
    ∃ y, r.better t (some x) e = some y ∧ r.Best t (l ++ [e]) y := by
  obtain ⟨mem, first⟩ := hx
  unfold TxRule.better
  dsimp only
  by_cases h : r.rank t e.1 e.2 < r.rank t x.1 x.2
  · refine ⟨e, if_pos h, List.mem_append_right _ (List.mem_singleton_self e), fun y hy => ?_⟩
    rcases List.mem_append.1 hy with hy | hy
    · exact Nat.le_trans (Nat.le_of_lt h) (first y hy)
    · exact Nat.le_of_eq (by rw [List.mem_singleton.1 hy])
  · refine ⟨x, if_neg h, List.mem_append_left _ mem, fun y hy => ?_⟩
    rcases List.mem_append.1 hy with hy | hy
    · exact first y hy
    · rw [List.mem_singleton.1 hy]
      exact Nat.not_lt.1 h

theorem TxRule.foldl_best {t : Nat} (l : List (α × Nat)) : ∀ {seen : List (α × Nat)} {x : α × Nat}, r.Best t seen x →
    ∃ y, l.foldl (r.better t) (some x) = some y ∧ r.Best t (seen ++ l) y := by
  induction l with
  | nil => exact fun {seen x} hx => ⟨x, rfl, by rw [List.append_nil]; exact hx⟩
  | cons e l ih =>
    intro seen x hx
    obtain ⟨y, hy, best⟩ := r.better_best hx e
    rw [List.foldl_cons, hy]
    rw [List.append_cons]
    exact ih best

/-- The frames that may start at t. -/
def TxRule.ready (t : Nat) (l : List (α × Nat)) : List (α × Nat) := l.filter (fun e => decide (e.2 ≤ t) && decide (r.from_ t e.1 ≤ t))

theorem TxRule.mem_ready {t : Nat} {l : List (α × Nat)} {e : α × Nat} : e ∈ r.ready t l ↔ e ∈ l ∧ e.2 ≤ t ∧ r.from_ t e.1 ≤ t := by
  simp [TxRule.ready]

theorem TxRule.pick_eq (t : Nat) (l : List (α × Nat)) : r.pick t l = (r.ready t l).foldl (r.better t) none := rfl

theorem TxRule.pick_best {t : Nat} {l : List (α × Nat)} {e : α × Nat} (h : r.pick t l = some e) : r.Best t (r.ready t l) e := by
  rw [r.pick_eq] at h
  cases hl : r.ready t l with
  | nil =>
    rw [hl] at h
    cases h
  | cons x l' =>
    rw [hl] at h
    have first : r.Best t [x] x := ⟨List.mem_singleton_self x, fun y hy => Nat.le_of_eq (by rw [List.mem_singleton.1 hy])⟩
    obtain ⟨y, hy, best⟩ := r.foldl_best l' first
    rw [List.foldl_cons] at h
    obtain rfl : y = e := Option.some.inj (hy.symm.trans h)
    exact best

/-- What starts at a step may start at it. -/
theorem TxRule.run_allowed [DecidableEq α] {now : Nat} (fuel : Nat) : ∀ {l : TxLine α} {t : Nat} {f : α}, .start t f ∈ (r.run now fuel l).2 → r.from_ t f ≤ t := by
  induction fuel with
  | zero => exact fun h => absurd h List.not_mem_nil
  | succ fuel ih =>
    intro l t f h
    unfold TxRule.run at h
    dsimp only at h
    split at h
    · rcases List.mem_cons.1 h with h | h
      · cases h
      · exact ih h
    · split at h
      · exact absurd h List.not_mem_nil
      · split at h
        · exact absurd h List.not_mem_nil
        · split at h
          · exact absurd h List.not_mem_nil
          · split at h
            · exact absurd h List.not_mem_nil
            · next e he =>
              rcases List.mem_cons.1 h with h | h
              · cases h
                exact (r.mem_ready.1 (r.pick_best he).1).2.2
              · exact ih h

end

/-! The hold around a tick instant (R340). -/

/-- A point that lies at a multiple of the period, or w or more after one, is not within less than w after any. -/
theorem not_within {n period w : Nat} (hw : w ≤ period) (hpos : 0 < period) (h : n % period = 0 ∨ w ≤ n % period) (k : Nat) :
    n ≤ k * period ∨ k * period + w ≤ n := by
  have split := Nat.div_add_mod' n period
  have below := Nat.mod_lt n hpos
  rcases Nat.lt_trichotomy k (n / period) with less | same | more
  · have step : (k + 1) * period ≤ n / period * period := Nat.mul_le_mul_right _ less
    rw [Nat.succ_mul] at step
    omega
  · rw [same]
    omega
  · have step : (n / period + 1) * period ≤ k * period := Nat.mul_le_mul_right _ more
    rw [Nat.succ_mul] at step
    omega

theorem peerFrom_clear {s : State} (hpair : s.pairEn = true) (hperiod : 850 * nsecQ ≤ s.alm.period) {t : Nat} {f : PeerFrame} (hrank : 5 ≤ peerRank f)
    (h : peerFrom s t f ≤ t) (k : Nat) :
    (s.atClock t : Int) ≤ s.tickAt k - (250 * nsecQ : Nat) ∨ s.tickAt k + (600 * nsecQ : Nat) ≤ (s.atClock t : Int) := by
  let q : Int := (s.atClock t : Int) - s.alm.origin + 250 * nsecQ
  have hpos : 0 < s.alm.period := Nat.lt_of_lt_of_le (by decide) hperiod
  have hmax : max s.alm.period 1 = s.alm.period := Nat.max_eq_left hpos
  have phase : q < 0 ∨ q.toNat % s.alm.period = 0 ∨ 850 * nsecQ ≤ q.toNat % s.alm.period := by
    refine Classical.byContradiction fun inside => ?_
    obtain ⟨nonneg, apart, near⟩ : ¬q < 0 ∧ ¬q.toNat % s.alm.period = 0 ∧ ¬850 * nsecQ ≤ q.toNat % s.alm.period := by
      simpa only [not_or] using inside
    have waits : peerFrom s t f = t + (850 * nsecQ - q.toNat % s.alm.period + stepQ - 1) / stepQ := by
      unfold peerFrom
      rw [if_neg (by rw [hpair, decide_eq_false (Nat.not_lt.2 hrank)]; decide)]
      dsimp only
      rw [hmax]
      refine if_neg ?_
      simp only [Bool.or_eq_true, decide_eq_true_eq, not_or]
      exact ⟨⟨nonneg, apart⟩, near⟩
    have some_time : 0 < (850 * nsecQ - q.toNat % s.alm.period + stepQ - 1) / stepQ := by
      refine Nat.div_pos ?_ (by decide)
      omega
    omega
  have tick : s.tickAt k = s.alm.origin + ((k * s.alm.period : Nat) : Int) := by
    rw [Int.natCast_mul] <;> rfl
  have later : (0 : Int) ≤ ((k * s.alm.period : Nat) : Int) := Int.natCast_nonneg _
  rw [tick]
  have hq : q = (s.atClock t : Int) - s.alm.origin + 250 * nsecQ := rfl
  have hn : nsecQ = 65536 := rfl
  rw [hn] at hq hperiod phase ⊢
  rcases phase with early | phase
  · omega
  · have apart := not_within hperiod hpos phase k
    omega

theorem pushed_clear {s : State} {now t : Nat} {fs : List (Nat × PeerFrame)} {l : TxLine (Nat × PeerFrame)} {f : Nat × PeerFrame}
    (h : .start t f ∈ ((peerRule s).push now fs l).2) : peerFrom s t f.2 ≤ t := (peerRule s).run_allowed _ h

/-! The order of R206 and of Table 12-3. -/

theorem plyPick_first {s : State} {p t : Nat} {l : List (PlyFrame × Nat)} {e : PlyFrame × Nat} (h : (plyRule s p).pick t l = some e) :
    e ∈ l ∧ e.2 ≤ t ∧ ∀ x ∈ l, x.2 ≤ t → plyRank t e.1 e.2 ≤ plyRank t x.1 x.2 := by
  obtain ⟨mem, first⟩ := (plyRule s p).pick_best h
  obtain ⟨listed, due, -⟩ := (plyRule s p).mem_ready.1 mem
  exact ⟨listed, due, fun x hx hdue => first x ((plyRule s p).mem_ready.2 ⟨hx, hdue, Nat.le_refl t⟩)⟩

theorem peerPick_first {s : State} {t : Nat} {l : List ((Nat × PeerFrame) × Nat)} {e : (Nat × PeerFrame) × Nat} (h : (peerRule s).pick t l = some e) :
    e ∈ l ∧ e.2 ≤ t ∧ ∀ x ∈ l, x.2 ≤ t → peerFrom s t x.1.2 ≤ t → peerRank e.1.2 ≤ peerRank x.1.2 := by
  obtain ⟨mem, first⟩ := (peerRule s).pick_best h
  obtain ⟨listed, due, -⟩ := (peerRule s).mem_ready.1 mem
  exact ⟨listed, due, fun x hx hdue hfrom => first x ((peerRule s).mem_ready.2 ⟨hx, hdue, hfrom⟩)⟩

/-! A line with one thing to do. -/

section
variable {α : Type} [DecidableEq α] (r : TxRule α) {now fuel : Nat} {l : TxLine α}

/-- What aborts the frame in progress. -/
def TxRule.cut (now : Nat) (l : TxLine α) (c : α) : Option Nat :=
  ((l.wait.filter (fun e => r.yields c e.1 && decide (e.2 < l.free) && decide (e.2 ≤ now))).map (·.2)).head?

theorem TxRule.cut_single (c f : α) (free due : Nat) : r.cut now { cur := some c, free := free, wait := [(f, due)] } c =
    if (r.yields c f && decide (due < free) && decide (due ≤ now)) = true then some due else none := by
  unfold TxRule.cut
  rw [List.filter_cons]
  split <;> rfl

theorem TxRule.run_aborts {c : α} {t : Nat} (hcur : l.cur = some c) (hcut : r.cut now l c = some t) :
    r.run now (fuel + 1) l = ((r.run now fuel { cur := none, free := t + r.abort, wait := (c, t) :: l.wait }).1,
      .abort t :: (r.run now fuel { cur := none, free := t + r.abort, wait := (c, t) :: l.wait }).2) := by
  rw [TxRule.run]
  unfold TxRule.cut at hcut
  simp only [hcur, hcut]

theorem TxRule.run_busy {c : α} (hcur : l.cur = some c) (hcut : r.cut now l c = none) (hbusy : now < l.free) : r.run now (fuel + 1) l = (l, []) := by
  rw [TxRule.run]
  unfold TxRule.cut at hcut
  simp only [hcur, hcut, Option.isSome_some, Bool.true_and, decide_eq_true hbusy, if_true]

theorem TxRule.run_waits {t : Nat} (hcur : l.cur = none) (hnext : r.next l.free l.wait = some t) (hlater : now < t) : r.run now (fuel + 1) l = (l, []) := by
  rw [TxRule.run]
  obtain ⟨cur, free, wait⟩ := l
  cases hcur
  simp only [hnext, Option.isSome_none, Bool.false_and, Bool.false_eq_true, if_false, if_pos hlater]

theorem TxRule.run_starts {t : Nat} {e : α × Nat} (hcur : l.cur = none) (hnext : r.next l.free l.wait = some t) (hnow : t ≤ now)
    (hpick : r.pick t l.wait = some e) :
    r.run now (fuel + 1) l = ((r.run now fuel { cur := some e.1, free := t + r.dur e.1, wait := l.wait.erase e }).1,
      .start t e.1 :: (r.run now fuel { cur := some e.1, free := t + r.dur e.1, wait := l.wait.erase e }).2) := by
  rw [TxRule.run]
  obtain ⟨cur, free, wait⟩ := l
  cases hcur
  simp only [hnext, Option.isSome_none, Bool.false_and, Bool.false_eq_true, if_false, if_neg (Nat.not_lt.2 hnow), hpick]

end

/-! An immediate STATE frame (R203). -/

section
variable {s : State} {p now : Nat} {c f : PlyFrame}

theorem charStep_pos (s : State) (p : Nat) : 0 < charStep s p := by
  unfold charStep
  split <;> decide

theorem isCfg_iff : isCfg c = true ↔ ∃ d q h o a w, c = .cfg d q h o a w := by
  cases c <;> simp [isCfg]
theorem isImmediate_iff : isImmediate f = true ↔ ∃ q e l, f = .state q true e l := by
  cases f <;> simp [isImmediate]

theorem immediate_before_cfg (hc : isCfg c = true) (hf : isImmediate f = true) (t due : Nat) : plyRank t f due < plyRank t c due := by
  obtain ⟨d, q, h, o, a, w, rfl⟩ := isCfg_iff.1 hc
  obtain ⟨_, _, _, rfl⟩ := isImmediate_iff.1 hf
  cases d <;> exact Nat.lt_of_sub_eq_succ rfl

theorem isCfg_immediate (hf : isImmediate f = true) : isCfg f = false := by
  obtain ⟨_, _, _, rfl⟩ := isImmediate_iff.1 hf
  rfl

/-- A configuration frame aborted for an immediate one: both wait till the abort is over. -/
def afterAbort (s : State) (p now : Nat) (c f : PlyFrame) : TxLine PlyFrame :=
  { cur := none, free := now + 2 * charStep s p, wait := [(c, now), (f, now)] }

theorem afterAbort_next : (plyRule s p).next (now + 2 * charStep s p) [(c, now), (f, now)] = some (now + 2 * charStep s p) := by
  have due : max (now + 2 * charStep s p) now = now + 2 * charStep s p := Nat.max_eq_left (Nat.le_add_right ..)
  have same : (plyRule s p).next (now + 2 * charStep s p) [(c, now), (f, now)] =
    some (min (max (now + 2 * charStep s p) now) (max (now + 2 * charStep s p) now)) := rfl
  rw [same, Nat.min_self, due]

theorem cfg_aborted (hc : isCfg c = true) (hf : isImmediate f = true) {free : Nat} (hbusy : now < free) :
    (plyRule s p).push now [f] { cur := some c, free := free, wait := [] } = (afterAbort s p now c f, [.abort now]) := by
  have yields : (plyRule s p).cut now { cur := some c, free := free, wait := [(f, now)] } c = some now := by
    have both : (isCfg c && isImmediate f && decide (now < free) && decide (now ≤ now)) = true := by
      rw [hc, hf, decide_eq_true hbusy, decide_eq_true (Nat.le_refl now)]
      rfl
    exact ((plyRule s p).cut_single ..).trans (if_pos both)
  have waits : (plyRule s p).run now 5 (afterAbort s p now c f) = (afterAbort s p now c f, []) :=
    (plyRule s p).run_waits rfl afterAbort_next (Nat.lt_add_of_pos_right (Nat.mul_pos (by decide) (charStep_pos s p)))
  have aborts := (plyRule s p).run_aborts (fuel := 5) rfl yields
  exact aborts.trans (congrArg (fun x : TxLine PlyFrame × List (TxEv PlyFrame) => (x.1, TxEv.abort now :: x.2)) waits)

theorem state_leaves {later : Nat} (hc : isCfg c = true) (hf : isImmediate f = true) (hfree : now + 2 * charStep s p ≤ later)
    (hbusy : later < now + 2 * charStep s p + frameChars f * charStep s p) :
    (plyRule s p).push later [] (afterAbort s p now c f) =
      ({ cur := some f, free := now + 2 * charStep s p + frameChars f * charStep s p, wait := [(c, now)] }, [.start (now + 2 * charStep s p) f]) := by
  let t := now + 2 * charStep s p
  have picks : (plyRule s p).pick t [(c, now), (f, now)] = some (f, now) := by
    have may : (decide (now ≤ t) && decide (t ≤ t)) = true := by
      rw [decide_eq_true (Nat.le_add_right ..), decide_eq_true (Nat.le_refl t)]
      rfl
    have ready : (plyRule s p).ready t [(c, now), (f, now)] = [(c, now), (f, now)] := by
      refine List.filter_eq_self.2 fun e he => ?_
      rcases List.mem_cons.1 he with rfl | he
      · exact may
      · rw [List.mem_singleton.1 he]
        exact may
    rw [TxRule.pick_eq, ready]
    exact if_pos (immediate_before_cfg hc hf t now)
  have differ : ¬((c, now) == (f, now)) = true := by
    rw [beq_iff_eq, Prod.mk.injEq]
    rintro ⟨rfl, -⟩
    exact Bool.false_ne_true ((isCfg_immediate hf).symm.trans hc)
  have rest : [(c, now), (f, now)].erase (f, now) = [(c, now)] := by
    rw [List.erase_cons_tail differ, List.erase_cons_head]
  have kept : (plyRule s p).cut later { cur := some f, free := t + (plyRule s p).dur f, wait := [(c, now)] } f = none := by
    have not : ¬(isCfg f && isImmediate c && decide (now < t + (plyRule s p).dur f) && decide (now ≤ later)) = true := by
      rw [isCfg_immediate hf]
      exact Bool.false_ne_true
    exact ((plyRule s p).cut_single ..).trans (if_neg not)
  have starts := (plyRule s p).run_starts (l := afterAbort s p now c f) (fuel := 8) rfl afterAbort_next hfree picks
  have busy := (plyRule s p).run_busy (fuel := 7) rfl kept hbusy
  rw [show (afterAbort s p now c f).wait.erase (f, now) = [(c, now)] from rest] at starts
  exact starts.trans (congrArg (fun x : TxLine PlyFrame × List (TxEv PlyFrame) => (x.1, TxEv.start t f :: x.2)) busy)

end

/-! A beacon at an idle port (R207). -/

theorem tabGet_of_none {α : Type} {t : Tab α} {k : Nat} (h : tabGet? t k = none) (d : α) : tabGet t k d = d := by
  induction t with
  | nil => rfl
  | cons e t ih =>
    unfold tabGet? at h
    unfold tabGet
    split at h
    · cases h
    · next hne => exact (if_neg hne).trans (ih h)

section
variable {x : State} {p : Nat}

theorem runPly_out (x : State) (acc : Tx × List Out) (q : Nat) : acc.2 ⊆ (runPly x acc q).2 := List.subset_append_left ..
theorem runPeer_out (x : State) (acc : Tx × List Out) (q : Nat) : acc.2 ⊆ (runPeer x acc q).2 := List.subset_append_left ..

theorem foldl_out {f : State → Tx × List Out → Nat → Tx × List Out} (hf : ∀ acc q, acc.2 ⊆ (f x acc q).2) (l : List Nat) (acc : Tx × List Out) :
    acc.2 ⊆ (l.foldl (f x) acc).2 :=
  List.foldlRecOn (motive := fun a : Tx × List Out => acc.2 ⊆ a.2) l _ (List.Subset.refl _) fun a ha q _ => List.Subset.trans ha (hf a q)

/-- The line of a port while the other ports' lines run. -/
theorem runPly_others (l : List Nat) (hl : p ∉ l) (acc : Tx × List Out) :
    tabGet (l.foldl (runPly x) acc).1.port p {} = tabGet acc.1.port p {} := by
  refine List.foldlRecOn (motive := fun a : Tx × List Out => tabGet a.1.port p {} = tabGet acc.1.port p {}) l _ rfl fun a ha q hq => ?_
  exact (tabGet_tabPut_ne _ (ne_of_mem_of_not_mem hq hl).symm ..).trans ha

/-- What a port's line sends leaves with the command. -/
theorem line_leaves (hmem : p ∈ plyLines x) {e : TxEv PlyFrame}
    (h : e ∈ ((plyRule x p).push x.clock (plyFramesFor p x.out) (tabGet x.tx.port p {})).2) : sentPly x p e ∈ (txRun x).2 := by
  obtain ⟨before, later, split, fresh⟩ := List.eq_append_cons_of_mem hmem
  let acc := before.foldl (runPly x) (x.tx, [])
  have line : tabGet acc.1.port p {} = tabGet x.tx.port p {} := runPly_others before fresh _
  have sent : sentPly x p e ∈ (runPly x acc p).2 := by
    refine List.mem_append_right _ (List.mem_map_of_mem ?_)
    rw [line]
    exact h
  unfold txRun
  rw [split, List.foldl_append, List.foldl_cons]
  exact foldl_out (runPeer_out x) _ _ (foldl_out (runPly_out x) later _ sent)

/-- A frame handed to an idle port starts at once. -/
theorem idle_starts (s : State) (p now : Nat) (f : PlyFrame) : .start now f ∈ ((plyRule s p).push now [f] {}).2 := by
  have next : (plyRule s p).next 0 [(f, now)] = some now := congrArg some (Nat.max_eq_right (Nat.zero_le now))
  have picks : (plyRule s p).pick now [(f, now)] = some (f, now) := by
    have may : (decide (now ≤ now) && decide (now ≤ now)) = true := by rw [decide_eq_true (Nat.le_refl now)]; rfl
    have ready : (plyRule s p).ready now [(f, now)] = [(f, now)] := List.filter_eq_self.2 fun e he => by
      rw [List.mem_singleton.1 he]
      exact may
    rw [TxRule.pick_eq, ready]
    rfl
  have starts := (plyRule s p).run_starts (l := { cur := none, free := 0, wait := [(f, now)] }) (fuel := 5) rfl next (Nat.le_refl now) picks
  have first : .start now f ∈ ((plyRule s p).run now 6 { cur := none, free := 0, wait := [(f, now)] }).2 := by
    rw [starts]
    exact List.mem_cons_self
  exact first

theorem mem_plyLines {f : PlyFrame} (hout : x.out = [.plink p f]) : p ∈ plyLines x := by
  unfold plyLines
  rw [hout, List.foldl_cons, List.foldl_nil]
  dsimp only
  split
  · next h => exact List.contains_iff_mem.1 h
  · exact List.mem_append_right _ (List.mem_singleton_self p)

theorem frame_leaves {f : PlyFrame} (hout : x.out = [.plink p f]) (hidle : tabGet? x.tx.port p = none) :
    .wire p x.nowStep (wireBytes (linkOf x) (stampTx x.nowStep f)) ∈ (ended x).out := by
  have now : x.atClock x.clock = x.now := by
    unfold State.atClock
    rw [Nat.sub_self, Nat.zero_mul, Nat.sub_zero]
  have frames : plyFramesFor p x.out = [f] := by
    rw [hout]
    exact List.filterMap_cons_some (if_pos rfl)
  have sent := line_leaves (x := x) (p := p) (e := .start x.clock f) (mem_plyLines hout) (by
    rw [tabGet_of_none hidle, frames]
    exact idle_starts ..)
  have wire : sentPly x p (.start x.clock f) = .wire p x.nowStep (wireBytes (linkOf x) (stampTx x.nowStep f)) := by
    unfold sentPly State.nowStep
    dsimp only
    rw [now]
  rw [wire] at sent
  exact List.mem_append_right x.out sent

end

theorem beacon_sent {s : State} {p : Fin 64} {dt : Nat} (hsends : linkSends (s.port p).st = true)
    (hstrikes : (s.begin dt).strikes 0 (1000 * nsecQ) 0 = true) (hidle : tabGet? s.tx.port p = none) :
    ∃ t b, exec (.beaconDue dt p) s = .next t ∧ .wire p (s.begin dt).nowStep (wireBytes (linkOf s) b) ∈ t.out ∧
        b = .beacon (s.port p).seqBeacon (exCount (s.begin dt).nowStep)
          (if (s.port p).sats = [] then none else some ((s.port p).dreqHop % (s.port p).sats.length))
          ((s.port p).delay.toList.map (fun d => if d.valid then some d.value else none)) := by
  have runs := beacon_runs hsends hstrikes
  have leaves := frame_leaves (x := (beaconed p (s.begin dt)).emit (nextBeacon p (s.begin dt))) (p := p) (f := beaconFrame p s) rfl hidle
  have link : linkOf ((beaconed p (s.begin dt)).emit (nextBeacon p (s.begin dt))) = linkOf s := rfl
  have time : ((beaconed p (s.begin dt)).emit (nextBeacon p (s.begin dt))).nowStep = (s.begin dt).nowStep := rfl
  rw [link, time] at leaves
  generalize (beaconed p (s.begin dt)).emit (nextBeacon p (s.begin dt)) = x at runs leaves
  refine ⟨ended x, stampTx (s.begin dt).nowStep (beaconFrame p s), runs.trans (done_eq x), leaves, ?_⟩
  unfold beaconFrame
  simp only [List.length_eq_zero_iff]
  rfl

/-- Settles O49: what starts is what `TxRule.pick` finds best and what its rule allows, and the lines of the ports
run one after the other. -/
theorem transmittersKeepOrder : Obligations.TransmittersKeepOrder := fun s =>
  ⟨fun _ _ _ _ => plyPick_first, fun _ _ _ => peerPick_first, fun _ _ _ _ _ hc hf hbusy => cfg_aborted hc hf hbusy,
    fun _ _ _ _ _ hc hf hfree hbusy => state_leaves hc hf hfree hbusy,
    fun _ _ k _ _ _ hpair hperiod hstart hrank => peerFrom_clear hpair hperiod hrank (pushed_clear hstart) k,
    fun _ _ hsends hstrikes hidle => beacon_sent hsends hstrikes hidle⟩

end Sys2Proof.Machine
end

section
/-! The BLOCK_N wire, the FAULT_IN pins and the monitors (R10, R186, R187, R256, R260, R261, Tables 8-5 and 21-7). -/
namespace Sys2Proof.Machine

section
variable {s : State} {dt : Nat}

/-! The BLOCK_N wire (R260, R261). -/

theorem ended_wireLow (x : State) : (ended x).spu.wireLow = x.spu.wireLow := rfl
theorem ended_isHeld_eq (x : State) (c k i : Nat) : isHeld c k i (ended x) = isHeld c k i x := rfl

theorem remoteBlock_calm (s : State) : Calm s (remoteBlock s) := by
  have noted (q : Nat) : Calm s (noteCause 1 q s) := ⟨⟨_, _, _, rfl⟩, .inl rfl, ⟨_, rfl⟩, ⟨_, _, rfl, List.Subset.refl _⟩, .refl _⟩
  exact .ite (.refl s) (((noted _).trans (raiseDev_calm (by decide) ..)).trans (originateGb_sends _).calm)

/-- A low wire that this device does not drive is held as a block from elsewhere. -/
theorem remoteBlock_held (hawake : s.awake = true) (hseen : seenLow s = true) : isHeld 0x7007 0 0 (remoteBlock s) = true := by
  unfold remoteBlock
  rw [if_neg (by rw [hawake, hseen]; decide)]
  refine (isHeld_congr (congrArg Spu.held (originateGb_sends _).spu) ..).trans ?_
  exact raiseDev_held _ _ _ _ (by decide)

theorem seenLow_of (hlow : s.spu.wireLow = true) (hdrives : drivesBlockN s = false) (hquiet : s.spu.quietEnd = none) : seenLow s = true := by
  unfold seenLow
  rw [hlow, hdrives, hquiet]
  rfl

theorem fall_kept (dt : Nat) (s : State) : ∃ t, exec (.blockNFall dt true) s = .next t ∧ t.spu.wireLow = true ∧ t.par = s.par ∧ t.gfe = s.gfe ∧
      (s.awake = true → drivesBlockN s = false → s.spu.quietEnd = none → isHeld 0x7007 0 0 t = true) := by
  let stamped := if (s.begin dt).alm.running then { stampNow (s.begin dt) with spu := { (s.begin dt).spu with fallStamp := planes (s.begin dt) } } else s.begin dt
  let fallen := { stamped with spu := { stamped.spu with wireLow := true } }
  have runs : exec (.blockNFall dt true) s = done (remoteBlock fallen) := rfl
  have same : fallen.awake = s.awake ∧ drivesBlockN fallen = drivesBlockN s ∧ fallen.spu.quietEnd = s.spu.quietEnd ∧ fallen.par = s.par ∧ fallen.gfe = s.gfe := by
    unfold fallen stamped
    split
    · exact ⟨rfl, rfl, rfl, rfl, rfl⟩
    · exact ⟨rfl, rfl, rfl, rfl, rfl⟩
  obtain ⟨awake, drives, quiet, par, gfe⟩ := same
  have configured := remoteBlock_configured fallen
  obtain ⟨_, _, _, _, _, _, _, books⟩ := (remoteBlock_calm fallen).spu
  have held : s.awake = true → drivesBlockN s = false → s.spu.quietEnd = none → isHeld 0x7007 0 0 (remoteBlock fallen) = true :=
    fun ha hd hq => remoteBlock_held (awake.trans ha) (seenLow_of rfl (drives.trans hd) (quiet.trans hq))
  have low : (remoteBlock fallen).spu.wireLow = true := by rw [books]
  have par_ := configured.par.trans par
  have gfe_ := configured.gfe.trans gfe
  generalize remoteBlock fallen = x at runs held low par_ gfe_
  exact exec_ends runs ⟨low, par_, gfe_, held⟩

theorem rise_kept (dt : Nat) (s : State) : ∃ t, exec (.blockNFall dt false) s = .next t ∧ t.spu.wireLow = false ∧ t.spu.highSince = (s.begin dt).now ∧
    t.spu.held = s.spu.held ∧ t.dev = s.dev :=
  exec_ends (x := { s.begin dt with spu := { s.spu with wireLow := false, highSince := (s.begin dt).now } }) rfl ⟨rfl, rfl, rfl, rfl⟩

theorem blockPulse_ends {e : Nat} (hpulse : s.spu.pulseEnd = some e) (hend : e ≤ (s.begin dt).now) :
    ∃ t, exec (.blockNPulseEnd dt) s = .next t ∧ t.spu.pulseEnd = none ∧ t.spu.held = s.spu.held ∧ t.dev = s.dev := by
  have runs : exec (.blockNPulseEnd dt) s = done { s.begin dt with spu := { s.spu with pulseEnd := none } } := by
    show execBlockNPulseEnd dt s = _
    unfold execBlockNPulseEnd
    dsimp only
    rw [show (s.begin dt).spu.pulseEnd = some e from hpulse]
    exact if_pos hend
  exact exec_ends runs ⟨rfl, rfl, rfl⟩

/-- Where the pins hold, a settled state whose drive was not low keeps the end of its quiet time. -/
theorem settled_quiet {x : State} (h : x.spu.blockNLow = true → drivesBlockN x = true) : (ended x).spu.quietEnd = x.spu.quietEnd := by
  have same : drivesBlockN (watch (transmit x)) = drivesBlockN x := rfl
  have settled : (ended x).spu.quietEnd =
      if (x.spu.blockNLow && !drivesBlockN (watch (transmit x))) = true then some ((watch (transmit x)).now + 3000 * nsecQ) else x.spu.quietEnd := rfl
  rw [settled, same]
  refine if_neg fun both => ?_
  obtain ⟨low, high⟩ := Bool.and_eq_true_iff.1 both
  rw [h low] at high
  exact Bool.false_ne_true high

theorem quiet_ends {e : Nat} (hquiet : s.spu.quietEnd = some e) (hend : e ≤ (s.begin dt).now) (hpins : s.pinsHold = true) :
    ∃ t, exec (.blockNQuietEnd dt) s = .next t ∧ t.spu.quietEnd = none ∧
      (s.awake = true → s.spu.wireLow = true → drivesBlockN s = false → isHeld 0x7007 0 0 t = true) := by
  let quiet : State := { s.begin dt with spu := { s.spu with quietEnd := none } }
  have runs : exec (.blockNQuietEnd dt) s = done (remoteBlock quiet) := by
    show execBlockNQuietEnd dt s = _
    unfold execBlockNQuietEnd
    dsimp only
    rw [show (s.begin dt).spu.quietEnd = some e from hquiet]
    exact if_pos hend
  have low : quiet.spu.blockNLow = drivesBlockN quiet := by
    have pin : s.spu.blockNLow = drivesBlockN s := by
      simp only [State.pinsHold, Bool.and_eq_true, beq_iff_eq] at hpins
      exact hpins.1.1.1
    exact pin
  obtain ⟨_, _, _, _, _, _, _, books⟩ := (remoteBlock_calm quiet).spu
  have stays : (remoteBlock quiet).spu.blockNLow = true → drivesBlockN (remoteBlock quiet) = true := by
    intro still
    have drives : drivesBlockN quiet = true := by
      rw [← low, ← still, books]
    have unseen : (!(quiet.awake && seenLow quiet)) = true := by
      unfold seenLow
      rw [drives, Bool.not_true, Bool.and_false, Bool.false_and, Bool.and_false]
      rfl
    rw [show remoteBlock quiet = quiet from if_pos unseen]
    exact drives
  have ends := settled_quiet stays
  rw [books] at ends
  have held : s.awake = true → s.spu.wireLow = true → drivesBlockN s = false → isHeld 0x7007 0 0 (remoteBlock quiet) = true :=
    fun ha hl hd => remoteBlock_held ha (seenLow_of hl hd rfl)
  generalize remoteBlock quiet = x at runs ends held
  exact exec_ends runs ⟨ends, held⟩

/-! The FAULT_IN pins (R186, R187). -/

theorem latchBit_set (l : BitVec 4) (pin : Fin 4) : (l ||| BitVec.ofNat 4 (2 ^ pin.val)).getLsbD pin = true := by
  have bit : (BitVec.ofNat 4 (2 ^ pin.val)).getLsbD pin = true := by
    revert pin
    decide
  rw [BitVec.getLsbD_or, bit, Bool.or_true]

theorem discardChans_gone (cs : List Nat) (s : State) : ∀ e ∈ (discardChans cs s).mod.unrel, e.ch ∉ cs := by
  intro e he
  have outside := (List.mem_filter.1 he).2
  simpa using outside

theorem setLatch_sets {pin : Fin 4} (hfree : s.mod.latch.getLsbD pin = false) (t : Nat) :
    (setLatch pin t s).mod.latch.getLsbD pin = true ∧ ∀ e ∈ (setLatch pin t s).mod.unrel, e.ch ∉ safeChans s pin := by
  let latched : State := { s with mod := { s.mod with
    latch := s.mod.latch ||| BitVec.ofNat 4 (2 ^ pin.val), latchAt := s.mod.latchAt.set pin t } }
  have eq : setLatch pin t s = immediateStates s (discardChans (safeChans s pin) latched) := if_neg (by rw [hfree]; decide)
  have sent := (immediateStates_sends s (discardChans (safeChans s pin) latched)).calm.mod
  obtain ⟨u, c, mod, fewer⟩ := sent
  rw [eq, mod]
  refine ⟨latchBit_set .., fun e he => discardChans_gone _ latched e (fewer he)⟩

theorem faultInCode_stays (pin : Fin 4) : withdrawCode (0x2301 + pin.val) = false := by
  revert pin
  decide

theorem pulse_latches {pin : Fin 4} {width : Nat} (hpow : s.dev.powered = true) (hstep : s.sys.step = 9) (hfree : s.mod.latch.getLsbD pin = false)
    (hwidth : 400 ≤ width) (dt : Nat) :
    ∃ t, exec (.faultInLatch dt pin width) s = .next t ∧ t.mod.latch.getLsbD pin = true ∧ isHeld (0x2301 + pin) 9 pin t = true ∧
        ∀ e ∈ t.mod.unrel, e.ch ∉ safeChans s pin := by
  let latched := setLatch pin (s.begin dt).now (s.begin dt)
  let raised := raise (0x2301 + pin.val) 9 pin 0 0 (safeChans (s.begin dt) pin) latched
  obtain ⟨set, gone⟩ := setLatch_sets (s := s.begin dt) hfree (s.begin dt).now
  obtain ⟨u, c, mod, fewer⟩ := (raise_calm (faultInCode_stays pin) 9 pin 0 0 (safeChans (s.begin dt) pin) latched).mod
  have held : isHeld (0x2301 + pin.val) 9 pin raised = true := raise_held _ _ _ _ _ _ _ (faultInCode_stays pin)
  have latch : raised.mod.latch.getLsbD pin = true := by
    rw [show raised.mod = _ from mod]
    exact set
  have left : ∀ e ∈ raised.mod.unrel, e.ch ∉ safeChans s pin := fun e he => gone e (fewer (by rwa [show raised.mod = _ from mod] at he))
  have closed : ¬(!true || (s.begin dt).mod.latch.getLsbD pin || (s.begin dt).sys.step < 9 || !(s.begin dt).dev.powered) = true := by
    rw [show (s.begin dt).mod.latch.getLsbD pin = false from hfree, show (s.begin dt).sys.step = 9 from hstep,
      show (s.begin dt).dev.powered = true from hpow]
    decide
  have runs : ∃ x, exec (.faultInLatch dt pin width) s = done x ∧ Sends raised x := by
    have pulsed : pulseSets width (s.begin dt) = (true, s.begin dt) := if_pos hwidth
    show ∃ x, execFaultInLatch dt pin width s = done x ∧ _
    unfold execFaultInLatch
    rw [pulsed]
    dsimp only
    rw [if_neg closed]
    split
    · exact ⟨_, rfl, sendPair_sends ..⟩
    · exact ⟨_, rfl, .refl _⟩
  obtain ⟨x, runs, sent⟩ := runs
  obtain ⟨v, d, mod', fewer'⟩ := sent.calm.mod
  have latch' : x.mod.latch.getLsbD pin = true := by
    rw [mod']
    exact latch
  have left' : ∀ e ∈ x.mod.unrel, e.ch ∉ safeChans s pin := fun e he => left e (fewer' (by rwa [mod'] at he))
  exact exec_ends runs ⟨latch', (isHeld_congr (congrArg Spu.held sent.spu) ..).trans held, left'⟩

theorem glitch_ignored (pin : Fin 4) {width : Nat} (hwidth : width < 160) (dt : Nat) :
    ∃ t, exec (.faultInLatch dt pin width) s = .next t ∧ t.mod = s.mod ∧ t.spu.held = s.spu.held := by
  have short : pulseSets width (s.begin dt) = (false, s.begin dt) := (if_neg (by omega)).trans (if_pos hwidth)
  have runs : exec (.faultInLatch dt pin width) s = done (s.begin dt) := by
    show execFaultInLatch dt pin width s = _
    unfold execFaultInLatch
    rw [short]
    exact if_pos rfl
  exact exec_ends runs ⟨rfl, rfl⟩

/-! Clearing (R256). -/

theorem condHolds_leaves {c k i : Nat} {h : Held} (hh : h ∈ (condHolds c k i s).spu.held) (hsame : sameFault c k i h = true) : h.ok = true ∧ h.level ≠ 1 := by
  obtain ⟨marked, -⟩ := mem_clearHelds _ hh
  have uncleared := clearWhere_none hh
  obtain ⟨f, -, rfl⟩ := List.mem_map.1 marked
  refine ⟨?_, fun note => ?_⟩
  · by_cases hf : sameFault c k i f = true
    · rw [if_pos hf]
    · rw [if_neg hf] at hsame
      exact absurd hsame hf
  · rw [hsame, note] at uncleared
    exact Bool.false_ne_true uncleared.symm

theorem condition_clears {code : BitVec 16} {kind : BitVec 4} {index : BitVec 12} (h : timedHolds (s.begin dt) code.toNat index.toNat = true) :
    ∃ t, exec (.clearsWhenHeld dt code kind index) s = .next t ∧ t.par = s.par ∧
        ∀ h ∈ t.spu.held, sameFault code.toNat kind.toNat index.toNat h = true → h.ok = true ∧ h.level ≠ 1 := by
  have runs : exec (.clearsWhenHeld dt code kind index) s = done (condHolds code.toNat kind.toNat index.toNat (s.begin dt)) := if_pos h
  have par := (condHolds_rules code.toNat kind.toNat index.toNat (s.begin dt)).keep.par
  have left : ∀ h ∈ (condHolds code.toNat kind.toNat index.toNat (s.begin dt)).spu.held,
      sameFault code.toNat kind.toNat index.toNat h = true → h.ok = true ∧ h.level ≠ 1 := fun _ => condHolds_leaves
  generalize condHolds code.toNat kind.toNat index.toNat (s.begin dt) = x at runs par left
  exact exec_ends runs ⟨par, left⟩

end

end Sys2Proof.Machine
end

section
/-! The monitors of the die and of the package (R10, R256, Tables 8-5 and 21-7). -/
namespace Sys2Proof.Machine

/-! The status of the rails. -/

theorem setRail_bit (i : Nat) (v : Bool) (s : State) : (setRail i v s).pkg.railOk.testBit i = v := by
  unfold setRail
  dsimp only
  cases v with
  | true =>
    rw [if_pos rfl]
    split
    · assumption
    · next low => rw [Nat.add_comm, Nat.testBit_two_pow_add_eq, Bool.eq_false_iff.2 low, Bool.not_false]
  | false =>
    rw [if_neg Bool.false_ne_true]
    split
    · next high =>
      have whole : 2 ^ i + (s.pkg.railOk - 2 ^ i) = s.pkg.railOk := Nat.add_sub_cancel' (Nat.ge_two_pow_of_testBit high)
      have bit := Nat.testBit_two_pow_add_eq (s.pkg.railOk - 2 ^ i) i
      rw [whole, high] at bit
      exact Bool.not_eq_true' _ ▸ bit.symm
    · next low => exact Bool.eq_false_iff.2 low

section
variable {s : State} {dt : Nat}

/-! A device alone: the die's monitors. -/

theorem mil_held (hpow : s.dev.powered = true) (halone : synchronised s = false) (dt : Nat) :
    (∃ t, exec (.milLockstep dt) s = .next t ∧ isHeld 0x7001 0 0 t = true) ∧ (∃ t, exec (.milWatchdog dt) s = .next t ∧ isHeld 0x7002 0 0 t = true) := by
  have raised (c : Nat) : isHeld c 0 0 (raiseDev c 0 0 (s.begin dt)) = true := raise_held_alone (s := s.begin dt) halone ..
  have lockstep : exec (.milLockstep dt) s = done (raiseDev 0x7001 0 0 (s.begin dt)) := if_pos hpow
  have watchdog : exec (.milWatchdog dt) s = done (raiseDev 0x7002 0 0 (s.begin dt)) := if_pos hpow
  have held := raised 0x7001
  have held' := raised 0x7002
  generalize raiseDev 0x7001 0 0 (s.begin dt) = x at lockstep held
  generalize raiseDev 0x7002 0 0 (s.begin dt) = y at watchdog held'
  exact ⟨exec_ends lockstep held, exec_ends watchdog held'⟩

/-- What an error in the memories counts. -/
def eccCounted (corrected perTick : Bool) (s : State) : State :=
  modRdn (fun r => { r with
    integrity := r.integrity || perTick
    perEcc := if corrected then r.perEcc + 1 else r.perEcc
    eccUn := if corrected then r.eccUn else r.eccUn + 1 }) s

theorem tables_held (hpow : s.dev.powered = true) (halone : synchronised s = false) (dt : Nat) (perTick : Bool) :
    ∃ t, exec (.sramEcc dt false perTick true) s = .next t ∧ isHeld 0x7003 0 0 t = true := by
  have counts : exec (.sramEcc dt false perTick true) s = done (raiseDev 0x7003 0 0 (eccCounted false perTick (s.begin dt))) :=
    if_pos (show (!false && true && s.dev.powered) = true by rw [hpow]; rfl)
  have held : isHeld 0x7003 0 0 (raiseDev 0x7003 0 0 (eccCounted false perTick (s.begin dt))) = true :=
    raise_held_alone (s := eccCounted false perTick (s.begin dt)) halone ..
  generalize raiseDev 0x7003 0 0 (eccCounted false perTick (s.begin dt)) = x at counts held
  exact exec_ends counts held

theorem ecc_counts (corrected perTick : Bool) (s : State) (dt : Nat) :
    ∃ t, exec (.sramEcc dt corrected perTick false) s = .next t ∧ t.spu.held = s.spu.held ∧
      t.rdn.perEcc = s.rdn.perEcc + (if corrected then 1 else 0) ∧ t.rdn.eccUn = s.rdn.eccUn + (if corrected then 0 else 1) := by
  have runs : exec (.sramEcc dt corrected perTick false) s = done (eccCounted corrected perTick (s.begin dt)) := by
    refine if_neg ?_
    rw [Bool.and_false, Bool.false_and]
    exact Bool.false_ne_true
  refine exec_ends runs ⟨rfl, ?_, ?_⟩
  · cases corrected <;> rfl
  · cases corrected <;> rfl

theorem supply_held (hpow : s.dev.powered = true) (halone : synchronised s = false) (dt : Nat) (rail : Fin 3) :
    ∃ t, exec (.supplyMonitor dt rail false) s = .next t ∧ (s.spu.runs.contains (0x7008, 0) = false → isHeld 0x7008 0 0 t = true) ∧
        t.pkg.railOk.testBit (if rail.val = 2 then 4 else rail.val) = false := by
  let i := if rail.val = 2 then 4 else rail.val
  let low := setRail i false (s.begin dt)
  have bit : low.pkg.railOk.testBit i = false := setRail_bit ..
  have some_low : (low.pkg.railOk.testBit 0 && low.pkg.railOk.testBit 1 && low.pkg.railOk.testBit 4) = false := by
    have which : i = 0 ∨ i = 1 ∨ i = 4 := by
      by_cases h : rail.val = 2
      · exact .inr (.inr (if_pos h))
      · rw [show i = rail.val from if_neg h]
        omega
    rcases which with h | h | h
    · rw [← h, bit, Bool.false_and, Bool.false_and]
    · rw [← h, bit, Bool.and_false, Bool.false_and]
    · rw [← h, bit, Bool.and_false]
  have runs : exec (.supplyMonitor dt rail false) s = done (runRaise 0x7008 0 0 0 0 [] true low) := by
    show execSupplyMonitor dt rail false s = _
    unfold execSupplyMonitor
    dsimp only
    rw [if_neg (by rw [show (s.begin dt).dev.powered = true from hpow]; decide)]
    rw [show ((setRail (if rail.val = 2 then 4 else rail.val) false (s.begin dt)).pkg.railOk.testBit 0 &&
      (setRail (if rail.val = 2 then 4 else rail.val) false (s.begin dt)).pkg.railOk.testBit 1 &&
      (setRail (if rail.val = 2 then 4 else rail.val) false (s.begin dt)).pkg.railOk.testBit 4) = false from some_low,
      if_neg Bool.false_ne_true, Bool.not_false]
  let entered : State := { low with spu := { low.spu with runs := (0x7008, 0) :: low.spu.runs } }
  have alone : synchronised entered = false := halone
  have raised : runRaise 0x7008 0 0 0 0 [] true low = if low.spu.runs.contains (0x7008, 0) then low else raise 0x7008 0 0 0 0 [] entered := rfl
  have pkg : (runRaise 0x7008 0 0 0 0 [] true low).pkg = low.pkg := by
    rw [raised]
    split
    · rfl
    · exact (raise_rules_alone alone ..).keep.pkg
  have held : s.spu.runs.contains (0x7008, 0) = false → isHeld 0x7008 0 0 (runRaise 0x7008 0 0 0 0 [] true low) = true := by
    intro fresh
    rw [raised, if_neg (by rw [show low.spu.runs = s.spu.runs from rfl, fresh]; decide)]
    exact raise_held_alone alone ..
  rw [← show low.pkg.railOk.testBit i = _ from rfl] at bit
  have bit' : (runRaise 0x7008 0 0 0 0 [] true low).pkg.railOk.testBit i = false := by rw [pkg]; exact bit
  generalize runRaise 0x7008 0 0 0 0 [] true low = x at runs held bit'
  exact exec_ends runs ⟨held, bit'⟩

/-! A fault of the Milliner pairs (R10). -/

/-- A fault of the pairs that has been held for its time. -/
def milOverdue (s : State) (h : Held) : Bool := (h.lr.code == 0x7001 || h.lr.code == 0x7002) && decide (h.time + 10000000 * nsecQ ≤ s.now)

theorem milOverdue_iff {h : Held} : milOverdue s h = true ↔ (h.lr.code = 0x7001 ∨ h.lr.code = 0x7002) ∧ h.time + 10000000 * nsecQ ≤ s.now := by
  simp [milOverdue]

theorem mil_waits (hpins : s.pinsHold = true)
    (h : ∀ h ∈ s.spu.held, h.lr.code = 0x7001 ∨ h.lr.code = 0x7002 → (s.begin dt).now < h.time + 10000000 * nsecQ) :
    ∃ t, exec (.milFaultReset dt) s = .next t ∧ TimePassed dt s t := by
  refine timePassed_of_done ?_ hpins
  have none_ : (s.begin dt).spu.held.find? (milOverdue (s.begin dt)) = none := by
    refine List.find?_eq_none.2 fun f hf due => ?_
    obtain ⟨code, late⟩ := milOverdue_iff.1 due
    exact absurd late (Nat.not_le.2 (h f hf code))
  show execMilFaultReset dt s = _
  unfold execMilFaultReset
  dsimp only
  rw [show (s.begin dt).spu.held.find? (fun h => (h.lr.code == 0x7001 || h.lr.code == 0x7002) && decide (h.time + 10000000 * nsecQ ≤ (s.begin dt).now)) = none
    from none_] <;> rfl

theorem mil_resets {h : Held} (hmem : h ∈ s.spu.held) (hcode : h.lr.code = 0x7001 ∨ h.lr.code = 0x7002)
    (hlate : h.time + 10000000 * nsecQ ≤ (s.begin dt).now) (hstep : s.sys.step = 9) (hasserted : s.sys.asserted = []) :
    ∃ t, exec (.milFaultReset dt) s = .next t ∧ t.dev = .boot ∧ t.sys.step = 2 ∧ t.sys.cause = 0x0204 := by
  have due : ∃ f, (s.begin dt).spu.held.find? (milOverdue (s.begin dt)) = some f := by
    rw [← Option.isSome_iff_exists, List.find?_isSome]
    exact ⟨h, hmem, milOverdue_iff.2 ⟨hcode, hlate⟩⟩
  obtain ⟨f, hf⟩ := due
  have runs : exec (.milFaultReset dt) s = done (assertReset 2 4 f.lr.code false (s.begin dt)) := by
    show execMilFaultReset dt s = _
    unfold execMilFaultReset
    dsimp only
    rw [show (s.begin dt).spu.held.find? (fun h => (h.lr.code == 0x7001 || h.lr.code == 0x7002) && decide (h.time + 10000000 * nsecQ ≤ (s.begin dt).now)) = some f
      from hf] <;> rfl
  obtain ⟨dev, step, cause, -⟩ := assertReset_system (s := s.begin dt) hasserted hstep 4 f.lr.code
  generalize assertReset 2 4 f.lr.code false (s.begin dt) = x at runs dev step cause
  exact exec_ends runs ⟨dev, step, cause⟩

/-! The package (R541, R542). -/

theorem rail_lost (hpow : s.dev.powered = true) (dt : Nat) (rail : Fin 10) :
    ∃ t, exec (.pkgRail dt rail false) s = .next t ∧
        (s.spu.runs.contains (0x7602, if rail.val < 2 then rail.val + 2 else rail.val + 3) = false →
          isHeld 0x7602 0 (if rail.val < 2 then rail.val + 2 else rail.val + 3) t = true) ∧
        t.pkg.railOk.testBit (if rail.val < 2 then rail.val + 2 else rail.val + 3) = false := by
  generalize hi : (if rail.val < 2 then rail.val + 2 else rail.val + 3) = i
  let low := condFails 0x7602 0 i (setRail i false (s.begin dt))
  have runs : exec (.pkgRail dt rail false) s = done (runRaise 0x7602 0 i 0 0 [] true low) := by
    show execPkgRail dt rail false s = _
    unfold execPkgRail
    dsimp only
    rw [if_neg (by rw [show (s.begin dt).dev.powered = true from hpow]; decide), hi] <;> rfl
  have held : s.spu.runs.contains (0x7602, i) = false → isHeld 0x7602 0 i (runRaise 0x7602 0 i 0 0 [] true low) = true := by
    intro fresh
    refine runRaise_held (by decide) ?_
    rw [Nat.zero_mul, Nat.zero_add]
    exact fresh
  have bit : (runRaise 0x7602 0 i 0 0 [] true low).pkg.railOk.testBit i = false := by
    rw [(runRaise_rules 0x7602 0 i 0 0 [] true low (by decide)).keep.pkg]
    exact setRail_bit i false (s.begin dt)
  generalize runRaise 0x7602 0 i 0 0 [] true low = x at runs held bit
  exact exec_ends runs ⟨held, bit⟩

theorem rail_back (hpow : s.dev.powered = true) (dt : Nat) (rail : Fin 10) :
    ∃ t, exec (.pkgRail dt rail true) s = .next t ∧ t.spu.held = s.spu.held ∧
        t.pkg.railOk.testBit (if rail.val < 2 then rail.val + 2 else rail.val + 3) = true := by
  generalize hi : (if rail.val < 2 then rail.val + 2 else rail.val + 3) = i
  have runs : exec (.pkgRail dt rail true) s = done (runRaise 0x7602 0 i 0 0 [] false (setRail i true (s.begin dt))) := by
    show execPkgRail dt rail true s = _
    unfold execPkgRail
    dsimp only
    rw [if_neg (by rw [show (s.begin dt).dev.powered = true from hpow]; decide), hi] <;> rfl
  have bit : (runRaise 0x7602 0 i 0 0 [] false (setRail i true (s.begin dt))).pkg.railOk.testBit i = true := setRail_bit i true (s.begin dt)
  have held : (runRaise 0x7602 0 i 0 0 [] false (setRail i true (s.begin dt))).spu.held = s.spu.held := rfl
  generalize runRaise 0x7602 0 i 0 0 [] false (setRail i true (s.begin dt)) = x at runs held bit
  exact exec_ends runs ⟨held, bit⟩

/-- A reading of the junction temperature, and what it says of the conditions of its faults. -/
def readTemp (tj : Int) (s : State) : State :=
  let s : State := { s with pkg := { s.pkg with tj := tj } }
  let s := if tj < 110 then condHolds 0x7005 0 0 s else condFails 0x7005 0 0 s
  if tj < 115 then condHolds 0x7006 0 0 s else condFails 0x7006 0 0 s

theorem readTemp_keeps (tj : Int) (s : State) : Calm s (readTemp tj s) ∧ (readTemp tj s).pkg.tj = tj ∧ (readTemp tj s).par = s.par := by
  have read : Calm s { s with pkg := { s.pkg with tj := tj } } := ⟨⟨_, _, _, rfl⟩, .inl rfl, ⟨_, rfl⟩, ⟨_, _, rfl, List.Subset.refl _⟩, .refl _⟩
  have judged (c : Nat) (b : Prop) [Decidable b] (x : State) : Calm x (if b then condHolds c 0 0 x else condFails c 0 0 x) ∧
      Rules x (if b then condHolds c 0 0 x else condFails c 0 0 x) :=
    ⟨.ite (condHolds_calm ..) (of_books ⟨_, _, _, _, _, _, _, rfl⟩), .ite (condHolds_rules ..) (condFails_rules ..)⟩
  have first := judged 0x7005 (tj < 110) { s with pkg := { s.pkg with tj := tj } }
  have second := judged 0x7006 (tj < 115) (if tj < 110 then condHolds 0x7005 0 0 { s with pkg := { s.pkg with tj := tj } }
    else condFails 0x7005 0 0 { s with pkg := { s.pkg with tj := tj } })
  have rules := (first.2.trans second.2).keep
  exact ⟨(read.trans first.1).trans second.1, congrArg Pkg.tj rules.pkg, rules.par⟩

theorem clampI_le {n v : Int} (hn : n ≤ 191) (hv : n ≤ v) : n ≤ clampI (-64) 191 v := by
  unfold clampI
  split
  · omega
  · split <;> omega

theorem temp_read (hpow : s.dev.powered = true) (dt : Nat) (tj : Int) :
    ∃ t, exec (.tempMonitorUpdate dt tj) s = .next t ∧ t.pkg.tj = clampI (-64) 191 tj ∧ t.par = s.par ∧
      (115 ≤ tj → s.spu.runs.contains (0x7005, 0) = false → isHeld 0x7005 0 0 t = true) ∧
      (130 ≤ tj → s.spu.runs.contains (0x7006, 0) = false → isHeld 0x7006 0 0 t = true) := by
  let v := clampI (-64) 191 tj
  let w := (BitVec.ofInt 32 v).toNat
  let read := readTemp v (s.begin dt)
  let hot := runRaise 0x7005 0 0 w 0 [] (decide (115 ≤ v)) read
  let hotter := runRaise 0x7006 0 0 w 0 [] (decide (130 ≤ v)) hot
  have runs : exec (.tempMonitorUpdate dt tj) s = done hotter := if_neg (by rw [show (s.begin dt).dev.powered = true from hpow]; decide)
  obtain ⟨calm, temp, par⟩ := readTemp_keeps v (s.begin dt)
  have keep := ((runRaise_rules 0x7005 0 0 w 0 [] (decide (115 ≤ v)) read (by decide)).trans
    (runRaise_rules 0x7006 0 0 w 0 [] (decide (130 ≤ v)) hot (by decide))).keep
  have first : 115 ≤ tj → s.spu.runs.contains (0x7005, 0) = false → isHeld 0x7005 0 0 hotter = true := by
    intro high fresh
    refine (runRaise_tells (by decide) ..).held 0 0 (runRaise_reports (by decide) (decide_eq_true (clampI_le (by decide) high)) ?_ ..)
    rw [show read.spu.runs = _ from calm.runs]
    exact fresh
  have second : 130 ≤ tj → s.spu.runs.contains (0x7006, 0) = false → isHeld 0x7006 0 0 hotter = true := by
    intro high fresh
    refine runRaise_reports (by decide) (decide_eq_true (clampI_le (by decide) high)) ?_ ..
    rw [show hot.spu.runs.contains (0x7006, 0 * 4096 + 0) = _ from runRaise_runs (by decide) (by decide) .., show read.spu.runs = _ from calm.runs]
    exact fresh
  have temp' : hotter.pkg.tj = v := (congrArg Pkg.tj keep.pkg).trans temp
  have par' : hotter.par = s.par := keep.par.trans par
  generalize hotter = x at runs temp' par' first second
  exact exec_ends runs ⟨temp', par', first, second⟩

end

/-- Settles O50: the wire and the latches by what a raised fault leaves of the pins' books, clearing by `mem_clearHelds`,
and each monitor by the condition that it reports. -/
theorem wiresAndMonitors : Obligations.WiresAndMonitors := fun dt s =>
  ⟨fall_kept dt s, rise_kept dt s, fun _ hpulse hend => blockPulse_ends hpulse hend, fun _ hquiet hend hpins => quiet_ends hquiet hend hpins,
    fun pin _ hpow hstep hfree => ⟨fun hwidth => pulse_latches hpow hstep hfree hwidth dt, fun hwidth => glitch_ignored pin hwidth dt⟩,
    fun _ _ _ => condition_clears,
    fun hpow halone => ⟨(mil_held hpow halone dt).1, (mil_held hpow halone dt).2, tables_held hpow halone dt, supply_held hpow halone dt⟩,
    fun hpins => mil_waits hpins, fun _ hmem hcode hlate _ _ hstep hasserted => mil_resets hmem hcode hlate hstep hasserted,
    fun corrected perTick => ecc_counts corrected perTick s dt, fun hpow rail => ⟨rail_lost hpow dt rail, rail_back hpow dt rail⟩,
    fun hpow => temp_read hpow dt⟩

end Sys2Proof.Machine
end

section
/-! The status SPDU of a safety connection (R376, R380). -/
namespace Sys2Proof.Machine

/-! What a status SPDU says. -/

theorem bytesBE_length (n v : Nat) : (bytesBE n v).length = n := by
  induction n with
  | zero => rfl
  | succ n ih => exact congrArg Nat.succ ih

/-- The connection and the sequence number that a status SPDU begins with. -/
def statusHead (k : Nat) (s : State) : List Byte := bytesBE 4 (sf s (0x200 + k) 4) ++ bytesBE 4 (sc s k).seqOut

theorem statusHead_length (k : Nat) (s : State) : (statusHead k s).length = 8 := by
  unfold statusHead
  rw [List.length_append, bytesBE_length, bytesBE_length]

theorem statusData_length (s : State) : (statusData s).length = 16 := by
  unfold statusData
  simp only [List.length_append, bytesBE_length, List.length_cons, List.length_nil]

/-- The third byte of a status SPDU's data is the levels of the safe outputs. -/
theorem statusData_souts (s : State) : (statusData s)[2]? = some (BitVec.ofNat 8 (soutLevels s / 1)) := rfl

/-- What is not of the transmitters left as it was handed over. -/
theorem handed_over {o : Out} {x : State} (hsent : o.sent = false) (h : o ∈ (ended x).out) : o ∈ x.out := by
  have mine : o ∈ told (ended x) := List.mem_filter.2 ⟨h, by rw [hsent]; rfl⟩
  rw [told_ended] at mine
  exact (List.mem_filter.1 mine).1

/-- A connection whose status leaves at t. -/
def statusLeaves (k t : Nat) (s : State) : State := modSc k (fun c => { c with txAt := t }) s

/-- A status SPDU over the host port says what holds as it leaves. -/
theorem status_says {k : Fin 4} {s : State} {dt : Nat} (hconn : (sc s k).st ≠ 0) (hport : sf s (0x200 + k) 2 = 0)
    (hdue : (sc s k).txAt + sfT s (0x200 + k) 7 ≤ s.clock + dt) {t : State} {bs : List Byte} (h : exec (.scStatusTx dt k) s = .next t)
    (hout : .safety k bs ∈ t.out) :
    bs.take 24 = statusHead k (statusLeaves k (s.clock + dt) (s.begin dt)) ++ statusData (statusLeaves k (s.clock + dt) (s.begin dt)) := by
  let x := statusLeaves k (s.clock + dt) (s.begin dt)
  let body := statusHead k x ++ statusData x
  let counted := modSc k (fun c => { c with seqOut := (c.seqOut + 1) % 2 ^ 32, lastData := (statusData x).take 4 }) x
  have whole : body.length = 24 := by
    rw [List.length_append, statusHead_length, statusData_length]
  have waits : ¬((sc (s.begin dt) k).st = 0 || (s.begin dt).clock < (sc (s.begin dt) k).txAt + sfT (s.begin dt) (0x200 + k) 7) = true := by
    rw [Bool.or_eq_true, decide_eq_true_eq, decide_eq_true_eq]
    exact not_or.2 ⟨hconn, Nat.not_lt.2 hdue⟩
  have runs : exec (.scStatusTx dt k) s = done (counted.emit (.safety k (body ++ bytesBE 4 (crc32c body).toNat))) := by
    refine (if_neg waits).trans (congrArg done ?_)
    exact if_pos hport
  rw [done_eq] at runs
  have same : t = ended (counted.emit (.safety k (body ++ bytesBE 4 (crc32c body).toNat))) := by
    rw [runs] at h
    injection h with e
    exact e.symm
  rw [same] at hout
  have mine : .safety k bs ∈ [Out.safety k (body ++ bytesBE 4 (crc32c body).toNat)] := handed_over rfl hout
  have bytes : bs = body ++ bytesBE 4 (crc32c body).toNat := by
    injection List.mem_singleton.1 mine
  rw [bytes, ← whole, List.take_left]

/-! An off-pulse that ends before the status leaves. -/

/-- The safe output 0 is high and in its off-pulse till the next step, and the connection 3 has a status to send. -/
def offPulse : State :=
  Tests.withSfi (fun x => { x with sout := vmod x.sout 0 (fun o => { o with level := true, pulseEnd := some 1 }) })
    (Tests.withSc 3 (fun x => { x with st := 1 }) Tests.run_)

theorem offPulse_connected : (sc offPulse (3 : Fin 4)).st ≠ 0 ∧ sf offPulse (0x200 + (3 : Fin 4)) 2 = 0 ∧
    (sc offPulse (3 : Fin 4)).txAt + sfT offPulse (0x200 + (3 : Fin 4)) 7 ≤ offPulse.clock + 16000000000 := by decide

theorem offPulse_low : soutLevels offPulse = 0 := by decide
theorem offPulse_over : soutLevels (statusLeaves (3 : Fin 4) (offPulse.clock + 16000000000) (offPulse.begin 16000000000)) = 1 := by decide

/-- Refutes O52: a status SPDU gives the safe outputs as they are when it leaves, which an off-pulse that has ended in between
makes others than they were (R370, R380). -/
theorem not_islandEvents : ¬ Obligations.IslandEvents := by
  intro h
  obtain ⟨-, -, -, -, -, -, -, -, status, -⟩ := h 16000000000 offPulse
  obtain ⟨connected, port, due⟩ := offPulse_connected
  obtain ⟨t, bs, runs, out, before, -⟩ := status 3 connected port due
  have leaves := (status_says connected port due runs out).symm.trans before
  have data := List.append_inj_right leaves ((statusHead_length ..).trans (statusHead_length (3 : Fin 4) offPulse).symm)
  have levels := congrArg (fun l : List Byte => l[2]?) data
  rw [statusData_souts, statusData_souts, offPulse_over, offPulse_low] at levels
  exact absurd levels (by decide)

end Sys2Proof.Machine
end
